-- ==== Sys2Proof/Word.lean ====
section
/-! DEFINITION. Sys2Proof/Word.lean: the words of the SL640 and their plainest arithmetic. -/

namespace Sys2Proof

/-- A byte of a record, a frame, an image or a memory. -/
abbrev Byte := BitVec 8

/-- One 64-bit word, the unit of every ECC code (R262). -/
abbrev Word64 := BitVec 64

/-- A hypervector of 8,192 bits; bit i is bit i of R176. -/
abbrev HV := BitVec 8192

/-- The smaller of a count and its saturation limit. -/
def satTo (limit n : Nat) : Nat := if n ≤ limit then n else limit

/-- `n` clamped into `lo` to `hi`. -/
def clampInt (lo hi n : Int) : Int := if n < lo then lo else if n > hi then hi else n

/-- Two's complement value of the low `w` bits of `n`. -/
def signedOf (w n : Nat) : Int :=
  let m := n % 2 ^ w
  if m < 2 ^ (w - 1) then (m : Int) else (m : Int) - (2 ^ w : Nat)

/-- The `w`-bit pattern of an integer. -/
def bitsOfInt (w : Nat) (x : Int) : Nat := (x % ((2 ^ w : Nat) : Int)).toNat

/-- Serial comparison on 32 bits: `int32(a - b)` (R282, R289, R353). -/
def serial32 (a b : Nat) : Int := signedOf 32 (a + 2 ^ 32 - b % 2 ^ 32)

end Sys2Proof
end

