-- ==== Sys2Proof/Syntax.lean ====
section
/-! DEFINITION. Sys2Proof/Syntax.lean: the commands of the SL640, one constructor per row of the table of operations
and events, with what the outside world brings to each. Every command's first operand `dt` is the time, in periods of
the 24.576 MHz timebase, that has passed since the command before it. -/

namespace Sys2Proof

/-- The five always-on rails (R53). -/
inductive Rail where
  | vddAon | vddMram | vdda | vddIo | vddRg
  deriving DecidableEq, Repr

/-- A ring port (R313). -/
inductive Port where
  | a | b
  deriving DecidableEq, Repr

/-- The two queues of the event router (R136). -/
inductive Sink where
  | ash | flue
  deriving DecidableEq, Repr

/-- The internal masters of the region windows (R260), in the order of the memory event's master codes (R249). -/
inductive Master where
  | acq | sig | enc | hrc | lrn | smd | vlt | lib | rng | flu | ash | bst
  deriving DecidableEq, Repr

/-- The regions of the internal memory map (R255). -/
inductive Region where
  | hearthData | hearthTags | counters | framePool | ringCells | signalScratch | encoderScratch | reportQueue
  | vaultData | vaultTags | persistent | ash
  deriving DecidableEq, Repr

/-- An upset of the memories that has come about: the address of a 64-bit word and the number of its bits in error
(0: the word is good again). -/
structure Upset where
  addr : Nat
  errors : Nat
  deriving DecidableEq, Repr

/-- How far the MRAM controller had come when it was stopped: words of the held journal entry's commit, words of the ash
record, words of a periodic write of the counters that is due, and words of a power-fail sequence, already written
(R274, R275, R370). -/
structure MramProgress where
  commitWords : Nat
  ashWords : Nat
  persistWords : Nat := 0
  failWords : Nat := 0
  deriving DecidableEq, Repr

/-- The eight 12-bit codes of one resistance measurement, in the order of their conversion (R27). -/
abbrev Codes := Vector (BitVec 12) 8

/-- What the power-on reset watches (R59, R378): a rail falls below its falling threshold, which stops the MRAM
controller, a rail reaches its rising threshold, or the timebase oscillator has become stable. -/
inductive PorEvent where
  | falls (rail : Rail) (progress : MramProgress)
  | rises (rail : Rail)
  | oscillatorStable
  deriving DecidableEq, Repr

/-- The fuses of a key block as they read back at the end of a burn (R396). -/
structure ReadBack where
  key : BitVec 256
  check : BitVec 32
  programmed : Bool
  deriving DecidableEq, Repr

/-- A sub-array of the SRAM: a line of a hearth bank, which lies in a sub-array of its own (R194), or one of another
region, by number. -/
inductive SubArray where
  | hearth (bank line : Nat)
  | other (region : Region) (index : Nat)
  deriving DecidableEq, Repr

/-- A fault of a sub-array that the March test finds with the fused repairs applied: a faulty column, or none for a faulty
row line, and its lowest failing internal address (R270, R271). -/
structure ArrayFault where
  sub : SubArray
  column : Option Nat
  addr : Nat
  deriving DecidableEq, Repr

/-- What BIST found (R271, R272): faults of the SRAM, in the order of the test, and the words of MRAM that read with
errors. -/
structure BistFindings where
  faults : List ArrayFault
  upsets : List Upset
  deriving DecidableEq, Repr

/-- One decimator output of one channel before its clamp, and whether the modulator's integrator limiter acted during
this output period (R103, R104). -/
structure RawSample where
  value : Int
  limited : Bool
  deriving DecidableEq, Repr

/-- What the comparators and link inputs see at one slow tick. Voltages are in microvolts, as each comparator decides
them (its own error of R122 included); `shock` is the held peak of channels 0 to 3 (R124); temperature in thousandths
of a degree. -/
structure SlowInputs where
  bias : List Nat
  shock : List Nat
  temp : Int
  wakeNLow : Bool
  paLink : Bool
  pbLink : Bool
  deriving DecidableEq, Repr

/-- An access by an internal master that strays outside its window (R260, R261). -/
structure Access where
  master : Master
  addr : Nat
  write : Bool
  deriving DecidableEq, Repr

/-- The commands: one constructor per row of the opcode table, in the table's order. -/
inductive Instr where
  | powerOnResetEnd (dt : Nat)
  | porThresholdCrossed (dt : Nat) (what : PorEvent)
  | resetNAsserted (dt : Nat) (lowSamples : Nat) (progress : MramProgress)
  | resetNReleased (dt : Nat)
  | coreEnReleaseWaitEnd (dt : Nat)
  | corePowerWaitEnd (dt : Nat)
  | strapMeasurement (dt : Nat) (codes : Codes) (testN ashdumpN : Bool)
  | strapReadEnd (dt : Nat)
  | ashDumpStart (dt : Nat)
  | ashDumpEnd (dt : Nat)
  | bistComplete (dt : Nat) (found : BistFindings)
  | libraryHeaderReadComplete (dt : Nat) (header : List Byte)
  | libraryItemReceived (dt : Nat) (item : List Byte)
  | libraryBodyComplete (dt : Nat)
  | loadComplete (dt : Nat)
  | powerFailTrip (dt : Nat) (vsys : Nat) (temp : Int) (progress : MramProgress)
  | powerFailRearm (dt : Nat) (vsys : Nat) (temp : Int)
  | powerFailRecovery (dt : Nat)
  | idleTimerExpiry (dt : Nat)
  | sleepEntry (dt : Nat) (upsets : List Upset)
  | spotWakeTimerExpiry (dt : Nat)
  | bankedWake (dt : Nat)
  | bankedWakeComplete (dt : Nat)
  | emberWake (dt : Nat)
  | spotWakeResleep (dt : Nat)
  | vsetStep (dt : Nat)
  | canaryEvaluationStart (dt : Nat)
  | canaryEvaluationEnd (dt : Nat) (count : Nat)
  | frameDeadlineMonitorFail (dt : Nat)
  | replayBlockEnd (dt : Nat)
  | replayWindowEnd (dt : Nat)
  | shadowReplay (dt : Nat) (pipeline after : Nat) (main shadow : BitVec 64)
  | delayTapRaise (dt : Nat) (pipeline : Nat)
  | delayTapLower (dt : Nat) (pipeline handshakes : Nat)
  | stepDown (dt : Nat) (handshakes : Nat)
  | stepUp (dt : Nat)
  | stepUpPauseEnd (dt : Nat)
  | holdoffExpiry (dt : Nat)
  | decimatorOutput (dt : Nat) (samples : List RawSample)
  | tachCapture (dt : Nat) (input : Fin 4) (microvolts : Nat)
  | candidateDecision (dt : Nat)
  | slowTick (dt : Nat) (inputs : SlowInputs)
  | channelRecovery (dt : Nat) (channel : Fin 32)
  | holdbackRelease (dt : Nat) (channel : Fin 32)
  | auxConversion (dt : Nat) (input : Fin 8) (code : BitVec 12)
  | labelReading (dt : Nat) (zero ref pin : Codes) (teachN forgetN holdN : Bool)
  | labelAccepted (dt : Nat)
  | teachPress (dt : Nat)
  | forgetPress (dt : Nat)
  | holdChange (dt : Nat)
  | rekindle (dt : Nat)
  | featureExtractionStart (dt : Nat) (array : Fin 4)
  | featureExtractionDone (dt : Nat) (array : Fin 4) (upsets : List Upset)
  | tickEncoding (dt : Nat) (upsets : List Upset)
  | itemMemoryRebuildEnd (dt : Nat)
  | queryStart (dt : Nat) (scan : Nat) (upsets : List Upset)
  | recallResult (dt : Nat) (replays : Nat)
  | learningStage (dt : Nat) (upsets : List Upset)
  | teachTimeout (dt : Nat)
  | commit (dt : Nat) (acc : Fin 512) (upsets : List Upset)
  | tickOutputs (dt : Nat)
  | kindlingCounterPersist (dt : Nat)
  | heartbeat (dt : Nat)
  | rowWrite (dt : Nat) (bank : Fin 256) (lost : Nat) (stray : Option Access)
  | smoulderRead (dt : Nat) (region : Region) (upsets : List Upset) (lost : Bool)
  | vaultHeal (dt : Nat) (upsets : List Upset) (lost : Nat)
  | refetch (dt : Nat)
  | refetchComplete (dt : Nat) (item : List Byte) (lost : Nat)
  | bandPlanRetry (dt : Nat) (item : List Byte)
  | vaultMirror (dt : Nat) (upsets : List Upset)
  | journalCommit (dt : Nat)
  | ashRecordWrite (dt : Nat)
  | ashTokenAdd (dt : Nat)
  | routerDelivery (dt : Nat) (sink : Sink)
  | flueRecordSend (dt : Nat) (badWord : Bool)
  | phyLinkUp (dt : Nat) (port : Port)
  | frameHeaderReceived (dt : Nat) (port : Port) (header : List Byte)
  | dataFrameReceived (dt : Nat) (port : Port) (frame : List Byte) (lost : Nat)
  | ackFrameReceived (dt : Nat) (port : Port) (frame : List Byte)
  | linkResetReceived (dt : Nat) (port : Port) (frame : List Byte)
  | resetAckReceived (dt : Nat) (port : Port) (frame : List Byte)
  | ackTimerExpiry (dt : Nat) (port : Port)
  | linkResetResend (dt : Nat) (port : Port)
  | linkRecoveryAttempt (dt : Nat) (port : Port)
  | portTransmit (dt : Nat) (port : Port) (badCell : Bool)
  | creditTableTimer (dt : Nat) (port : Port)
  | queueAgeDiscard (dt : Nat)
  | censusOriginate (dt : Nat)
  | ringMapEntryExpiry (dt : Nat) (id : BitVec 8)
  | idClashEnd (dt : Nat)
  | fleetFold (dt : Nat)
  | visitedCacheExpiry (dt : Nat)
  | fleetQueryTimeout (dt : Nat)
  | sweepOriginate (dt : Nat)
  | testLogicReset (dt : Nat)
  | extest (dt : Nat) (pins shifted : BitVec 52)
  | samplePreload (dt : Nat) (pins shifted : BitVec 52)
  | idcode (dt : Nat)
  | keyStatus (dt : Nat)
  | keyLoad (dt : Nat) (key : BitVec 256) (selector : BitVec 8)
  | keyBurn (dt : Nat) (word : BitVec 32)
  | keyBurnComplete (dt : Nat) (readBack : ReadBack)
  | bypass (dt : Nat) (code : BitVec 6) (bits : List Bool)
  | ledFlash (dt : Nat) (led : Bool)
  deriving DecidableEq, Repr

end Sys2Proof
end

