-- ==== Sys2Proof/WellFormed.lean ====
section
/-! DEFINITION. Sys2Proof/WellFormed.lean: which operands the outside world can bring with a command. A command whose
operands do not have this form is a fault where its meaning reads them (log 2). -/

namespace Sys2Proof

/-- A library header has 256 bytes (R299). -/
def headerForm (h : List Byte) : Bool := decide (h.length = 256)

/-- A band plan has 2,048 bytes and a row record 1,064 (R300, R301). -/
def itemForm (it : List Byte) : Bool := decide (it.length = 2048) || decide (it.length = 1064)

/-- One slow tick brings a value of each of 32 bias inputs and 4 shock inputs (R122, R126). -/
def slowForm (x : SlowInputs) : Bool := decide (x.bias.length = 32) && decide (x.shock.length = 4)

/-- A Yarud header has 16 bytes (R316). -/
def frameHeaderForm (h : List Byte) : Bool := decide (h.length = 16)

/-- Every upset names the first byte of a 64-bit word (R262). -/
def upsetForm (us : List Upset) : Bool := us.all (fun u => decide (u.addr % 8 = 0))

/-- One raw sample for each of at most 32 channels (R102). -/
def samplesForm (l : List RawSample) : Bool := decide (l.length ≤ 32)

/-- A sub-array of SRAM: one of the eight lines of a bank of the hearth, or one of another region of SRAM (R194, R255). -/
def SubArray.exists_ : SubArray → Bool
  | .hearth bank line => decide (bank < 256) && decide (line < 8)
  | .other region _ => !([.hearthData, .vaultData, .vaultTags, .persistent, .ash] : List Region).contains region

/-- What BIST finds: faults of sub-arrays that exist, and words (R271). -/
def bistForm (x : BistFindings) : Bool := x.faults.all (fun f => f.sub.exists_) && upsetForm x.upsets

/-- The time a command carries. -/
def Instr.dt : Instr → Nat
  | .powerOnResetEnd dt => dt
  | .porThresholdCrossed dt _ => dt
  | .resetNAsserted dt _ _ => dt
  | .resetNReleased dt => dt
  | .coreEnReleaseWaitEnd dt => dt
  | .corePowerWaitEnd dt => dt
  | .strapMeasurement dt _ _ _ => dt
  | .strapReadEnd dt => dt
  | .ashDumpStart dt => dt
  | .ashDumpEnd dt => dt
  | .bistComplete dt _ => dt
  | .libraryHeaderReadComplete dt _ => dt
  | .libraryItemReceived dt _ => dt
  | .libraryBodyComplete dt => dt
  | .loadComplete dt => dt
  | .powerFailTrip dt _ _ _ => dt
  | .powerFailRearm dt _ _ => dt
  | .powerFailRecovery dt => dt
  | .idleTimerExpiry dt => dt
  | .sleepEntry dt _ => dt
  | .spotWakeTimerExpiry dt => dt
  | .bankedWake dt => dt
  | .bankedWakeComplete dt => dt
  | .emberWake dt => dt
  | .spotWakeResleep dt => dt
  | .vsetStep dt => dt
  | .canaryEvaluationStart dt => dt
  | .canaryEvaluationEnd dt _ => dt
  | .frameDeadlineMonitorFail dt => dt
  | .replayBlockEnd dt => dt
  | .replayWindowEnd dt => dt
  | .shadowReplay dt _ _ _ _ => dt
  | .delayTapRaise dt _ => dt
  | .delayTapLower dt _ _ => dt
  | .stepDown dt _ => dt
  | .stepUp dt => dt
  | .stepUpPauseEnd dt => dt
  | .holdoffExpiry dt => dt
  | .decimatorOutput dt _ => dt
  | .tachCapture dt _ _ => dt
  | .candidateDecision dt => dt
  | .slowTick dt _ => dt
  | .channelRecovery dt _ => dt
  | .holdbackRelease dt _ => dt
  | .auxConversion dt _ _ => dt
  | .labelReading dt _ _ _ _ _ _ => dt
  | .labelAccepted dt => dt
  | .teachPress dt => dt
  | .forgetPress dt => dt
  | .holdChange dt => dt
  | .rekindle dt => dt
  | .featureExtractionStart dt _ => dt
  | .featureExtractionDone dt _ _ => dt
  | .tickEncoding dt _ => dt
  | .itemMemoryRebuildEnd dt => dt
  | .queryStart dt _ _ => dt
  | .recallResult dt _ => dt
  | .learningStage dt _ => dt
  | .teachTimeout dt => dt
  | .commit dt _ _ => dt
  | .tickOutputs dt => dt
  | .kindlingCounterPersist dt => dt
  | .heartbeat dt => dt
  | .rowWrite dt _ _ _ => dt
  | .smoulderRead dt _ _ _ => dt
  | .vaultHeal dt _ _ => dt
  | .refetch dt => dt
  | .refetchComplete dt _ _ => dt
  | .bandPlanRetry dt _ => dt
  | .vaultMirror dt _ => dt
  | .journalCommit dt => dt
  | .ashRecordWrite dt => dt
  | .ashTokenAdd dt => dt
  | .routerDelivery dt _ => dt
  | .flueRecordSend dt _ => dt
  | .phyLinkUp dt _ => dt
  | .frameHeaderReceived dt _ _ => dt
  | .dataFrameReceived dt _ _ _ => dt
  | .ackFrameReceived dt _ _ => dt
  | .linkResetReceived dt _ _ => dt
  | .resetAckReceived dt _ _ => dt
  | .ackTimerExpiry dt _ => dt
  | .linkResetResend dt _ => dt
  | .linkRecoveryAttempt dt _ => dt
  | .portTransmit dt _ _ => dt
  | .creditTableTimer dt _ => dt
  | .queueAgeDiscard dt => dt
  | .censusOriginate dt => dt
  | .ringMapEntryExpiry dt _ => dt
  | .idClashEnd dt => dt
  | .fleetFold dt => dt
  | .visitedCacheExpiry dt => dt
  | .fleetQueryTimeout dt => dt
  | .sweepOriginate dt => dt
  | .testLogicReset dt => dt
  | .extest dt _ _ => dt
  | .samplePreload dt _ _ => dt
  | .idcode dt => dt
  | .keyStatus dt => dt
  | .keyLoad dt _ _ => dt
  | .keyBurn dt _ => dt
  | .keyBurnComplete dt _ => dt
  | .bypass dt _ _ => dt
  | .ledFlash dt _ => dt

/-- The same command with another time. -/
def Instr.retime (t : Nat) : Instr → Instr
  | .powerOnResetEnd _ => .powerOnResetEnd t
  | .porThresholdCrossed _ what => .porThresholdCrossed t what
  | .resetNAsserted _ lowSamples progress => .resetNAsserted t lowSamples progress
  | .resetNReleased _ => .resetNReleased t
  | .coreEnReleaseWaitEnd _ => .coreEnReleaseWaitEnd t
  | .corePowerWaitEnd _ => .corePowerWaitEnd t
  | .strapMeasurement _ codes testN ashdumpN => .strapMeasurement t codes testN ashdumpN
  | .strapReadEnd _ => .strapReadEnd t
  | .ashDumpStart _ => .ashDumpStart t
  | .ashDumpEnd _ => .ashDumpEnd t
  | .bistComplete _ found => .bistComplete t found
  | .libraryHeaderReadComplete _ header => .libraryHeaderReadComplete t header
  | .libraryItemReceived _ item => .libraryItemReceived t item
  | .libraryBodyComplete _ => .libraryBodyComplete t
  | .loadComplete _ => .loadComplete t
  | .powerFailTrip _ vsys temp progress => .powerFailTrip t vsys temp progress
  | .powerFailRearm _ vsys temp => .powerFailRearm t vsys temp
  | .powerFailRecovery _ => .powerFailRecovery t
  | .idleTimerExpiry _ => .idleTimerExpiry t
  | .sleepEntry _ upsets => .sleepEntry t upsets
  | .spotWakeTimerExpiry _ => .spotWakeTimerExpiry t
  | .bankedWake _ => .bankedWake t
  | .bankedWakeComplete _ => .bankedWakeComplete t
  | .emberWake _ => .emberWake t
  | .spotWakeResleep _ => .spotWakeResleep t
  | .vsetStep _ => .vsetStep t
  | .canaryEvaluationStart _ => .canaryEvaluationStart t
  | .canaryEvaluationEnd _ count => .canaryEvaluationEnd t count
  | .frameDeadlineMonitorFail _ => .frameDeadlineMonitorFail t
  | .replayBlockEnd _ => .replayBlockEnd t
  | .replayWindowEnd _ => .replayWindowEnd t
  | .shadowReplay _ pipeline after main shadow => .shadowReplay t pipeline after main shadow
  | .delayTapRaise _ pipeline => .delayTapRaise t pipeline
  | .delayTapLower _ pipeline handshakes => .delayTapLower t pipeline handshakes
  | .stepDown _ handshakes => .stepDown t handshakes
  | .stepUp _ => .stepUp t
  | .stepUpPauseEnd _ => .stepUpPauseEnd t
  | .holdoffExpiry _ => .holdoffExpiry t
  | .decimatorOutput _ samples => .decimatorOutput t samples
  | .tachCapture _ input microvolts => .tachCapture t input microvolts
  | .candidateDecision _ => .candidateDecision t
  | .slowTick _ inputs => .slowTick t inputs
  | .channelRecovery _ channel => .channelRecovery t channel
  | .holdbackRelease _ channel => .holdbackRelease t channel
  | .auxConversion _ input code => .auxConversion t input code
  | .labelReading _ zero ref pin teachN forgetN holdN => .labelReading t zero ref pin teachN forgetN holdN
  | .labelAccepted _ => .labelAccepted t
  | .teachPress _ => .teachPress t
  | .forgetPress _ => .forgetPress t
  | .holdChange _ => .holdChange t
  | .rekindle _ => .rekindle t
  | .featureExtractionStart _ array => .featureExtractionStart t array
  | .featureExtractionDone _ array upsets => .featureExtractionDone t array upsets
  | .tickEncoding _ upsets => .tickEncoding t upsets
  | .itemMemoryRebuildEnd _ => .itemMemoryRebuildEnd t
  | .queryStart _ scan upsets => .queryStart t scan upsets
  | .recallResult _ replays => .recallResult t replays
  | .learningStage _ upsets => .learningStage t upsets
  | .teachTimeout _ => .teachTimeout t
  | .commit _ acc upsets => .commit t acc upsets
  | .tickOutputs _ => .tickOutputs t
  | .kindlingCounterPersist _ => .kindlingCounterPersist t
  | .heartbeat _ => .heartbeat t
  | .rowWrite _ bank lost stray => .rowWrite t bank lost stray
  | .smoulderRead _ region upsets lost => .smoulderRead t region upsets lost
  | .vaultHeal _ upsets lost => .vaultHeal t upsets lost
  | .refetch _ => .refetch t
  | .refetchComplete _ item lost => .refetchComplete t item lost
  | .bandPlanRetry _ item => .bandPlanRetry t item
  | .vaultMirror _ upsets => .vaultMirror t upsets
  | .journalCommit _ => .journalCommit t
  | .ashRecordWrite _ => .ashRecordWrite t
  | .ashTokenAdd _ => .ashTokenAdd t
  | .routerDelivery _ sink => .routerDelivery t sink
  | .flueRecordSend _ badWord => .flueRecordSend t badWord
  | .phyLinkUp _ port => .phyLinkUp t port
  | .frameHeaderReceived _ port header => .frameHeaderReceived t port header
  | .dataFrameReceived _ port frame lost => .dataFrameReceived t port frame lost
  | .ackFrameReceived _ port frame => .ackFrameReceived t port frame
  | .linkResetReceived _ port frame => .linkResetReceived t port frame
  | .resetAckReceived _ port frame => .resetAckReceived t port frame
  | .ackTimerExpiry _ port => .ackTimerExpiry t port
  | .linkResetResend _ port => .linkResetResend t port
  | .linkRecoveryAttempt _ port => .linkRecoveryAttempt t port
  | .portTransmit _ port badCell => .portTransmit t port badCell
  | .creditTableTimer _ port => .creditTableTimer t port
  | .queueAgeDiscard _ => .queueAgeDiscard t
  | .censusOriginate _ => .censusOriginate t
  | .ringMapEntryExpiry _ id => .ringMapEntryExpiry t id
  | .idClashEnd _ => .idClashEnd t
  | .fleetFold _ => .fleetFold t
  | .visitedCacheExpiry _ => .visitedCacheExpiry t
  | .fleetQueryTimeout _ => .fleetQueryTimeout t
  | .sweepOriginate _ => .sweepOriginate t
  | .testLogicReset _ => .testLogicReset t
  | .extest _ pins shifted => .extest t pins shifted
  | .samplePreload _ pins shifted => .samplePreload t pins shifted
  | .idcode _ => .idcode t
  | .keyStatus _ => .keyStatus t
  | .keyLoad _ key selector => .keyLoad t key selector
  | .keyBurn _ word => .keyBurn t word
  | .keyBurnComplete _ readBack => .keyBurnComplete t readBack
  | .bypass _ code bits => .bypass t code bits
  | .ledFlash _ led => .ledFlash t led

/-- A command's operands have a form that the outside world can bring. -/
def Instr.wf : Instr → Bool
  | .powerOnResetEnd _ => true
  | .porThresholdCrossed _ _ => true
  | .resetNAsserted _ _ _ => true
  | .resetNReleased _ => true
  | .coreEnReleaseWaitEnd _ => true
  | .corePowerWaitEnd _ => true
  | .strapMeasurement _ _ _ _ => true
  | .strapReadEnd _ => true
  | .ashDumpStart _ => true
  | .ashDumpEnd _ => true
  | .bistComplete _ found => bistForm found
  | .libraryHeaderReadComplete _ header => headerForm header
  | .libraryItemReceived _ item => itemForm item
  | .libraryBodyComplete _ => true
  | .loadComplete _ => true
  | .powerFailTrip _ _ _ _ => true
  | .powerFailRearm _ _ _ => true
  | .powerFailRecovery _ => true
  | .idleTimerExpiry _ => true
  | .sleepEntry _ upsets => upsetForm upsets
  | .spotWakeTimerExpiry _ => true
  | .bankedWake _ => true
  | .bankedWakeComplete _ => true
  | .emberWake _ => true
  | .spotWakeResleep _ => true
  | .vsetStep _ => true
  | .canaryEvaluationStart _ => true
  | .canaryEvaluationEnd _ _ => true
  | .frameDeadlineMonitorFail _ => true
  | .replayBlockEnd _ => true
  | .replayWindowEnd _ => true
  | .shadowReplay _ _ _ _ _ => true
  | .delayTapRaise _ _ => true
  | .delayTapLower _ _ _ => true
  | .stepDown _ _ => true
  | .stepUp _ => true
  | .stepUpPauseEnd _ => true
  | .holdoffExpiry _ => true
  | .decimatorOutput _ samples => samplesForm samples
  | .tachCapture _ _ _ => true
  | .candidateDecision _ => true
  | .slowTick _ inputs => slowForm inputs
  | .channelRecovery _ _ => true
  | .holdbackRelease _ _ => true
  | .auxConversion _ _ _ => true
  | .labelReading _ _ _ _ _ _ _ => true
  | .labelAccepted _ => true
  | .teachPress _ => true
  | .forgetPress _ => true
  | .holdChange _ => true
  | .rekindle _ => true
  | .featureExtractionStart _ _ => true
  | .featureExtractionDone _ _ upsets => upsetForm upsets
  | .tickEncoding _ upsets => upsetForm upsets
  | .itemMemoryRebuildEnd _ => true
  | .queryStart _ _ upsets => upsetForm upsets
  | .recallResult _ _ => true
  | .learningStage _ upsets => upsetForm upsets
  | .teachTimeout _ => true
  | .commit _ _ upsets => upsetForm upsets
  | .tickOutputs _ => true
  | .kindlingCounterPersist _ => true
  | .heartbeat _ => true
  | .rowWrite _ _ _ _ => true
  | .smoulderRead _ _ upsets _ => upsetForm upsets
  | .vaultHeal _ upsets _ => upsetForm upsets
  | .refetch _ => true
  | .refetchComplete _ item _ => itemForm item
  | .bandPlanRetry _ item => itemForm item
  | .vaultMirror _ upsets => upsetForm upsets
  | .journalCommit _ => true
  | .ashRecordWrite _ => true
  | .ashTokenAdd _ => true
  | .routerDelivery _ _ => true
  | .flueRecordSend _ _ => true
  | .phyLinkUp _ _ => true
  | .frameHeaderReceived _ _ header => frameHeaderForm header
  | .dataFrameReceived _ _ _ _ => true
  | .ackFrameReceived _ _ _ => true
  | .linkResetReceived _ _ _ => true
  | .resetAckReceived _ _ _ => true
  | .ackTimerExpiry _ _ => true
  | .linkResetResend _ _ => true
  | .linkRecoveryAttempt _ _ => true
  | .portTransmit _ _ _ => true
  | .creditTableTimer _ _ => true
  | .queueAgeDiscard _ => true
  | .censusOriginate _ => true
  | .ringMapEntryExpiry _ _ => true
  | .idClashEnd _ => true
  | .fleetFold _ => true
  | .visitedCacheExpiry _ => true
  | .fleetQueryTimeout _ => true
  | .sweepOriginate _ => true
  | .testLogicReset _ => true
  | .extest _ _ _ => true
  | .samplePreload _ _ _ => true
  | .idcode _ => true
  | .keyStatus _ => true
  | .keyLoad _ _ _ => true
  | .keyBurn _ _ => true
  | .keyBurnComplete _ _ => true
  | .bypass _ _ _ => true
  | .ledFlash _ _ => true

end Sys2Proof
end

