-- ==== Sys2Proof/Config.lean ====
section
/-! DEFINITION. Sys2Proof/Config.lean: what an implementation of the SL640 fixes and the values the specification leaves
open. Each is an opaque constant without a body, so nothing can be proved of its value. Its first argument is the
state's counter of free values, which the step advances. -/

namespace Sys2Proof.Config

/-- The change that late transitions make in the unguarded zone of the accumulator named by the list, event by event
(R85): the raw value of event `k`; the engine bounds it to a magnitude below 4,096. -/
opaque lateTransition (free : Nat) (accumulator : List Nat) (event : Nat) : Int

/-- How many timing events the accumulator named by the list has at codes 3 to 6 (R85). -/
opaque lateEvents (free : Nat) (accumulator : List Nat) : Nat

/-- What an MRAM word cut off by a loss of supply reads as (R274): 0 its old value, 1 its new value, otherwise
uncorrectable. -/
opaque cutWord (free : Nat) : Nat

/-- How many shared ring cells a receiver sets aside for a class of a port when it may (R327). -/
opaque setAside (free : Nat) (cls : Nat) : Nat

/-- How many freed cells that were set aside return to the shared set (R327). -/
opaque returnsShared (free : Nat) (cls : Nat) : Nat

/-- The bytes of a frame that had arrived behind its header when its link went down or was reset (R320, R324). -/
opaque arrivedBytes (free : Nat) : List (BitVec 8)

/-- Which key fuses a burn that is cut short had burnt (R396). -/
opaque burntKey (free : Nat) : BitVec 256

/-- Which check fuses a burn that is cut short had burnt (R396). -/
opaque burntCheck (free : Nat) : BitVec 32

end Sys2Proof.Config
end

