-- ==== Sys2Proof/Machine/Bits.lean ====
section
/-! DEFINITION. Sys2Proof/Machine/Bits.lean: byte strings, bit counts and the check codes of the SL640: CRC-32 (R182),
CRC-16 (R317), SHA-256 and HMAC-SHA-256 (R299, R304, R337), consistent-overhead byte stuffing (R246). -/

namespace Sys2Proof.Machine

/-- Byte `i` of a number held least significant byte first (R8). -/
def byteOf (n i : Nat) : Byte := BitVec.ofNat 8 (n >>> (8 * i))

/-- `w` bytes of `n`, least significant first (R8). -/
def leBytes (w n : Nat) : List Byte := (List.range w).map (byteOf n)

/-- The number a byte string spells, least significant byte first (R8). -/
def leNat : List Byte → Nat
  | [] => 0
  | b :: bs => b.toNat + 256 * leNat bs

/-- `w` bytes at offset `off`. -/
def slice (bytes : List Byte) (off w : Nat) : List Byte := (bytes.drop off).take w

/-- The integer field of `w` bytes at offset `off` (R8). -/
def fieldAt (bytes : List Byte) (off w : Nat) : Nat := leNat (slice bytes off w)

/-- Byte `off`, or zero beyond the end. -/
def byteAt (bytes : List Byte) (off : Nat) : Nat := fieldAt bytes off 1

/-- Bits `hi` down to `lo` of a number (R7). -/
def bits (n lo w : Nat) : Nat := (n >>> lo) % 2 ^ w

/-- Bit `i` of a number (R7). -/
def bitOf (n i : Nat) : Bool := n.testBit i

/-- A Bool as a bit. -/
def b2n (b : Bool) : Nat := if b then 1 else 0

/-- A mask with bit `i` set for every `i` of the list. -/
def maskOf (l : List Nat) : Nat := l.foldl (fun m i => m ||| (1 <<< i)) 0

/-- Number of set bits among the low `w` bits. -/
def popcount : Nat → Nat → Nat
  | 0, _ => 0
  | w + 1, n => n % 2 + popcount w (n / 2)

/-- One bit step of the reflected CRC-32 register (polynomial 0xEDB8_8320, R182). -/
def crc32Bit (c : BitVec 32) : BitVec 32 :=
  if c.getLsbD 0 then (c >>> 1) ^^^ 0xEDB88320#32 else c >>> 1

/-- One byte step of the CRC-32 register. -/
def crc32Byte (c : BitVec 32) (b : Byte) : BitVec 32 :=
  let c := c ^^^ b.zeroExtend 32
  crc32Bit (crc32Bit (crc32Bit (crc32Bit (crc32Bit (crc32Bit (crc32Bit (crc32Bit c)))))))

/-- CRC-32 of a byte string: initial value and final XOR 0xFFFF_FFFF (R182). -/
def crc32 (bytes : List Byte) : BitVec 32 := (bytes.foldl crc32Byte 0xFFFFFFFF#32) ^^^ 0xFFFFFFFF#32

/-- One bit step of CRC-16/CCITT-FALSE (polynomial 0x1021, R317). -/
def crc16Bit (c : BitVec 16) : BitVec 16 :=
  if c.getLsbD 15 then (c <<< 1) ^^^ 0x1021#16 else c <<< 1

/-- One byte step of CRC-16/CCITT-FALSE. -/
def crc16Byte (c : BitVec 16) (b : Byte) : BitVec 16 :=
  let c := c ^^^ (b.zeroExtend 16 <<< 8)
  crc16Bit (crc16Bit (crc16Bit (crc16Bit (crc16Bit (crc16Bit (crc16Bit (crc16Bit c)))))))

/-- CRC-16/CCITT-FALSE: initial value 0xFFFF, no reflection, no final XOR (R317). -/
def crc16 (bytes : List Byte) : BitVec 16 := bytes.foldl crc16Byte 0xFFFF#16

/-- The round constants of SHA-256 (FIPS 180-4). -/
def shaK : List (BitVec 32) :=
  [0x428a2f98#32, 0x71374491#32, 0xb5c0fbcf#32, 0xe9b5dba5#32, 0x3956c25b#32, 0x59f111f1#32, 0x923f82a4#32,
   0xab1c5ed5#32, 0xd807aa98#32, 0x12835b01#32, 0x243185be#32, 0x550c7dc3#32, 0x72be5d74#32, 0x80deb1fe#32,
   0x9bdc06a7#32, 0xc19bf174#32, 0xe49b69c1#32, 0xefbe4786#32, 0x0fc19dc6#32, 0x240ca1cc#32, 0x2de92c6f#32,
   0x4a7484aa#32, 0x5cb0a9dc#32, 0x76f988da#32, 0x983e5152#32, 0xa831c66d#32, 0xb00327c8#32, 0xbf597fc7#32,
   0xc6e00bf3#32, 0xd5a79147#32, 0x06ca6351#32, 0x14292967#32] ++
  [0x27b70a85#32, 0x2e1b2138#32, 0x4d2c6dfc#32, 0x53380d13#32, 0x650a7354#32, 0x766a0abb#32, 0x81c2c92e#32,
   0x92722c85#32, 0xa2bfe8a1#32, 0xa81a664b#32, 0xc24b8b70#32, 0xc76c51a3#32, 0xd192e819#32, 0xd6990624#32,
   0xf40e3585#32, 0x106aa070#32, 0x19a4c116#32, 0x1e376c08#32, 0x2748774c#32, 0x34b0bcb5#32, 0x391c0cb3#32,
   0x4ed8aa4a#32, 0x5b9cca4f#32, 0x682e6ff3#32, 0x748f82ee#32, 0x78a5636f#32, 0x84c87814#32, 0x8cc70208#32,
   0x90befffa#32, 0xa4506ceb#32, 0xbef9a3f7#32, 0xc67178f2#32]

/-- The initial hash value of SHA-256. -/
def shaInit : List (BitVec 32) :=
  [0x6a09e667#32, 0xbb67ae85#32, 0x3c6ef372#32, 0xa54ff53a#32, 0x510e527f#32, 0x9b05688c#32, 0x1f83d9ab#32,
   0x5be0cd19#32]

/-- The big-endian word spelled by four bytes. -/
def beWord (b : List Byte) : BitVec 32 := BitVec.ofNat 32 (b.foldl (fun n x => 256 * n + x.toNat) 0)

/-- The sixteen message words of a block. -/
def shaWords : Nat → List Byte → List (BitVec 32)
  | 0, _ => []
  | k + 1, bs => beWord (bs.take 4) :: shaWords k (bs.drop 4)

/-- One new word of the SHA-256 message schedule from the sixteen words before it. -/
def shaNext (w : List (BitVec 32)) : BitVec 32 :=
  let a := w.getD 1 0
  let b := w.getD 14 0
  let s0 := (a.rotateRight 7) ^^^ (a.rotateRight 18) ^^^ (a >>> 3)
  let s1 := (b.rotateRight 17) ^^^ (b.rotateRight 19) ^^^ (b >>> 10)
  w.getD 0 0 + s0 + w.getD 9 0 + s1

/-- The SHA-256 rounds over the remaining constants, with the window of sixteen schedule words. -/
def shaRounds : List (BitVec 32) → List (BitVec 32) → List (BitVec 32) → List (BitVec 32)
  | [], _, v => v
  | k :: ks, w, v =>
    let a := v.getD 0 0
    let b := v.getD 1 0
    let c := v.getD 2 0
    let d := v.getD 3 0
    let e := v.getD 4 0
    let f := v.getD 5 0
    let g := v.getD 6 0
    let h := v.getD 7 0
    let s1 := (e.rotateRight 6) ^^^ (e.rotateRight 11) ^^^ (e.rotateRight 25)
    let ch := (e &&& f) ^^^ (~~~e &&& g)
    let t1 := h + s1 + ch + k + w.getD 0 0
    let s0 := (a.rotateRight 2) ^^^ (a.rotateRight 13) ^^^ (a.rotateRight 22)
    let mj := (a &&& b) ^^^ (a &&& c) ^^^ (b &&& c)
    shaRounds ks (w.drop 1 ++ [shaNext w]) [t1 + s0 + mj, a, b, c, d + t1, e, f, g]

/-- The compression of one 64-byte block into the hash value. -/
def shaBlock (h : List (BitVec 32)) (block : List Byte) : List (BitVec 32) :=
  List.zipWith (· + ·) h (shaRounds shaK (shaWords 16 block) h)

/-- A running SHA-256: the hash value, the bytes waiting for a full block in reverse, and the count of bytes taken. -/
structure Sha where
  hash : List (BitVec 32)
  held : List Byte
  count : Nat
  deriving DecidableEq, Repr

/-- A SHA-256 that has taken nothing. -/
def Sha.start : Sha := ⟨shaInit, [], 0⟩

/-- Takes one byte. -/
def Sha.push (s : Sha) (b : Byte) : Sha :=
  if s.count % 64 = 63 then ⟨shaBlock s.hash (b :: s.held).reverse, [], s.count + 1⟩
  else ⟨s.hash, b :: s.held, s.count + 1⟩

/-- Takes a byte string. -/
def Sha.feed (s : Sha) (bs : List Byte) : Sha := bs.foldl Sha.push s

/-- `n` as `w` bytes, most significant first. -/
def beBytes (w n : Nat) : List Byte := (leBytes w n).reverse

/-- The digest of what has been taken (padding of FIPS 180-4). -/
def Sha.digest (s : Sha) : List Byte :=
  let zeros := (55 + 64 - s.count % 64) % 64
  let t := s.feed ((0x80#8 :: List.replicate zeros 0#8) ++ beBytes 8 (8 * s.count))
  t.hash.flatMap (fun w => beBytes 4 w.toNat)

/-- SHA-256 of a byte string. -/
def sha256 (bs : List Byte) : List Byte := (Sha.start.feed bs).digest

/-- HMAC-SHA-256 under a 32-byte key (FIPS 198-1). -/
def hmacSha256 (key msg : List Byte) : List Byte :=
  let k := key ++ List.replicate (64 - key.length) 0#8
  sha256 (k.map (· ^^^ 0x5C#8) ++ sha256 (k.map (· ^^^ 0x36#8) ++ msg))

/-- One COBS group walk: `code` is the length code of the group being built and `group` its bytes in reverse. -/
def cobsGo : List Byte → Nat → List Byte → List Byte
  | [], code, group => BitVec.ofNat 8 code :: group.reverse
  | b :: bs, code, group =>
    if b = 0#8 then (BitVec.ofNat 8 code :: group.reverse) ++ cobsGo bs 1 []
    else if code = 254 then (255#8 :: (b :: group).reverse) ++ (if bs = [] then [] else cobsGo bs 1 [])
    else cobsGo bs (code + 1) (b :: group)

/-- Consistent-overhead byte stuffing (R246). -/
def cobs (bs : List Byte) : List Byte := cobsGo bs 1 []

/-- A hypervector held as bytes: byte k holds bits 8k to 8k + 7 (R177). -/
def hvBytes (v : HV) : List Byte := leBytes 1024 v.toNat

/-- The hypervector that 1,024 bytes spell (R177). -/
def hvOfBytes (bs : List Byte) : HV := BitVec.ofNat 8192 (leNat bs)

/-- Segment s of a hypervector: bits 64s to 64s + 63 (R176). -/
def segment (v : HV) (s : Nat) : Nat := (v.toNat >>> (64 * s)) % 2 ^ 64

/-- Count of bit positions in which two hypervectors differ. -/
def hamming (a b : HV) : Nat := popcount 8192 (a ^^^ b).toNat

end Sys2Proof.Machine
end

