-- ==== Sys2Proof/Machine/State.lean ====
section
/-! DEFINITION. Sys2Proof/Machine/State.lean: the state of the SL640 as plain data, its reset value, and the reasons a
step can stop. A rule number names the requirement that gives the machine the field; "log n" names the row of the
assumption log for a reset value the specification does not state. -/

namespace Sys2Proof.Machine

/-- The ten device states, in the order of the device states table (R12, R292). -/
inductive DevState where
  | reset | strapRead | bist | load | run | banked | ember | powerFail | configFault | fault
  deriving DecidableEq, Repr

/-- A time that runs while `since` holds the clock at which it was started, on top of what it had gathered. -/
structure Stopwatch where
  acc : Nat := 0
  since : Option Nat := none
  deriving DecidableEq, Repr

/-- What the straps of one STRAP_READ gave (R21 to R48). -/
structure Straps where
  /-- sums of 8 codes in the order of measurement, newest first (R27, R29) -/
  sums : List Nat := []
  /-- `TEST_N` low at the start of each pass so far, newest first (R30) -/
  testLow : List Bool := []
  /-- `ASHDUMP_N` low at the start of each pass so far, newest first (R31) -/
  dumpLow : List Bool := []
  /-- decoded codes of `CFG0` to `CFG11` (R33 to R43) -/
  codes : List Nat := List.replicate 12 0
  /-- cause code of the latest STRAP_READ (R45) -/
  cause : Nat := 0
  /-- an ash dump was requested (R31) -/
  dumpRequested : Bool := false
  /-- the dump has started and its end record is not yet sent (R294) -/
  dumping : Bool := false
  /-- first index of the dump, dump records sent and valid ones among them, and whether the end record has been queued
  (R294) -/
  dumpFirst : Nat := 0
  dumpSent : Nat := 0
  dumpValid : Nat := 0
  dumpEndQueued : Bool := false
  /-- `CFG10` failed to decode: 115,200 bit/s and the full record set (R47) -/
  flueFallback : Bool := false
  /-- `rec.dev`: ring ID when `CFG0` and `CFG1` are good, else 0 (R247) -/
  recDev : Nat := 0
  /-- clock at which STRAP_READ was entered, from which the measurements are timed (R32) -/
  startedAt : Nat := 0
  /-- STRAP_READ has ended in this boot -/
  ended : Bool := false
  deriving DecidableEq, Repr

/-- Power, reset and sleep (R53 to R75). -/
structure Power where
  /-- the internal power-on reset is active (R59) -/
  por : Bool := true
  /-- always-on rails that have not reached their rising threshold since they last fell, or since power was first
  applied (R378, R380) -/
  railsLow : List Rail := [.vddAon, .vddMram, .vdda, .vddIo, .vddRg]
  /-- the timebase oscillator is stable (R59) -/
  oscStable : Bool := false
  /-- clock at which the latest always-on rail reached its rising threshold or the oscillator became stable (R59) -/
  validAt : Nat := 0
  /-- `RESET_N` is asserted (R60) -/
  resetNLow : Bool := false
  /-- `CORE_EN` (R56) -/
  coreEn : Bool := false
  /-- clock of the latest change of `CORE_EN` (R55, R58) -/
  coreEnAt : Nat := 0
  /-- a release of `CORE_EN` whose 10 ms have not been ended (R55) -/
  releaseWait : Bool := false
  /-- `VSET2`-`VSET0` (R56) -/
  vset : Nat := 2
  /-- code the pins are being stepped to (R56, R67, R69) -/
  vsetTarget : Nat := 2
  /-- clock of the latest `VSET` change (R56) -/
  vsetAt : Nat := 0
  /-- reset cause of the boot record: 0, 1 or 2 (R249) -/
  resetCause : Nat := 0
  /-- `CMP_PFAIL` latch: tripped (R72, R123) -/
  pfail : Bool := false
  /-- timestamp of the latest trip (R292) -/
  pfailTime : Nat := 0
  /-- clock of the latest entry to POWER_FAIL (R73) -/
  failAt : Nat := 0
  /-- clock since which `VSYS_SENSE` has been at or above 1.050 V after a trip (R75) -/
  pfailOkSince : Option Nat := none
  /-- `CMP_TEMP` latch: hot (R123) -/
  hot : Bool := false
  /-- the idle timer has expired and sleep entry waits (R65, R66) -/
  sleepDue : Bool := false
  /-- clock of sleep entry, from which the spot-wake interval counts (R69) -/
  sleepAt : Nat := 0
  /-- latched wake request: source mask, 0 for none (R132, R133) -/
  wakeMask : Nat := 0
  /-- clock of the evaluation that raised it (R133) -/
  wakeAt : Nat := 0
  /-- a wake is under way (R69) -/
  waking : Bool := false
  /-- clocks of the `TACH0` captures made since sleep entry, newest first (R132) -/
  wakeEdges : List Nat := []
  /-- consecutive slow ticks that found `WAKE_N` low (R69, R132) -/
  wakeNRun : Nat := 0
  /-- idle timer (R65) -/
  idle : Stopwatch := {}
  /-- this RUN follows a spot wake, and the unit has not been sent back to sleep (R71) -/
  spotRun : Bool := false
  /-- the latest consecutive idle ticks of that RUN (R71) -/
  spotTicks : Nat := 0
  /-- time in RUN, on top of the running time of the persistent state (R220, R286) -/
  running : Stopwatch := {}
  deriving DecidableEq, Repr

/-- One pipeline's matched delay line and latches (R79, R80). -/
structure Pipeline where
  id : Nat
  tap : Nat := 10
  /-- handshakes counted since entry to BIST or, later, to RUN -/
  handshakes : Nat := 0
  /-- replays in the current block of 4,096 handshakes (R79) -/
  blockReplays : Nat := 0
  /-- the count reached 8 in this block and the tap is not yet raised (R79) -/
  raiseDue : Bool := false
  main : BitVec 64 := 0
  shadow : BitVec 64 := 0
  deriving DecidableEq, Repr

/-- The voltage controller and the canary (R79 to R97). -/
structure Volt where
  pipelines : List Pipeline := []
  /-- replays in the current block of 65,536 guarded handshakes (R82) -/
  blockReplays : Nat := 0
  /-- replays in the current 1 s window (R82) -/
  secondReplays : Nat := 0
  /-- replays of the last complete 1 s window (R95) -/
  lastSecond : Nat := 0
  /-- clock of the start of the current 1 s window (R82) -/
  secondAt : Nat := 0
  /-- clock at which the step-down window began (R92) -/
  windowAt : Nat := 0
  /-- replays since then -/
  windowReplays : Nat := 0
  /-- clock and code at which the running canary evaluation began (R90) -/
  canaryAt : Option (Nat × Nat) := none
  /-- clock at which the next evaluation begins (R90) -/
  canaryNext : Nat := 0
  /-- outcome of the last evaluation that was not discarded, since entry to RUN (R94) -/
  canaryPassed : Option Bool := none
  /-- last canary count (R95) -/
  canaryCount : Nat := 0
  /-- canary failures (R95) -/
  canaryFails : Nat := 0
  /-- the latest tick judged failed the frame-deadline monitor (R95) -/
  monitorFailed : Bool := false
  /-- a step up is due (R93) -/
  stepUpDue : Bool := false
  /-- clock at which the holdoff began (R93) -/
  holdoffAt : Option Nat := none
  /-- clock at which the step-up pause began (R96) -/
  pauseAt : Option Nat := none
  /-- lowest code since the last heartbeat (R95) -/
  lowest : Nat := 2
  /-- recalls that replayed more than 8 times (R95) -/
  slowRecalls : Nat := 0
  deriving DecidableEq, Repr

/-- Classification of `BIASn` by its comparator (R108, R128). -/
inductive Bias where
  | inWindow | short | open_
  deriving DecidableEq, Repr

/-- One acquisition channel (R99 to R117, R152, R153). -/
structure Chan where
  /-- 4-bit status (R115) -/
  status : Nat := 0
  /-- wire-fault detections (R249) -/
  detections : Nat := 0
  /-- latch of `CMP_BIASn`; none while the comparator has made no evaluation in this powered period (R128, R129) -/
  bias : Option Bias := none
  /-- status of its latest evaluation outside the window, 3 or 4 (R114, R115) -/
  outside : Nat := 3
  /-- consecutive in-window evaluations of R113 -/
  recovery : Nat := 0
  /-- page of the frame being filled (R153) -/
  page : Option Nat := none
  /-- the frame being filled has no page, and no closed frame stood at its opening (R153) -/
  missing : Bool := false
  /-- the frame being filled is discarded at its close (R112) -/
  doomed : Bool := false
  /-- `OVER` samples stored in the frame being filled (R116) -/
  overs : Nat := 0
  /-- output periods since the limiter last acted, 24 when it has not (R104) -/
  limiterAge : Nat := 24
  /-- drop counter (R153) -/
  drops : Nat := 0
  /-- clock of the latest wire-fault detection (R109, R112) -/
  withdrawnAt : Nat := 0
  /-- clock of the latest recovery (R113) -/
  recoveredAt : Nat := 0
  deriving DecidableEq, Repr

/-- How the current frame was opened (R147). -/
inductive Opener where
  | free | entry | late | edge (t : Nat)
  deriving DecidableEq, Repr

/-- A close whose timebase period has not passed, with what it was decided from: a detection, a recovery or a freed page
of that same period counts as before the close (R111 to R113, R154). -/
structure Turn where
  /-- clock of the close -/
  clock : Nat
  /-- its tick -/
  tick : Nat
  /-- the channels and the pages in use just before it -/
  chans : List Chan
  pages : List (Nat × Nat)
  /-- what a sample stored in this period overwrote in the frame pool: address and bytes -/
  words : List (Nat × List Byte) := []
  /-- sample words in the acquisition buffer before that sample (R86) -/
  buffered : Nat := 0
  /-- the words of that sample, for each enabled channel -/
  stored : List Nat := []
  deriving DecidableEq, Repr

/-- A tachometer capture since the opening edge, and whether it was found to be a glitch (R150). -/
structure Capture where
  time : Nat
  glitch : Bool
  deriving DecidableEq, Repr

/-- Shaft sync and the frame being filled (R139 to R150). -/
structure Sync where
  /-- edge count c (R142) -/
  edges : Nat := 1
  /-- candidates that await their decision, oldest first (R143) -/
  candidates : List Nat := []
  /-- captures of `TACH0` since the opening of the current frame, oldest first -/
  captures : List Capture := []
  opener : Opener := .entry
  /-- samples stored in the current frame -/
  count : Nat := 0
  /-- timestamp of sample 0, once stored -/
  first : Option Nat := none
  /-- fractional offset of the current frame (R145) -/
  phi : Nat := 0
  /-- glitches in the current frame (R144) -/
  glitches : Nat := 0
  /-- captures of `TACH1` to `TACH3` since the latest close: their timestamps, oldest first (R131, R249) -/
  others : List (List Nat) := [[], [], []]
  /-- timestamp at which the decimators produce their next output; none before the first one since entry to RUN
  (R102, R146) -/
  nextOut : Option Nat := none
  /-- the latest close while its timebase period lasts (R111, R113, R154) -/
  turn : Option Turn := none
  /-- pages freed since the latest close: page and clock (R154) -/
  freed : List (Nat × Nat) := []
  /-- latches of `CMP_TACH0` to `CMP_TACH3`: high or low; none while the comparator has made no evaluation in this powered
  period (R128, R130) -/
  tach : List (Option Bool) := List.replicate 4 none
  /-- output samples still to carry `SETTLING` (R105) -/
  settling : Nat := 24
  /-- an output sample that reaches a waiting candidate's boundary time: its timestamp and words -/
  held : Option (Nat × List Nat) := none
  /-- timestamp of the previous close, or of the entry to RUN (R91) -/
  prevClose : Nat := 0
  /-- sync status of the last frame closed since reset (R149) -/
  prevStatus : Option Nat := none
  /-- speed bin of the latest LOCKED frame since entry to RUN (R148) -/
  speedBin : Nat := 0
  /-- interval of the latest LOCKED frame since entry to RUN (R162) -/
  lockedSpan : Option Nat := none
  /-- load bin of the latest tick that was not LOAD_FAULT since entry to RUN (R121) -/
  loadBin : Nat := 0
  /-- conversions of `AUX0` of the current frame: timestamp and code, oldest first (R120) -/
  aux0 : List (Nat × Nat) := []
  /-- conversion codes of `AUX0` to `AUX7` gathered since the last heartbeat: sum and count (R249) -/
  auxSums : List (Nat × Nat) := List.replicate 8 (0, 0)
  /-- latest conversion of each input: timestamp and code (R118) -/
  auxLast : List (Nat × Nat) := List.replicate 8 (0, 0)
  /-- capture queues of `TACH0` to `TACH3` (R131) -/
  queues : List (List Nat) := List.replicate 4 []
  /-- dropped captures (R131) -/
  tachDrops : Nat := 0
  /-- latches of `CMP_SHOCK0` to `CMP_SHOCK3` (R128) -/
  shock : List Bool := List.replicate 4 false
  /-- shock counts in RUN (R134) -/
  shockCounts : List Nat := List.replicate 4 0
  /-- cumulative glitches (R144) -/
  glitchTotal : Nat := 0
  deriving DecidableEq, Repr

/-- Where one channel frame of a tick stands (R154). -/
inductive FrameStage where
  | holdback | waiting | extracting | done | discarded
  deriving DecidableEq, Repr

/-- One closed channel frame (R153 to R156). -/
structure ChanFrame where
  chan : Nat
  page : Nat
  overs : Nat := 0
  stage : FrameStage := .holdback
  /-- clock of its release from the holdback (R111) -/
  releasedAt : Option Nat := none
  /-- the 128 levels, once written (R156) -/
  levels : List Nat := []
  /-- RMS exceeds 1.00 mV (R65) -/
  loud : Bool := false
  deriving DecidableEq, Repr

/-- One lane of a recall result (R205 to R208), with what the fleet's answer block takes from the row's tag (R342). -/
structure Lane where
  none : Bool := true
  row : Nat := 0xFFFF
  dist : Nat := 0x3FFF
  radius : Nat := 0
  second : Nat := 0x3FFF
  count : Nat := 0
  cls : Nat := 0
  label : Nat := 0
  severity : Nat := 0
  mu : Nat := 0
  delta : Nat := 0
  originId : Nat := 0
  originSlot : Nat := 0
  deriving DecidableEq, Repr

/-- The result fields of a recall (R208). -/
structure Recall where
  qid : Nat := 0
  normal : Lane := {}
  diagnosis : Lane := {}
  exact : Nat := 0
  erasedSeen : Bool := false
  guard : Bool := false
  deriving DecidableEq, Repr

/-- One query of a tick (R200). -/
structure Query where
  scope : Nat
  vec : HV
  /-- the query has started in the hearth -/
  started : Bool := false
  result : Option Recall := none
  /-- how often the nearest normal row had been given up or refilled when it was recalled (R219) -/
  life : Nat := 0
  deriving DecidableEq, Repr

/-- The channel frame that a MAC array works on, and whether a code of 3 to 6 has been in force since it started
(R85, R158). -/
structure ArrayJob where
  tick : Nat
  chan : Nat
  loose : Bool := false
  deriving DecidableEq, Repr

/-- The stages of a tick (R14). -/
inductive TickStage where
  | features | recall | outputs
  deriving DecidableEq, Repr

/-- A diagnosis hit (R229, R349). -/
structure Diag where
  query : Nat
  severity : Nat
  cls : Nat
  label : Nat
  row : Nat
  dist : Nat
  radius : Nat
  second : Nat
  count : Nat
  originId : Nat
  originSlot : Nat
  deriving DecidableEq, Repr

/-- One frame tick in the pipeline (R14 to R18, R139, R147 to R150). -/
structure Tick where
  id : Nat
  /-- close instant, timestamp counts (R139) -/
  close : Nat
  /-- T_ref in timestamp counts (R91) -/
  tRef : Nat
  len : Nat
  status : Nat
  bin : Nat
  rpm16 : Nat := 0
  phi : Nat := 0
  /-- interval between the frame's accepted edges, or of the latest LOCKED frame (R162) -/
  span : Option Nat := none
  glitches : Nat := 0
  tach0 : Nat := 0
  tach1 : Nat := 0
  auxMean : Nat := 0
  loadFault : Bool := false
  /-- the tick contains an accepted tachometer edge (R65) -/
  edge : Bool := false
  frames : List ChanFrame := []
  /-- channels whose frame was dropped (R153) -/
  dropped : List Nat := []
  stage : TickStage := .features
  queries : List Query := []
  ngramShort : Bool := false
  /-- the monitor has failed for this tick (R91) -/
  deadlineFailed : Bool := false
  /-- health of each query: scope and H (R227) -/
  health : List (Nat × Nat) := []
  tickHealth : Nat := 0
  level : Nat := 0
  /-- the last 8 levels as this tick leaves them, newest first (R230) -/
  levels : List Nat := []
  kindling : Bool := false
  diag : Option Diag := none
  diagHits : Nat := 0
  deriving DecidableEq, Repr

/-- Where a query in the hearth came from (R200): a query of a tick, or the held fleet query frame of that number. -/
inductive Origin where
  | local (tick : Nat) (index : Nat)
  | fleet (job : Nat)
  deriving DecidableEq, Repr

/-- An uncorrectable word that a recall met (R204). -/
inductive Met where
  | segment (row seg : Nat)
  | tag (row : Nat)
  deriving DecidableEq, Repr

/-- A query in progress in the hearth (R211). -/
structure InFlight where
  origin : Origin
  result : Recall
  life : Nat
  met : List Met := []
  /-- a step-up pause fell into it (R215) -/
  paused : Bool := false
  deriving DecidableEq, Repr

/-- The hearth's own state beside its rows (R196, R210). -/
structure Hearth where
  /-- retired banks, ascending (R272) -/
  retired : List Nat := []
  inFlight : List InFlight := []
  /-- the previous opportunity carried a local query (R210) -/
  lastLocal : Bool := false
  /-- clock of the latest opportunity that carried a query (R210) -/
  startedAt : Option Nat := none
  /-- clock at which every bank has ended its scan of the latest query (R210, R211) -/
  scanEnd : Nat := 0
  nextQid : Nat := 0
  deriving DecidableEq, Repr

/-- An accumulator of the learning engine (R222, R223); its counters lie in the counter store. -/
structure Accum where
  idx : Nat
  row : Nat
  n : Nat := 0
  k : Nat := 0
  /-- order stamp of its last admission (R223) -/
  lastAdmit : Nat := 0
  /-- learning time at its opening or last commit (R225) -/
  timer : Nat := 0
  /-- the tick at the end of whose learning stage it reached a commit condition (R225, R226) -/
  due : Option Nat := none
  deriving DecidableEq, Repr

/-- A row write or tag write that waits for its bank's gap (R214, R226). -/
inductive RowOp where
  | spawn (row : Nat) (vec : HV) (scope bin radius mu delta : Nat)
  | taught (row : Nat) (vec : HV) (bin label severity radius mu delta originId slot : Nat)
  | admission (row dist : Nat)
  | borrow (row : Nat) (gen : Option Nat) (mu delta radius : Nat)
  deriving DecidableEq, Repr

/-- A teach that is collecting (R232, R367). -/
structure Teach where
  label : Nat
  acceptedAt : Nat
  bin : Option Nat := none
  mask : Nat := 0
  vecs : List HV := []
  deriving DecidableEq, Repr

/-- The learning engine (R216 to R237). -/
structure Learn where
  /-- kindling counters that are not zero: cell and count, ascending (R216); cell (s, b) is 128 s + b -/
  kindling : List (Nat × Nat) := []
  /-- SEASONED cells, ascending (R217) -/
  seasoned : List Nat := []
  accums : List Accum := []
  /-- order stamp of the next admission (R223) -/
  admitStamp : Nat := 0
  /-- RUN time not under hold, which the 600 s commit timers count (R225, R237) -/
  time : Stopwatch := {}
  /-- pending row and tag writes, oldest first, with the tick they belong to (R226) -/
  writes : List (Nat × RowOp) := []
  /-- the tick whose learning stage ran last (R226) -/
  stageTick : Nat := 0
  /-- how often a row was given up or refilled: row and count (R219) -/
  lives : List (Nat × Nat) := []
  /-- spawn times of normal rows that are not zero: row and seconds (R220) -/
  spawned : List (Nat × Nat) := []
  /-- machine history H[1] to H[d-1] held, count (R188); its vectors lie in the encoder scratch -/
  history : Nat := 0
  teach : Option Teach := none
  /-- levels of the last 8 ticks that issued queries, newest first (R230) -/
  levels : List Nat := []
  /-- fleet hits that wait for the next learning stage, oldest first (R349) -/
  fleetHits : List Diag := []
  refusedSpawns : Nat := 0
  deriving DecidableEq, Repr

/-- Buttons, hold and label (R50 to R52, R231). -/
structure Panel where
  /-- accepted label (R49, R51) -/
  label : Nat := 0
  /-- level of the run of equal readings and its length (R51) -/
  labelRun : Nat × Nat := (0, 0)
  /-- clock of the latest reading (R50) -/
  readAt : Nat := 0
  ignored : Nat := 0
  /-- consecutive low and consecutive high samples of `TEACH_N` (R231) -/
  teachLow : Nat := 0
  teachHigh : Nat := 0
  /-- three high samples seen since the last press or entry to RUN -/
  teachArmed : Bool := false
  forgetLow : Nat := 0
  forgetHigh : Nat := 0
  forgetArmed : Bool := false
  /-- level and length of the run of equal `HOLD_N` samples; true is low -/
  holdRun : Bool × Nat := (false, 0)
  /-- hold state: none while unresolved (R231) -/
  hold : Option Bool := none
  /-- a rekindle has been accepted and waits for the gap between two ticks (R236) -/
  rekindleDue : Bool := false
  deriving DecidableEq, Repr

/-- What an LED shows (R244). -/
inductive Pattern where
  | off | on | flash (hz : Nat) | blink (n : Nat)
  deriving DecidableEq, Repr

/-- One LED: what it shows, its phase, since when, and whether it is lit. -/
structure Led where
  pattern : Pattern := .off
  phase : Nat := 0
  since : Nat := 0
  lit : Bool := false
  deriving DecidableEq, Repr

/-- The output pins (R64, R238 to R244). -/
structure Outputs where
  ready : Bool := false
  alert : Bool := false
  alarm : Bool := false
  fault : Bool := false
  /-- the latest tick was LOAD_FAULT (bit 1) or issued no queries (bit 2) (R240) -/
  faultCauses : Nat := 0
  /-- `HEALTH` code; none while the output is held to VSS (R242, R380) -/
  health : Option Nat := none
  /-- H_t of the latest tick's outputs (R249) -/
  tickHealth : Nat := 0
  /-- pin states of the latest alarm change record or entry to RUN: bits of R249 (R250) -/
  reported : Nat := 0
  led0 : Led := {}
  led1 : Led := {}
  deriving DecidableEq, Repr

/-- A flue record in the report queue (R247, R251). A relayed record carries its bytes as they came (R360). -/
structure FlueRec where
  type : Nat
  seq : Nat
  time : Nat
  payload : List Byte
  tier : Nat
  relayed : Option (List Byte) := none
  /-- offset in the report queue at which its bytes begin (log 27) -/
  at_ : Nat := 0
  deriving DecidableEq, Repr

/-- The flue (R245 to R254). -/
structure Flue where
  queue : List FlueRec := []
  nextSeq : Nat := 0
  /-- discards since the last gap record: first lost sequence, count and type mask (R252) -/
  gapFirst : Option Nat := none
  gapCount : Nat := 0
  gapMask : Nat := 0
  /-- flue events dropped by the router since the last gap record (R136) -/
  routerDrops : Nat := 0
  /-- the next record is the first after a reset or a wake (R246) -/
  extraZero : Bool := true
  /-- offset in the report queue at which the next record begins (log 27) -/
  tail : Nat := 0
  /-- the latest record on the wire: its bytes with stuffing and delimiter (R246) -/
  wire : List Byte := []
  /-- clock of its first start bit (R245) -/
  startAt : Nat := 0
  /-- clock at which its last stop bit ends (R245) -/
  busyUntil : Nat := 0
  /-- clock of the next heartbeat (R248) -/
  heartbeatAt : Nat := 0
  /-- the next heartbeat is the first after a wake, with this source mask (R71) -/
  wakeMask : Option Nat := none
  deriving DecidableEq, Repr

/-- An event in a queue of the router (R136): its timestamp, its row in the router map, the flue or ash type and
payload it becomes. -/
structure Event where
  time : Nat
  rank : Nat
  type : Nat
  payload : List Byte
  deriving DecidableEq, Repr

/-- The event router (R135, R136). -/
structure Router where
  ash : List Event := []
  flue : List Event := []
  ashDrops : Nat := 0
  deriving DecidableEq, Repr

/-- An ash record that waits to be written (R287). -/
structure AshRec where
  type : Nat
  time : Nat
  payload : List Byte
  deriving DecidableEq, Repr

/-- The ash writer (R287 to R294). -/
structure Ash where
  waiting : List AshRec := []
  nextSeq : Nat := 0
  tokens : Nat := 64
  /-- clock at which the running 62.5 ms began -/
  tokenAt : Nat := 0
  /-- drop tallies of the bucket: count, type mask, first and last timestamp (R290) -/
  dropCount : Nat := 0
  dropMask : Nat := 0
  dropFirst : Nat := 0
  dropLast : Nat := 0
  deriving DecidableEq, Repr

/-- The tag of a row (R197). -/
structure Tag where
  erased : BitVec 128 := 0
  cls : BitVec 2 := 0
  valid : Bool := false
  spent : Bool := false
  scope : BitVec 6 := 0
  bin : BitVec 7 := 0
  binAny : Bool := false
  label : BitVec 4 := 0
  severity : BitVec 2 := 0
  radius : BitVec 14 := 0
  mu : BitVec 14 := 0
  delta : BitVec 12 := 0
  hits : BitVec 16 := 0
  gen : BitVec 12 := 0
  originId : BitVec 8 := 0
  originSlot : BitVec 10 := 0
  deriving DecidableEq, Repr

/-- A learned row's dirty flags (R276). -/
structure Dirty where
  row : Nat
  data : Bool
  tag : Bool
  deriving DecidableEq, Repr

/-- A journal entry handed to the MRAM controller (R277, R280). -/
structure Entry where
  kind : Nat
  row : Nat
  spawn : Nat
  tag : Tag
  data : HV
  deriving DecidableEq, Repr

/-- The vault mover and the MRAM controller (R274 to R286). -/
structure Vault where
  /-- dirty rows, oldest first (R277) -/
  dirty : List Dirty := []
  /-- entries held by the MRAM controller, oldest first -/
  entries : List Entry := []
  nextSeq : Nat := 0
  /-- slot of the next entry (R281) -/
  nextSlot : Nat := 0
  /-- clock of the latest mirror (R277) -/
  mirrorAt : Option Nat := none
  /-- live copies of the journal slots that hold a valid entry or have been written (R269, R286) -/
  slots : List (Option (List Byte)) := [none, none]
  /-- live copies of the persistent fields (R285, R286) -/
  bootCount : Nat := 0
  runSeconds : Nat := 0
  e2eMark : Nat := 0
  /-- sequences of taught slots that are not zero: slot and q (R351) -/
  slotSeq : List (Nat × Nat) := []
  /-- fleet sequences that are not zero: origin and W (R353) -/
  fleetSeq : List (Nat × Nat) := []
  /-- time in RUN at the latest write of running time and kindling counters (R216) -/
  persistAt : Nat := 0
  /-- words of the power-fail sequence that are still to be written, in order (R73, R275) -/
  failWrites : List (Nat × List Byte) := []
  deriving DecidableEq, Repr

/-- A vault heal that waits: row, segment, the generation it was found at, and whether it repeats a dropped heal (R265,
R259). -/
structure Heal where
  row : Nat
  seg : Nat
  gen : Nat
  again : Bool := false
  deriving DecidableEq, Repr

/-- The smoulder (R264). -/
structure Smoulder where
  /-- next unit of each region: word or line index, in the order of the regions (R264) -/
  pointers : List Nat := List.replicate 12 0
  /-- clock at which each region's period began (R264) -/
  periodAt : List Nat := List.replicate 12 0
  heals : List Heal := []
  deriving DecidableEq, Repr

/-- Where the library load stands (R303). -/
inductive LibStage where
  | idle | header | body (next : Nat) | over
  deriving DecidableEq, Repr

/-- The header fields in force (R299). -/
structure LibHeader where
  rdcmd : Nat := 0
  clk : Nat := 0
  flags : Nat := 0
  tres : Nat := 0
  depth : Nat := 1
  mclass : Nat := 0
  build : Nat := 0
  seed : Nat := 0
  nrows : Nat := 0
  digest : List Byte := []
  deriving DecidableEq, Repr

/-- A request to the flash interface (R307): the row's generation when it was made, and whether it repeats a dropped
refetch (R259). -/
inductive Refetch where
  | plan
  | segments (row gen : Nat) (again : Bool)
  | full (row gen : Nat) (again : Bool)
  deriving DecidableEq, Repr

/-- A command on the pins of the flash: its byte, the address of a read, the code of its clock as `hdr.clk` codes it, the
bytes that it reads and the wait after it in microseconds (R298, R299, R303, R307). -/
structure FlashCmd where
  code : Nat
  addr : Option Nat := none
  clk : Nat := 0
  length : Nat := 0
  wait : Nat := 0
  deriving DecidableEq, Repr

/-- The library and its flash interface (R297 to R308). -/
structure Library where
  stage : LibStage := .idle
  header : LibHeader := {}
  /-- an image has been accepted at LOAD (R303) -/
  accepted : Bool := false
  /-- the SHA-256 of the body read so far (R303) -/
  sha : Sha := Sha.start
  /-- rows written from records whose `tag.valid` is 1 -/
  rows : List Nat := []
  /-- the band plan of the image being read, as it came -/
  plan : List Byte := []
  /-- the flash is not accessed again until the next LOAD (R306, R308) -/
  closed : Bool := false
  queue : List Refetch := []
  serving : Option Refetch := none
  /-- failed band plan attempts and the clock of the latest (R308) -/
  planFails : Nat := 0
  planAt : Nat := 0
  /-- the flash is in deep power-down (R303, R307) -/
  asleep : Bool := false
  /-- the effective seed of the item memory (R178) -/
  seed : Nat := 0
  /-- the item memory is built (R192) -/
  built : Bool := false
  /-- a rebuild of the item memory is under way (R193) -/
  rebuilding : Bool := false
  /-- the built-in band plan is in force (R172, R173, R308) -/
  planBuiltIn : Bool := true
  deriving DecidableEq, Repr

/-- A Yarud data frame without the fields of one hop (R315, R316). -/
structure YFrame where
  auth : Bool := false
  cls : Nat
  dst : Nat
  src : Nat
  e2e : Nat
  hops : Nat := 0
  dir : Nat := 0
  turns : Nat := 0
  passed : Bool := false
  payload : List Byte
  tag : List Byte := []
  deriving DecidableEq, Repr

/-- A frame in the queues (R329): its output port, where it came from, since when it waits and its cells. -/
structure QFrame where
  frame : YFrame
  out : Port
  source : Option Port
  at_ : Nat
  cells : List Nat
  deriving DecidableEq, Repr

/-- A frame sent and not yet acknowledged (R321, R323). -/
structure Sent where
  seq : Nat
  frame : YFrame
  tries : Nat := 0
  /-- the bytes after the header of a frame sent stomped, as they came in (R320) -/
  torn : Option (List Byte) := none
  source : Option Port := none
  cells : List Nat := []
  /-- reading of the port's ack timer at the end of the latest transmission (R323) -/
  sentAt : Nat := 0
  deriving DecidableEq, Repr

/-- A link reset this port has started: proposed epoch, cause and the clock of its latest frame (R324). -/
structure Proposal where
  epoch : Nat
  cause : Nat
  sentAt : Nat
  deriving DecidableEq, Repr

/-- A link frame that waits to be sent (R322, R324, R327). -/
inductive LinkFrame where
  | ack
  | reset (epoch cause : Nat)
  | resetAck (epoch cause : Nat)
  deriving DecidableEq, Repr

/-- A frame being cut through to the other port: its hop sequence there, what its header gives, and whether that port has
neither gone down nor been reset since it started (R320). -/
structure Cut where
  seq : Nat
  frame : YFrame
  live : Bool := true
  deriving DecidableEq, Repr

/-- One ring port (R314, R320 to R327). -/
structure LinkPort where
  /-- clock since which `xx_LINK` has been high (R314) -/
  highSince : Option Nat := none
  /-- consecutive low samples of `xx_LINK` -/
  lowRun : Nat := 0
  up : Bool := false
  /-- ring ID of the peer, as its link frames carry it; 0xFF before the first (R249) -/
  peer : Nat := 0xFF
  /-- clock at which the link went down (R325) -/
  downAt : Option Nat := none
  epoch : Nat := 0
  proposal : Option Proposal := none
  /-- clocks of link resets with cause 1 or 2 (R325) -/
  resets : List Nat := []
  /-- clock of the latest recovery attempt (R325) -/
  attemptAt : Nat := 0
  txSeq : Nat := 0
  rxSeq : Nat := 0
  unacked : List Sent := []
  /-- a data frame has been accepted in this epoch: `yh.aval` (R316) -/
  rxAny : Bool := false
  /-- the time base of the ack timers, which stands still in a step-up pause (R96, R323) -/
  timer : Stopwatch := {}
  /-- a NAK has been sent for the expected value (R321) -/
  nakDone : Bool := false
  nakDue : Bool := false
  links : List LinkFrame := []
  /-- a transmit sequence is to be resent from the oldest: sequences still to send (R323) -/
  resend : List Nat := []
  sent : List Nat := List.replicate 64 0
  limits : List Nat := List.replicate 64 8
  freed : List Nat := List.replicate 64 0
  aside : List Nat := List.replicate 64 0
  /-- a limit has advanced since the last credit table (R327) -/
  tableDue : Bool := false
  tableAt : Nat := 0
  /-- last queue served in each tier (R329) -/
  served : List Nat := List.replicate 4 16383
  /-- the frame that arrives here and is being cut through (R320) -/
  cut : Option Cut := none
  /-- clock at which the latest transmission and its interframe gap end (R315) -/
  busyUntil : Nat := 0
  /-- the latest frame sent on this port, header to FCS -/
  wire : List Byte := []
  deriving DecidableEq, Repr

/-- An entry of the ring map (R333). -/
structure MapEntry where
  id : Nat
  hops : List (Option Nat) := [none, none]
  seedHash : Nat := 0
  mclass : Nat := 0
  flags : Nat := 0
  at_ : Nat := 0
  deriving DecidableEq, Repr

/-- The ring (R311 to R337). -/
structure Ring where
  portA : LinkPort := {}
  portB : LinkPort := {}
  queue : List QFrame := []
  /-- own frames that wait for local cells, with the clock of their origination (R328, R331) -/
  waiting : List (Nat × YFrame) := []
  /-- free cells of the ring cell pool, ascending (R326) -/
  free : List Nat := List.range 4096
  map : List MapEntry := []
  /-- stamps of the own last three censuses, newest first (R334) -/
  stamps : List Nat := []
  censusAt : Nat := 0
  /-- clock of the latest clashing census while in ID clash (R334) -/
  clashAt : Option Nat := none
  wrapped : Bool := false
  /-- frames discarded and counted (R318, R319, R320, R328, R331, R335) -/
  discards : Nat := 0
  deriving DecidableEq, Repr

/-- An own fleet query that is outstanding (R342, R346). -/
structure OwnQuery where
  e2e : Nat
  stamp : Nat
  kind : Nat
  bin : Nat
  vec : HV
  /-- the spawned row of a borrow, and its generation once the spawn has landed (R350) -/
  row : Nat
  gen : Option Nat := none
  /-- clock of its issue and the length of its timer (R346) -/
  at_ : Nat
  limit : Nat
  reissue : Bool
  deriving DecidableEq, Repr

/-- A fleet query frame held by this responder (R343). -/
structure Job where
  /-- the model's own number of the frame, which its query in the hearth carries -/
  id : Nat := 0
  frame : YFrame
  source : Port
  cells : List Nat
  /-- clock of its arrival (R331) -/
  at_ : Nat
  started : Bool := false
  /-- lane results of this unit, once known -/
  result : Option (Lane × Lane) := none
  deriving DecidableEq, Repr

/-- A teach, forget or sweep frame whose row and tag writes wait for a gap between two scans (R214, R257), with the port it
came in through. -/
structure HeldFrame where
  port : Port
  frame : YFrame
  deriving DecidableEq, Repr

/-- An entry of the visited cache (R345). -/
structure Visit where
  src : Nat
  e2e : Nat
  stamp : Nat
  normal : Lane
  diagnosis : Lane
  at_ : Nat
  deriving DecidableEq, Repr

/-- The fleet (R338 to R361). -/
structure Fleet where
  /-- next end-to-end value (R339) -/
  e2e : Nat := 0
  queries : List OwnQuery := []
  /-- clock of the latest origination of a query or re-issue (R341) -/
  askedAt : Option Nat := none
  jobs : List Job := []
  /-- number of the next held frame -/
  nextJob : Nat := 0
  /-- frames whose writes wait for a gap, oldest first (R214, R353, R357) -/
  held : List HeldFrame := []
  visited : List Visit := []
  /-- slot of the next sweep (R356) -/
  sweepSlot : Nat := 0
  sweepAt : Nat := 0
  refused : Nat := 0
  deriving DecidableEq, Repr

/-- The fuses of one key (R396). -/
structure KeyBlock where
  key : BitVec 256 := 0
  check : BitVec 32 := 0
  programmed : Bool := false
  deriving DecidableEq, Repr

/-- The test port and the key fuses (R395, R396). -/
structure Tap where
  /-- 6-bit instruction register -/
  ir : BitVec 6 := 0b000010
  /-- what the latest instruction scan shifted out -/
  irOut : BitVec 6 := 0
  /-- the register of KEY_LOAD: selector and key -/
  load : BitVec 264 := 0
  /-- boundary-scan output cells, in the order of the signal list -/
  cells : BitVec 52 := 0
  /-- captured pin states -/
  captured : BitVec 52 := 0
  /-- bits last shifted out on `JTDO`, first bit first -/
  shifted : List Bool := []
  bypass : Bool := false
  /-- selector and key of a burn in progress -/
  burning : Option (Nat × BitVec 256) := none
  refused : Bool := false
  failed : Bool := false
  image : KeyBlock := {}
  ring : KeyBlock := {}
  deriving DecidableEq, Repr

/-- The column repairs of the SRAM in force: sub-array and column (R270). -/
structure Repairs where
  /-- chosen at production test and fused -/
  fused : List (SubArray × Nat) := []
  /-- assigned by the latest BIST, until the next RESET or EMBER entry -/
  added : List (SubArray × Nat) := []
  deriving DecidableEq, Repr

/-- The crossing buffers between the islands and the core, which hold data in a step-up pause (R86, R96). What a port
transmit island holds is `LinkPort.wire`, what the flue UART island holds `Flue.wire`. -/
structure Crossing where
  /-- sample words on their way to the frame pool: address and word, oldest first (2,048 words) -/
  samples : List (Nat × Nat) := []
  /-- received frames that the core has not taken up, oldest first (16 KiB per port) -/
  rxA : List (List Byte) := []
  rxB : List (List Byte) := []
  /-- bytes that the flash island has read and the core has not taken up (1 KiB) -/
  flash : List Byte := []
  deriving DecidableEq, Repr

/-- The state of the SL640, and the queue of commands that wait. -/
structure State where
  /-- commands that wait, first in first out -/
  pending : List Instr := []
  /-- timebase periods since the model's beginning; all timers are marks of it (R102) -/
  clock : Nat := 0
  /-- clock at which the 56-bit timestamp counter was last cleared (R61) -/
  tsStart : Nat := 0
  mode : DevState := .reset
  /-- the model's own counter of free values -/
  freeCount : Nat := 0
  /-- the internal memory map but for the ring cell pool and the report queue: byte addresses strictly rising, no
  zero byte listed (R255) -/
  mem : List Host.Cell := []
  /-- 64-bit words that hold bit errors: address and count (R262) -/
  ecc : List (Nat × Nat) := []
  straps : Straps := {}
  power : Power := {}
  volt : Volt := {}
  chans : List Chan := List.replicate 32 {}
  sync : Sync := {}
  /-- pages that are not free: page and channel (R154) -/
  pages : List (Nat × Nat) := []
  /-- pages freed during a step-up pause (R154) -/
  freeing : List Nat := []
  /-- what the crossing buffers hold (R86) -/
  cross : Crossing := {}
  /-- spare columns in use (R270) -/
  repairs : Repairs := {}
  /-- ticks in the pipeline, oldest first (R14) -/
  ticks : List Tick := []
  nextTick : Nat := 0
  /-- the channel frame each MAC array works on (R158) -/
  arrays : List (Option ArrayJob) := List.replicate 4 none
  hearth : Hearth := {}
  learn : Learn := {}
  panel : Panel := {}
  out : Outputs := {}
  flue : Flue := {}
  router : Router := {}
  ash : Ash := {}
  vault : Vault := {}
  smoulder : Smoulder := {}
  lib : Library := {}
  /-- commands sent to the flash in the latest access, in order (R298, R303, R307) -/
  flash : List FlashCmd := []
  ring : Ring := {}
  fleet : Fleet := {}
  tap : Tap := {}
  deriving DecidableEq, Repr

/-- The machine while the internal power-on reset is active: RESET, every supply coming up (R59, R64). -/
def State.reset : State := {}

/-- Why a step can stop with a fault. -/
inductive Fault where
  /-- Raised by the meaning of a command whose operand no event of the outside world can carry (a header that is not
  256 bytes long, a decimator output without one sample for each enabled channel). Safe: the hardware meets no such
  event, so nothing is said of it. -/
  | malformed
  deriving DecidableEq, Repr

/-- Why a step can refuse a command. -/
inductive Refusal where
  /-- Raised by an arm of exec whose command has no meaning yet. Safe: nothing is claimed of such a command. -/
  | notModelled (mnemonic : String)
  deriving DecidableEq, Repr

end Sys2Proof.Machine
end

