-- ==== Sys2Proof/Machine/Mem.lean ====
section
/-! DEFINITION. Sys2Proof/Machine/Mem.lean: the internal memory (R255), its error map (R262), and the rows, tags and
vault copies that lie in it (R194, R197, R255). A byte that nothing has written reads as zero (log 3). -/

namespace Sys2Proof.Machine

/-- The canonical form: addresses strictly rising and no zero byte listed. -/
abbrev Memory.wf (m : List Host.Cell) : Prop :=
  m.Pairwise (fun a b => a.1 < b.1) ∧ ∀ c ∈ m, c.2 ≠ 0#8

/-- The error map lists words in ascending order, each with a count that is not zero. -/
abbrev Errors.wf (l : List (Nat × Nat)) : Prop := l.Pairwise (fun a b => a.1 < b.1) ∧ ∀ e ∈ l, e.2 ≠ 0

/-- The byte at an address; an unlisted address reads as zero. -/
def Memory.read : List Host.Cell → Nat → Byte
  | [], _ => 0#8
  | c :: m, a => if c.1 = a then c.2 else Memory.read m a

/-- The cells that a byte string makes from address `a` on; a zero byte makes none. -/
def Memory.cells : Nat → List Byte → List Host.Cell
  | _, [] => []
  | a, b :: bs => if b = 0#8 then Memory.cells (a + 1) bs else (a, b) :: Memory.cells (a + 1) bs

/-- Writes a byte string from address `a` on. -/
def Memory.writeBytes (m : List Host.Cell) (a : Nat) (bs : List Byte) : List Host.Cell :=
  m.filter (fun c => decide (c.1 < a)) ++ (Memory.cells a bs ++ m.filter (fun c => decide (a + bs.length ≤ c.1)))

/-- Zeroes `n` bytes from address `a` on. -/
def Memory.clear (m : List Host.Cell) (a n : Nat) : List Host.Cell :=
  m.filter (fun c => !(decide (a ≤ c.1) && decide (c.1 < a + n)))

/-- `n` bytes from address `a` on, read from cells none of which lies below `a`. -/
def Memory.collect : List Host.Cell → Nat → Nat → List Byte
  | _, _, 0 => []
  | [], a, n + 1 => 0#8 :: Memory.collect [] (a + 1) n
  | c :: m, a, n + 1 =>
    if c.1 = a then c.2 :: Memory.collect m (a + 1) n else 0#8 :: Memory.collect (c :: m) (a + 1) n

/-- `n` bytes from address `a` on. -/
def Memory.readBytes (m : List Host.Cell) (a n : Nat) : List Byte :=
  Memory.collect (m.dropWhile (fun c => decide (c.1 < a))) a n

/-- Base, size and word of each region (R255). -/
def regionBase : Region → Nat
  | .hearthData => 0x00000000
  | .hearthTags => 0x01000000
  | .counters => 0x02000000
  | .framePool => 0x03000000
  | .ringCells => 0x04000000
  | .signalScratch => 0x05000000
  | .encoderScratch => 0x05080000
  | .reportQueue => 0x05100000
  | .vaultData => 0x08000000
  | .vaultTags => 0x08800000
  | .persistent => 0x08840000
  | .ash => 0x08880000

/-- Size of each region in bytes (R255). -/
def regionSize : Region → Nat
  | .hearthData => 0x01000000
  | .hearthTags => 0x00080000
  | .counters => 0x00400000
  | .framePool => 0x00300000
  | .ringCells => 0x00100000
  | .signalScratch => 0x00080000
  | .encoderScratch => 0x00040000
  | .reportQueue => 0x00010000
  | .vaultData => 0x00800000
  | .vaultTags => 0x00040000
  | .persistent => 0x00040000
  | .ash => 0x00080000

/-- The regions in ascending address (R255, R264). -/
def regions : List Region :=
  [.hearthData, .hearthTags, .counters, .framePool, .ringCells, .signalScratch, .encoderScratch, .reportQueue,
   .vaultData, .vaultTags, .persistent, .ash]

/-- Position of a region in `regions`. -/
def regionIndex : Region → Nat
  | .hearthData => 0
  | .hearthTags => 1
  | .counters => 2
  | .framePool => 3
  | .ringCells => 4
  | .signalScratch => 5
  | .encoderScratch => 6
  | .reportQueue => 7
  | .vaultData => 8
  | .vaultTags => 9
  | .persistent => 10
  | .ash => 11

/-- The region an address lies in; an address in no range belongs to no region (R255). -/
def regionOf (a : Nat) : Option Region :=
  regions.find? (fun r => decide (regionBase r ≤ a) && decide (a < regionBase r + regionSize r))

/-- The MRAM starts here (R255). -/
def mramBase : Nat := 0x08000000

/-- Bit errors from which a word is uncorrectable: two under SECDED in SRAM, three under DEC-TED in MRAM (R262). -/
def fatalErrors (a : Nat) : Nat := if a < mramBase then 2 else 3

/-- Errors held by the 64-bit word at an address. -/
def errorsAt (l : List (Nat × Nat)) (a : Nat) : Nat := ((l.find? (fun e => e.1 = a)).map Prod.snd).getD 0

/-- Records that the word at `a` holds `n` bit errors. -/
def setErrors (l : List (Nat × Nat)) (a n : Nat) : List (Nat × Nat) :=
  let rest := l.filter (fun e => !decide (e.1 = a))
  if n = 0 then rest else rest.filter (fun e => decide (e.1 < a)) ++ ((a, n) :: rest.filter (fun e => decide (a < e.1)))

/-- `n` bytes of memory. -/
def State.peek (s : State) (a n : Nat) : List Byte := Memory.readBytes s.mem a n

/-- The integer held in `n` bytes of memory (R8). -/
def State.peekNat (s : State) (a n : Nat) : Nat := leNat (s.peek a n)

/-- Writes bytes; every word the write touches is written whole with its check bits and is good afterwards. -/
def State.poke (s : State) (a : Nat) (bs : List Byte) : State :=
  { s with
    mem := Memory.writeBytes s.mem a bs
    ecc := s.ecc.filter (fun e => !(decide (a < e.1 + 8) && decide (e.1 < a + bs.length))) }

/-- Zeroes `n` bytes of memory. -/
def State.wipe (s : State) (a n : Nat) : State :=
  { s with
    mem := Memory.clear s.mem a n
    ecc := s.ecc.filter (fun e => !(decide (a ≤ e.1) && decide (e.1 < a + n))) }

/-- The 64-bit word that holds an address. -/
def wordOf (a : Nat) : Nat := a / 8 * 8

/-- The word that holds address `a` reads uncorrectable (R262). -/
def State.bad (s : State) (a : Nat) : Bool := decide (fatalErrors a ≤ errorsAt s.ecc (wordOf a))

/-- The lowest uncorrectable word among `n` bytes from address `a` on. -/
def State.badIn (s : State) (a n : Nat) : Option Nat :=
  (s.ecc.find? (fun e => decide (a ≤ e.1) && decide (e.1 < a + n) && decide (fatalErrors e.1 ≤ e.2))).map Prod.fst

/-- Takes over upsets that have come about. -/
def State.upset (s : State) (us : List Upset) : State :=
  { s with ecc := us.foldl (fun l u => setErrors l (wordOf u.addr) u.errors) s.ecc }

/-- The 256 bits of a tag; the reserved bits are zero (R197, R11). -/
def Tag.toNat (t : Tag) : Nat :=
  t.erased.toNat + t.cls.toNat * 2 ^ 128 + t.valid.toNat * 2 ^ 130 + t.spent.toNat * 2 ^ 131 +
  t.scope.toNat * 2 ^ 132 + t.bin.toNat * 2 ^ 138 + t.binAny.toNat * 2 ^ 145 + t.label.toNat * 2 ^ 146 +
  t.severity.toNat * 2 ^ 150 + t.radius.toNat * 2 ^ 152 + t.mu.toNat * 2 ^ 166 + t.delta.toNat * 2 ^ 180 +
  t.hits.toNat * 2 ^ 192 + t.gen.toNat * 2 ^ 208 + t.originId.toNat * 2 ^ 220 + t.originSlot.toNat * 2 ^ 228

/-- The tag that 256 bits spell (R197); reserved bits are ignored (R11). -/
def Tag.ofNat (n : Nat) : Tag where
  erased := BitVec.ofNat 128 n
  cls := BitVec.ofNat 2 (n / 2 ^ 128)
  valid := decide (n / 2 ^ 130 % 2 = 1)
  spent := decide (n / 2 ^ 131 % 2 = 1)
  scope := BitVec.ofNat 6 (n / 2 ^ 132)
  bin := BitVec.ofNat 7 (n / 2 ^ 138)
  binAny := decide (n / 2 ^ 145 % 2 = 1)
  label := BitVec.ofNat 4 (n / 2 ^ 146)
  severity := BitVec.ofNat 2 (n / 2 ^ 150)
  radius := BitVec.ofNat 14 (n / 2 ^ 152)
  mu := BitVec.ofNat 14 (n / 2 ^ 166)
  delta := BitVec.ofNat 12 (n / 2 ^ 180)
  hits := BitVec.ofNat 16 (n / 2 ^ 192)
  gen := BitVec.ofNat 12 (n / 2 ^ 208)
  originId := BitVec.ofNat 8 (n / 2 ^ 220)
  originSlot := BitVec.ofNat 10 (n / 2 ^ 228)

/-- The 32 bytes of a tag (R197). -/
def Tag.bytes (t : Tag) : List Byte := leBytes 32 t.toNat

/-- Address of a row's data (R194). -/
def rowAddr (r : Nat) : Nat := r * 0x400

/-- Address of a row's tag (R194). -/
def tagAddr (r : Nat) : Nat := 0x01000000 + r * 0x20

/-- Address of a learned row's vault copy (R255). -/
def vaultAddr (r : Nat) : Nat := 0x08000000 + (r - 8192) * 0x400

/-- Address of a learned row's vault tag (R255). -/
def vaultTagAddr (r : Nat) : Nat := 0x08800000 + (r - 8192) * 0x20

/-- Bank of a row (R194). -/
def bankOf (r : Nat) : Nat := r / 64

/-- A row's tag as the hearth holds it. -/
def State.tag (s : State) (r : Nat) : Tag := Tag.ofNat (s.peekNat (tagAddr r) 32)

/-- A row's data as the hearth holds it. -/
def State.row (s : State) (r : Nat) : HV := BitVec.ofNat 8192 (s.peekNat (rowAddr r) 1024)

/-- Writes a row's tag. -/
def State.setTag (s : State) (r : Nat) (t : Tag) : State := s.poke (tagAddr r) t.bytes

/-- Writes a row's data. -/
def State.setRow (s : State) (r : Nat) (v : HV) : State := s.poke (rowAddr r) (hvBytes v)

/-- A row write: the eight lines and the tag (R214). -/
def State.writeRow (s : State) (r : Nat) (v : HV) (t : Tag) : State := (s.setRow r v).setTag r t

/-- A row's tag word reads uncorrectable. -/
def State.tagBad (s : State) (r : Nat) : Bool := (s.badIn (tagAddr r) 32).isSome

/-- Segment `g` of a row reads uncorrectable. -/
def State.segBad (s : State) (r g : Nat) : Bool := s.bad (rowAddr r + 8 * g)

/-- Segments of a row that read uncorrectable. -/
def State.badSegments (s : State) (r : Nat) : List Nat := (List.range 128).filter (s.segBad r)

/-- The erasure count of a tag (R198). -/
def Tag.erasures (t : Tag) : Nat := popcount 128 t.erased.toNat

/-- Segment `g` is erased. -/
def Tag.isErased (t : Tag) (g : Nat) : Bool := t.erased.getLsbD g

/-- Sets or clears the erasure bit of a segment. -/
def Tag.markErased (t : Tag) (g : Nat) (on : Bool) : Tag :=
  { t with erased := if on then t.erased ||| (1#128 <<< g) else t.erased &&& ~~~(1#128 <<< g) }

/-- Keeps one entry of each run of equal numbers. -/
def squeeze : List Nat → List Nat
  | [] => []
  | [a] => [a]
  | a :: b :: l => if a = b then squeeze (b :: l) else a :: squeeze (b :: l)

/-- Rows whose tag is not all zero, ascending; every other row has `tag.valid` and `tag.spent` zero. -/
def State.taggedRows (s : State) : List Nat :=
  squeeze ((s.mem.filter (fun c => decide (0x01000000 ≤ c.1) && decide (c.1 < 0x01080000))).map
    (fun c => (c.1 - 0x01000000) / 32))

/-- The entry of a sparse map, zero when it is not listed. -/
def sparse (l : List (Nat × Nat)) (k : Nat) : Nat := errorsAt l k

/-- Sets an entry of a sparse map; zero removes it. -/
def setSparse (l : List (Nat × Nat)) (k v : Nat) : List (Nat × Nat) := setErrors l k v

/-- Inserts into an ascending list without repeats. -/
def insertUp (l : List Nat) (k : Nat) : List Nat :=
  l.filter (fun x => decide (x < k)) ++ (k :: l.filter (fun x => decide (k < x)))

/-- Changes the element at an index. -/
def modifyAt {α : Type} (l : List α) (i : Nat) (f : α → α) : List α := l.modify i f

end Sys2Proof.Machine
end

