-- ==== Sys2Proof/Machine/Operands.lean ====
section
/-! DEFINITION. Sys2Proof/Machine/Operands.lean: every form in which the outside world hands the SL640 something: strap
and label measurements (R22 to R46), the settings they decode to (R33 to R43), the library image (R299 to R302), the
band plan (R300), Yarud frames (R315 to R318) and the payloads of the fleet's frames (R342, R352, R356). -/

namespace Sys2Proof.Machine

/-! ### Straps -/

/-- Windows of levels 1 to 14 in ohms, both edges included (R22, R23). -/
def strapWindows : List (Nat × Nat) :=
  [(2320, 4320), (5650, 7650), (9000, 11000), (12300, 14300), (15500, 17500), (19000, 21000), (22200, 24200)] ++
  [(25700, 27700), (29100, 31100), (32200, 34200), (35500, 37500), (39200, 41200), (42200, 44200), (45400, 47400)]

/-- The level a resistance in ohms decodes to; none in a guard band (R22, R23). -/
def strapLevel (ohms : Nat) : Option Nat :=
  if ohms ≤ 1000 then some 0
  else if 55000 < ohms then some 15
  else (strapWindows.findIdx? (fun w => decide (w.1 ≤ ohms) && decide (ohms ≤ w.2))).map (· + 1)

/-- `s_ref - s_zero` lies in the accepted range (R28). -/
def refGood (off ref : Nat) : Bool := decide (off + 8000 ≤ ref) && decide (ref ≤ off + 18000)

/-- The sum of the eight codes of a measurement (R27). -/
def codeSum (c : Codes) : Nat := (c.toList.map BitVec.toNat).sum

/-- The resistance in ohms from the three sums (R27). -/
def strapOhms (off ref pin : Nat) : Nat := 49900 * (pin - off) / (ref - off)

/-- A pin's resistance in one measurement, when its `RREF` measurement is accepted (R27, R28). -/
def pinOhms (off ref pin : Nat) : Option Nat := if refGood off ref then some (strapOhms off ref pin) else none

/-- Sum `i` of pass `p`: 0 the zero reference, 1 `RREF`, 2 to 13 `CFG0` to `CFG11`, 14 `LABEL` (R29). -/
def Straps.sum (x : Straps) (p i : Nat) : Nat := x.sums.reverse.getD (15 * p + i) 0

/-- Resistance of input `k` (1 to 12 `CFG0` to `CFG11`, 13 `LABEL`) in pass `p`. -/
def Straps.ohms (x : Straps) (p k : Nat) : Option Nat := pinOhms (x.sum p 0) (x.sum p 1) (x.sum p (k + 1))

/-- Level of input `k` in pass `p`. -/
def Straps.level (x : Straps) (p k : Nat) : Option Nat := (x.ohms p k).bind strapLevel

/-- The codes that input `k` reserves: `CFG2` 14 and 15, `CFG4` 12 to 15, `CFG8` 1, 5, 9 and 13, `CFG9` 1 to 7
(R34, R36, R40, R41). -/
def reservedCode (k code : Nat) : Bool :=
  if k = 3 then decide (14 ≤ code)
  else if k = 5 then decide (12 ≤ code)
  else if k = 9 then decide (code % 4 = 1)
  else if k = 10 then decide (1 ≤ code) && decide (code ≤ 7)
  else false

/-- Every pass accepted its `RREF` measurement (R28). -/
def Straps.refsGood (x : Straps) : Bool := [0, 1, 2].all (fun p => refGood (x.sum p 0) (x.sum p 1))

/-- Status of input `k`: 0 `RREF`, 1 to 12 `CFG0` to `CFG11`, 13 `LABEL`, 14 `TEST_N` (R46). -/
def Straps.status (x : Straps) (k : Nat) : Nat :=
  if k = 0 then (if x.refsGood then 0 else 4)
  else if k = 14 then (if x.testLow.any id then 5 else 0)
  else if !x.refsGood then 6
  else match x.level 0 k, x.level 1 k, x.level 2 k with
    | some a, some b, some c => if a = b ∧ b = c then (if reservedCode k c then 2 else 0) else 3
    | _, _, _ => 1

/-- Decoded level of input `k` in the configuration echo (R46). -/
def Straps.echoLevel (x : Straps) (k : Nat) : Nat :=
  if k = 0 then 0
  else if k = 14 then (if x.testLow.any id then 0 else 1)
  else (x.level 2 k).getD 0

/-- The measured value of input `k` in the configuration echo (R249). Where `s_ref` of pass 3 is below its `s_zero`, the
field of `RREF` holds the difference modulo 2^24: the model's choice, since neither R46 nor R249 says what it holds then
(log 65). -/
def Straps.echoValue (x : Straps) (k : Nat) : Nat :=
  if k = 0 then (x.sum 2 1 + 2 ^ 24 - x.sum 2 0) % 2 ^ 24
  else if k = 14 then 0
  else satTo 0xFFFFFF ((x.ohms 2 k).getD 0)

/-- First input whose status is not good (R46). -/
def Straps.firstFailed (x : Straps) : Option Nat := (List.range 15).find? (fun k => x.status k != 0)

/-- The cause code of a status (R46). -/
def causeOfStatus (st : Nat) : Nat :=
  if st = 4 then 4 else if st = 1 then 1 else if st = 3 then 3 else if st = 5 then 5 else if st = 2 then 2 else 0

/-- A key block is programmed: its programmed fuse is burnt and its check fuses equal the CRC-32 of its key (R396). -/
def KeyBlock.isProgrammed (k : KeyBlock) : Bool :=
  k.programmed && decide (k.check = crc32 (leBytes 32 k.key.toNat))

/-- Any fuse of the block is burnt (R396). -/
def KeyBlock.touched (k : KeyBlock) : Bool := k.programmed || k.key != 0 || k.check != 0

/-- The key's bytes, byte 0 first (R396). -/
def KeyBlock.bytes (k : KeyBlock) : List Byte := leBytes 32 k.key.toNat

/-! ### Settings -/

/-- Code of `CFGi` (R33 to R43). -/
def State.cfg (s : State) (i : Nat) : Nat := s.straps.codes.getD i 0

/-- Ring ID (R33). -/
def State.ringId (s : State) : Nat := 16 * s.cfg 0 + s.cfg 1

/-- Number of enabled channels (R34). -/
def State.channels (s : State) : Nat := [1, 2, 3, 4, 6, 8, 10, 12, 14, 16, 20, 24, 28, 32].getD (s.cfg 2) 0

/-- Output period P in timestamp counts (R35, R101). -/
def State.period (s : State) : Nat := [256, 128, 64, 32].getD (s.cfg 3 / 4) 256

/-- The load input is on (R35). -/
def State.loadOn (s : State) : Bool := bitOf (s.cfg 3) 1

/-- Voltage sensor mode (R35). -/
def State.voltageMode (s : State) : Bool := bitOf (s.cfg 3) 0

/-- The three sync modes (R36). -/
inductive SyncMode where
  | free | boundary | hardAlign
  deriving DecidableEq, Repr

/-- Sync mode (R36). -/
def State.syncMode (s : State) : SyncMode :=
  if s.cfg 4 / 4 = 0 then .free else if s.cfg 4 / 4 = 1 then .boundary else .hardAlign

/-- `L_max` (R36). -/
def State.lMax (s : State) : Nat := 1024 * 2 ^ (s.cfg 4 % 4)

/-- `L_min` (R140). -/
def State.lMin (s : State) : Nat := s.lMax / 4

/-- Edges per boundary E (R37). -/
def State.edgesPerBoundary (s : State) : Nat := 2 ^ (s.cfg 5 / 4)

/-- Edges per revolution R_e (R37). -/
def State.edgesPerRev (s : State) : Nat := 2 ^ (s.cfg 5 % 4)

/-- Kindling duration in timestamp counts; none for never seasoned (R38, R217). -/
def State.kindlingCounts (s : State) : Option Nat :=
  if s.cfg 6 = 15 then none
  else some ([0, 1, 2, 4, 8, 12, 24, 48, 72, 96, 168, 336, 500, 720, 1000].getD (s.cfg 6) 0 * 3600 * 6144000)

/-- Alert level, alarm level and persistence k (R39). -/
def sensitivity (code : Nat) : Nat × Nat × Nat :=
  ([(450, 650, 2), (450, 700, 3), (500, 700, 3), (500, 750, 3), (500, 750, 5), (550, 800, 3), (550, 800, 5),
    (600, 850, 3)] ++
   [(600, 850, 5), (650, 900, 4), (650, 900, 6), (700, 950, 4), (700, 950, 6), (750, 1000, 5), (800, 1000, 7),
    (600, 900, 4)]).getD code (600, 900, 4)

/-- Alert level (R39). -/
def State.alertLevel (s : State) : Nat := (sensitivity (s.cfg 7)).1

/-- Alarm level (R39). -/
def State.alarmLevel (s : State) : Nat := (sensitivity (s.cfg 7)).2.1

/-- Persistence k (R39). -/
def State.persistence (s : State) : Nat := (sensitivity (s.cfg 7)).2.2

/-- Partition profile, 0 to 3 (R40). -/
def State.profile (s : State) : Nat := s.cfg 8 / 4

/-- A library image is declared (R40). -/
def State.libDeclared (s : State) : Bool := bitOf (s.cfg 8) 1

/-- Image authentication is required (R40). -/
def State.imageAuth (s : State) : Bool := bitOf (s.cfg 8) 0

/-- The ring is on (R41). -/
def State.ringOn (s : State) : Bool := decide (8 ≤ s.cfg 9)

/-- 1000 Mb/s (R41). -/
def State.ringFast (s : State) : Bool := s.ringOn && bitOf (s.cfg 9) 2

/-- The unit is a collector (R41). -/
def State.collector (s : State) : Bool := s.ringOn && bitOf (s.cfg 9) 1

/-- Ring authentication is required (R41). -/
def State.ringAuth (s : State) : Bool := s.ringOn && bitOf (s.cfg 9) 0

/-- Flue baud rate (R42, R47). -/
def State.baud (s : State) : Nat :=
  if s.straps.flueFallback then 115200
  else [115200, 230400, 460800, 921600, 1000000, 1500000, 2000000, 4000000].getD (s.cfg 10 / 2) 115200

/-- The alarms-only record set (R42, R47). -/
def State.alarmsOnly (s : State) : Bool := !s.straps.flueFallback && bitOf (s.cfg 10) 0

/-- Voltage scaling is on (R43). -/
def State.scaling (s : State) : Bool := bitOf (s.cfg 11) 3

/-- The sleep state of the sleep row: none, BANKED or EMBER (R43). -/
def State.sleepState (s : State) : Option DevState :=
  if s.cfg 11 % 8 = 0 then none else if s.cfg 11 % 8 ≤ 3 then some .banked else some .ember

/-- Idle time of the sleep row in seconds (R43). -/
def State.idleSeconds (s : State) : Nat := [0, 60, 60, 600, 600, 600, 3600, 3600].getD (s.cfg 11 % 8) 0

/-- Spot-wake interval of the sleep row in seconds (R43). -/
def State.spotSeconds (s : State) : Option Nat :=
  [none, none, some 900, some 3600, none, some 3600, some 14400, some 86400].getD (s.cfg 11 % 8) none

/-- Number of library rows of the profile (R195). -/
def State.libraryRows (s : State) : Nat := [8192, 4096, 2048, 0].getD s.profile 0

/-- The class of a row's partition: 0 library, 1 normal, 2 taught, 3 fleet (R195, R197). -/
def State.partition (s : State) (r : Nat) : Nat :=
  if r < s.libraryRows then 0 else if r < 8192 then 3 else if r < 15360 then 1 else 2

/-- The row's bank is retired (R196). -/
def State.isRetired (s : State) (r : Nat) : Bool := s.hearth.retired.contains (bankOf r)

/-! ### Library image -/

/-- Length of a row record, of the band plan and of the header (R298 to R301). -/
def recordLen : Nat := 1064

/-- Length of the band plan (R300). -/
def planLen : Nat := 2048

/-- The fields of a header (R299). -/
def LibHeader.parse (h : List Byte) : LibHeader where
  rdcmd := byteAt h 6
  clk := byteAt h 7
  flags := byteAt h 8
  tres := byteAt h 9
  depth := byteAt h 10
  mclass := byteAt h 11
  build := fieldAt h 12 4
  seed := fieldAt h 16 8
  nrows := fieldAt h 24 2
  digest := slice h 32 32

/-- The first header check that fails, with its cause and the address of the first failing field (R305, R306). -/
def headerFailure (auth : Bool) (key : List Byte) (h : List Byte) : Option (Nat × Nat) :=
  if slice h 0 4 ≠ [0x53#8, 0x4C#8, 0x36#8, 0x34#8] then some (1, 0)
  else if fieldAt h 220 4 ≠ (crc32 (slice h 0 220)).toNat then some (2, 220)
  else if fieldAt h 4 2 ≠ 1 then some (3, 4)
  else if byteAt h 6 ≠ 0x03 ∧ byteAt h 6 ≠ 0x0B ∧ byteAt h 6 ≠ 0x6B then some (3, 6)
  else if 2 < byteAt h 7 then some (3, 7)
  else if byteAt h 9 = 0 ∨ 100 < byteAt h 9 then some (3, 9)
  else if byteAt h 10 = 0 ∨ 4 < byteAt h 10 then some (3, 10)
  else if 8192 < fieldAt h 24 2 then some (3, 24)
  else if fieldAt h 28 4 ≠ planLen + recordLen * fieldAt h 24 2 then some (3, 28)
  else if auth ∧ ¬ bitOf (byteAt h 8) 1 then some (4, 8)
  else if auth ∧ slice h 224 32 ≠ hmacSha256 key (slice h 0 224) then some (4, 224)
  else none

/-- Offsets of the uint32 pair values of a band plan (R300). -/
def planPairOffsets : List Nat := (List.range 224).map (fun i => 16 + 4 * i)

/-- `lo` of feature f (R300). -/
def planLo (p : List Byte) (f : Nat) : Int := signedOf 32 (fieldAt p (912 + 8 * f) 4)

/-- `hi` of feature f (R300). -/
def planHi (p : List Byte) (f : Nat) : Int := signedOf 32 (fieldAt p (916 + 8 * f) 4)

/-- The first content check of a band plan that fails, by address order: its offset (R305, R306). A quantisation pair
fails at its `hi` (log 17). -/
def planContentFailure (p : List Byte) : Option Nat :=
  if 1 < byteAt p 0 then some 0
  else if 2 < byteAt p 1 then some 1
  else match planPairOffsets.find? (fun o => decide (65536 < fieldAt p o 4)) with
    | some o => some o
    | none => ((List.range 128).find? (fun f => decide (planHi p f ≤ planLo p f))).map (fun f => 916 + 8 * f)

/-- The plan's CRC matches (R300). -/
def planCrcGood (p : List Byte) : Bool := decide (fieldAt p 2044 4 = (crc32 (slice p 0 2044)).toNat)

/-- A record's CRC matches (R301). -/
def recordCrcGood (r : List Byte) : Bool := decide (fieldAt r 1056 4 = (crc32 (slice r 0 1056)).toNat)

/-- The tag of a row record (R301). -/
def recordTag (r : List Byte) : Tag := Tag.ofNat (fieldAt r 1024 32)

/-- The data of a row record (R301). -/
def recordData (r : List Byte) : HV := hvOfBytes (slice r 0 1024)

/-- A scope that no row may carry: 33 to 62 (R197). -/
def reservedScope (t : Tag) : Bool := decide (33 ≤ t.scope.toNat) && decide (t.scope.toNat ≤ 62)

/-- The first content check of a record that fails: the offset of the byte that holds the field (R305, R306). -/
def recordContentFailure (r : List Byte) : Option Nat :=
  let t := recordTag r
  if !t.valid then none
  else if reservedScope t then some (1024 + 16)
  else if t.severity = 3 then some (1024 + 18)
  else none

/-- The tag the loader writes for a record (R302): class library, not spent, no erasure, hits, generation or origin.
`valid` is set when the image is accepted (R303). -/
def loadedTag (t : Tag) (valid : Bool) (gen : BitVec 12) : Tag :=
  { t with erased := 0, cls := 0, valid := valid, spent := false, hits := 0, gen := gen, originId := 0, originSlot := 0 }

/-! ### Yarud frames -/

/-- A Yarud header (R316). -/
structure Header where
  ver : Nat := 1
  kind : Nat := 0
  cls : Nat := 0
  auth : Bool := false
  dst : Nat := 0
  src : Nat := 0
  hseq : Nat := 0
  epoch : Nat := 0
  aseq : Nat := 0
  aval : Bool := false
  nak : Bool := false
  e2e : Nat := 0
  hops : Nat := 0
  dir : Nat := 0
  turns : Nat := 0
  passed : Bool := false
  len : Nat := 0
  deriving DecidableEq, Repr

/-- Header bytes 0 to 13 (R316). -/
def Header.body (h : Header) : List Byte :=
  [BitVec.ofNat 8 (h.ver * 16 + h.kind), BitVec.ofNat 8 (h.cls + 64 * b2n h.auth), BitVec.ofNat 8 h.dst,
   BitVec.ofNat 8 h.src] ++
  leBytes 2 (h.hseq + 4096 * h.epoch) ++
  leBytes 2 (h.aseq + 4096 * b2n h.aval + 8192 * b2n h.nak) ++
  leBytes 2 h.e2e ++
  leBytes 2 (h.hops + 1024 * h.dir + 2048 * h.turns + 8192 * b2n h.passed) ++
  leBytes 2 h.len

/-- The 16 bytes of a header with `yh.hcrc` (R316, R317). -/
def Header.bytes (h : Header) : List Byte := h.body ++ leBytes 2 (crc16 h.body).toNat

/-- The header that 16 bytes spell (R316); reserved bits are ignored (R11). -/
def Header.parse (b : List Byte) : Header where
  ver := byteAt b 0 / 16
  kind := byteAt b 0 % 16
  cls := byteAt b 1 % 64
  auth := bitOf (byteAt b 1) 6
  dst := byteAt b 2
  src := byteAt b 3
  hseq := fieldAt b 4 2 % 4096
  epoch := fieldAt b 4 2 / 4096
  aseq := fieldAt b 6 2 % 4096
  aval := bitOf (fieldAt b 6 2) 12
  nak := bitOf (fieldAt b 6 2) 13
  e2e := fieldAt b 8 2
  hops := fieldAt b 10 2 % 1024
  dir := bits (fieldAt b 10 2) 10 1
  turns := bits (fieldAt b 10 2) 11 2
  passed := bitOf (fieldAt b 10 2) 13
  len := fieldAt b 12 2 % 2048

/-- `yh.hcrc` is correct (R317). -/
def headerCrcGood (b : List Byte) : Bool := decide (fieldAt b 14 2 = (crc16 (slice b 0 14)).toNat)

/-- The outcome of the FCS check of a received frame: correct, stomped or wrong (R320). -/
inductive Fcs where
  | good | stomped | wrong
  deriving DecidableEq, Repr

/-- The FCS of a frame from header to FCS (R315, R320). -/
def fcsOf (b : List Byte) : Fcs :=
  let c := crc32 (b.take (b.length - 4))
  let f := BitVec.ofNat 32 (fieldAt b (b.length - 4) 4)
  if f = c then .good else if f = ~~~c then .stomped else .wrong

/-- A frame from header to FCS, padded to 64 bytes (R315); a stomped frame carries the complemented FCS (R320). -/
def wireFrame (header : Header) (payload tag : List Byte) (stomp : Bool) : List Byte :=
  let b := header.bytes ++ payload ++ tag
  let b := b ++ List.replicate (60 - b.length) 0#8
  let c := crc32 b
  b ++ leBytes 4 (if stomp then ~~~c else c).toNat

/-- Traffic type of a class (R317). -/
def trafficType (cls : Nat) : Nat := cls / 8

/-- Tier of a traffic type (R317). -/
def trafficTier (t : Nat) : Nat := [0, 1, 1, 2, 2, 3, 3, 3].getD t 3

/-- Lane of a source channel (R318). -/
def laneOf (s : Nat) : Nat := (s ^^^ (s >>> 3)) % 8

/-- Class of a traffic type and source channel (R318). -/
def classOf (t s : Nat) : Nat := t * 8 + laneOf s

/-- Cells a data frame occupies (R326). -/
def cellsOf (len : Nat) (auth : Bool) : Nat := (16 + len + 8 * b2n auth + 255) / 256

/-- The data frame that bytes from header to FCS spell. -/
def YFrame.parse (b : List Byte) : YFrame :=
  let h := Header.parse b
  { auth := h.auth, cls := h.cls, dst := h.dst, src := h.src, e2e := h.e2e, hops := h.hops, dir := h.dir,
    turns := h.turns, passed := h.passed, payload := slice b 16 h.len,
    tag := if h.auth then slice b (16 + h.len) 8 else [] }

/-- The bytes of a frame that its tag covers: header bytes 0 to 3, 8 to 9 and 12 to 13, then the payload (R337). -/
def YFrame.covered (f : YFrame) : List Byte :=
  let h : Header := { cls := f.cls, auth := f.auth, dst := f.dst, src := f.src, e2e := f.e2e, len := f.payload.length }
  slice h.body 0 4 ++ slice h.body 8 2 ++ slice h.body 12 2 ++ f.payload

/-- Number of cells of a frame (R326). -/
def YFrame.cellCount (f : YFrame) : Nat := cellsOf f.payload.length f.auth

/-- A full-circuit frame (R319). -/
def YFrame.fullCircuit (f : YFrame) : Bool := decide (f.dst = f.src)

/-- The answer block of a lane: best and responder (R342). `dbest` selects the layout of `fq.dbest`. -/
def answerBlock (dbest : Bool) (responder : Nat) (l : Lane) : List Byte :=
  if l.none then
    [0#8, 0#8] ++ leBytes 2 0xFFFF ++ leBytes 2 0x3FFF ++ leBytes 2 0 ++ leBytes 2 0 ++ leBytes 2 0 ++ leBytes 2 0 ++
      leBytes 2 0x3FFF
  else
    [1#8, BitVec.ofNat 8 responder] ++ leBytes 2 l.row ++ leBytes 2 l.dist ++ leBytes 2 l.radius ++
      (if dbest then [BitVec.ofNat 8 (l.severity + 4 * l.cls + 16 * l.label), 0#8] ++ leBytes 2 l.originSlot
       else leBytes 2 l.mu ++ leBytes 2 l.delta) ++
      leBytes 2 l.count ++ leBytes 2 l.second

/-- The lane and responder that an answer block spells (R342). -/
def parseBlock (dbest : Bool) (b : List Byte) : Lane × Nat :=
  let base : Lane :=
    { none := !bitOf (byteAt b 0) 0, row := fieldAt b 2 2, dist := fieldAt b 4 2, radius := fieldAt b 6 2,
      second := fieldAt b 14 2, count := fieldAt b 12 2 }
  let l := if dbest then
      { base with severity := byteAt b 8 % 4, cls := bits (byteAt b 8) 2 2, label := byteAt b 8 / 16,
                  originSlot := fieldAt b 10 2 }
    else { base with mu := fieldAt b 8 2, delta := fieldAt b 10 2 }
  (l, byteAt b 1)

/-- A fleet query payload (R342). -/
def queryPayload (kind scope bin lanes seedHash mclass reissue folded stamp : Nat) (vec : HV)
    (n d : List Byte) : List Byte :=
  [BitVec.ofNat 8 kind, BitVec.ofNat 8 scope, BitVec.ofNat 8 bin, BitVec.ofNat 8 lanes] ++ leBytes 4 seedHash ++
  [BitVec.ofNat 8 mclass, BitVec.ofNat 8 reissue] ++ leBytes 2 folded ++ leBytes 4 stamp ++ hvBytes vec ++ n ++ d

/-- A teach payload (R352). -/
def teachPayload (mclass slot seq seedHash : Nat) (tag : Tag) (data : HV) : List Byte :=
  [1#8, BitVec.ofNat 8 mclass] ++ leBytes 2 slot ++ leBytes 4 seq ++ leBytes 4 seedHash ++ leBytes 4 0 ++
  tag.bytes ++ hvBytes data

/-- A forget payload (R352). -/
def forgetPayload (mclass label seq seedHash freed : Nat) : List Byte :=
  [2#8, BitVec.ofNat 8 mclass, BitVec.ofNat 8 label, 0#8] ++ leBytes 4 seq ++ leBytes 4 seedHash ++ leBytes 4 0 ++
  leBytes 128 freed

/-- A sweep payload (R356): the slot's tag and data when it is taught. -/
def sweepPayload (mclass slot q fsend seedHash : Nat) (row : Option (Tag × HV)) : List Byte :=
  [BitVec.ofNat 8 (b2n row.isSome), BitVec.ofNat 8 mclass] ++ leBytes 2 slot ++ leBytes 4 q ++ leBytes 4 fsend ++
  leBytes 4 seedHash ++ (match row with | some (t, v) => t.bytes ++ hvBytes v | none => [])

/-- A census payload (R332). -/
def censusPayload (stamp seedHash mclass flags : Nat) : List Byte :=
  leBytes 4 stamp ++ leBytes 4 seedHash ++ [BitVec.ofNat 8 mclass, BitVec.ofNat 8 flags, 0#8, 0#8]

end Sys2Proof.Machine
end

