-- ==== Sys2Proof/Machine/Mram.lean ====
section
/-! DEFINITION. Sys2Proof/Machine/Mram.lean: what lies in the MRAM and how the MRAM controller writes it: the persistent
state (R285), journal entries and their commit (R280 to R282), ash records and the head search (R287 to R289). -/

namespace Sys2Proof.Machine

/-- Base of the persistent state (R285). -/
def persistBase : Nat := 0x08840000

/-- Addresses of the persistent fields (R285). -/
def bootCountAddr : Nat := persistBase + 0x1000

/-- Running time (R285). -/
def runSecondsAddr : Nat := persistBase + 0x1008

/-- End-to-end block mark (R285, R339). -/
def e2eMarkAddr : Nat := persistBase + 0x1010

/-- Kindling counter of a cell (R285). -/
def kindlingAddr (cell : Nat) : Nat := persistBase + 0x2000 + cell * 8

/-- Spawn time of a normal row (R285). -/
def spawnAddr (r : Nat) : Nat := persistBase + 0xB000 + (r - 8192) * 4

/-- Sequence of a taught slot (R285). -/
def slotSeqAddr (i : Nat) : Nat := persistBase + 0x12000 + 4 * i

/-- Fleet sequence of an origin (R285). -/
def fleetSeqAddr (o : Nat) : Nat := persistBase + 0x13000 + 4 * o

/-- Address of a journal slot (R285). -/
def slotAddr (k : Nat) : Nat := persistBase + 0x800 * k

/-- Address of an ash record (R287). -/
def ashAddr (i : Nat) : Nat := 0x08880000 + 64 * i

/-- The tag of a freed row: zero in every field but its class (R281). -/
def freedTag (cls : BitVec 2) : Tag := { cls := cls }

/-- Bytes 0 to 47 of a journal entry (R280). -/
def Entry.head (e : Entry) (seq : Nat) : List Byte :=
  leBytes 4 seq ++ [BitVec.ofNat 8 e.kind, 0#8] ++ leBytes 2 (if e.kind = 4 then 0xFFFF else e.row) ++
  leBytes 4 e.spawn ++ leBytes 4 0 ++ e.tag.bytes

/-- `jn.crc` (R280). -/
def Entry.crc (e : Entry) (seq : Nat) : List Byte :=
  leBytes 4 (crc32 (e.head seq ++ if e.kind = 1 then hvBytes e.data else [])).toNat

/-- A byte string as words of eight bytes from an address on. -/
def asWords : Nat → List Byte → Nat → List (Nat × List Byte)
  | 0, _, _ => []
  | k + 1, bs, a => (a, bs.take 8) :: asWords k (bs.drop 8) (a + 8)

/-- The words of the journal write, the one with `jn.crc` last (R281). -/
def Entry.journalWrites (e : Entry) (seq slot : Nat) : List (Nat × List Byte) :=
  let tail := e.crc seq ++ leBytes 4 0
  if e.kind = 1 then asWords 135 (e.head seq ++ hvBytes e.data ++ tail) (slotAddr slot)
  else asWords 6 (e.head seq) (slotAddr slot) ++ [(slotAddr slot + 1072, tail)]

/-- The words that free a learned row in the vault: its tag, and a normal row's spawn time (R281). -/
def freeWrites (row : Nat) (cls : BitVec 2) : List (Nat × List Byte) :=
  asWords 4 (freedTag cls).bytes (vaultTagAddr row) ++ (if row < 15360 then [(spawnAddr row, leBytes 4 0)] else [])

/-- The words of step 2 of a commit (R281). -/
def Entry.vaultWrites (e : Entry) : List (Nat × List Byte) :=
  if e.kind = 1 then
    asWords 128 (hvBytes e.data) (vaultAddr e.row) ++ asWords 4 e.tag.bytes (vaultTagAddr e.row) ++
    (if e.row < 15360 then [(spawnAddr e.row, leBytes 4 e.spawn)] else [])
  else if e.kind = 2 then asWords 4 e.tag.bytes (vaultTagAddr e.row)
  else if e.kind = 3 then freeWrites e.row e.tag.cls
  else (List.range 7168).flatMap (fun i => freeWrites (8192 + i) 1) ++
    (List.range 4224).map (fun c => (kindlingAddr c, leBytes 8 0))

/-- Writes a list of words. -/
def State.writeAll (s : State) (ws : List (Nat × List Byte)) : State := ws.foldl (fun s w => s.poke w.1 w.2) s

/-- Step 2 of a commit, whole (R281). A REKINDLE entry frees every normal row and clears every kindling counter. -/
def State.applyEntry (s : State) (e : Entry) : State :=
  if e.kind = 4 then
    ((s.poke (vaultTagAddr 8192) ((List.replicate 7168 (freedTag 1).bytes).flatten)).wipe (spawnAddr 8192) 28672).wipe
      (kindlingAddr 0) 33792
  else s.writeAll e.vaultWrites

/-- The MRAM controller's whole commit of the oldest held entry: the journal write, then the vault (R281). -/
def State.commitEntry (s : State) (e : Entry) : State :=
  let v := s.vault
  let written := s.writeAll (e.journalWrites v.nextSeq v.nextSlot)
  let s' := written.applyEntry e
  { s' with vault := { v with
      entries := v.entries.drop 1
      nextSeq := (v.nextSeq + 1) % 2 ^ 32
      nextSlot := 1 - v.nextSlot
      slots := v.slots.set v.nextSlot (some (written.peek (slotAddr v.nextSlot) 1080)) } }

/-- The words of the commit of the oldest held entry, in the order they are written. -/
def State.entryWrites (s : State) : List (Nat × List Byte) :=
  match s.vault.entries with
  | [] => []
  | e :: _ => e.journalWrites s.vault.nextSeq s.vault.nextSlot ++ e.vaultWrites

/-- The 64 bytes of an ash record (R287). -/
def AshRec.bytes (r : AshRec) (seq boot : Nat) : List Byte :=
  let body := [BitVec.ofNat 8 r.type] ++ leBytes 4 seq ++ leBytes 3 boot ++ leBytes 7 r.time ++
    (r.payload ++ List.replicate (40 - r.payload.length) 0#8) ++ leBytes 4 0
  [0x5A#8] ++ body ++ leBytes 4 (crc32 body).toNat

/-- The words of an ash write: words 1 to 7, then word 0 with the commit byte (R288). -/
def AshRec.writes (r : AshRec) (seq boot : Nat) : List (Nat × List Byte) :=
  let ws := asWords 8 (r.bytes seq boot) (ashAddr (seq % 8192))
  ws.drop 1 ++ ws.take 1

/-- Writes one ash record at next_seq, which then advances by one (R288, R289). -/
def State.writeAsh (s : State) (r : AshRec) : State :=
  let s' := s.writeAll (r.writes s.ash.nextSeq s.vault.bootCount)
  { s' with ash := { s.ash with nextSeq := (s.ash.nextSeq + 1) % 2 ^ 32 } }

/-- The stored bytes of ash record `i` form a valid record (R288). An uncorrectable word leaves it invalid (R269). -/
def State.ashValid (s : State) (i : Nat) : Bool :=
  let b := s.peek (ashAddr i) 64
  (s.badIn (ashAddr i) 64).isNone && decide (byteAt b 0 = 0x5A) &&
  decide (fieldAt b 60 4 = (crc32 (slice b 1 59)).toNat) && decide (fieldAt b 2 4 % 8192 = i)

/-- Indices of ash records that are not all zero, ascending. -/
def State.ashUsed (s : State) : List Nat :=
  squeeze ((s.mem.filter (fun c => decide (0x08880000 ≤ c.1) && decide (c.1 < 0x08900000))).map
    (fun c => (c.1 - 0x08880000) / 64))

/-- One step of the head search: the head so far, by serial comparison (R289). -/
def laterHead (head : Option Nat) (seq : Nat) : Option Nat :=
  match head with
  | none => some seq
  | some h => if 0 < serial32 seq h then some seq else some h

/-- next_seq as the head search finds it (R289). -/
def State.ashHead (s : State) : Nat :=
  let valid := s.ashUsed.filter s.ashValid
  match (valid.map (fun i => fieldAt (s.peek (ashAddr i) 64) 2 4)).foldl laterHead none with
  | none => 0
  | some h => (h + 1) % 2 ^ 32

/-- A journal slot's bytes are valid: a defined kind and a matching CRC, with no uncorrectable word (R271, R282). -/
def State.slotValid (s : State) (k : Nat) : Bool :=
  let b := s.peek (slotAddr k) 1080
  let kind := byteAt b 4
  let covered := if kind = 1 then slice b 0 1072 else slice b 0 48
  decide (1 ≤ kind) && decide (kind ≤ 4) && decide (fieldAt b 1072 4 = (crc32 covered).toNat) &&
  (s.badIn (slotAddr k) 48).isNone && !s.bad (slotAddr k + 1072) &&
  (if kind = 1 then (s.badIn (slotAddr k) 1080).isNone else true)

/-- The sequence of a journal slot. -/
def State.slotSeqOf (s : State) (k : Nat) : Nat := s.peekNat (slotAddr k) 4

/-- The entry a journal slot holds. -/
def State.slotEntry (s : State) (k : Nat) : Entry :=
  let b := s.peek (slotAddr k) 1080
  { kind := byteAt b 4, row := fieldAt b 6 2, spawn := fieldAt b 8 4, tag := Tag.ofNat (fieldAt b 16 32),
    data := if byteAt b 4 = 1 then hvOfBytes (slice b 48 1024) else 0 }

/-- The slot with the later valid entry (R282). -/
def State.laterSlot (s : State) : Option Nat :=
  if s.slotValid 0 then
    if s.slotValid 1 then (if 0 < serial32 (s.slotSeqOf 1) (s.slotSeqOf 0) then some 1 else some 0) else some 0
  else if s.slotValid 1 then some 1 else none

end Sys2Proof.Machine
end

