-- ==== Sys2Proof/Machine/Flags.lean ====
section
/-! DEFINITION. Sys2Proof/Machine/Flags.lean: every flag, mask, pin and lamp that the SL640 computes from its state: the
causes of `FAULT_N` (R240), the alert and alarm pins (R238), the `HEALTH` code (R242), the LEDs (R244), and the flag
bytes of the heartbeat and the frame summary (R249). -/

namespace Sys2Proof.Machine

/-- A channel status that is withdrawn: 0x3, 0x4 or 0x5 (R115). -/
def withdrawn (status : Nat) : Bool := decide (3 ≤ status) && decide (status ≤ 5)

/-- The enabled channels (R34). -/
def State.enabled (s : State) : List Chan := s.chans.take s.channels

/-- An enabled channel is withdrawn (R240, R244). -/
def State.anyWithdrawn (s : State) : Bool := s.enabled.any (fun c => withdrawn c.status)

/-- `FAULT_N` causes: bit 0 channel withdrawn, bit 1 LOAD_FAULT, bit 2 no queries (R240, R249). -/
def State.faultCauses (s : State) : Nat := b2n s.anyWithdrawn + s.out.faultCauses

/-- Pin states of the alarm change record (R249). -/
def Outputs.pins (o : Outputs) : Nat := b2n o.alert + 2 * b2n o.alarm + 4 * b2n o.fault

/-- Count of levels that are at least `n` among the last 8 (R230, R238). -/
def levelsAtLeast (levels : List Nat) (n : Nat) : Nat := (levels.filter (fun l => decide (n ≤ l))).length

/-- One alarm pin: asserted when the count reaches k, released when it is at most floor((k - 1) / 2) (R238). -/
def pinLogic (count k : Nat) (pin : Bool) : Bool :=
  if k ≤ count then true else if count ≤ (k - 1) / 2 then false else pin

/-- The `HEALTH` code of a tick health (R242). -/
def healthCode (h : Nat) : Nat := 800 + (16 * h + 2) / 5

/-- The `HEALTH` code of 0.360 V (R64, R242). -/
def healthLow : Nat := 720

/-- A ring port is down or the ring is wrapped (R244). -/
def State.ringBroken (s : State) : Bool := s.ringOn && (!s.ring.portA.up || !s.ring.portB.up || s.ring.wrapped)

/-- What `LED0` shows (R244). -/
def State.led0Pattern (s : State) : Pattern :=
  match s.mode with
  | .bist | .load => .flash 1
  | .run => if s.learn.teach.isSome then .flash 4 else if s.out.alert then .flash 2 else .on
  | _ => .off

/-- What `LED1` shows (R244). -/
def State.led1Pattern (s : State) : Pattern :=
  match s.mode with
  | .configFault => .blink 2
  | .fault => .blink 3
  | .run =>
    if s.out.alarm then .on
    else if s.ring.clashAt.isSome then .blink 5
    else if s.anyWithdrawn then .blink 1
    else if bitOf s.out.faultCauses 1 then .blink 6
    else if s.ringBroken then .blink 4
    else if s.hearth.retired ≠ [] then .blink 7
    else .off
  | _ => .off

/-- Length of a phase of what an LED shows, in timebase periods; none for a steady pattern (R244). -/
def phaseLength (p : Pattern) (phase : Nat) : Option Nat :=
  match p with
  | .off | .on => none
  | .flash hz => some (24576000 / (2 * hz))
  | .blink n => some (if phase = 2 * n then 29491200 else 4915200)

/-- The phase after a phase (R244). -/
def nextPhase (p : Pattern) (phase : Nat) : Nat :=
  match p with
  | .off | .on => 0
  | .flash _ => 1 - phase
  | .blink n => if phase = 2 * n then 0 else phase + 1

/-- Whether an LED is lit in a phase (R244). -/
def phaseLit (p : Pattern) (phase : Nat) : Bool :=
  match p with
  | .off => false
  | .on => true
  | .flash _ => decide (phase = 0)
  | .blink n => decide (phase < 2 * n) && decide (phase % 2 = 0)

/-- An LED that starts to show a pattern from its first flash (R244). -/
def Led.start (p : Pattern) (clock : Nat) : Led := { pattern := p, phase := 0, since := clock, lit := phaseLit p 0 }

/-- An LED that goes on showing its pattern, or starts the new one at once (R244). -/
def Led.show (l : Led) (p : Pattern) (clock : Nat) : Led := if l.pattern = p then l else Led.start p clock

/-- The LEDs take the latest state of their sources (R135, R244). -/
def State.settle (s : State) : State :=
  { s with out := { s.out with
      led0 := s.out.led0.show s.led0Pattern s.clock
      led1 := s.out.led1.show s.led1Pattern s.clock } }

/-- A tick is CLIPPED on a channel: its `OVER` count reaches floor(L / 1,000) + 1 (R116). -/
def clippedFrame (len overs : Nat) : Bool := decide (len / 1000 + 1 ≤ overs)

/-- The channel frames of a tick that are valid (R14). -/
def Tick.valid (t : Tick) : List ChanFrame := t.frames.filter (fun f => !decide (f.stage = .discarded))

/-- Valid-channel mask (R249). -/
def Tick.validMask (t : Tick) : Nat := maskOf (t.valid.map ChanFrame.chan)

/-- CLIPPED valid channels (R116, R117). -/
def Tick.clipped (t : Tick) : List Nat :=
  (t.valid.filter (fun f => clippedFrame t.len f.overs)).map ChanFrame.chan

/-- A frame status that learns: FREE or LOCKED (R147). -/
def statusLearns (st : Nat) : Bool := decide (st ≤ 1)

/-- Flag byte of the frame summary (R249). -/
def Tick.flags (t : Tick) : Nat :=
  b2n (t.clipped ≠ []) + 2 * b2n t.loadFault + 4 * b2n t.ngramShort + 8 * b2n t.kindling +
  16 * b2n (t.queries.any (fun q => (q.result.map Recall.erasedSeen).getD false)) +
  32 * b2n (t.queries.any (fun q => !(q.result.map Recall.guard).getD true)) +
  64 * b2n (t.queries = [])

/-- Flag byte of the heartbeat (R249). -/
def State.heartbeatFlags (s : State) (powerFail : Bool) : Nat :=
  b2n powerFail + 2 * b2n s.flue.wakeMask.isSome + 4 * b2n (s.panel.hold = some true) + 8 * b2n s.power.hot +
  16 * b2n s.scaling

end Sys2Proof.Machine
end

