-- ==== Sys2Proof/Machine/Ops.lean ====
section
/-! DEFINITION. Sys2Proof/Machine/Ops.lean: the shared operations of the SL640: time (R102), how a command acts, own ring
frames (R317, R319, R326, R328, R339), flue records and gaps (R247, R251, R252), ash records (R290), the event router
(R136), memory events (R249), and entry to RESET (R61). -/

namespace Sys2Proof.Machine

/-! ### Time -/

/-- Timebase periods of one millisecond (24.576 MHz). -/
def perMs : Nat := 24576

/-- Timebase periods of one second. -/
def perSec : Nat := 24576000

/-- The least number of timebase periods that spans 100 µs (R56, R96): 2,457.6 rounded up. -/
def per100us : Nat := 2458

/-- Time passes. -/
def State.elapse (s : State) (dt : Nat) : State := { s with clock := s.clock + dt }

/-- The 56-bit timestamp counter: one count for four timebase periods since it was cleared (R102, R61). -/
def State.ts (s : State) : Nat := (s.clock - s.tsStart) / 4 % 2 ^ 56

/-- The clock at which the timestamp counter reads `t`. -/
def State.clockOf (s : State) (t : Nat) : Nat := s.tsStart + 4 * t

/-- What a stopwatch shows. -/
def Stopwatch.read (w : Stopwatch) (clock : Nat) : Nat :=
  w.acc + (match w.since with | some t => clock - t | none => 0)

/-- A stopwatch that starts from zero. -/
def Stopwatch.start (clock : Nat) : Stopwatch := { acc := 0, since := some clock }

/-- Stops a stopwatch. -/
def Stopwatch.stop (w : Stopwatch) (clock : Nat) : Stopwatch := { acc := w.read clock, since := none }

/-- Lets a stopwatch go on. -/
def Stopwatch.go (w : Stopwatch) (clock : Nat) : Stopwatch :=
  match w.since with
  | some _ => w
  | none => { w with since := some clock }

/-- Device running time in seconds (R220). -/
def State.runSeconds (s : State) : Nat := s.vault.runSeconds + s.power.running.read s.clock / perSec

/-- A step-up pause is in progress (R96). -/
def State.paused (s : State) : Bool := s.volt.pauseAt.isSome

/-- The core works in RUN: no step-up pause is in progress, in which no core handshake starts (R96). -/
def State.coreRuns (s : State) : Bool := decide (s.mode = .run) && !s.paused

/-- Takes the next free value's number. -/
def State.useFree (s : State) : State := { s with freeCount := s.freeCount + 1 }

/-! ### How a command acts -/

/-- A command: time passes, and when the event's conditions hold it has its effect and the LEDs follow. An event that is
offered while its conditions do not hold does not come about (log 1). -/
def event (dt : Nat) (cond : State → Bool) (effect : State → State) (s : State) :
    Host.Outcome State Fault Refusal :=
  let u := s.elapse dt
  if cond u then .next (effect u).settle else .next u

/-- A command whose operand must have a form that the outside world can bring; any other form is a fault (log 2). -/
def eventOf (form : State → Bool) (dt : Nat) (cond : State → Bool) (effect : State → State) (s : State) :
    Host.Outcome State Fault Refusal :=
  if form s then event dt cond effect s else .fault .malformed

/-! ### Encoder parameters in force -/

/-- n-gram depth in force (R188, R306). -/
def State.depth (s : State) : Nat := if s.lib.accepted then s.lib.header.depth else 1

/-- Machine class in force (R299). -/
def State.mclass (s : State) : Nat := if s.lib.accepted then s.lib.header.mclass else 0

/-- A seed of 0 is replaced (R178). -/
def effectiveSeed (seed : Nat) : Nat := if seed = 0 then 0x9E3779B97F4A7C15 else seed

/-- Seed hash (R182). -/
def State.seedHash (s : State) : Nat :=
  (crc32 (leBytes 8 s.lib.seed ++ [BitVec.ofNat 8 s.depth])).toNat

/-! ### Own ring frames -/

/-- The port of a direction (R316). -/
def portOfDir (d : Nat) : Port := if d = 0 then .a else .b

/-- The other port. -/
def otherPort : Port → Port
  | .a => .b
  | .b => .a

/-- Number of a port (R249, R324). -/
def portNum : Port → Nat
  | .a => 0
  | .b => 1

/-- A port of the ring. -/
def Ring.port (r : Ring) : Port → LinkPort
  | .a => r.portA
  | .b => r.portB

/-- Replaces a port of the ring. -/
def Ring.setPort (r : Ring) (p : Port) (x : LinkPort) : Ring :=
  match p with
  | .a => { r with portA := x }
  | .b => { r with portB := x }

/-- Replaces a port. -/
def State.setPort (s : State) (p : Port) (x : LinkPort) : State := { s with ring := s.ring.setPort p x }

/-- Counts a discarded frame. -/
def State.countDiscard (s : State) : State := { s with ring := { s.ring with discards := s.ring.discards + 1 } }

/-- The unit takes part in fleet origination: ring on, RUN, no ID clash (R338). -/
def State.mayOriginate (s : State) : Bool :=
  s.ringOn && decide (s.mode = .run) && s.ring.clashAt.isNone

/-- A frame about to leave through a port whose link is down is turned, or discarded (R335). `own` says that this unit
originated it. None: discarded. -/
def turnFrame (r : Ring) (own : Bool) (f : YFrame) (out : Port) : Option (YFrame × Port) :=
  let mark (f : YFrame) (turned : Bool) : YFrame :=
    if own && f.fullCircuit && (decide (f.turns = 1) || (turned && decide (f.turns = 2))) then { f with passed := true }
    else f
  if (r.port out).up then some (mark f false, out)
  else if !(r.port (otherPort out)).up then none
  else if 2 ≤ f.turns then none
  else some (mark { f with dir := 1 - f.dir, turns := f.turns + 1 } true, otherPort out)

/-- Cells of a source and class that frames hold (R326). -/
def State.cellsHeld (s : State) (source : Option Port) (cls : Nat) : Nat :=
  let queued := (s.ring.queue.filter (fun q => decide (q.source = source) && decide (q.frame.cls = cls))).map
    (fun q => q.cells.length)
  let sent (p : LinkPort) := (p.unacked.filter (fun q => decide (q.source = source) && decide (q.frame.cls = cls))).map
    (fun q => q.cells.length)
  let jobs := (s.fleet.jobs.filter (fun j => decide (some j.source = source) && decide (j.frame.cls = cls))).map
    (fun j => j.cells.length)
  (queued ++ sent s.ring.portA ++ sent s.ring.portB ++ jobs).sum

/-- Local origination has cells for `k` more of a class: 8 are reserved (R326, R328). -/
def State.localRoom (s : State) (cls k : Nat) : Bool :=
  decide (s.cellsHeld none cls + k ≤ 8) && decide (k ≤ s.ring.free.length)

/-- The words of a ring cell hold the address (R326). -/
def inCell (cell a : Nat) : Bool :=
  decide (regionBase .ringCells + 256 * cell ≤ a) && decide (a < regionBase .ringCells + 256 * cell + 256)

/-- Cells for a frame, the lowest that are free: writing the frame leaves every word of them good (R262, R326, log 24). -/
def State.takeCells (s : State) (k : Nat) : List Nat × State :=
  let cells := s.ring.free.take k
  (cells, { s with
    ring := { s.ring with free := s.ring.free.drop k }
    ecc := s.ecc.filter (fun e => !cells.any (fun c => inCell c e.1)) })

/-- The first uncorrectable word in the cells of a frame (R269). -/
def State.cellsBad (s : State) (cells : List Nat) : Option Nat :=
  (s.ecc.find? (fun e => decide (2 ≤ e.2) && cells.any (fun c => inCell c e.1))).map Prod.fst

/-- Puts a frame into the queues; `since` is the clock of its arrival or origination (R326, R329, R331). -/
def State.enqueueFrame (s : State) (f : YFrame) (out : Port) (source : Option Port) (since : Nat) : State :=
  let (cells, s) := s.takeCells f.cellCount
  { s with ring := { s.ring with
      queue := s.ring.queue ++ [{ frame := f, out := out, source := source, at_ := since, cells := cells }] } }

/-- An own frame enters its queue, waits for local cells, or is discarded when no port is up (R328, R335). -/
def State.offerLocal (s : State) (since : Nat) (f : YFrame) : State :=
  match turnFrame s.ring true f (portOfDir f.dir) with
  | none => s.countDiscard
  | some (g, out) =>
    if s.localRoom g.cls g.cellCount && !s.ring.waiting.any (fun w => decide (w.2.cls = g.cls)) then
      s.enqueueFrame g out none since
    else if trafficTier (trafficType g.cls) = 3 then s.countDiscard
    else { s with ring := { s.ring with waiting := s.ring.waiting ++ [(since, f)] } }

/-- Own frames that wait are offered again, oldest first; while one of a class waits, the later ones of that class do
(R328, R330). -/
def State.offerWaiting (s : State) : State :=
  s.ring.waiting.foldl (fun s w => s.offerLocal w.1 w.2) { s with ring := { s.ring with waiting := [] } }

/-- The tag of a frame under the ring key (R337). -/
def State.frameTag (s : State) (f : YFrame) : List Byte := (hmacSha256 s.tap.ring.bytes f.covered).take 8

/-- Takes the next end-to-end value; before it equals the stored mark, the mark moves on by 1,024 (R339). -/
def State.takeE2e (s : State) : Nat × State :=
  let e := s.fleet.e2e
  let s := if e = s.vault.e2eMark then
      let m := (s.vault.e2eMark + 1024) % 65536
      let s := s.poke e2eMarkAddr (leBytes 8 m)
      { s with vault := { s.vault with e2eMark := m } }
    else s
  (e, { s with fleet := { s.fleet with e2e := (e + 1) % 65536 } })

/-- Originates a data frame (R317, R318, R319, R337, R339). -/
def State.originate (s : State) (type chan dst dir : Nat) (payload : List Byte) : State :=
  let (e, s) := s.takeE2e
  let f : YFrame :=
    { auth := s.ringAuth, cls := classOf type chan, dst := dst, src := s.ringId, e2e := e, dir := dir,
      payload := payload }
  s.offerLocal s.clock (if s.ringAuth then { f with tag := s.frameTag f } else f)

/-- Direction of an own unicast frame: fewer hops in the ring map, 0 on a tie or when unknown (R319). -/
def State.unicastDir (s : State) (dst : Nat) : Nat :=
  match s.ring.map.find? (fun m => decide (m.id = dst)) with
  | none => 0
  | some m =>
    match m.hops.getD 0 none, m.hops.getD 1 none with
    | some x, some y => if y < x then 1 else 0
    | none, some _ => 1
    | _, _ => 0

/-- The collector a member relays to: the lowest-numbered unit with the collector flag (R359). -/
def State.relayTarget (s : State) : Option Nat :=
  if s.mayOriginate && !s.collector then
    ((s.ring.map.filter (fun m => bitOf m.flags 0)).map MapEntry.id).min?
  else none

/-! ### Flue records -/

/-- Header and payload of a record (R247). -/
def FlueRec.body (r : FlueRec) (dev : Nat) : List Byte :=
  [BitVec.ofNat 8 r.type, BitVec.ofNat 8 r.payload.length] ++ leBytes 2 r.seq ++ leBytes 7 r.time ++
  [BitVec.ofNat 8 dev] ++ r.payload

/-- A record with its CRC-32, before byte stuffing (R246). A relayed record is passed on as it came (R360). -/
def FlueRec.bytes (r : FlueRec) (dev : Nat) : List Byte :=
  match r.relayed with
  | some b => b
  | none => r.body dev ++ leBytes 4 (crc32 (r.body dev)).toNat

/-- Bytes of the report queue that a record takes (R251, log 19). -/
def FlueRec.size (r : FlueRec) : Nat :=
  match r.relayed with
  | some b => b.length
  | none => 16 + r.payload.length

/-- An own gap record; a relayed one is a record like any other (R251, R360). -/
def FlueRec.isGap (r : FlueRec) : Bool := decide (r.type = 0x0D) && r.relayed.isNone

/-- Bytes of the report queue in use by records other than gap records. -/
def queueUsed (q : List FlueRec) : Nat := ((q.filter (fun r => !r.isGap)).map FlueRec.size).sum

/-- Space of the report queue for records other than gap records: 64 KiB less 1 KiB (R251). -/
def queueSpace : Nat := 65536 - 1024

/-- The record that is discarded first for an arriving record of tier `t`: the oldest of the lowest tier below it
(R251). -/
def victim (q : List FlueRec) (t : Nat) : Option FlueRec :=
  match ((q.filter (fun r => decide (t < r.tier) && !r.isGap)).map FlueRec.tier).max? with
  | none => none
  | some low => q.find? (fun r => decide (r.tier = low) && !r.isGap)

/-- The earlier of a first lost sequence number and another, in the order of the wire (R252). -/
def firstLost (first : Option Nat) (seq : Nat) : Nat :=
  match first with
  | none => seq
  | some g => if (seq + 65536 - g) % 65536 < 32768 then g else seq

/-- The losses that a gap record reports are owed again when it is lost itself (R252 to R254). -/
def Flue.owe (f : Flue) (r : FlueRec) : Flue :=
  let count := fieldAt r.payload 2 2
  { f with
    gapFirst := if count = 0 then f.gapFirst else some (firstLost f.gapFirst (fieldAt r.payload 0 2))
    gapCount := satTo 65535 (f.gapCount + count)
    gapMask := f.gapMask ||| fieldAt r.payload 4 2
    routerDrops := satTo 255 (f.routerDrops + byteAt r.payload 6) }

/-- Tallies a discarded record for the next gap record (R252); a relayed one is not tallied (R360). -/
def Flue.tally (f : Flue) (r : FlueRec) : Flue :=
  if r.relayed.isSome then f
  else
    let f := if r.isGap then f.owe r else f
    { f with
      gapFirst := some (firstLost f.gapFirst r.seq)
      gapCount := satTo 65535 (f.gapCount + 1)
      gapMask := f.gapMask ||| (1 <<< r.type) }

/-- Discards queued records of lower tiers until an arriving record fits; `n` bounds the number discarded (R251). -/
def Flue.makeRoom (f : Flue) (r : FlueRec) : Nat → Flue
  | 0 => f
  | n + 1 =>
    if queueUsed f.queue + r.size ≤ queueSpace then f
    else match victim f.queue r.tier with
      | none => f
      | some v => ({ f with queue := f.queue.erase v }.tally v).makeRoom r n

/-- A record joins the queue, its bytes after those of the one before it (log 27). -/
def Flue.push (f : Flue) (r : FlueRec) : Flue :=
  { f with queue := f.queue ++ [{ r with at_ := f.tail }], tail := (f.tail + r.size) % 65536 }

/-- A gap record is owed (R252). -/
def Flue.gapOwed (f : Flue) : Bool := decide (0 < f.gapCount) || decide (0 < f.routerDrops)

/-- Payload of a gap record (R249). -/
def Flue.gapPayload (f : Flue) : List Byte :=
  leBytes 2 (f.gapFirst.getD 0xFFFF) ++ leBytes 2 f.gapCount ++ leBytes 2 f.gapMask ++
  [BitVec.ofNat 8 (satTo 255 f.routerDrops)]

/-- Queues the gap record that is owed, ahead of the record that enters next (R252). -/
def Flue.putGap (f : Flue) (time : Nat) : Flue :=
  if f.gapOwed then
    { f.push { type := 0x0D, seq := f.nextSeq, time := time, payload := f.gapPayload, tier := 0 } with
      nextSeq := (f.nextSeq + 1) % 65536
      gapFirst := none, gapCount := 0, gapMask := 0, routerDrops := 0 }
  else f

/-- A record enters the report queue, or is discarded with its sequence number consumed (R251, R252). No gap record is
queued between the records of an ash dump (R294). -/
def Flue.enter (f : Flue) (now type time : Nat) (payload : List Byte) (tier : Nat) : Flue :=
  let draft : FlueRec := { type := type, seq := f.nextSeq, time := time, payload := payload, tier := tier }
  let f := f.makeRoom draft f.queue.length
  if queueUsed f.queue + draft.size ≤ queueSpace then
    let f := if type = 0x0C then f else f.putGap now
    { f.push { draft with seq := f.nextSeq } with nextSeq := (f.nextSeq + 1) % 65536 }
  else { f.tally draft with nextSeq := (f.nextSeq + 1) % 65536 }

/-- A relayed record enters at tier 3 without a sequence number of the collector, or is discarded (R360). -/
def Flue.enterRelayed (f : Flue) (now : Nat) (bytes : List Byte) : Flue :=
  let r : FlueRec := { type := byteAt bytes 0, seq := 0, time := 0, payload := [], tier := 3, relayed := some bytes }
  if queueUsed f.queue + r.size ≤ queueSpace then (f.putGap now).push r else f

/-- A byte offset lies in the `n` bytes of the report queue from `lo` on, which go on at its start after its end. -/
def inRing (lo n off : Nat) : Bool := decide ((off + 65536 - lo) % 65536 < n)

/-- The flue takes over a queue in which records have been written: every word they take is good (R262). -/
def State.putFlue (s : State) (f : Flue) : State :=
  let from_ := s.flue.tail
  let written := (f.tail + 65536 - from_) % 65536
  let clean (e : Nat × Nat) : Bool :=
    !((List.range 8).any (fun i => inRing from_ written (e.1 + i - regionBase .reportQueue)) &&
      decide (regionBase .reportQueue ≤ e.1) && decide (e.1 < regionBase .reportQueue + 65536))
  { s with flue := f, ecc := s.ecc.filter clean }

/-- A record of the queue holds an uncorrectable word (R269). -/
def State.recordBad (s : State) (r : FlueRec) : Bool :=
  s.ecc.any (fun e => decide (regionBase .reportQueue ≤ e.1) && decide (e.1 < regionBase .reportQueue + 65536) &&
    decide (2 ≤ e.2) && (List.range 8).any (fun i => inRing r.at_ r.size (e.1 + i - regionBase .reportQueue)))

/-- Record types that the alarms-only set does not produce: frame summary, sync status, ring event (R248). -/
def suppressed (type : Nat) : Bool := decide (type = 0x04) || decide (type = 0x08) || decide (type = 0x0B)

/-- The channel that a record concerns, 32 for none (R317): a channel status record and a diagnosis of a channel's query
name one. -/
def FlueRec.channel (r : FlueRec) : Nat :=
  if (r.type = 0x07 ∨ r.type = 0x05) ∧ byteAt r.payload 0 < 32 then byteAt r.payload 0 else 32

/-- The own records that entered the queue of `f` since its next sequence number was `seq`, oldest first. -/
def Flue.since (f : Flue) (seq : Nat) : List FlueRec :=
  f.queue.filter (fun r => r.relayed.isNone &&
    decide ((r.seq + 65536 - seq) % 65536 < (f.nextSeq + 65536 - seq) % 65536))

/-- Writes one record to the flue; it and a gap record queued ahead of it are relayed to the collector (R248, R251,
R252, R359). -/
def State.report (s : State) (type time : Nat) (payload : List Byte) (tier : Nat) : State :=
  if s.alarmsOnly && suppressed type then s
  else
    let fresh (f : Flue) := f.since s.flue.nextSeq
    let s := s.putFlue (s.flue.enter s.ts type time payload tier)
    match s.relayTarget with
    | some c => (fresh s.flue).foldl
        (fun s r => s.originate 5 r.channel c (s.unicastDir c) (r.bytes s.straps.recDev)) s
    | none => s

/-! ### Ash records -/

/-- Record types that take no token: boot, configuration echo, power-fail trip and fault (R290). -/
def tokenFree (type : Nat) : Bool :=
  decide (type = 1) || decide (type = 2) || decide (type = 3) || decide (type = 0x0D)

/-- Takes one token; the 62.5 ms start when the bucket falls below 64 (R290, log 20). -/
def Ash.takeToken (a : Ash) (clock : Nat) : Ash :=
  { a with tokens := a.tokens - 1, tokenAt := if a.tokens = 64 then clock else a.tokenAt }

/-- A record comes to the ash writer: it takes a token and waits to be written, or is dropped and tallied (R290). -/
def Ash.offer (a : Ash) (clock type time : Nat) (payload : List Byte) : Ash :=
  let r : AshRec := { type := type, time := time, payload := payload }
  if tokenFree type then { a with waiting := a.waiting ++ [r] }
  else if 0 < a.tokens then
    let a := a.takeToken clock
    { a with waiting := a.waiting ++ [r] }
  else
    { a with
      dropCount := satTo 65535 (a.dropCount + 1)
      dropMask := a.dropMask ||| (1 <<< type)
      dropFirst := if a.dropCount = 0 then time else a.dropFirst
      dropLast := time }

/-- Brings a record to the ash writer. -/
def State.ashRecord (s : State) (type time : Nat) (payload : List Byte) : State :=
  { s with ash := s.ash.offer s.clock type time payload }

/-- One coalescing record ahead of any waiting record, when something was dropped and a token is there (R291). -/
def State.coalesce (s : State) : State :=
  if (decide (0 < s.ash.dropCount) || decide (0 < s.router.ashDrops)) && decide (0 < s.ash.tokens) then
    let a := s.ash
    let payload := leBytes 2 a.dropCount ++ leBytes 2 (satTo 65535 s.router.ashDrops) ++ leBytes 2 a.dropMask ++
      leBytes 7 (if a.dropCount = 0 then 0 else a.dropFirst) ++ leBytes 7 (if a.dropCount = 0 then 0 else a.dropLast)
    let a := a.takeToken s.clock
    { s with
      ash := { a with
        waiting := { type := 0x0E, time := s.ts, payload := payload } :: a.waiting
        dropCount := 0, dropMask := 0, dropFirst := 0, dropLast := 0 }
      router := { s.router with ashDrops := 0 } }
  else s

/-! ### The event router -/

/-- An event enters the router's queue for the ash, or is dropped and counted (R136). -/
def State.routeAsh (s : State) (e : Event) : State :=
  if s.router.ash.length < 32 then { s with router := { s.router with ash := s.router.ash ++ [e] } }
  else { s with router := { s.router with ashDrops := s.router.ashDrops + 1 } }

/-- An event enters the router's queue for the flue, or is dropped and counted (R136). -/
def State.routeFlue (s : State) (e : Event) : State :=
  if s.router.flue.length < 32 then { s with router := { s.router with flue := s.router.flue ++ [e] } }
  else { s with flue := { s.flue with routerDrops := satTo 255 (s.flue.routerDrops + 1) } }

/-- Rows of the router map, by which events of one timestamp are ordered (R135, R136). -/
def rankRearm : Nat := 3

/-- `CMP_TEMP` set and clear. -/
def rankTemp : Nat := 4

/-- Channel status change. -/
def rankChannel : Nat := 5

/-- Sync status change. -/
def rankSync : Nat := 6

/-- Alarm transition. -/
def rankAlarm : Nat := 7

/-- Ring event. -/
def rankRing : Nat := 8

/-- Census ring size as a ring event carries it, 0 for 256 (R249, R333). -/
def State.ringSize (s : State) : Nat := s.ring.map.length + 1

/-- A ring event goes to the flue and to the ash by the router (R135, R249). -/
def State.ringEvent (s : State) (code port peer epoch e2e value : Nat) : State :=
  let payload := [BitVec.ofNat 8 code, BitVec.ofNat 8 port, BitVec.ofNat 8 peer, BitVec.ofNat 8 s.ringSize,
    BitVec.ofNat 8 epoch] ++ leBytes 2 e2e ++ leBytes 2 value
  let e : Event := { time := s.ts, rank := rankRing, type := 0x0B, payload := payload }
  (s.routeAsh e).routeFlue e

/-- A channel status change goes to the flue, and to the ash when it is into or out of a withdrawn status
(R115, R135). -/
def State.channelRecord (s : State) (c old new detections : Nat) : State :=
  let payload := [BitVec.ofNat 8 c, BitVec.ofNat 8 old, BitVec.ofNat 8 new] ++ leBytes 2 detections
  let s := s.routeFlue { time := s.ts, rank := rankChannel, type := 0x07, payload := payload }
  if withdrawn old = withdrawn new then s
  else s.routeAsh { time := s.ts, rank := rankChannel, type := 0x06, payload := payload }

/-- A sync status change goes to the flue and to the ash (R149). -/
def State.syncRecord (s : State) (time old new : Nat) : State :=
  let payload := [BitVec.ofNat 8 old, BitVec.ofNat 8 new]
  (s.routeFlue { time := time, rank := rankSync, type := 0x08, payload := payload }).routeAsh
    { time := time, rank := rankSync, type := 0x07, payload := payload }

/-- The level that a reference DAC produces for a code, in microvolts (R122). -/
def dacMicrovolts (code : Nat) : Nat := 2500 * code

/-- `CMP_TEMP` takes an evaluation: hot from 105 °C on, clear below 95 °C (R123); a change is reported (R135). The first
evaluation after the power-on reset is compared with a clear latch, so one that finds the die hot is a change (log 68). -/
def State.senseTemp (s : State) (milli : Int) : State :=
  let hot := if s.power.hot then !decide (milli < 95000) else decide (105000 ≤ milli)
  if hot = s.power.hot then s
  else
    let s := { s with power := { s.power with hot := hot } }
    let payload := [BitVec.ofNat 8 (b2n hot)]
    (s.routeFlue { time := s.ts, rank := rankTemp, type := 0x0E, payload := payload }).routeAsh
      { time := s.ts, rank := rankTemp, type := 0x05, payload := payload }

/-- Master code of memory events (R249). -/
def masterCode : Master → Nat
  | .acq => 0
  | .sig => 1
  | .enc => 2
  | .hrc => 3
  | .lrn => 4
  | .smd => 5
  | .vlt => 6
  | .lib => 7
  | .rng => 8
  | .flu => 9
  | .ash => 10
  | .bst => 11

/-- Payload of a memory event (R249). -/
def memoryPayload (ev : Nat) (m : Master) (addr row seg erased source : Nat) : List Byte :=
  [BitVec.ofNat 8 ev, BitVec.ofNat 8 (masterCode m)] ++ leBytes 4 addr ++ leBytes 2 row ++
  [BitVec.ofNat 8 seg, BitVec.ofNat 8 erased, BitVec.ofNat 8 source]

/-- An ash dump has started and its end record is not yet queued: both router queues hold their events and the ash writer
writes nothing (R136, R294). -/
def State.dumpHolds (s : State) : Bool :=
  (decide (s.mode = .strapRead) || decide (s.mode = .configFault)) && s.straps.dumping && !s.straps.dumpEndQueued

/-- A memory event goes to the flue and, under its rate limit, to the ash (R265, R269). During a dump it waits in the
router, after every row of the map (R294, log 22). -/
def State.memoryEvent (s : State) (ev : Nat) (m : Master) (addr row seg erased source : Nat) : State :=
  let p := memoryPayload ev m addr row seg erased source
  if s.dumpHolds then
    let e : Event := { time := s.ts, rank := rankRing + 1, type := 0x0A, payload := p }
    (s.routeFlue e).routeAsh e
  else (s.report 0x0A s.ts p 1).ashRecord 0x0A s.ts p

/-! ### The test port -/

/-- The TAP in Test-Logic-Reset: IDCODE is selected and the register of KEY_LOAD cleared (R395, R396). -/
def Tap.toReset (t : Tap) : Tap := { t with ir := 0b000010, load := 0 }

/-- The key block of a selector, when it is defined: 1 the image key, 2 the ring key (R396). -/
def Tap.block (t : Tap) (selector : Nat) : KeyBlock := if selector = 1 then t.image else t.ring

/-- Replaces the key block of a selector. -/
def Tap.setBlock (t : Tap) (selector : Nat) (k : KeyBlock) : Tap :=
  if selector = 1 then { t with image := k } else { t with ring := k }

/-- CRC-32 over the 32 bytes of a key (R396). -/
def keyCheck (key : BitVec 256) : BitVec 32 := crc32 (leBytes 32 key.toNat)

/-- A burn that is cut short leaves its block damaged: some fuses burnt, the programmed fuse not. Key fuses are burnt
before check fuses; which are is a free value (R396). -/
def damagedBlock (key : BitVec 256) (free : Nat) : KeyBlock :=
  let burnt := key &&& Config.burntKey free
  let burnt := if burnt = 0 then key else burnt
  { key := burnt, check := if burnt = key then keyCheck key &&& Config.burntCheck free else 0, programmed := false }

/-- `RESET_N` rises or a rail falls: the TAP is in Test-Logic-Reset, and a burn in progress is cut short (R395, R396). -/
def State.tapOff (s : State) : State :=
  match s.tap.burning with
  | none => { s with tap := s.tap.toReset }
  | some (sel, key) =>
    State.useFree { s with tap := { (s.tap.setBlock sel (damagedBlock key s.freeCount)).toReset with burning := none } }

/-! ### RESET -/

/-- The MRAM bytes of a memory: the vault, the persistent state and the ash, which RESET and EMBER keep (R61). -/
def mramOnly (m : List Host.Cell) : List Host.Cell := m.filter (fun c => decide (mramBase ≤ c.1))

/-- The error map of the MRAM. -/
def mramErrors (l : List (Nat × Nat)) : List (Nat × Nat) := l.filter (fun e => decide (mramBase ≤ e.1))

/-- The last of the words that a loss of supply cuts off reads as its old value, its new value or uncorrectable: a free
value (R274). `supplyLost` false: the word in progress completes. -/
def State.writeCut (s : State) (ws : List (Nat × List Byte)) (supplyLost : Bool) : State :=
  match supplyLost, ws.getLast? with
  | true, some w =>
    let choice := Config.cutWord s.freeCount
    let s := (s.writeAll ws.dropLast).useFree
    if choice = 0 then s
    else if choice = 1 then s.poke w.1 w.2
    else { s with ecc := setErrors s.ecc (wordOf w.1) 3 }
  | _, _ => s.writeAll ws

/-- The periodic write of the counters is due: 60 s of RUN have passed since the latest one (R216, R286). -/
def State.persistDue (s : State) : Bool :=
  decide (s.mode = .run) && decide (s.vault.persistAt + 60 * perSec ≤ s.power.running.read s.clock)

/-- The words of the periodic write: the running time, then every kindling counter in ascending cell (R216, R286,
log 16). -/
def State.persistWrites (s : State) : List (Nat × List Byte) :=
  (runSecondsAddr, leBytes 8 s.runSeconds) ::
    (List.range 4224).map (fun c => (kindlingAddr c, leBytes 8 (sparse s.learn.kindling c)))

/-- The words of the periodic write that is due (R286, R370). -/
def State.dueWrites (s : State) : List (Nat × List Byte) := if s.persistDue then s.persistWrites else []

/-- The words of the ash record that is written next (R288). -/
def State.ashWrites (s : State) : List (Nat × List Byte) :=
  match s.ash.waiting with
  | [] => []
  | r :: _ => r.writes s.ash.nextSeq s.vault.bootCount

/-- The power-fail sequence has ended: 100 µs have passed since the trip (R73). -/
def State.failEnded (s : State) : Bool := decide (s.power.failAt + per100us ≤ s.clock)

/-- The words that the power-fail sequence still had to write are written (R73). -/
def State.finishFail (s : State) : State :=
  let s := s.writeAll s.vault.failWrites
  { s with vault := { s.vault with failWrites := [] } }

/-- The words that a power-fail sequence had written when it was stopped: all of them once it has ended (R12, R73,
R275). -/
def State.stopFail (s : State) (words : Nat) (supplyLost : Bool) : State :=
  if s.vault.failWrites = [] then s
  else if s.failEnded then s.finishFail
  else
    let s := s.writeCut (s.vault.failWrites.take words) supplyLost
    { s with vault := { s.vault with failWrites := [] } }

/-- The words of a list that had been written when the MRAM controller was stopped, if any had (R274). -/
def State.stopWrites (s : State) (ws : List (Nat × List Byte)) (words : Nat) (supplyLost : Bool) : State :=
  if words = 0 then s else s.writeCut (ws.take words) supplyLost

/-- The MRAM controller is stopped: what it had written of a power-fail sequence, of the held entry, of the ash record
and of a periodic write that is due stands (R274, R275, R370). -/
def State.stopMram (s : State) (p : MramProgress) (supplyLost : Bool) : State :=
  let s := s.stopFail p.failWords supplyLost
  let s := s.stopWrites s.entryWrites p.commitWords supplyLost
  let s := s.stopWrites s.ashWrites p.ashWords supplyLost
  s.stopWrites s.dueWrites p.persistWords supplyLost

/-- Latches of the sync logic as they read when their comparators are unpowered (R126, R128). -/
def Sync.unwatched (y : Sync) : Sync := { y with shock := List.replicate 4 false, tach := List.replicate 4 none }

/-- The acquisition comparators go off: their latches read clear, and their next evaluation is the first of a new powered
period (R126, R128 to R130). -/
def State.unwatch (s : State) : State :=
  { s with chans := s.chans.map (fun c => { c with bias := none }), sync := s.sync.unwatched }

/-- `HEALTH` in RESET: held to VSS until `VDDA` and `VDD_AON` are valid, 0.360 V from then on (R64, R380). -/
def Power.resetHealth (p : Power) : Option Nat :=
  if p.railsLow.contains .vdda || p.railsLow.contains .vddAon then none else some healthLow

/-- `CORE_EN` is released, for at least 10 ms (R55). -/
def State.releaseCore (s : State) : State :=
  { s with power := { s.power with coreEn := false, coreEnAt := s.clock, releaseWait := true } }

/-- Entry to RESET: what is volatile is as at power-up; the MRAM, the fuses and test port, the comparator latches that
stay evaluated, and the 10 ms of `CORE_EN` are kept (R55, R59, R61, R126). `cause` is the boot record's reset cause. -/
def State.enterReset (s : State) (cause : Nat) : State :=
  { pending := s.pending
    clock := s.clock
    tsStart := s.clock
    mode := .reset
    freeCount := s.freeCount
    mem := mramOnly s.mem
    ecc := mramErrors s.ecc
    straps := { codes := s.straps.codes }
    power :=
      { por := s.power.por
        railsLow := s.power.railsLow
        oscStable := s.power.oscStable
        validAt := s.power.validAt
        resetNLow := s.power.resetNLow
        coreEn := false
        coreEnAt := if s.power.coreEn then s.clock else s.power.coreEnAt
        releaseWait := s.power.coreEn || s.power.releaseWait
        vsetAt := if s.power.vset = 2 then s.power.vsetAt else s.clock
        resetCause := cause
        pfail := s.power.pfail && !s.power.por
        pfailTime := s.power.pfailTime
        pfailOkSince := if s.power.por then none else s.power.pfailOkSince
        hot := s.power.hot && !s.power.por }
    out :=
      { health := s.power.resetHealth
        led0 := s.out.led0
        led1 := s.out.led1 }
    repairs := { fused := s.repairs.fused }
    tap := s.tap }

/-- Entry to BIST: every delay tap starts at 10 (R79), the core's replays are counted from here on (R82), and the
acquisition comparators are off (R126). The first flue record after a wake carries the extra zero byte (R246). -/
def State.enterBist (s : State) : State :=
  { s.unwatch with
    mode := .bist
    flue := { s.flue with extraZero := s.flue.extraZero || s.power.waking }
    volt := { s.volt with pipelines := [], blockReplays := 0, secondReplays := 0, secondAt := s.clock } }

/-- When no condition holds RESET any longer, `CORE_EN` is asserted and RESET lasts for the wait of R58 (R59). -/
def State.leaveReset (s : State) : State :=
  let p := s.power
  if decide (s.mode = .reset) && !p.por && !p.resetNLow && !p.releaseWait && !p.coreEn then
    { s with power := { p with coreEn := true, coreEnAt := s.clock } }
  else s

end Sys2Proof.Machine
end

