-- ==== Sys2Proof/Machine/Links.lean ====
section
/-! DEFINITION. Sys2Proof/Machine/Links.lean: what the ring's commands share: cells that become free and their credits
(R326, R327), turning at a break (R335), link down, link up and link resets (R324, R325). -/

namespace Sys2Proof.Machine

/-! ### Cells -/

/-- Free cells of the shared set: 2,560 less those set aside (R326, R327). -/
def Ring.sharedFree (r : Ring) : Nat := 2560 - (r.portA.aside.sum + r.portB.aside.sum)

/-- Free shared cells are set aside for a class of a port, as many as the receiver likes within R327; a limit that advances
is advertised. -/
def State.setAside (s : State) (p : Port) (cls : Nat) : State :=
  let x := s.ring.port p
  let g := x.aside.getD cls 0
  let more := min (Config.setAside s.freeCount cls) (min (56 - g) (s.ring.sharedFree - 255))
  (s.setPort p { x with aside := x.aside.set cls (g + more), tableDue := x.tableDue || decide (0 < more) }).useFree

/-- `k` cells of a class that came in through a port are freed: as many as the receiver likes of them return to the shared
set instead of staying set aside (R327). -/
def State.creditFreed (s : State) (p : Port) (cls k : Nat) : State :=
  let x := s.ring.port p
  let g := x.aside.getD cls 0
  let back := min (min g k) (Config.returnsShared s.freeCount cls)
  let x' := { x with
    freed := x.freed.set cls ((x.freed.getD cls 0 + k) % 65536)
    aside := x.aside.set cls (g - back)
    tableDue := x.tableDue || decide (back < k) }
  ((s.setPort p x').useFree).setAside p cls

/-- Cells become free; own frames that wait for cells are offered again (R326 to R328). -/
def State.freeCells (s : State) (source : Option Port) (cls : Nat) (cells : List Nat) : State :=
  let s := { s with ring := { s.ring with free := cells.foldl insertUp s.ring.free } }
  match source with
  | none => s.offerWaiting
  | some p => if cells = [] then s else s.creditFreed p cls cells.length

/-- A frame leaves the queues and is discarded and counted. -/
def State.dropQueued (s : State) (q : QFrame) : State :=
  (State.countDiscard { s with ring := { s.ring with queue := s.ring.queue.erase q } }).freeCells q.source q.frame.cls
    q.cells

/-- A held query frame is discarded and counted (R269, R330). -/
def State.dropJob (s : State) (j : Job) : State :=
  (State.countDiscard { s with fleet := { s.fleet with jobs := s.fleet.jobs.erase j } }).freeCells (some j.source)
    j.frame.cls j.cells

/-! ### Link state -/

/-- Queued frames whose output port is down are turned, or discarded (R335). -/
def State.turnQueue (s : State) (p : Port) : State :=
  (s.ring.queue.filter (fun q => decide (q.out = p))).foldl
    (fun s q => match turnFrame s.ring q.source.isNone q.frame p with
      | some (g, out) =>
        let turned : QFrame := { q with frame := g, out := out }
        let queue := s.ring.queue.map (fun x => if x = q then turned else x)
        { s with ring := { s.ring with queue := queue } }
      | none => s.dropQueued q) s

/-- Periods of the timebase that so many bytes take on the wire, rounded up (R41, R315). -/
def State.lineTime (s : State) (bytes : Nat) : Nat :=
  if s.ringFast then (196608 * bytes + 999999) / 1000000 else (1966080 * bytes + 999999) / 1000000

/-- The header of a frame as it leaves a port: the hop fields are the port's (R316, R322). -/
def State.dataHeader (s : State) (p : Port) (f : YFrame) (seq : Nat) : Header :=
  let x := s.ring.port p
  { cls := f.cls, auth := f.auth, dst := f.dst, src := f.src, hseq := seq, epoch := x.epoch
    aseq := (x.rxSeq + 4095) % 4096, aval := x.rxAny, e2e := f.e2e, hops := f.hops, dir := f.dir, turns := f.turns
    passed := f.passed, len := f.payload.length }

/-- The bytes of a data frame from header to FCS as it leaves a port: whole, or stomped with what had come in (R315,
R320). -/
def State.dataWire (s : State) (p : Port) (u : Sent) : List Byte :=
  let h := s.dataHeader p u.frame u.seq
  match u.torn with
  | none => wireFrame h u.frame.payload u.frame.tag false
  | some b => wireFrame h b [] true

/-- The reading that a port's ack timer would have by now if no step-up pause held it (R323). -/
def State.ackReading (s : State) (x : LinkPort) : Nat :=
  x.timer.read s.clock + (match s.volt.pauseAt with | some t => s.clock - t | none => 0)

/-- The ack timer of a frame, once the step-up pause of length `pause` is over: it counts nothing of the pause, and from
the frame's last byte on when that has left in it or leaves after it (R96, R323). -/
def Sent.afterPause (u : Sent) (reading pause : Nat) : Sent :=
  { u with sentAt := max (min u.sentAt reading) (u.sentAt - pause) }

/-- A data frame leaves a port: it waits for its acknowledgement, and the port is busy until the interframe gap ends
(R315, R321, R323). -/
def State.sendFrame (s : State) (p : Port) (u : Sent) : State :=
  let x := s.ring.port p
  let wire := s.dataWire p u
  let timer := if s.paused then x.timer else x.timer.go s.clock
  let u := { u with sentAt := s.ackReading { x with timer := timer } + s.lineTime (8 + wire.length) }
  s.setPort p { x with
    timer := timer
    unacked := if x.unacked.any (fun v => decide (v.seq = u.seq)) then
        x.unacked.map (fun v => if v.seq = u.seq then u else v) else x.unacked ++ [u]
    wire := wire
    busyUntil := s.clock + s.lineTime (20 + wire.length) }

/-- The rest of a cut-through frame has left the other port: whole, or stomped with the bytes `torn` that came in behind
the header. Its cells are those of the frame received, and `yh.passed` is as its header left (R320, R335). -/
def State.finishCut (s : State) (p : Port) (f : YFrame) (torn : Option (List Byte)) (cells : List Nat) : State :=
  let x := s.ring.port p
  match x.cut with
  | none => s
  | some c =>
    let s := s.setPort p { x with cut := none }
    if c.live then
      let o := otherPort p
      let s := s.sendFrame o { seq := c.seq, frame := { f with hops := f.hops + 1, passed := c.frame.passed },
                               torn := torn, source := some p, cells := cells }
      let y := s.ring.port o
      s.setPort o { y with
        busyUntil := s.clock + s.lineTime 12
        unacked := y.unacked.map (fun v => if v.seq = c.seq then { v with sentAt := s.ackReading y } else v) }
    else State.countDiscard (s.freeCells (some p) f.cls cells)

/-- Frames that a port has accepted in a step-up pause and the core has not taken up (R86, R96). -/
def Crossing.rx (x : Crossing) : Port → List (List Byte)
  | .a => x.rxA
  | .b => x.rxB

/-- Replaces the frames that wait behind a port. -/
def Crossing.setRx (x : Crossing) (p : Port) (l : List (List Byte)) : Crossing :=
  match p with
  | .a => { x with rxA := l }
  | .b => { x with rxB := l }

/-- The frame that is arriving at a port and being cut through: one that has arrived whole in a step-up pause is the first
of those that wait (R96, R320). -/
def State.arriving (s : State) (p : Port) : Option Cut :=
  if s.cross.rx p = [] then (s.ring.port p).cut else none

/-- A port goes down or is reset: a frame arriving there ends stomped, with as many bytes as had arrived, and one being cut
through to it is lost (R320, R324). -/
def State.breakCuts (s : State) (p : Port) : State :=
  let s := match s.arriving p with
    | some c => (s.finishCut p c.frame (some ((Config.arrivedBytes s.freeCount).take 1480)) []).useFree
    | none => s
  let y := s.ring.port (otherPort p)
  s.setPort (otherPort p) { y with cut := y.cut.map (fun (c : Cut) => { c with live := false }) }

/-- A port marks its link down: ring event 0x02 with a value, 0x04 when the wrap begins, and the turn of what is queued
(R325, R335). -/
def State.linkDown (s : State) (p : Port) (value : Nat) : State :=
  let s := s.breakCuts p
  let x := s.ring.port p
  let s := s.setPort p { x with
    up := false
    downAt := some s.clock
    proposal := none
    timer := x.timer.stop s.clock
    links := []
    resend := []
    nakDue := false }
  let s := s.ringEvent 0x02 (portNum p) x.peer x.epoch 0xFFFF value
  let s := if s.ring.wrapped then s
    else State.ringEvent { s with ring := { s.ring with wrapped := true } } 0x04 (portNum p) x.peer x.epoch 0xFFFF 0
  s.turnQueue p

/-- A port whose link comes up: ring event 0x01, and 0x05 when the last port returns (R325, R335). -/
def State.linkUp (s : State) (p : Port) : State :=
  let x := s.ring.port p
  let s := s.setPort p { x with up := true, downAt := none }
  let s := s.ringEvent 0x01 (portNum p) x.peer x.epoch 0xFFFF 0
  if s.ring.wrapped && s.ring.portA.up && s.ring.portB.up then
    State.ringEvent { s with ring := { s.ring with wrapped := false } } 0x05 (portNum p) x.peer x.epoch 0xFFFF 0
  else s

/-- The port proposes the next epoch and sends a link reset (R324). -/
def State.proposeReset (s : State) (p : Port) (cause : Nat) : State :=
  let x := s.ring.port p
  let e := (x.epoch + 1) % 16
  s.setPort p { x with
    proposal := some { epoch := e, cause := cause, sentAt := s.clock }
    links := x.links ++ [.reset e cause] }

/-- A link reset with cause 1 or 2: ring event 0x03 with the new epoch; the third within 1 s marks the link down
(R325). True when it did. A reset exactly 1 s old lies no longer within it, which is the model's choice (log 39). -/
def State.countReset (s : State) (p : Port) (epoch cause : Nat) : Bool × State :=
  let x := s.ring.port p
  let recent := s.clock :: x.resets.filter (fun t => decide (s.clock < t + perSec))
  let s := s.setPort p { x with resets := recent }
  let s := s.ringEvent 0x03 (portNum p) x.peer epoch 0xFFFF cause
  if 3 ≤ recent.length then (true, s.linkDown p 2) else (false, s)

/-- A link reset with cause 1 starts: retransmissions are exhausted (R323, R325). -/
def State.exhausted (s : State) (p : Port) : State :=
  let e := ((s.ring.port p).epoch + 1) % 16
  let (down, s) := s.countReset p e 1
  if down then s else s.proposeReset p 1

/-- A link reset completes: the epoch is in force, unacknowledged frames are discarded, sequences and credit counters
start over, and a link that was down is up (R324, R325). -/
def State.completeReset (s : State) (p : Port) (epoch : Nat) : State :=
  let s := s.breakCuts p
  let x := s.ring.port p
  let s := s.setPort p { x with
    epoch := epoch
    proposal := none
    txSeq := 0
    rxSeq := 0
    rxAny := false
    unacked := []
    timer := {}
    nakDone := false
    nakDue := false
    links := x.links.filter (fun l => match l with | .reset _ _ => false | _ => true)
    resend := []
    sent := List.replicate 64 0
    limits := List.replicate 64 8
    freed := List.replicate 64 0
    tableDue := true }
  let s := x.unacked.foldl (fun s u => s.freeCells u.source u.frame.cls u.cells) s
  if x.up then s else s.linkUp p

/-! ### Link inputs -/

/-- One sample of `xx_LINK`: two consecutive low samples are PHY link loss (R314, R325). -/
def State.sampleLink (s : State) (p : Port) (high : Bool) : State :=
  let x := s.ring.port p
  if high then
    s.setPort p { x with highSince := some (x.highSince.getD s.clock), lowRun := 0 }
  else
    let run := x.lowRun + 1
    let s := s.setPort p { x with highSince := none, lowRun := run }
    if run = 2 ∧ (x.up ∨ x.proposal.isSome) then s.linkDown p 1 else s

end Sys2Proof.Machine
end

