-- ==== Sys2Proof/Machine/Sync.lean ====
section
/-! DEFINITION. Sys2Proof/Machine/Sync.lean: where frames begin and end: captures, candidates, closes, speed, load and the
pages of the frame pool (R112, R113, R120, R121, R130 to R133, R139 to R154). -/

namespace Sys2Proof.Machine

/-! ### Speed and load -/

/-- The speed bin of q / p (R150). -/
def speedBin (q p : Nat) : Nat := ((List.range 15).takeWhile (fun k => decide ((p * p) <<< (k + 1) ≤ q * q))).length

/-- Status, speed bin and 1/16 rpm of a frame between two accepted edges `span` counts apart with `m` captures (R150). -/
def speedOf (re span m : Nat) : Nat × Nat × Nat :=
  let q := 12288000 * m
  let p := re * span
  (if q < p then 2 else 1, speedBin q p, 16 * 368640000 * m / p)

/-- The load bin of a sum of `n` codes (R120). -/
def loadBinOf (sum n : Nat) : Nat := min 7 (25 * (2 * sum + n) / (16384 * n) - 2)

/-- The mean `AUX0` voltage is at most 0.360 V or reaches 2.100 V (R121). -/
def loadFaultOf (sum n : Nat) : Bool :=
  decide (250 * (2 * sum + n) ≤ 36 * 8192 * n) || decide (210 * 8192 * n ≤ 250 * (2 * sum + n))

/-! ### Pages -/

/-- The pages without one. -/
def withoutPage (l : List (Nat × Nat)) (page : Nat) : List (Nat × Nat) := l.filter (fun p => !decide (p.1 = page))

/-- No stage holds the page. -/
def State.clearPage (s : State) (page : Nat) : State := { s with pages := withoutPage s.pages page }

/-- The page counts as free for a close at clock `at_`: no stage holds it, and it was freed in that timebase period or
before (R154). -/
def State.pageFree (s : State) (at_ page : Nat) : Bool :=
  !s.pages.any (fun p => decide (p.1 = page)) &&
  !s.sync.freed.any (fun f => decide (f.1 = page) && decide (at_ < f.2))

/-- A page for channel `c` at a close: its free reserved page, else, when it holds no shared page, the lowest free one
(R152, R153). -/
def State.pageFor (s : State) (at_ c : Nat) : Option Nat :=
  match [2 * c, 2 * c + 1].find? (s.pageFree at_) with
  | some p => some p
  | none =>
    let shared := 2 * s.channels
    if s.pages.any (fun p => decide (p.2 = c) && decide (shared ≤ p.1)) then none
    else ((List.range 96).drop shared).find? (s.pageFree at_)

/-- The channel is withdrawn for a close at clock `at_`: a detection counts from its own timebase period on, and so does a
recovery (R111 to R113). -/
def Chan.outAt (x : Chan) (at_ : Nat) : Bool :=
  decide (at_ < x.recoveredAt) || (withdrawn x.status && decide (x.withdrawnAt ≤ at_))

/-- A frame that was filling at the close: its page goes into the holdback, or is freed when the frame is discarded
(R112, R154). -/
def State.endFilling (s : State) (at_ c : Nat) : State × Option ChanFrame :=
  let x := s.chans.getD c {}
  match x.page with
  | none => (s, none)
  | some p =>
    if x.outAt at_ then (s.clearPage p, none)
    else (s, some { chan := c, page := p, overs := x.overs })

/-- Allocation for one channel at a close (R153). The frame that has just closed, the list of dropped channels, and the
frames of the tick so far go along. A withdrawn channel receives no page and counts no drop (R112). -/
def State.allocate (s : State) (at_ c : Nat) (closed : Option ChanFrame) (tick : List ChanFrame × List Nat) :
    State × (List ChanFrame × List Nat) :=
  let x := s.chans.getD c {}
  let out := x.outAt at_
  let fresh : Chan := { x with page := none, missing := false, doomed := false, overs := 0 }
  let missed (x : Chan) : Chan := { x with drops := satTo 65535 (x.drops + 1) }
  let tick := if x.missing && !out then (tick.1, tick.2 ++ [c]) else tick
  let fresh := if x.missing && !out then missed fresh else fresh
  let kept := match closed with | some f => (tick.1 ++ [f], tick.2) | none => tick
  if out then ({ s with chans := s.chans.set c fresh }, kept)
  else match s.pageFor at_ c with
    | some p =>
      ({ s with chans := s.chans.set c { fresh with page := some p }, pages := s.pages ++ [(p, c)] }, kept)
    | none => match closed with
      | some f => ({ s with chans := s.chans.set c (missed { fresh with page := some f.page }) }, (tick.1, tick.2 ++ [c]))
      | none => ({ s with chans := s.chans.set c { fresh with missing := true } }, kept)

/-- A page becomes free: at the end of the pause when a step-up pause is in progress, otherwise at once, also for a close
of this very timebase period (R154). -/
def State.releasePage (s : State) (page : Nat) : State :=
  if s.paused then { s with freeing := page :: s.freeing }
  else
    let turn := s.sync.turn.map (fun w => { w with pages := withoutPage w.pages page })
    let freed := (page, s.clock) :: s.sync.freed
    { s.clearPage page with sync := { s.sync with turn := turn, freed := freed } }

/-- Every discard of a close is made before any page is allocated; channels are served in ascending index. A channel
withdrawn between the close and its decision loses the closed frame too, and lets its new page fill until the next close
(R111, R112, R153, R154). -/
def State.turnPages (s : State) (at_ : Nat) : State × (List ChanFrame × List Nat) :=
  let ended := (List.range s.channels).foldl
    (fun (a : State × List (Option ChanFrame)) c =>
      let r := a.1.endFilling at_ c
      (r.1, a.2 ++ [r.2])) (s, [])
  let turned := (List.range s.channels).foldl
    (fun (a : State × (List ChanFrame × List Nat)) c => a.1.allocate at_ c ((ended.2.getD c none)) a.2)
    (ended.1, [], [])
  let doom (x : Chan) : Chan := { x with doomed := x.page.isSome && withdrawn x.status }
  let u := { turned.1 with chans := turned.1.chans.map doom }
  let late (f : ChanFrame) : Bool := withdrawn (u.chans.getD f.chan {}).status
  let lost := turned.2.1.filter late
  (lost.foldl (fun s f => s.releasePage f.page) u,
    turned.2.1.map (fun f => if late f then { f with stage := .discarded } else f), turned.2.2)

/-- Sample words wait in the acquisition buffer: in a step-up pause, and behind words that wait there (R86, R96). -/
def State.samplesWait (s : State) : Bool := s.paused || !s.cross.samples.isEmpty

/-- One sample word goes to the frame pool: through the acquisition buffer while words wait there, at once otherwise.
The buffer holds 2,048 words (R86, R96, log 67). -/
def State.crossWord (s : State) (addr word : Nat) : State :=
  if s.samplesWait then
    if s.cross.samples.length < 2048 then
      { s with cross := { s.cross with samples := s.cross.samples ++ [(addr, word)] } }
    else s
  else s.poke addr (leBytes 4 word)

/-- What the acquisition buffer holds reaches the frame pool (R86, R96). -/
def State.drainSamples (s : State) : State :=
  s.cross.samples.foldl (fun s w => s.poke w.1 (leBytes 4 w.2)) { s with cross := { s.cross with samples := [] } }

/-- One sample word is stored in a channel's page, as sample `j` of its frame (R103, R151). -/
def State.storeWord (s : State) (j c word : Nat) : State :=
  let x := s.chans.getD c {}
  match x.page with
  | none => s
  | some p =>
    let s := s.crossWord (0x03000000 + p * 0x8000 + 4 * j) word
    { s with chans := s.chans.set c { x with overs := x.overs + b2n (bitOf word 24) } }

/-- The words of one sample are stored, each in its channel's page. -/
def State.storeWords (s : State) (j : Nat) (words : List Nat) : State :=
  words.zipIdx.foldl (fun s w => s.storeWord j w.2 w.1) s

/-- A channel of now with what concerns its pages as of then. -/
def Chan.pagesOf (x y : Chan) : Chan :=
  { x with page := y.page, missing := y.missing, doomed := y.doomed, overs := y.overs, drops := y.drops }

/-- What happened in the timebase period of a close counts as before it: the close is decided again from what it was
decided from and from what has come about since (R111 to R113, R154). -/
def State.redoTurn (s : State) : State :=
  match s.sync.turn with
  | none => s
  | some w =>
    if w.clock ≠ s.clock then s
    else
      let u := w.words.foldl (fun s x => s.poke x.1 x.2) s
      let u := { u with
        pages := w.pages
        chans := (s.chans.zip w.chans).map (fun (p : Chan × Chan) => p.1.pagesOf p.2)
        cross := { u.cross with samples :=
          if w.stored = [] then u.cross.samples else u.cross.samples.take w.buffered } }
      let r := u.turnPages w.clock
      State.storeWords { r.1 with ticks := r.1.ticks.map (fun (t : Tick) =>
        if t.id = w.tick then { t with frames := r.2.1, dropped := r.2.2 } else t) } 0 w.stored

/-- A page becomes free, and a close of this timebase period is decided with it (R154). -/
def State.freePage (s : State) (page : Nat) : State := (s.releasePage page).redoTurn

/-! ### Closes -/

/-- What closes a frame (R141, R143, R144). -/
inductive Closer where
  | free | late | edge (t : Nat)
  deriving DecidableEq, Repr

/-- Captures of `TACH0` after `t0` up to and including `t1`, glitches excluded (R150). -/
def countEdges (l : List Capture) (t0 t1 : Nat) : Nat :=
  l.countP (fun c => !c.glitch && decide (t0 < c.time) && decide (c.time ≤ t1))

/-- The interval between the frame's two accepted edges. -/
def edgeSpan (opener : Opener) (by_ : Closer) : Option (Nat × Nat) :=
  match opener, by_ with
  | .edge t0, .edge t1 => some (t0, t1)
  | _, _ => none

/-- Sync status, measured speed bin and 1/16 rpm of a frame (R147, R150). -/
def State.frameStatus (s : State) (by_ : Closer) : Nat × Nat × Nat :=
  match by_ with
  | .free => (0, 0, 0)
  | .late => (4, 0, 0)
  | .edge _ => match edgeSpan s.sync.opener by_ with
    | some (t0, t1) => speedOf s.edgesPerRev (t1 - t0) (countEdges s.sync.captures t0 t1)
    | none => (3, 0, 0)

/-- Sum and count of the conversions of `AUX0` from the first stored sample to the close (R120). -/
def Sync.auxOf (y : Sync) (close : Nat) : Nat × Nat :=
  let l := y.aux0.filter (fun a => decide (y.first.getD close ≤ a.1) && decide (a.1 ≤ close))
  ((l.map Prod.snd).sum, l.length)

/-- Shaft sync as the next frame opens (R141, R142, R144 to R146). -/
def State.syncAfter (s : State) (by_ : Closer) (close status bin : Nat) (span : Option Nat) (load : Option Nat) : Sync :=
  let y := s.sync
  let past := match by_ with | .edge t => t | _ => close
  { y with
    edges := match by_ with | .free => y.edges | .late => s.edgesPerBoundary | .edge _ => 0
    captures := y.captures.filter (fun c => decide (past < c.time))
    opener := match by_ with | .free => .free | .late => .late | .edge t => .edge t
    count := 0
    first := none
    phi := 0
    glitches := 0
    others := y.others.map (fun l => l.filter (fun t => decide (close < t)))
    nextOut := match by_ with
      | .edge t => if s.syncMode = .hardAlign then some (t + 12 * s.period) else y.nextOut
      | _ => y.nextOut
    turn := none
    settling := match by_ with | .edge _ => if s.syncMode = .hardAlign then 24 else y.settling | _ => y.settling
    prevClose := close
    prevStatus := some status
    speedBin := if status = 1 then bin else y.speedBin
    lockedSpan := if status = 1 then span else y.lockedSpan
    loadBin := load.getD y.loadBin
    aux0 := y.aux0.filter (fun a => decide (close ≤ a.1)) }

/-- A frame of `len` samples closes at `close` and the next one opens (R139 to R154): its status and condition bin are
fixed, the pages turn, its tick enters the holdback, and a change of sync status is routed. The mean `AUX0` code that the
frame summary reports is rounded down (log 52). -/
def State.closeFrame (s : State) (close len : Nat) (by_ : Closer) : State :=
  let y := s.sync
  let (status, bin, rpm16) := s.frameStatus by_
  let span := match edgeSpan y.opener by_ with | some (t0, t1) => some (t1 - t0) | none => y.lockedSpan
  let (sum, n) := y.auxOf close
  let fault := s.loadOn && loadFaultOf sum n
  let load := if s.loadOn then (if fault then none else some (loadBinOf sum n)) else some 0
  let speed := if status = 0 then 0 else if status = 1 then bin else y.speedBin
  let at_ := s.clockOf close
  let (u, frames, dropped) := s.turnPages at_
  let turn : Turn := { clock := at_, tick := s.nextTick, chans := s.chans, pages := s.pages }
  let tick : Tick :=
    { id := s.nextTick
      close := close
      tRef := match by_ with | .free => s.lMax * s.period | _ => close - y.prevClose
      len := len
      status := status
      bin := 8 * speed + load.getD y.loadBin
      rpm16 := rpm16
      phi := if s.syncMode = .boundary then y.phi else 0
      span := span
      glitches := y.glitches
      tach0 := y.captures.countP (fun c => decide (y.prevClose < c.time) && decide (c.time ≤ close))
      tach1 := (y.others.getD 0 []).countP (fun t => decide (t ≤ close))
      auxMean := if n = 0 then 0 else sum / n
      loadFault := fault
      edge := match by_ with | .edge _ => true | _ => false
      frames := frames
      dropped := dropped }
  let u := { u with
    ticks := s.ticks ++ [tick]
    nextTick := s.nextTick + 1
    sync := { s.syncAfter by_ close status bin span load with
      freed := u.sync.freed.filter (fun f => decide (at_ < f.2))
      turn := if at_ = s.clock then some turn else none } }
  match y.prevStatus with
  | some old => if old = status then u else u.syncRecord close old status
  | none => u

/-! ### Candidates -/

/-- Boundary time of a candidate (R143). -/
def State.boundaryTime (s : State) (t : Nat) : Nat := if s.syncMode = .boundary then t + 12 * s.period else t

/-- Samples of the current frame with timestamps below `b` (R143). -/
def State.samplesBelow (s : State) (b : Nat) : Nat :=
  match s.sync.first with
  | none => 0
  | some f => min s.sync.count ((b - f + s.period - 1) / s.period)

/-- The oldest candidate can be decided: in hard-align mode at once, else when a sample that reaches its boundary time
exists (R143). -/
def State.candidateDue (s : State) : Bool :=
  match s.sync.candidates, s.sync.held with
  | [], _ => false
  | t :: _, held => decide (s.syncMode = .hardAlign) ||
    (match held with | some (T, _) => decide (s.boundaryTime t ≤ T) | none => false)

/-- The oldest candidate is accepted and closes the frame, or is a glitch (R142 to R146). -/
def State.decideCandidate (s : State) : State :=
  match s.sync.candidates with
  | [] => s
  | t :: rest =>
    let s := { s with sync := { s.sync with candidates := rest } }
    let b := s.boundaryTime t
    let n := s.samplesBelow b
    if s.lMin ≤ n ∧ n ≤ s.lMax then s.closeFrame b n (.edge t)
    else
      let mark (c : Capture) : Capture := if c.time = t then { c with glitch := true } else c
      { s with sync := { s.sync with
          glitches := s.sync.glitches + 1
          glitchTotal := satTo 0xFFFFFFFF (s.sync.glitchTotal + 1)
          captures := s.sync.captures.map mark } }

/-- Decides every candidate that is due; `n` bounds their number. -/
def State.decideAll (s : State) : Nat → State
  | 0 => s
  | n + 1 => if s.candidateDue then s.decideCandidate.decideAll n else s

/-- The sample that opens a frame in the timebase period of the close goes along with that close: its words and what they
overwrite (R154). -/
def State.noteWords (s : State) (words : List Nat) : State :=
  match s.sync.turn with
  | none => s
  | some w =>
    if w.clock ≠ s.clock then s
    else
      let addr (c : Nat) : Option Nat := (s.chans.getD c {}).page.map (fun p => 0x03000000 + p * 0x8000)
      let old := if s.samplesWait then []
        else ((List.range words.length).filterMap addr).map (fun a => (a, s.peek a 4))
      let w := { w with words := old, buffered := s.cross.samples.length, stored := words }
      { s with sync := { s.sync with turn := some w } }

/-- An output sample takes its place: it closes a full frame, then becomes the next sample of the current frame (R141,
R144, R145). A settling output brings no words and takes no place (R105). -/
def State.placeSample (s : State) (t : Nat) (words : List Nat) : State :=
  if words = [] then s
  else
    let s := if s.sync.count < s.lMax then s
      else s.closeFrame t s.lMax (if s.syncMode = .free then .free else .late)
    let s := (if s.sync.count = 0 then s.noteWords words else s).storeWords s.sync.count words
    let phi := match s.sync.opener with
      | .edge _ => if s.sync.count = 0 ∧ s.syncMode = .boundary then t - s.sync.prevClose else s.sync.phi
      | _ => s.sync.phi
    { s with sync := { s.sync with count := s.sync.count + 1, first := some (s.sync.first.getD t), phi := phi } }

/-- The held sample takes its place once no candidate waits for it. -/
def State.placeHeld (s : State) : State :=
  match s.sync.held with
  | none => s
  | some (t, words) =>
    if s.candidateDue then s
    else State.placeSample { s with sync := { s.sync with held := none } } t words

/-- CANDIDATE_DECISION (R142 to R146). -/
def execCandidateDecision (dt : Nat) (s : State) : Host.Outcome State Fault Refusal :=
  event dt (fun s => decide (s.mode = .run) && s.candidateDue) (fun s => s.decideCandidate.placeHeld) s

/-! ### Captures -/

/-- The spot-wake interval has elapsed since sleep entry (R132). -/
def State.spotElapsed (s : State) : Bool :=
  match s.spotSeconds with
  | some n => decide (s.power.sleepAt + n * perSec ≤ s.clock)
  | none => false

/-- The device sleeps, and no wake request is latched but one of this very timebase period (R132, R133). -/
def State.mayRequest (s : State) : Bool :=
  (decide (s.mode = .banked) || decide (s.mode = .ember)) &&
  ((decide (s.power.wakeMask = 0) && !s.power.waking) ||
   (decide (s.power.wakeMask ≠ 0) && decide (s.power.wakeAt = s.clock)))

/-- A wake request is latched with the sources that hold: every one of the evaluation that raises it, which is one
timebase period; a later one is ignored (R127, R132, R133). -/
def State.requestWake (s : State) (mask : Nat) : State :=
  if s.mayRequest then
    { s with power := { s.power with
        wakeMask := s.power.wakeMask ||| mask ||| (8 * b2n s.spotElapsed), wakeAt := s.clock } }
  else s

/-- A `TACH0` capture in sleep: the fourth within 8.000 s of the first of the four raises a wake request (R131, R132). -/
def State.wakeCapture (s : State) : State :=
  let edges := (s.clock :: s.power.wakeEdges).take 4
  let s := { s with power := { s.power with wakeEdges := edges } }
  match edges[3]? with
  | some first => if s.clock ≤ first + 8 * perSec then s.requestWake 1 else s
  | none => s

/-- A capture is taken from its queue by the sync logic as it is made (R131, R142). -/
def State.takeCapture (s : State) (i : Nat) : State :=
  let y := s.sync
  if 16 ≤ (y.queues.getD i []).length then
    { s with sync := { y with tachDrops := satTo 65535 (y.tachDrops + 1) } }
  else if i = 0 then
    let captures := y.captures ++ [{ time := s.ts, glitch := false }]
    if s.syncMode = .free then { s with sync := { y with captures := captures } }
    else
      let c := min s.edgesPerBoundary (y.edges + 1)
      let candidates := if c = s.edgesPerBoundary then y.candidates ++ [s.ts] else y.candidates
      { s with sync := { y with captures := captures, edges := c, candidates := candidates } }
  else { s with sync := { y with others := modifyAt y.others (i - 1) (· ++ [s.ts]) } }

/-- What a `CMP_TACHn` latch becomes: compared against code 640 while it is low and against code 320 while it is high; the
first evaluation of a powered period takes code 640 (R123, R130, log 49). -/
def tachHigh (latch : Option Bool) (uv : Nat) : Bool :=
  decide (dacMicrovolts (if latch = some true then 320 else 640) ≤ uv)

/-- One evaluation of `CMP_TACHn`: its latch takes the result, and a rise after a low of the same powered period is
captured (R128 to R130). -/
def State.senseTach (s : State) (i uv : Nat) : State :=
  let old := s.sync.tach.getD i none
  let high := tachHigh old uv
  let s := { s with sync := { s.sync with tach := s.sync.tach.set i (some high) } }
  if old = some false ∧ high then (if s.mode = .run then s.takeCapture i else s.wakeCapture) else s

/-- `CMP_TACHn` is evaluated: in RUN, and `CMP_TACH0` in sleep too (R126). -/
def State.tachPowered (s : State) (i : Nat) : Bool :=
  decide (s.mode = .run) || ((decide (s.mode = .banked) || decide (s.mode = .ember)) && decide (i = 0))

/-- A fast tick falls into this timebase period: one in four, from the clearing of the timestamp counter on (R102, R127,
log 7). -/
def State.onFastTick (s : State) : Bool := decide ((s.clock - s.tsStart) % 4 = 0)

/-- TACH_CAPTURE (R122, R123, R126 to R133, R142): the evaluation of `CMP_TACHn` at a fast tick, its input at `uv`
microvolts. -/
def execTachCapture (dt : Nat) (input : Fin 4) (uv : Nat) (s : State) : Host.Outcome State Fault Refusal :=
  event dt (fun s => s.tachPowered input.val && s.onFastTick) (fun s => s.senseTach input.val uv) s

end Sys2Proof.Machine
end

