-- ==== Sys2Proof/Machine/Acquire.lean ====
section
/-! DEFINITION. Sys2Proof/Machine/Acquire.lean: output samples, the slow tick, wire faults and their recovery, the
holdback and the auxiliary conversions (R99 to R121, R124, R126 to R134, R154, R314). -/

namespace Sys2Proof.Machine

/-! ### Samples -/

/-- Output periods since the limiter last acted, 24 when it has not within the last 24 (R104). -/
def limiterAfter (age : Nat) (limited : Bool) : Nat := if limited then 0 else min 24 (age + 1)

/-- The clamped value of a raw sample (R103). -/
def clampSample (v : Int) : Int := clampInt (-8388608) 8388607 v

/-- The sample word of an output: value and `OVER`; a stored word never carries `SETTLING` (R103 to R105). -/
def sampleWord (x : RawSample) (age : Nat) : Nat :=
  bitsOfInt 24 (clampSample x.value) + 2 ^ 24 * b2n (decide (clampSample x.value ≠ x.value) || decide (age < 24))

/-- The limiters of the enabled channels take one output period (R104). -/
def State.ageLimiters (s : State) (l : List RawSample) : State :=
  { s with chans := s.chans.zipIdx.map (fun p => match l[p.2]? with
      | some x => { p.1 with limiterAge := limiterAfter p.1.limiterAge x.limited }
      | none => p.1) }

/-- The words of one output of every enabled channel. -/
def State.wordsOf (s : State) (l : List RawSample) : List Nat :=
  l.zipIdx.map (fun p => sampleWord p.1 (s.chans.getD p.2 {}).limiterAge)

/-- A candidate waits for a sample that reaches its boundary time, and this one does (R143). -/
def State.awaited (s : State) (t : Nat) : Bool := s.sync.candidates.any (fun c => decide (s.boundaryTime c ≤ t))

/-- The decimators produce an output now: at a fast tick, a whole number of output periods after the latest one, or from
the instant on that a hard-align reset sets; the first one since entry to RUN comes when it comes (R102, R146, log 30). -/
def State.outputDue (s : State) : Bool :=
  s.onFastTick && (match s.sync.nextOut with
    | none => true
    | some t => decide (t ≤ s.ts) && decide ((s.ts - t) % s.period = 0))

/-- DECIMATOR_OUTPUT (R102 to R105, R112, R141, R143 to R146): one sample of every enabled channel. It waits when it
decides a candidate; otherwise it takes its place at once. -/
def execDecimatorOutput (dt : Nat) (samples : List RawSample) (s : State) : Host.Outcome State Fault Refusal :=
  eventOf (fun s => samplesForm samples && decide (samples.length = s.channels)) dt
    (fun s => decide (s.mode = .run) && (s.decideAll s.sync.candidates.length).placeHeld.outputDue)
    (fun s =>
      let s := (s.decideAll s.sync.candidates.length).placeHeld
      let s := s.ageLimiters samples
      let settling := s.sync.settling
      let words := if settling = 0 then s.wordsOf samples else []
      let s := { s with sync := { s.sync with settling := settling - 1, nextOut := some (s.ts + s.period) } }
      if s.awaited s.ts then { s with sync := { s.sync with held := some (s.ts, words) } }
      else s.placeSample s.ts words) s

/-! ### Bias -/

/-- The class of a bias voltage in microvolts, against codes 40 and 880 (R108, R122, R123). -/
def biasOf (uv : Nat) : Bias :=
  if uv ≤ dacMicrovolts 40 then .short else if dacMicrovolts 880 ≤ uv then .open_ else .inWindow

/-- The status a withdrawn channel takes from an evaluation outside the window (R115). -/
def outsideStatus : Bias → Nat
  | .short => 4
  | _ => 3

/-- The idle timer advances only while a channel is valid (R65). -/
def State.followIdle (s : State) : State :=
  let idle := if s.enabled.all (fun c => withdrawn c.status) then s.power.idle.stop s.clock
    else s.power.idle.go s.clock
  if s.mode = .run then { s with power := { s.power with idle := idle } } else s

/-- A channel changes status, and the change is recorded (R115). In RUN `FAULT_N` is asserted while a channel is
withdrawn (R240). -/
def State.setStatus (s : State) (c : Nat) (x : Chan) (new : Nat) : State :=
  let s := { s with chans := s.chans.set c { x with status := new } }
  if x.status = new then s
  else
    let s := (s.channelRecord c x.status new x.detections).followIdle
    if s.mode = .run ∧ withdrawn new then { s with out := { s.out with fault := true } } else s

/-- The timebase period, counted from the close, in which the 200 µs of the holdback end: 4,915.2 (R111). -/
def per200us : Nat := 4915

/-- A channel frame of a tick that a detection discards: within the 200 µs of its holdback, or in the timebase period in
which they end, whether or not its release has come in that period (R111). -/
def State.caught (s : State) (c : Nat) (t : Tick) (f : ChanFrame) : Bool :=
  decide (f.chan = c) && decide (s.clock ≤ s.clockOf t.close + per200us) &&
  (decide (f.stage = .holdback) ||
   (decide (f.releasedAt = some s.clock) && (decide (f.stage = .waiting) || decide (f.stage = .extracting))))

/-- The held frames of a channel are discarded and their pages freed (R111, R154). -/
def State.discardHeld (s : State) (c : Nat) : State :=
  let hit := s.ticks.flatMap (fun t => t.frames.filter (s.caught c t))
  let mark (t : Tick) (f : ChanFrame) : ChanFrame := if s.caught c t f then { f with stage := .discarded } else f
  let caughtJob (j : ArrayJob) : Bool := s.ticks.any (fun t => decide (t.id = j.tick) &&
    t.frames.any (fun f => decide (f.chan = j.chan) && s.caught c t f))
  let s' := { s with
    arrays := s.arrays.map (fun j => j.filter (fun j => !caughtJob j))
    ticks := s.ticks.map (fun (t : Tick) => { t with frames := t.frames.map (mark t) }) }
  hit.foldl (fun s f => s.releasePage f.page) s'

/-- A wire fault is detected: the channel is withdrawn, the frame it fills is doomed, and its held frames are discarded. A
close of the same timebase period counts as made after the detection (R109, R111, R112). -/
def State.withdraw (s : State) (c : Nat) (x : Chan) (b : Bias) : State :=
  let x := { x with
    detections := satTo 65535 (x.detections + 1)
    outside := outsideStatus b
    recovery := 0
    withdrawnAt := s.clock
    doomed := x.page.isSome }
  ((s.setStatus c x (outsideStatus b)).redoTurn.discardHeld c).redoTurn

/-- One evaluation of a channel's bias comparator (R108, R109, R113 to R115, R128, R129). -/
def State.evaluateBias (s : State) (c uv : Nat) : State :=
  let old := s.chans.getD c {}
  let b := biasOf uv
  let x := { old with bias := some b }
  let out := decide (b ≠ .inWindow)
  if withdrawn old.status then
    if out then s.setStatus c { x with outside := outsideStatus b, recovery := 0 } (outsideStatus b)
    else if s.mode = .run then s.setStatus c { x with recovery := x.recovery + 1 } 5
    else { s with chans := s.chans.set c x }
  else if out && (decide (old.bias = some .short) || decide (old.bias = some .open_)) then s.withdraw c x b
  else { s with chans := s.chans.set c x }

/-- The bias comparators of one slow tick: enabled channels in IEPE mode (R107, R126). -/
def State.evaluateBiases (s : State) (l : List Nat) : State :=
  if s.voltageMode then s
  else (List.range s.channels).foldl (fun s c => s.evaluateBias c (l.getD c 0)) s

/-! ### The slow tick -/

/-- The shock latches of one slow tick, against code 160, and their counts in RUN (R122 to R124, R126, R128, R134). Every
evaluation in RUN that finds a latch set counts, whether or not it was set before (log 18). -/
def State.evaluateShock (s : State) (l : List Nat) : State :=
  let set := (List.range 4).map (fun c => decide (c < s.channels) && decide (dacMicrovolts 160 ≤ l.getD c 0))
  let counts := (s.sync.shockCounts.zip set).map (fun p => satTo 65535 (p.1 + b2n p.2))
  { s with sync := { s.sync with
      shock := set
      shockCounts := if s.mode = .run then counts else s.sync.shockCounts } }

/-- The wake logic at one slow tick in sleep: shock and `WAKE_N` (R69, R132, R133). The two consecutive slow ticks of
`WAKE_N` are both slow ticks of the sleep (log 18). -/
def State.wakeTick (s : State) (wakeNLow : Bool) : State :=
  let run := if wakeNLow then s.power.wakeNRun + 1 else 0
  let s := { s with power := { s.power with wakeNRun := run } }
  let mask := 2 * b2n (s.sync.shock.any id) + 4 * b2n (decide (2 ≤ run))
  if mask = 0 then s else s.requestWake mask

/-- The device is in RUN, BANKED or EMBER, where the acquisition comparators are evaluated (R126). -/
def State.watching (s : State) : Bool :=
  decide (s.mode = .run) || decide (s.mode = .banked) || decide (s.mode = .ember)

/-- SLOW_TICK (R108, R109, R113, R114, R123, R124, R126 to R129, R132 to R134, R314): every slow-tick comparator is
evaluated at one instant; the supply comparator's trips and re-arms are commands of their own. -/
def execSlowTick (dt : Nat) (inputs : SlowInputs) (s : State) : Host.Outcome State Fault Refusal :=
  eventOf (fun _ => slowForm inputs) dt (fun s => !s.power.por)
    (fun s =>
      let s := s.senseTemp inputs.temp
      if s.watching then
        let s := (s.evaluateBiases inputs.bias).evaluateShock inputs.shock
        if s.mode = .run then
          if s.ringOn then (s.sampleLink .a inputs.paLink).sampleLink .b inputs.pbLink else s
        else s.wakeTick inputs.wakeNLow
      else s) s

/-- CHANNEL_RECOVERY (R113, R115): 100,311 consecutive in-window evaluations in RUN. A frame that opens in the same
timebase period is the channel's first. -/
def execChannelRecovery (dt : Nat) (channel : Fin 32) (s : State) : Host.Outcome State Fault Refusal :=
  event dt
    (fun s =>
      let x := s.chans.getD channel.val {}
      decide (s.mode = .run) && decide (channel.val < s.channels) && decide (x.status = 5) &&
        decide (100311 ≤ x.recovery))
    (fun s =>
      let x := s.chans.getD channel.val {}
      (s.setStatus channel.val { x with recovery := 0, recoveredAt := s.clock } 1).redoTurn) s

/-! ### The holdback -/

/-- The oldest tick that still holds a frame back, when its 200 µs are over and a frame of the channel is among them: no
later tick passes it in the holdback (R14, R111). -/
def State.heldTick (s : State) (c : Nat) : Option Tick :=
  (s.ticks.find? (fun t => t.frames.any (fun f => decide (f.stage = .holdback)))).filter
    (fun t => decide (s.clockOf t.close + per200us ≤ s.clock) &&
      t.frames.any (fun f => decide (f.chan = c) && decide (f.stage = .holdback)))

/-- HOLDBACK_RELEASE (R96, R111, R154): 200 µs after the close, and not during a step-up pause, a channel frame is
released to the signal engine. -/
def execHoldbackRelease (dt : Nat) (channel : Fin 32) (s : State) : Host.Outcome State Fault Refusal :=
  event dt (fun s => decide (s.mode = .run) && !s.paused && (s.heldTick channel.val).isSome)
    (fun s => match s.heldTick channel.val with
      | none => s
      | some t =>
        let release (f : ChanFrame) : ChanFrame :=
          if f.chan = channel.val ∧ f.stage = .holdback then { f with stage := .waiting, releasedAt := some s.clock }
          else f
        { s with ticks := s.ticks.map (fun (u : Tick) =>
            if u.id = t.id then { u with frames := u.frames.map release } else u) }) s

/-! ### Auxiliary inputs -/

/-- AUX_CONVERSION (R118, R120, R249): one conversion, timestamped; those of `AUX0` serve the load of the frame. -/
def execAuxConversion (dt : Nat) (input : Fin 8) (code : BitVec 12) (s : State) : Host.Outcome State Fault Refusal :=
  event dt (fun s => decide (s.mode = .run))
    (fun s =>
      let y := s.sync
      { s with sync := { y with
          auxLast := y.auxLast.set input.val (s.ts, code.toNat)
          auxSums := modifyAt y.auxSums input.val (fun p => (p.1 + code.toNat, p.2 + 1))
          aux0 := if input.val = 0 then y.aux0 ++ [(s.ts, code.toNat)] else y.aux0 } }) s

end Sys2Proof.Machine
end

