-- ==== Sys2Proof/Machine/Ask.lean ====
section
/-! DEFINITION. Sys2Proof/Machine/Ask.lean: originating a fleet query (R341, R342, R346) and the credit a frame needs
(R327, R328). -/

namespace Sys2Proof.Machine

/-- The downstream credit covers `k` more cells of a class (R327). -/
def LinkPort.fits (x : LinkPort) (cls k : Nat) : Bool :=
  decide ((x.limits.getD cls 0 + 131072 - x.sent.getD cls 0 - k) % 65536 < 32768)

/-- The timer of a query in timebase periods, rounded up: 4 ms + N × 20 µs, or ten times that at 100 Mb/s (R346). -/
def State.queryLimit (s : State) : Nat :=
  let n := s.ring.map.length + 1
  if s.ringFast then (9830400 + 49152 * n + 99) / 100 else (98304000 + 491520 * n + 99) / 100

/-- The class of fleet queries: type 1, scope 32 (R318, R342). -/
def queryClass : Nat := classOf 1 32

/-- Cells of a fleet query frame (R326, R342). -/
def State.queryCells (s : State) : Nat := cellsOf 1072 s.ringAuth

/-- The cell pool and the credit of the port it would leave by allow a query (R328, R335, R341). -/
def State.queryRoom (s : State) : Bool :=
  let out := if s.ring.portA.up then s.ring.portA else s.ring.portB
  out.up && s.localRoom queryClass s.queryCells && out.fits queryClass (s.queryCells + 6)

/-- A query may be originated now (R338, R341). -/
def State.mayAsk (s : State) : Bool :=
  s.mayOriginate && decide (s.fleet.queries.length < 4) && s.queryRoom &&
  (match s.fleet.askedAt with | some t => decide (t + 50 * perMs ≤ s.clock) | none => true)

/-- Lane mask of a query kind: novelty diagnosis only, borrow normal only (R340). -/
def kindLanes (kind : Nat) : Nat := if kind = 1 then 2 else 1

/-- A fleet query is originated and its timer started (R342, R346). -/
def State.askFleet (s : State) (kind bin : Nat) (vec : HV) (row : Nat) (gen : Option Nat) (reissue : Bool) :
    State :=
  let e := s.fleet.e2e
  let stamp := s.ts % 2 ^ 32
  let q : OwnQuery :=
    { e2e := e, stamp := stamp, kind := kind, bin := bin, vec := vec, row := row, gen := gen, at_ := s.clock,
      limit := s.queryLimit, reissue := reissue }
  let p := queryPayload kind 32 bin (kindLanes kind) s.seedHash s.mclass (b2n reissue) 0 stamp vec
    (answerBlock false 0 {}) (answerBlock true 0 {})
  let s := s.originate 1 32 s.ringId 0 p
  { s with fleet := { s.fleet with queries := s.fleet.queries ++ [q], askedAt := some s.clock } }

end Sys2Proof.Machine
end

