-- ==== Sys2Proof/Machine/Encode.lean ====
section
/-! DEFINITION. Sys2Proof/Machine/Encode.lean: the item memory and its generator (R178 to R181, R192, R399), majority,
rotation, channel and machine vectors and the machine history (R183 to R189). -/

namespace Sys2Proof.Machine

/-! ### The generator -/

/-- One step of xorshift64 with shifts 13, 7 and 17 (R179). -/
def xorshift (x : Word64) : Word64 :=
  let x := x ^^^ (x <<< 13)
  let x := x ^^^ (x >>> 7)
  x ^^^ (x <<< 17)

/-- `n` outputs of the generator and its state after them (R179). -/
def draw : Nat → Word64 → List Word64 × Word64
  | 0, x => ([], x)
  | n + 1, x =>
    let x := xorshift x
    let r := draw n x
    (x :: r.1, r.2)

/-- The bytes of drawn vectors: 128 outputs a vector, segment order (R177, R180). -/
def drawnBytes (ws : List Word64) : List Byte := ws.flatMap (fun w => leBytes 8 w.toNat)

/-! ### The flip permutation -/

/-- One step of the partial shuffle (R181). -/
def shuffleStep (p : Array Nat) (i : Nat) (r : Word64) : Array Nat :=
  let j := i + r.toNat * (8192 - i) / 2 ^ 64
  let a := p.getD i 0
  let b := p.getD j 0
  (p.setIfInBounds i b).setIfInBounds j a

/-- The partial shuffle over a list of outputs (R181). -/
def shuffle : Nat → List Word64 → Array Nat → Array Nat
  | _, [], p => p
  | i, r :: rs, p => shuffle (i + 1) rs (shuffleStep p i r)

/-- Inverts the bits of a list of positions (R181). -/
def flipBits (v : HV) (ps : List Nat) : HV := ps.foldl (fun v p => v ^^^ (1#8192 <<< p)) v

/-! ### The item memory -/

/-- The item memory of an effective seed, as the bytes of the encoder scratch from 0x0508_0000 on (R180, R181, R399). -/
def itemMemory (seed : Nat) : List Byte :=
  let (ch, x) := draw 4096 (BitVec.ofNat 64 seed)
  let (ids, x) := draw 16384 x
  let (level, x) := draw 128 x
  let (perm, x) := draw 4080 x
  let (t1, x) := draw 128 x
  let (t2, _) := draw 128 x
  let p := ((shuffle 0 perm (Array.range 8192)).toList).take 4080
  let level0 := hvOfBytes (drawnBytes level)
  let held := (List.range 16).flatMap (fun m => hvBytes (flipBits level0 (p.take (256 * m))))
  drawnBytes ch ++ drawnBytes ids ++ drawnBytes t1 ++ drawnBytes t2 ++ held ++ p.flatMap (leBytes 2)

/-- Base of the encoder scratch (R399). -/
def encBase : Nat := 0x05080000

/-- One past the last item-memory word (R399). -/
def itemEnd : Nat := 0x050AE7E0

/-- Addresses inside the encoder scratch (R399). -/
def chanItemAddr (c : Nat) : Nat := 0x05080000 + c * 0x400

/-- `ID_f` (R399). -/
def idItemAddr (f : Nat) : Nat := 0x05088000 + f * 0x400

/-- `T1` and `T2` (R399). -/
def tieAddr (t : Nat) : Nat := 0x050A8000 + t * 0x400

/-- `LEVEL_16m` (R399). -/
def heldLevelAddr (m : Nat) : Nat := 0x050A8800 + m * 0x400

/-- p[i] (R399). -/
def flipAddr (i : Nat) : Nat := 0x050AC800 + 2 * i

/-- H[a] (R399). -/
def historyAddr (a : Nat) : Nat := 0x050AE800 + (a - 1) * 0x400

/-- Builds or rebuilds the item memory from the effective seed (R192, R193). -/
def State.buildItems (s : State) : State :=
  let s := s.poke encBase (itemMemory s.lib.seed)
  { s with lib := { s.lib with built := true, rebuilding := false } }

/-- A hypervector held in memory (R177). -/
def State.vectorAt (s : State) (a : Nat) : HV := BitVec.ofNat 8192 (s.peekNat a 1024)

/-- `LEVEL_q`: the nearest lower held level and the flips from there (R181, R192). -/
def State.levelVector (s : State) (q : Nat) : HV :=
  let m := q / 16
  flipBits (s.vectorAt (heldLevelAddr m)) ((List.range (16 * (q - 16 * m))).map
    (fun k => s.peekNat (flipAddr (16 * (16 * m) + k)) 2))

/-! ### Majority and rotation -/

/-- One bit of a majority (R184). -/
def majBit (terms : List HV) (tie : HV) (i : Nat) : Bool :=
  let n1 := terms.countP (fun v => v.getLsbD i)
  if terms.length < 2 * n1 then true else if 2 * n1 < terms.length then false else tie.getLsbD i

/-- The number whose bit k is `f (i + k)`, for `n` bits. -/
def bitsFrom (f : Nat → Bool) : Nat → Nat → Nat
  | 0, _ => 0
  | n + 1, i => b2n (f i) + 2 * bitsFrom f n (i + 1)

/-- The majority of hypervectors with a tie vector (R184). -/
def majority (terms : List HV) (tie : HV) : HV := BitVec.ofNat 8192 (bitsFrom (majBit terms tie) 8192 0)

/-- ρ^k: bit i moves to bit (i + k) mod 8,192 (R185). -/
def rot (v : HV) (k : Nat) : HV := v.rotateLeft k

/-! ### The vectors of a tick -/

/-- The channel vector of 128 levels (R186). -/
def State.channelVector (s : State) (levels : List Nat) : HV :=
  majority (levels.zipIdx.map (fun l => s.vectorAt (idItemAddr l.2) ^^^ s.levelVector l.1)) (s.vectorAt (tieAddr 0))

/-- The machine vector of the channel vectors of the valid channels (R187). -/
def State.machineVector (s : State) (vs : List (Nat × HV)) : HV :=
  majority (vs.map (fun v => s.vectorAt (chanItemAddr v.1) ^^^ v.2)) (s.vectorAt (tieAddr 1))

/-- The machine query vector from M(t) and the history held (R188). -/
def State.machineQuery (s : State) (m : HV) : HV :=
  (List.range (min (s.depth - 1) s.learn.history)).foldl
    (fun v a => v ^^^ rot (s.vectorAt (historyAddr (a + 1))) (a + 1)) m

/-- M(t) enters the machine history (R189). -/
def State.pushHistory (s : State) (m : HV) : State :=
  let n := min (s.depth - 1) (s.learn.history + 1)
  let old := (List.range s.learn.history).map (fun a => s.vectorAt (historyAddr (a + 1)))
  let s := s.poke (historyAddr 1) (((m :: old).take n).flatMap hvBytes)
  { s with learn := { s.learn with history := n } }

/-- The machine history is cleared, every word of it written as zero (R189, R193). -/
def State.clearHistory (s : State) : State :=
  let s := s.wipe (historyAddr 1) 0xC00
  { s with learn := { s.learn with history := 0 } }

/-- The item-memory words that the encoding of a tick reads: address and length of each run (R193). -/
def encodeReads (frames : List ChanFrame) : List (Nat × Nat) :=
  let used := (frames.flatMap ChanFrame.levels).dedup
  (List.range 128).map (fun f => (idItemAddr f, 1024)) ++
  used.map (fun q => (heldLevelAddr (q / 16), 1024)) ++
  used.map (fun q => (flipAddr (16 * (q / 16 * 16)), 2 * (16 * (q % 16)))) ++
  [(tieAddr 0, 1024), (tieAddr 1, 1024)] ++
  frames.map (fun f => (chanItemAddr f.chan, 1024))

end Sys2Proof.Machine
end

