-- ==== Sys2Proof/Machine/Reports.lean ====
section
/-! DEFINITION. Sys2Proof/Machine/Reports.lean: payloads of the boot, configuration echo, heartbeat, power-fail, alarm
change, frame summary, diagnosis and teach/forget records (R46, R63, R249, R292). -/

namespace Sys2Proof.Machine

/-- Boot payload (R249). -/
def State.bootPayload (s : State) : List Byte :=
  leBytes 3 s.vault.bootCount ++ [BitVec.ofNat 8 s.power.resetCause, 0xB1#8, 0#8] ++ leBytes 4 s.runSeconds

/-- Configuration echo bytes 0 to 17 (R46, R249). -/
def Straps.echoHead (x : Straps) (failed : Option Nat) : List Byte :=
  [BitVec.ofNat 8 x.cause, BitVec.ofNat 8 (failed.getD 0xFF), BitVec.ofNat 8 (b2n x.dumpRequested)] ++
  (List.range 15).map (fun k => BitVec.ofNat 8 (x.echoLevel k + 16 * x.status k))

/-- Configuration echo payload of the flue (R249). -/
def Straps.echoPayload (x : Straps) (failed : Option Nat) : List Byte :=
  x.echoHead failed ++ (List.range 15).flatMap (fun k => leBytes 3 (x.echoValue k))

/-- Configuration echo payload of the ash (R292). -/
def Straps.echoAsh (x : Straps) (failed : Option Nat) : List Byte :=
  x.echoHead failed ++ (match failed with
    | some k => if k < 15 then leBytes 3 (x.echoValue k) else leBytes 3 0
    | none => leBytes 3 0)

/-- Mean of a sum of codes; 0 when there is none. -/
def meanCode (p : Nat × Nat) : Nat := if p.2 = 0 then 0 else p.1 / p.2

/-- Heartbeat payload (R249). -/
def State.heartbeatPayload (s : State) (powerFail : Bool) : List Byte :=
  [BitVec.ofNat 8 (s.heartbeatFlags powerFail),
   BitVec.ofNat 8 (s.flue.wakeMask.getD 0 + 16 * s.panel.label),
   BitVec.ofNat 8 (s.power.vset + 16 * s.volt.lowest),
   BitVec.ofNat 8 (satTo 255 s.hearth.retired.length)] ++
  leBytes 4 (satTo 0xFFFFFFFF s.volt.lastSecond) ++
  leBytes 2 (satTo 65535 s.volt.canaryCount) ++
  leBytes 2 (satTo 65535 s.volt.canaryFails) ++
  leBytes 2 (satTo 65535 s.volt.slowRecalls) ++
  leBytes 2 (satTo 65535 s.panel.ignored) ++
  leBytes 2 (satTo 65535 s.sync.tachDrops) ++
  leBytes 4 (satTo 0xFFFFFFFF s.sync.glitchTotal) ++
  leBytes 2 (satTo 65535 s.learn.refusedSpawns) ++
  leBytes 2 (satTo 65535 s.fleet.refused) ++
  s.sync.shockCounts.flatMap (fun n => leBytes 2 (satTo 65535 n)) ++
  s.sync.auxSums.flatMap (fun p => leBytes 2 (meanCode p)) ++
  leBytes 2 s.learn.seasoned.length ++
  s.chans.flatMap (fun c => leBytes 2 (satTo 65535 c.drops))

/-- Power-fail trip payload of the ash (R292): state at the trip, row of the commit being finished and the dirty
learned rows lost. -/
def State.powerFailPayload (s : State) (state row lost : Nat) : List Byte :=
  [BitVec.ofNat 8 state, BitVec.ofNat 8 s.power.vset] ++ leBytes 2 row ++ leBytes 4 s.runSeconds ++
  [BitVec.ofNat 8 (satTo 255 lost)]

/-- Number of a device state (R292). -/
def stateNumber : DevState → Nat
  | .reset => 0
  | .strapRead => 1
  | .bist => 2
  | .load => 3
  | .run => 4
  | .banked => 5
  | .ember => 6
  | .powerFail => 7
  | .configFault => 8
  | .fault => 9

/-- Teach/forget payload (R249). -/
def teachForgetPayload (outcome label row freed bin collected radius : Nat) : List Byte :=
  [BitVec.ofNat 8 outcome, BitVec.ofNat 8 label] ++ leBytes 2 row ++ leBytes 2 freed ++
  [BitVec.ofNat 8 bin, BitVec.ofNat 8 collected] ++ leBytes 2 radius

/-- A teach/forget outcome goes to the flue and to the ash (R234, R293). -/
def State.teachRecord (s : State) (outcome label row freed bin collected radius : Nat) : State :=
  let p := teachForgetPayload outcome label row freed bin collected radius
  (s.report 0x09 s.ts p 1).ashRecord 0x09 s.ts p

/-- A teach that is collecting is abandoned with an outcome (R66, R234). -/
def State.abandonTeach (s : State) (outcome : Nat) : State :=
  match s.learn.teach with
  | none => s
  | some t =>
    let s := { s with learn := { s.learn with teach := none } }
    s.teachRecord outcome t.label 0xFFFF 0 (t.bin.getD 0xFF) t.vecs.length 0

/-- Byte 1 of a diagnosis record (R249). -/
def Diag.code (d : Diag) : Nat := d.severity % 4 + 4 * (d.cls % 4) + 16 * (d.label % 16)

/-- Diagnosis payload (R249). -/
def diagnosisPayload (d : Diag) (hits : Nat) : List Byte :=
  [BitVec.ofNat 8 d.query, BitVec.ofNat 8 d.code] ++ leBytes 2 d.row ++ leBytes 2 d.dist ++ leBytes 2 d.radius ++
  leBytes 2 d.second ++ leBytes 2 d.count ++ [BitVec.ofNat 8 d.originId] ++ leBytes 2 d.originSlot ++
  [BitVec.ofNat 8 hits]

/-- The last 8 levels, 2 bits each, newest in bits 1:0 (R249). -/
def levelsWord : List Nat → Nat
  | [] => 0
  | l :: ls => l + 4 * levelsWord ls

/-- Alarm change payload (R249). -/
def State.alarmPayload (s : State) (new prev : Nat) (levels : List Nat) (health diag : Nat) : List Byte :=
  [BitVec.ofNat 8 new, BitVec.ofNat 8 prev, BitVec.ofNat 8 s.faultCauses] ++
  leBytes 2 (levelsWord (levels.take 8)) ++ leBytes 2 health ++ [BitVec.ofNat 8 diag]

/-- H of one query of a tick, 0xFFFF when the tick has no such query (R249). -/
def Tick.healthOf (t : Tick) (scope : Nat) : Nat :=
  ((t.health.find? (fun p => decide (p.1 = scope))).map Prod.snd).getD 0xFFFF

/-- Frame summary payload (R249). -/
def Tick.summaryPayload (t : Tick) : List Byte :=
  leBytes 2 t.len ++ [BitVec.ofNat 8 t.status, BitVec.ofNat 8 t.flags, BitVec.ofNat 8 t.bin,
    BitVec.ofNat 8 t.level] ++ leBytes 2 t.tickHealth ++ leBytes 4 (satTo 0xFFFFFFFF t.rpm16) ++ leBytes 2 t.phi ++
  [BitVec.ofNat 8 (satTo 255 t.glitches), 0#8] ++ leBytes 4 t.validMask ++ leBytes 4 (maskOf t.clipped) ++
  leBytes 4 (maskOf t.dropped) ++ leBytes 2 (t.healthOf 32) ++
  (List.range 32).flatMap (fun c => leBytes 2 (t.healthOf c)) ++
  leBytes 2 (satTo 65535 t.tach0) ++ leBytes 2 (satTo 65535 t.tach1) ++ leBytes 2 t.auxMean

end Sys2Proof.Machine
end

