-- ==== Sys2Proof/Machine/Rows.lean ====
section
/-! DEFINITION. Sys2Proof/Machine/Rows.lean: what the engines share about rows: dirty flags (R276), freeing, spending and
erasing rows (R265 to R268), heals and refetch requests (R307). -/

namespace Sys2Proof.Machine

/-- The row a pending write goes to. -/
def RowOp.row : RowOp → Nat
  | .spawn row _ _ _ _ _ _ => row
  | .taught row _ _ _ _ _ _ _ _ _ => row
  | .admission row _ => row
  | .borrow row _ _ _ _ => row

/-- A learned row's dirty flags are set; a row keeps the place of its first setting since its last mirror (R276, R277). -/
def State.markDirty (s : State) (row : Nat) (data tag : Bool) : State :=
  if row < 8192 then s
  else
    let old := s.vault.dirty
    let flags :=
      if old.any (fun d => decide (d.row = row)) then
        old.map (fun d => if d.row = row then { d with data := d.data || data, tag := d.tag || tag } else d)
      else old ++ [⟨row, data, tag⟩]
    { s with vault := { s.vault with dirty := flags } }

/-- The row is data-dirty (R366). -/
def State.dataDirty (s : State) (row : Nat) : Bool := s.vault.dirty.any (fun d => decide (d.row = row) && d.data)

/-- The MRAM controller holds a journal entry for the row (R283, R366). -/
def State.entryHeld (s : State) (row : Nat) : Bool :=
  s.vault.entries.any (fun e => decide (e.row = row) || (decide (e.kind = 4) && decide (8192 ≤ row) && decide (row < 15360)))

/-- A row's accumulator is freed without a commit (R223). -/
def State.freeAccum (s : State) (row : Nat) : State :=
  { s with learn := { s.learn with accums := s.learn.accums.filter (fun a => !decide (a.row = row)) } }

/-- The row no longer holds what an earlier recall compared (R219). -/
def State.bumpLife (s : State) (row : Nat) : State :=
  { s with learn := { s.learn with lives := setSparse s.learn.lives row (sparse s.learn.lives row + 1) } }

/-- The flash interface serves refetches: a library is declared and not closed (R306, R307, R308). -/
def State.flashOpen (s : State) : Bool := s.libDeclared && s.lib.accepted && !s.lib.closed

/-- A request to the flash interface; dropped when the queue of 16 is full or the flash is closed (R307, R308). -/
def State.request (s : State) (r : Refetch) : State :=
  if s.flashOpen && decide (s.lib.queue.length < 16) then { s with lib := { s.lib with queue := s.lib.queue ++ [r] } }
  else s

/-- A write of the learning engine waits for the row's bank (R214, R256). -/
def State.learnWaits (s : State) (bank : Nat) : Bool :=
  s.learn.writes.any (fun w => decide (bankOf w.2.row = bank)) ||
  (decide (s.panel.hold = some false) &&
    s.learn.accums.any (fun a => a.due.isSome && decide (bankOf a.row = bank)))

/-- A heal from the vault waits for a bank (R256, R265). -/
def State.healWaits (s : State) (bank : Nat) : Bool := s.smoulder.heals.any (fun h => decide (bankOf h.row = bank))

/-- The banks are between two scans: every bank has ended its scan of the latest query (R210, R214). -/
def State.banksFree (s : State) : Bool := decide (s.hearth.scanEnd ≤ s.clock)

/-- A request for the row waits for the flash interface, or is being served. -/
def State.rowRequested (s : State) (row : Nat) : Bool :=
  (s.lib.serving.toList ++ s.lib.queue).any (fun r => match r with
    | .plan => false
    | .segments _ _ _ => false
    | .full x _ _ => decide (x = row))

/-- A full re-read of a spent library row is requested (R267). -/
def State.requestRow (s : State) (row : Nat) : State := s.request (.full row (s.tag row).gen.toNat false)

/-- A row is made spent: memory event 0x03, its accumulator freed, a library row's re-read requested (R267). -/
def State.spendRow (s : State) (row : Nat) (m : Master) : State :=
  let t := { s.tag row with spent := true }
  let s := (s.setTag row t).markDirty row false true
  let s := s.memoryEvent 0x03 m (rowAddr row) row 0xFF t.erasures 0
  let s := (s.freeAccum row).bumpLife row
  if s.partition row = 0 then s.requestRow row else s

/-- Healing of an erased segment starts by class (R265). -/
def State.startHeal (s : State) (row seg : Nat) (again : Bool) : State :=
  let gen := (s.tag row).gen.toNat
  match s.partition row with
  | 0 => s.request (.segments row gen again)
  | 3 => s
  | _ => { s with smoulder := { s.smoulder with heals := s.smoulder.heals ++ [⟨row, seg, gen, again⟩] } }

/-- An uncorrectable segment found by the smoulder, or reported to it, is handled (R265, R268). -/
def State.segmentFound (s : State) (row seg : Nat) (m : Master) : State :=
  let t := s.tag row
  if s.tagBad row || s.isRetired row || !t.valid || t.spent then s
  else if t.isErased seg then s.startHeal row seg false
  else
    let t := t.markErased seg true
    let s := (s.setTag row t).markDirty row false true
    let s := s.memoryEvent 0x01 m (rowAddr row + 8 * seg) row seg t.erasures 0
    if 32 < t.erasures then s.spendRow row m else s.startHeal row seg false

/-- The tag of a row with an uncorrectable tag word: the partition's class, spent, zero in every other field (R268). -/
def spentTag (cls : Nat) : Tag := { cls := BitVec.ofNat 2 cls, spent := true }

/-- An uncorrectable tag word makes the row spent with a rewritten tag: memory events 0x08 and 0x03 (R268). -/
def State.tagFound (s : State) (row : Nat) (m : Master) : State :=
  if s.isRetired row then s
  else
    let s := (s.setTag row (spentTag (s.partition row))).markDirty row false true
    let s := s.memoryEvent 0x08 m (tagAddr row) row 0xFF 0 0
    let s := s.memoryEvent 0x03 m (tagAddr row) row 0xFF 0 0
    let s := (s.freeAccum row).bumpLife row
    if s.partition row = 0 then s.requestRow row else s

/-- Errors that a recall met are reported to the smoulder, which acts as for its own finds (R204). -/
def State.metErrors (s : State) (met : List Met) (m : Master) : State :=
  met.foldl
    (fun s e => match e with
      | .segment row seg => if s.segBad row seg then s.segmentFound row seg m else s
      | .tag row => if s.tagBad row then s.tagFound row m else s) s

/-- Writes healed segments in one gap: the words, one generation step, the erasure bits cleared, and a memory event 0x02
for each segment (R265). -/
def State.healSegments (s : State) (row : Nat) (words : List (Nat × List Byte)) (m : Master) (source : Nat) : State :=
  let t := s.tag row
  let live := words.filter (fun w => t.isErased w.1)
  if live = [] then s
  else
    let s := live.foldl (fun s w => s.poke (rowAddr row + 8 * w.1) w.2) s
    let cleared := live.foldl (fun t w => t.markErased w.1 false) t
    let t := { cleared with gen := t.gen + 1 }
    let s := (s.setTag row t).markDirty row true true
    live.foldl (fun s w => s.memoryEvent 0x02 m (rowAddr row + 8 * w.1) row w.1 t.erasures source) s

/-- A row of a partition is free: not valid, or spent, and in no retired bank (R220, R233, R355). -/
def State.isFree (s : State) (row : Nat) : Bool :=
  let t := s.tag row
  (!t.valid || t.spent) && !s.isRetired row

/-- A row is in use: valid, not spent, and in no retired bank (R196, R198). -/
def State.inUse (s : State) (row : Nat) : Bool :=
  let t := s.tag row
  t.valid && !t.spent && !s.isRetired row

/-- A learned row is forgotten or freed: `tag.valid` cleared, its accumulator freed (R235, R236). -/
def State.freeRow (s : State) (row : Nat) : State :=
  let s := (s.setTag row { s.tag row with valid := false }).markDirty row false true
  (s.freeAccum row).bumpLife row

/-- The cell of a row: scope and bin (R216). -/
def cellOf (t : Tag) : Nat := 128 * t.scope.toNat + t.bin.toNat

/-- The cells that hold a valid normal row, ascending (R217). -/
def State.heldCells (s : State) : List Nat :=
  (s.taggedRows.filter (fun r => decide (s.partition r = 1) && s.inUse r)).foldl
    (fun l r => insertUp l (cellOf (s.tag r))) []

/-- A cell's kindling counter has reached the duration of `CFG6` (R217). -/
def State.kindled (s : State) (cell : Nat) : Bool :=
  match s.kindlingCounts with
  | none => false
  | some d => decide (d ≤ sparse s.learn.kindling cell)

/-- The cells that are SEASONED by their counters and rows, as LOAD derives them (R217). -/
def State.seasonedNow (s : State) : List Nat := s.heldCells.filter s.kindled

/-- The fleet partition is emptied (R71). -/
def State.emptyFleet (s : State) : State :=
  (s.taggedRows.filter (fun r => decide (s.partition r = 3))).foldl (fun s r => s.setTag r (freedTag 3)) s

end Sys2Proof.Machine
end

