-- ==== Sys2Proof/Machine/Accums.lean ====
section
/-! DEFINITION. Sys2Proof/Machine/Accums.lean: the 512 accumulators of the learning engine: seeding, opening, admission,
commit and re-seeding (R222, R223, R225, R269, R365). Counter i of accumulator a lies at 0x0200_0000 + 8192 a + i
(log 25). -/

namespace Sys2Proof.Machine

/-- Address of an accumulator's first counter. -/
def counterAddr (a : Nat) : Nat := 0x02000000 + a * 8192

/-- A counter as it is seeded: +16 for a 1, -16 for a 0, 0 in an erased segment (R223). -/
def seedByte (v : HV) (erased : Nat → Bool) (i : Nat) : Byte :=
  if erased (i / 64) then 0#8 else if v.getLsbD i then 16#8 else 240#8

/-- The learning time that the 600 s commit timers count (R225). -/
def State.learnTime (s : State) : Nat := s.learn.time.read s.clock

/-- The accumulator open for a row. -/
def State.accumOf (s : State) (row : Nat) : Option Accum := s.learn.accums.find? (fun a => decide (a.row = row))

/-- Replaces the accumulator of the same index. -/
def State.setAccum (s : State) (x : Accum) : State :=
  { s with learn := { s.learn with accums := s.learn.accums.map (fun a => if a.idx = x.idx then x else a) } }

/-- Counters are seeded from the row bits; a segment that reads uncorrectable is treated as erased and reported to the
smoulder (R223). -/
def State.seedCounters (s : State) (a row : Nat) : State :=
  let t := s.tag row
  let bad := (s.badSegments row).filter (fun g => !t.isErased g)
  let erased (g : Nat) := t.isErased g || bad.contains g
  let s := s.poke (counterAddr a) ((List.range 8192).map (seedByte (s.row row) erased))
  s.metErrors (bad.map (Met.segment row)) .smd

/-- The lowest uncorrectable word of an accumulator's counters. -/
def State.counterBad (s : State) (a : Nat) : Option Nat := s.badIn (counterAddr a) 8192

/-- The accumulator that owns an uncorrectable counter word is re-seeded; a word of an accumulator that is not open is
rewritten as zero (R269). -/
def State.reseedAccum (s : State) (a addr : Nat) (m : Master) : State :=
  match s.learn.accums.find? (fun x => decide (x.idx = a)) with
  | none => (s.poke (wordOf addr) (List.replicate 8 0#8)).memoryEvent 0x09 m addr 0xFFFF 0xFF 0 0
  | some x =>
    let s := (s.setAccum { x with n := 0, k := 0, timer := s.learnTime, due := none }).memoryEvent 0x09 m addr x.row
      0xFF (s.tag x.row).erasures 0
    s.seedCounters a x.row

/-- A row bit as a commit writes it (R225): `erased` the segments that count as erased, `full` when acc.n has reached
64. -/
def commitBit (counters : Array Byte) (old : HV) (erased : BitVec 128) (full : Bool) (i : Nat) : Bool :=
  let c := (counters.getD i 0#8).toInt
  if erased.getLsbD (i / 64) then (if full then decide (0 < c) else old.getLsbD i)
  else if 0 < c then true
  else if c < 0 then false
  else old.getLsbD i

/-- An accumulator is committed to its row; segments that read uncorrectable count as erased (R225, R265, R365). -/
def State.commitRow (s : State) (x : Accum) : State :=
  let old := s.tag x.row
  let bad := (s.badSegments x.row).filter (fun g => !old.isErased g)
  let t := bad.foldl (fun t g => t.markErased g true) old
  let segs := (List.range 128).filter t.isErased
  let full := decide (64 ≤ x.n)
  let counters := (s.peek (counterAddr x.idx) 8192).toArray
  let data : HV := BitVec.ofNat 8192 (bitsFrom (commitBit counters (s.row x.row) t.erased full) 8192 0)
  let kept := if full then [] else segs.map (fun g => (rowAddr x.row + 8 * g, errorsAt s.ecc (rowAddr x.row + 8 * g)))
  let t := { t with erased := if full then 0 else t.erased, gen := t.gen + 1 }
  let s := s.writeRow x.row data t
  let s := { s with ecc := kept.foldl (fun (l : List (Nat × Nat)) (e : Nat × Nat) => setErrors l e.1 e.2) s.ecc }
  let s := s.markDirty x.row true (decide (t.erased ≠ old.erased))
  let s := s.setAccum { x with k := 0, timer := s.learnTime, due := none }
  if full then
    segs.foldl (fun s g => s.memoryEvent 0x02 .lrn (rowAddr x.row + 8 * g) x.row g 0 0) s
  else
    let s := bad.foldl (fun s g => s.memoryEvent 0x01 .lrn (rowAddr x.row + 8 * g) x.row g t.erasures 0) s
    if 32 < t.erasures then s.spendRow x.row .lrn else s

/-- A commit, unless a counter word reads uncorrectable: then the accumulator is re-seeded and no commit is made; or a word
of the row's tag does: then the row is spent, which frees the accumulator (R268, R269). -/
def State.commitAccum (s : State) (x : Accum) : State :=
  match s.counterBad x.idx with
  | some a => s.reseedAccum x.idx a .lrn
  | none => if s.tagBad x.row then s.tagFound x.row .lrn else s.commitRow x

/-- The accumulator whose last admission is oldest, ties going to the lower index (R223). -/
def oldestAccum (l : List Accum) : Option Accum :=
  l.foldl (fun best a => match best with
    | none => some a
    | some b =>
      if a.lastAdmit < b.lastAdmit ∨ (a.lastAdmit = b.lastAdmit ∧ a.idx < b.idx) then some a else some b) none

/-- An accumulator is taken for another row: committed first when it holds admissions, then freed (R223, R269). -/
def State.takeAccum (s : State) (x : Accum) : State :=
  let s := if x.k = 0 then s else s.commitAccum x
  { s with learn := { s.learn with accums := s.learn.accums.filter (fun a => !decide (a.idx = x.idx)) } }

/-- An accumulator is open for the row: an index that is free, the lowest, or the one taken (R222, R223, log 26). -/
def State.openAccum (s : State) (row : Nat) : State :=
  if (s.accumOf row).isSome then s
  else
    let s := if s.learn.accums.length < 512 then s
      else match oldestAccum s.learn.accums with
        | none => s
        | some x => s.takeAccum x
    match (List.range 512).find? (fun i => !s.learn.accums.any (fun a => decide (a.idx = i))) with
    | none => s
    | some i =>
      let x : Accum := { idx := i, row := row, lastAdmit := s.learn.admitStamp, timer := s.learnTime }
      State.seedCounters { s with learn := { s.learn with accums := s.learn.accums ++ [x] } } i row

/-- One counter after an admission (R222). -/
def admitByte (b : Byte) (one : Bool) : Byte :=
  let c := b.toInt
  BitVec.ofInt 8 (if one then min (c + 1) 127 else max (c - 1) (-127))

/-- A counter is halved, truncating toward zero (R222). -/
def halveByte (b : Byte) : Byte := BitVec.ofInt 8 (b.toInt.tdiv 2)

/-- The counters of an open accumulator take an admitted vector (R222, R269). -/
def State.admitCounters (s : State) (row : Nat) (v : HV) : State :=
  let s := match s.accumOf row with
    | none => s
    | some x => match s.counterBad x.idx with
      | some a => s.reseedAccum x.idx a .lrn
      | none => s
  match s.accumOf row with
  | none => s
  | some x =>
    let cs := ((s.peek (counterAddr x.idx) 8192).zipIdx).map (fun p => admitByte p.1 (v.getLsbD p.2))
    let cs := if (x.n + 1) % 256 = 0 then cs.map halveByte else cs
    let s := s.poke (counterAddr x.idx) cs
    let s := s.setAccum { x with n := (x.n + 1) % 2 ^ 32, k := (x.k + 1) % 256, lastAdmit := s.learn.admitStamp }
    { s with learn := { s.learn with admitStamp := s.learn.admitStamp + 1 } }

end Sys2Proof.Machine
end

