-- ==== Sys2Proof/Machine/Dsp.lean ====
section
/-! DEFINITION. Sys2Proof/Machine/Dsp.lean: the arithmetic of the signal engine: truncated products (R84, R85), the log
function (R157), tables (R163 to R165), transforms, bands, kurtogram, envelope, statistics and levels (R160 to R173). -/

namespace Sys2Proof.Machine

/-! ### Products and accumulators -/

/-- One cell of the truncated Baugh-Wooley array (R84). -/
def tmulCell (ua ub i j : Nat) : Nat :=
  if i + j < 12 then 0
  else
    let bit := b2n (ua.testBit i && ub.testBit j)
    (if decide (i = 15) != decide (j = 15) then 1 - bit else bit) <<< (i + j)

/-- One row of the truncated Baugh-Wooley array (R84). -/
def tmulRow (ua ub i : Nat) : Nat := ((List.range 16).map (tmulCell ua ub i)).sum

/-- The truncated Baugh-Wooley product of two int16 operands (R84). -/
def tmul (a b : Int) : Int :=
  let ua := bitsOfInt 16 a
  let ub := bitsOfInt 16 b
  signedOf 32 (((List.range 16).map (tmulRow ua ub)).sum + 0x10000 + 0x80000000 + 0x2C00)

/-- A 40-bit two's-complement sum (R84). -/
def wrap40 (x : Int) : Int := signedOf 40 (bitsOfInt 40 x)

/-- The change that the late transitions of one accumulator make in its unguarded zone; each is below 4,096 in
magnitude (R85). -/
def lateError (free : Nat) (name : List Nat) : Int :=
  ((List.range (Config.lateEvents free name)).map
    (fun k => clampInt (-4095) 4095 (Config.lateTransition free name k))).sum

/-- An accumulator's result: the exact sum at codes 0 to 2 (`loose` none); at codes 3 to 6 late transitions may have
changed it (R85). -/
def acc (loose : Option Nat) (name : List Nat) (sum : Int) : Int :=
  match loose with
  | none => wrap40 sum
  | some free => wrap40 (sum + lateError free name)

/-- Saturation to int16. -/
def sat16 (x : Int) : Int := clampInt (-32768) 32767 x

/-- Arithmetic shift right. -/
def asr (x : Int) (n : Nat) : Int := x / (2 ^ n : Nat)

/-- The log function of the signal engine (R157). -/
def mlog (e : Nat) : Int :=
  if e = 0 then 0
  else
    let b := Nat.log2 e
    ((256 * b + (if 8 ≤ b then e >>> (b - 8) else e <<< (8 - b)) % 256 : Nat) : Int)

/-! ### Tables -/

/-- π × 2^96, rounded down. -/
def pi96 : Nat := 248902613312231085230521944622

/-- Terms of the alternating series x - x³/3! + … from the term `t` of degree `d` on, in units of 2^-96. -/
def series : Nat → Nat → Int → Int → Int
  | 0, _, _, _ => 0
  | n + 1, d, t, xx => t + series n (d + 2) (-(t * xx / 2 ^ 96) / (((d + 1) * (d + 2) : Nat) : Int)) xx

/-- sin(2πt / m) in units of 2^-96 for an angle within the first quarter turn. -/
def sinQuarter (t m : Nat) : Int :=
  let x : Int := ((2 * pi96 * t / m : Nat) : Int)
  if 4 * t = m then 2 ^ 96 else series 24 1 x (x * x / 2 ^ 96)

/-- sin(2πt / m) in units of 2^-96; exact at every quarter turn. -/
def sinTurn (t m : Nat) : Int :=
  let t := t % m
  if 4 * t ≤ m then sinQuarter t m
  else if 2 * t ≤ m then sinQuarter (m / 2 - t) m
  else if 4 * t ≤ 3 * m then -sinQuarter (t - m / 2) m
  else -sinQuarter (m - t) m

/-- cos(2πt / m) in units of 2^-96. -/
def cosTurn (t m : Nat) : Int := sinTurn (4 * t + m) (4 * m)

/-- A value in units of 2^-n, rounded half away from zero. -/
def roundAway (x : Int) (n : Nat) : Int :=
  let h : Int := 2 ^ (n - 1)
  if 0 ≤ x then (x + h) / 2 ^ n else -((-x + h) / 2 ^ n)

/-- The twiddles of an 8,192-point circle: rounded 32,767 cos and 32,767 sin (R165). -/
def twiddleTable : Array (Int × Int) :=
  (Array.range 8192).map (fun t => (roundAway (32767 * cosTurn t 8192) 96, roundAway (32767 * sinTurn t 8192) 96))

/-- tw(M, t, sgn) of R165, M a power of two up to 8,192. -/
def tw (m t : Nat) (sgn : Int) : Int × Int :=
  let p := twiddleTable.getD (t % m * (8192 / m)) (0, 0)
  (p.1, sgn * p.2)

/-- The Hann window coefficient (R164). -/
def hann (i n : Nat) : Int := roundAway (32767 * (2 ^ 96 - cosTurn i n)) 97

/-- The interpolator coefficient c[φ][k] (R163). -/
def sincCoefficient (phase k : Nat) : Int :=
  let t : Int := 64 * ((k : Int) - 7) - phase
  if t = 0 then 32767
  else if t % 64 = 0 then 0
  else
    let n := t.natAbs
    let w := 42 * 2 ^ 96 + 50 * cosTurn n 1024 + 8 * cosTurn n 512
    let sinc := sinTurn n 128 * (64 * 2 ^ 96) / ((pi96 * n : Nat) : Int)
    roundAway (32767 * (sinc * w / 2 ^ 96) / 100) 96

/-- The 1,024 interpolator coefficients (R163). -/
def sincTable : Array Int := (Array.range 1024).map (fun i => sincCoefficient (i / 16) (i % 16))

/-! ### Transforms -/

/-- One output of one radix step (R165). -/
def butterfly (loose : Option Nat) (name : List Nat) (z : Array (Int × Int)) (m r q k1 : Nat) (sgn : Int) : Int × Int :=
  let quot := m / r
  let s := Nat.log2 r
  let terms := (List.range r).map (fun n =>
    let c := tw m (k1 * (q + n * quot)) sgn
    let x := z.getD (q + n * quot) (0, 0)
    (tmul x.1 c.1 - tmul x.2 c.2, tmul x.1 c.2 + tmul x.2 c.1))
  let re := acc loose (0 :: k1 :: q :: name) (terms.map Prod.fst).sum
  let im := acc loose (1 :: k1 :: q :: name) (terms.map Prod.snd).sum
  (sat16 (asr (re + 2 ^ (14 + s)) (15 + s)), sat16 (asr (im + 2 ^ (14 + s)) (15 + s)))

/-- The complex transform of R165 of size `m`; `fuel` bounds the radix steps. -/
def cfft (loose : Option Nat) : Nat → List Nat → Nat → Array (Int × Int) → Int → Array (Int × Int)
  | 0, _, _, z, _ => z
  | fuel + 1, name, m, z, sgn =>
    if m ≤ 1 then z
    else
      let r := min 8 m
      let quot := m / r
      let parts := (Array.range r).map (fun k1 =>
        cfft loose fuel (k1 :: m :: name) quot
          ((Array.range quot).map (fun q => butterfly loose (m :: name) z m r q k1 sgn)) sgn)
      (Array.range m).map (fun i => (parts.getD (i % r) #[]).getD (i / r) (0, 0))

/-- One bin of the real spectrum from the packed transform (R166). -/
def spectrumBin (loose : Option Nat) (name : List Nat) (z : Array (Int × Int)) (h k : Nat) : Int × Int :=
  let a := z.getD (k % h) (0, 0)
  let b := z.getD ((h - k) % h) (0, 0)
  let ev := (asr (a.1 + b.1) 1, asr (a.2 - b.2) 1)
  let d := (asr (a.1 - b.1) 1, asr (a.2 + b.2) 1)
  let o := (sat16 d.2, sat16 (-d.1))
  let w := tw (2 * h) k (-1)
  let re := acc loose (0 :: k :: name) (tmul o.1 w.1 - tmul o.2 w.2)
  let im := acc loose (1 :: k :: name) (tmul o.1 w.2 + tmul o.2 w.1)
  (sat16 (ev.1 + asr (re + 16384) 15), sat16 (ev.2 + asr (im + 16384) 15))

/-- The real spectrum X[0..H] of `2 h` values (R166). -/
def realSpectrum (loose : Option Nat) (name : List Nat) (v : Array Int) (h : Nat) : Array (Int × Int) :=
  let z := cfft loose 16 (0 :: name) h ((Array.range h).map (fun n => (v.getD (2 * n) 0, v.getD (2 * n + 1) 0))) (-1)
  (Array.range (h + 1)).map (spectrumBin loose (1 :: name) z h)

/-- Power of one value (R166). -/
def power (x : Int × Int) : Nat := (x.1 * x.1 + x.2 * x.2).toNat

/-! ### Scaling and resampling -/

/-- The block exponent (R160). -/
def blockExponent (values : List Int) : Nat :=
  ((List.range 9).find? (fun e => values.all (fun v => decide (-32768 ≤ asr v e) && decide (asr v e ≤ 32767)))).getD 8

/-- The largest power of two that is at most `n`. -/
def floorPow2 (n : Nat) : Nat := if n = 0 then 0 else 2 ^ Nat.log2 n

/-- One resampled point (R162). -/
def resample (loose : Option Nat) (x : Array Int) (len : Nat) (start : Int) (rho i : Nat) : Int :=
  let xq := start + (i : Int) * rho
  let base := asr xq 16
  let phase : Nat := (asr xq 10 % 64).toNat
  let terms := (List.range 16).map (fun (k : Nat) =>
    let j := clampInt 0 ((len : Int) - 1) (base - 7 + (k : Nat))
    tmul (sincTable.getD (16 * phase + k) 0) (x.getD j.toNat 0))
  sat16 (asr (acc loose [2, i] terms.sum + 16384) 15)

/-- One windowed value (R164). -/
def windowed (loose : Option Nat) (y : Int) (i n : Nat) : Int :=
  sat16 (asr (acc loose [3, i] (tmul y (hann i n)) + 16384) 15)

/-! ### Band plans -/

/-- The built-in band edge (R173). -/
def builtInEdge (h b : Nat) : Nat :=
  if b = 64 then h
  else max 1 ((List.range 13).reverse.foldl
    (fun e i => if (e + 2 ^ i) ^ 8 * 2 ^ 64 ≤ h ^ 8 * 2 ^ b then e + 2 ^ i else e) 0)

/-- The bins of a Q16 pair: first bin and one past the last (R167). -/
def pairBins (h a z : Nat) : Nat × Nat :=
  let lo := a * h / 65536
  let hi := z * h / 65536
  if lo < hi then (lo, hi) else (min lo (h - 1), min lo (h - 1) + 1)

/-- The bins of band `b`; no plan bytes: the built-in plan (R167, R173). -/
def bandBins (plan : Option (List Byte)) (h b : Nat) : Nat × Nat :=
  match plan with
  | none => (builtInEdge h b, max (builtInEdge h b) (builtInEdge h (b + 1) - 1) + 1)
  | some p => pairBins h (fieldAt p (16 + 8 * b) 4) (fieldAt p (20 + 8 * b) 4)

/-- The bins of envelope pair `j` (R169, R173). -/
def envelopeBins (plan : Option (List Byte)) (h j : Nat) : Nat × Nat :=
  match plan with
  | none => (4 * j + 1, 4 * j + 5)
  | some p => pairBins h (fieldAt p (528 + 8 * j) 4) (fieldAt p (532 + 8 * j) 4)

/-- Default (lo, hi) of the statistics (R170). -/
def statisticPairs : List (Int × Int) :=
  [(-8192, 8192), (2560, 11776), (2560, 12032), (2816, 12288), (0, 2048), (256, 5376), (-1024, 1024), (0, 2560)] ++
  [(0, 512), (0, 1024), (1536, 11776), (0, 2048), (0, 256), (0, 65536), (2048, 11264), (512, 5632)]

/-- The quantisation pair of a feature (R171, R173). -/
def quantPair (plan : Option (List Byte)) (f : Nat) : Int × Int :=
  match plan with
  | none => if f < 112 then (2048, 11264) else statisticPairs.getD (f - 112) (0, 1)
  | some p => (planLo p f, planHi p f)

/-- The level of a feature value (R171). -/
def levelOf (pair : Int × Int) (f : Int) : Nat := (clampInt 0 255 (256 * (f - pair.1) / (pair.2 - pair.1))).toNat

/-! ### Kurtogram and envelope -/

/-- The envelope of a band of the spectrum (R168). -/
def bandEnvelope (loose : Option Nat) (x : Array (Int × Int)) (level p w : Nat) : Array Nat :=
  (cfft loose 16 [4, level, p] w ((Array.range w).map (fun n => x.getD (p * w + n) (0, 0))) 1).map power

/-- Sum of an array. -/
def sumArray (a : Array Nat) : Nat := a.foldl (· + ·) 0

/-- A kurtogram band: its envelope, and its kurtosis as a fraction (R168). -/
structure KurtBand where
  env : Array Nat
  width : Nat
  num : Nat
  den : Nat
  deriving DecidableEq, Repr

/-- The band's kurtosis is larger than another's, compared exactly; K = 0 when the envelope sums to zero (R168). -/
def KurtBand.above (a b : KurtBand) : Bool :=
  decide (0 < a.den) && (if b.den = 0 then decide (0 < a.num) else decide (b.num * a.den < a.num * b.den))

/-- One band of the kurtogram (R168). -/
def kurtBand (loose : Option Nat) (x : Array (Int × Int)) (h level p : Nat) : KurtBand :=
  let w := h / 2 ^ level
  let env := bandEnvelope loose x level p w
  let s := sumArray env
  { env := env, width := w, num := w * sumArray (env.map (fun e => e * e)), den := s * s }

/-- The bands of the kurtogram in order of level and position (R168). -/
def kurtBands : List (Nat × Nat) :=
  (List.range 6).flatMap (fun l => (List.range (2 ^ (l + 1))).map (fun p => (l + 1, p)))

/-- The chosen band: the largest kurtosis, the earlier on a tie (R168). -/
def chosenBand (loose : Option Nat) (x : Array (Int × Int)) (h : Nat) : KurtBand :=
  kurtBands.foldl
    (fun best lp =>
      let b := kurtBand loose x h lp.1 lp.2
      if b.above best then b else best)
    (kurtBand loose x h 1 0)

/-- 256 K of a band, saturated (R170). -/
def KurtBand.maximum (b : KurtBand) : Int :=
  if b.den = 0 then 0 else ((min (256 * b.num / b.den) (2 ^ 31 - 1) : Nat) : Int)

/-- The shift s_e and the scaled envelope (R169). -/
def scaledEnvelope (b : KurtBand) : Nat × Array Int :=
  let mean : Int := ((sumArray b.env / b.width : Nat) : Int)
  let diff := b.env.map (fun (e : Nat) => ((e : Nat) : Int) - mean)
  let fits (s : Nat) : Bool := diff.all (fun d => decide (-32768 ≤ asr d s) && decide (asr d s ≤ 32767))
  let s := ((List.range 64).find? fits).getD 0
  (s, diff.map (fun d => asr d s))

/-! ### Statistics -/

/-- Sum of a list of integers raised to a power. -/
def powerSum (values : List Int) (n : Nat) : Int := (values.map (fun v => v ^ n)).sum

/-- Sums over neighbours. -/
def neighbours (f : Int → Int → Int) : List Int → Int
  | a :: b :: l => f a b + neighbours f (b :: l)
  | _ => 0

/-- Floor quotient of a statistic, 0 when the divisor is zero (R170). -/
def quotient (a b : Int) : Int := if b = 0 then 0 else a / b

/-- Statistics 0 to 12 (R170). -/
def statistics (values : List Int) (overs : Nat) : List Int :=
  let l : Int := values.length
  let s1 := powerSum values 1
  let s2 := powerSum values 2
  let s3 := powerSum values 3
  let s4 := powerSum values 4
  let m2 := l * s2 - s1 ^ 2
  let m3 := l ^ 2 * s3 - 3 * l * s1 * s2 + 2 * s1 ^ 3
  let m4 := l ^ 3 * s4 - 4 * l ^ 2 * s1 * s3 + 6 * l * s1 ^ 2 * s2 - 3 * s1 ^ 4
  let mu := quotient s1 l
  let d := values.map (fun v => v - mu)
  let p : Int := ((d.map Int.natAbs).foldl max 0 : Nat)
  let a : Int := ((d.map Int.natAbs).sum : Nat)
  let hi := values.foldl max (values.headD 0)
  let lo := values.foldl min (values.headD 0)
  let rms := mlog (quotient m2 (l ^ 2)).toNat
  let peak := mlog (p ^ 2).toNat
  let crossings := neighbours (fun x y => if decide (x < 0) != decide (y < 0) then 1 else 0) d
  let steps := neighbours (fun x y => (y - x) ^ 2) values
  let excursions : Int := if 0 < m2 then ((d.filter (fun x => decide (9 * m2 ≤ x ^ 2 * l ^ 2))).length : Nat) else 0
  [mu, rms, peak, mlog ((hi - lo) ^ 2).toNat, peak - rms, quotient (256 * m4) (m2 ^ 2),
   (if m3 < 0 then -1 else if 0 < m3 then 1 else 0) * (Nat.sqrt (quotient (65536 * m3 ^ 2) (m2 ^ 3)).toNat : Int),
   mlog (p ^ 2 * l ^ 2).toNat - mlog (a ^ 2).toNat, mlog m2.toNat - mlog (a ^ 2).toNat,
   quotient (1024 * crossings) (l - 1), mlog (quotient steps (l - 1)).toNat,
   quotient (65536 * excursions) l, quotient (65536 * (overs : Int)) l]

/-- The frame's RMS exceeds 1.00 mV referred to the input, 4,096 LSB, taken about the frame mean (R65, R170). -/
def louderThanIdle (values : List Int) : Bool :=
  let l : Int := values.length
  decide (4096 ^ 2 * l ^ 2 < l * powerSum values 2 - powerSum values 1 ^ 2)

/-! ### The features of a channel frame -/

/-- How the transform input is formed (R161, R162): from the first samples, or resampled with a start and a step. -/
inductive Domain where
  | time
  | angle (points : Nat) (start : Int) (rho : Nat)
  deriving DecidableEq, Repr

/-- The transform size (R161). -/
def Domain.points (d : Domain) (len : Nat) : Nat :=
  match d with
  | .time => floorPow2 (min len 8192)
  | .angle n _ _ => n

/-- Sum of the power over bins lo to hi - 1. -/
def bandPower (p : Array Nat) (lo hi : Nat) : Nat := ((List.range (hi - lo)).map (fun i => p.getD (lo + i) 0)).sum

/-- The 128 feature values (R156). -/
def features (loose : Option Nat) (plan : Option (List Byte)) (d : Domain) (values : List Int) (overs : Nat) :
    List Int :=
  let len := values.length
  let e := blockExponent values
  let x := (values.map (fun v => asr v e)).toArray
  let n := d.points len
  let h := n / 2
  let y (i : Nat) : Int :=
    match d with
    | .time => x.getD i 0
    | .angle _ start rho => resample loose x len start rho i
  let v := (Array.range n).map (fun i => windowed loose (y i) i n)
  let spec := realSpectrum loose [5] v h
  let p := spec.map power
  let best := chosenBand loose spec h
  let (se, env) := scaledEnvelope best
  let half := best.width / 2
  let q := (realSpectrum loose [6] env half).map power
  let bands := (List.range 64).map (fun b =>
    let (lo, hi) := bandBins plan h b
    mlog (bandPower p lo hi) + 512 * e)
  let envs := (List.range 48).map (fun j =>
    let (lo, hi) := envelopeBins plan h j
    mlog (bandPower q (max lo 1) (min hi (half + 1))) + 1024 * e + 512 * se)
  let total := bandPower p 1 h
  let moment := ((List.range h).map (fun k => k * p.getD k 0)).sum
  bands ++ envs ++ statistics values overs ++
    [quotient (65536 * moment) (h * total), mlog total + 512 * e, best.maximum]

/-- The 128 levels of a channel frame (R156, R171). -/
def levels (loose : Option Nat) (plan : Option (List Byte)) (d : Domain) (values : List Int) (overs : Nat) : List Nat :=
  (features loose plan d values overs).zipIdx.map (fun f => levelOf (quantPair plan f.2) f.1)

/-- Transform size in the angle domain: S × E / R_e with S halved or doubled into 256 to 8,192 (R161). -/
def anglePoints (sCode e re : Nat) : Nat :=
  let n := 1024 * 2 ^ sCode * e / re
  if 8192 < n then 8192 else if n < 256 then 256 else n

end Sys2Proof.Machine
end

