-- ==== Sys2Proof/Machine/Panel.lean ====
section
/-! DEFINITION. Sys2Proof/Machine/Panel.lean: the label, the buttons and hold (R49 to R52, R231, R232, R234 to R237), the
taught slots' sequences (R351, R352), forget and rekindle (R235, R236, R278). -/

namespace Sys2Proof.Machine

/-! ### Readings -/

/-- The timebase periods of 20 ms (R50). -/
def per20ms : Nat := 491520

/-- The level of a `LABEL` reading; none when it is void or lies in a guard band (R27, R28, R51). -/
def labelLevel (zero ref pin : Codes) : Option Nat :=
  (pinOhms (codeSum zero) (codeSum ref) (codeSum pin)).bind strapLevel

/-- The run of equal readings and the ignored count after a reading (R51). -/
def Panel.takeLevel (p : Panel) (level : Option Nat) : Panel :=
  match level with
  | none => { p with labelRun := (0, 0), ignored := satTo 65535 (p.ignored + 1) }
  | some l => { p with labelRun := (l, if p.labelRun.1 = l then p.labelRun.2 + 1 else 1) }

/-- One sample of each button; true is high (R231). -/
def Panel.takeButtons (p : Panel) (teachN forgetN holdN : Bool) : Panel :=
  let teachHigh := if teachN then p.teachHigh + 1 else 0
  let forgetHigh := if forgetN then p.forgetHigh + 1 else 0
  { p with
    teachLow := if teachN then 0 else p.teachLow + 1
    teachHigh := teachHigh
    teachArmed := p.teachArmed || decide (3 ≤ teachHigh)
    forgetLow := if forgetN then 0 else p.forgetLow + 1
    forgetHigh := forgetHigh
    forgetArmed := p.forgetArmed || decide (3 ≤ forgetHigh)
    holdRun := (!holdN, if p.holdRun.1 = !holdN then p.holdRun.2 + 1 else 1) }

/-- LABEL_READING (R27, R50, R51, R231): every 20 ms in RUN one reading of `LABEL` from three measurements, with one sample
of each button at its start. The first comes 20 ms after entry to RUN: the model's choice, since R50 states the interval
alone (log 41). -/
def execLabelReading (dt : Nat) (zero ref pin : Codes) (teachN forgetN holdN : Bool) (s : State) :
    Host.Outcome State Fault Refusal :=
  event dt (fun s => decide (s.mode = .run) && decide (s.panel.readAt + per20ms ≤ s.clock))
    (fun s => { s with panel :=
      { (s.panel.takeButtons teachN forgetN holdN).takeLevel (labelLevel zero ref pin) with readAt := s.clock } }) s

/-- LABEL_ACCEPTED (R51, R234): the third equal reading of a new level; a teach that is collecting is abandoned. -/
def execLabelAccepted (dt : Nat) (s : State) : Host.Outcome State Fault Refusal :=
  event dt
    (fun s => s.coreRuns && decide (3 ≤ s.panel.labelRun.2) &&
      decide (s.panel.labelRun.1 ≠ s.panel.label))
    (fun s => State.abandonTeach { s with panel := { s.panel with label := s.panel.labelRun.1 } } 4) s

/-! ### Buttons -/

/-- TEACH_PRESS (R231, R232, R234): an accepted press starts a teach, is refused with label 15, or is ignored. -/
def execTeachPress (dt : Nat) (s : State) : Host.Outcome State Fault Refusal :=
  event dt (fun s => s.coreRuns && s.panel.teachArmed && decide (3 ≤ s.panel.teachLow))
    (fun s =>
      let s := { s with panel := { s.panel with teachArmed := false } }
      if s.learn.teach.isSome || s.panel.rekindleDue then s
      else if s.panel.label = 15 then s.teachRecord 2 15 0xFFFF 0 0xFF 0 0
      else { s with learn := { s.learn with teach := some { label := s.panel.label, acceptedAt := s.ts } } }) s

/-- The sequence of a taught slot is set and written (R286, R351). -/
def State.setSlotSeq (s : State) (slot q : Nat) : State :=
  let s := s.poke (slotSeqAddr slot) (leBytes 4 q)
  { s with vault := { s.vault with slotSeq := setSparse s.vault.slotSeq slot q } }

/-- The event counter F: the highest slot sequence (R351). -/
def State.eventCounter (s : State) : Nat := ((s.vault.slotSeq.map Prod.snd).max?).getD 0

/-- Local taught rows that carry a label, ascending (R235). -/
def State.taughtWith (s : State) (label : Nat) : List Nat :=
  s.taggedRows.filter (fun r => decide (s.partition r = 2) && s.inUse r && decide ((s.tag r).label.toNat = label))

/-- The taught rows of a label are forgotten: rows freed, sequences advanced, one frame sent (R235, R351, R352, R364). -/
def State.forget (s : State) (label : Nat) : State :=
  let rows := s.taughtWith label
  let s := rows.foldl State.freeRow s
  let s :=
    if rows = [] then s
    else
      let q := (s.eventCounter + 1) % 2 ^ 32
      let s := rows.foldl (fun s r => s.setSlotSeq (r - 15360) q) s
      if s.mayOriginate then
        s.originate 3 32 s.ringId 0
          (forgetPayload s.mclass label q s.seedHash (maskOf (rows.map (fun r => r - 15360))))
      else s
  s.teachRecord 7 label 0xFFFF rows.length 0xFF 0 0

/-- FORGET_PRESS (R231, R234, R235): an accepted press forgets the label's rows, asks for a rekindle, or is refused. -/
def execForgetPress (dt : Nat) (s : State) : Host.Outcome State Fault Refusal :=
  event dt (fun s => s.coreRuns && s.panel.forgetArmed && decide (151 ≤ s.panel.forgetLow))
    (fun s =>
      let s := { s with panel := { s.panel with forgetArmed := false } }
      let label := s.panel.label
      if 1 ≤ label ∧ label ≤ 14 then (s.abandonTeach 6).forget label
      else if label = 0 ∧ s.panel.hold = some true then
        let s := s.abandonTeach 6
        { s with panel := { s.panel with rekindleDue := true } }
      else s.teachRecord 9 label 0xFFFF 0 0xFF 0 0) s

/-- HOLD_CHANGE (R231, R237): three equal samples change or resolve the hold; the commit timers run while it is not
held. -/
def execHoldChange (dt : Nat) (s : State) : Host.Outcome State Fault Refusal :=
  event dt
    (fun s => decide (s.mode = .run) && decide (3 ≤ s.panel.holdRun.2) &&
      decide (s.panel.hold ≠ some s.panel.holdRun.1))
    (fun s =>
      let held := s.panel.holdRun.1
      { s with
        panel := { s.panel with hold := some held }
        learn := { s.learn with
          time := if held then s.learn.time.stop s.clock else s.learn.time.go s.clock } }) s

/-! ### Rekindle -/

/-- A pending write of the learning engine to a normal row. -/
def RowOp.toNormal : RowOp → Bool
  | .spawn _ _ _ _ _ _ _ => true
  | .taught _ _ _ _ _ _ _ _ _ _ => false
  | .admission _ _ => true
  | .borrow _ _ _ _ _ => true

/-- No tick is between the first query of its burst and the end of its learning stage (R236). -/
def State.betweenTicks (s : State) : Bool :=
  s.ticks.all (fun t => !(decide (t.stage = .recall) && t.queries.any (fun q => q.started)))

/-- REKINDLE (R236, R278): between two ticks, and between two scans, every normal row, accumulator and kindling counter is
cleared, every cell returns to KINDLING, and one REKINDLE entry goes to the MRAM controller at once. -/
def execRekindle (dt : Nat) (s : State) : Host.Outcome State Fault Refusal :=
  event dt (fun s => s.coreRuns && s.panel.rekindleDue && s.betweenTicks && s.banksFree)
    (fun s =>
      let rows := s.taggedRows.filter (fun r => decide (s.partition r = 1) && (s.tag r).valid)
      let s := rows.foldl State.freeRow s
      let entry : Entry := { kind := 4, row := 0xFFFF, spawn := 0, tag := {}, data := 0 }
      let s := { s with
        panel := { s.panel with rekindleDue := false }
        learn := { s.learn with
          accums := []
          kindling := []
          seasoned := []
          spawned := []
          writes := s.learn.writes.filter (fun w => !w.2.toNormal) }
        vault := { s.vault with
          dirty := s.vault.dirty.filter (fun d => decide (15360 ≤ d.row))
          entries := s.vault.entries ++ [entry] } }
      s.teachRecord 8 0 0xFFFF rows.length 0xFF 0 0) s

end Sys2Proof.Machine
end

