-- ==== Sys2Proof/Machine/Learn.lean ====
section
/-! DEFINITION. Sys2Proof/Machine/Learn.lean: the learning and health stage of a tick, teaches, spawns, admissions and
commits (R117, R121, R148, R190, R216 to R237, R340, R349, R351, R352, R364 to R371). -/

namespace Sys2Proof.Machine

/-! ### Health and diagnosis -/

/-- The health H of a query (R227). -/
def healthOf (l : Lane) : Nat := if l.none || decide (l.radius = 0) then 1000 else min 1000 (500 * l.dist / l.radius)

/-- A lane holds a diagnosis hit (R229, R349). -/
def Lane.hit (l : Lane) : Bool :=
  !l.none && decide (l.dist < l.radius) && decide (1 ≤ l.label) && decide (l.label ≤ 14) && decide (1 ≤ l.severity) &&
  decide (l.severity ≤ 2)

/-- A query's result. -/
def Query.res (q : Query) : Recall := q.result.getD {}

/-- The diagnosis hit of a query's own recall (R229). -/
def Query.diag (q : Query) : Option Diag :=
  let l := q.res.diagnosis
  if l.hit then
    some { query := q.scope, severity := l.severity, cls := l.cls, label := l.label, row := l.row, dist := l.dist,
           radius := l.radius, second := l.second, count := l.count, originId := l.originId, originSlot := l.originSlot }
  else none

/-- The ranking of hits: severity, then distance, then the earlier (R229); a fleet hit stands last (R349). -/
def rankDiag (best : Option Diag) (d : Diag) : Option Diag :=
  match best with
  | none => some d
  | some b => if b.severity < d.severity ∨ (b.severity = d.severity ∧ d.dist < b.dist) then some d else some b

/-- The fleet hits of a tick: they count for the machine query, when there is one (R349). -/
def State.tickFleetHits (s : State) (t : Tick) : List Diag := if t.queries = [] then [] else s.learn.fleetHits

/-- A query has a diagnosis hit, its own or the fleet's (R229, R349). -/
def queryHit (fleet : List Diag) (q : Query) : Bool :=
  q.diag.isSome || (decide (q.scope = 32) && !fleet.isEmpty)

/-- The tick diagnosis (R229, R349). -/
def tickDiag (fleet : List Diag) (t : Tick) : Option Diag :=
  ((t.queries.filterMap Query.diag) ++ fleet).foldl rankDiag none

/-- The cell of a query of a tick (R216). -/
def queryCell (t : Tick) (q : Query) : Nat := 128 * q.scope + t.bin

/-- H_t: the largest H among queries in SEASONED cells (R228). -/
def tickHealthOf (seasoned : List Nat) (t : Tick) : Nat :=
  ((t.queries.filter (fun q => seasoned.contains (queryCell t q))).map (fun q => healthOf q.res.normal)).foldl max 0

/-- The level of a tick that issued queries (R230). -/
def State.levelFor (s : State) (health : Nat) (d : Option Diag) : Nat :=
  let severity := (d.map Diag.severity).getD 0
  if s.alarmLevel ≤ health ∨ severity = 2 then 2 else if s.alertLevel ≤ health ∨ severity = 1 then 1 else 0

/-! ### Which queries learn -/

/-- A tick from which a query may be taken into a teach or learn: its status learns, it is not LOAD_FAULT, no channel frame
is CLIPPED and it is not NGRAM_SHORT, as far as the machine query goes (R218, R232). -/
def Tick.machineLearns (t : Tick) : Bool :=
  statusLearns t.status && !t.loadFault && decide (t.clipped = []) && !t.ngramShort

/-- A query is learnable (R117, R121, R148, R190, R218). -/
def State.learnable (s : State) (fleet : List Diag) (t : Tick) (q : Query) : Bool :=
  decide (s.panel.hold = some false) && statusLearns t.status && !t.loadFault && !queryHit fleet q &&
  (if q.scope = 32 then t.machineLearns else !t.clipped.contains q.scope)

/-! ### Spawns -/

/-- The row that a pending write of the learning engine gives new contents. -/
def RowOp.claims : RowOp → Option Nat
  | .spawn row _ _ _ _ _ _ => some row
  | .taught row _ _ _ _ _ _ _ _ _ => some row
  | .admission _ _ => none
  | .borrow _ _ _ _ _ => none

/-- A pending write has claimed the row. -/
def State.claimed (s : State) (row : Nat) : Bool := s.learn.writes.any (fun w => decide (w.2.claims = some row))

/-- The lowest-numbered free row from `lo` on and below `hi` (R220, R233). -/
def State.lowestFree (s : State) (lo hi : Nat) : Option Nat :=
  ((List.range hi).drop lo).find? (fun r => s.isFree r && !s.claimed r)

/-- The valid normal rows of a scope, ascending (R221). -/
def State.scopeRows (s : State) (scope : Nat) : List Nat :=
  s.taggedRows.filter (fun r => decide (s.partition r = 1) && s.inUse r &&
    decide ((s.tag r).scope.toNat = scope) && !s.claimed r)

/-- The rows of a scope that may be evicted: older than 3,600 s and not alone in their cell (R221). -/
def State.evictable (s : State) (scope : Nat) : List Nat :=
  let rows := s.scopeRows scope
  rows.filter (fun r =>
    decide (sparse s.learn.spawned r + 3600 < s.runSeconds) &&
    decide (1 < rows.countP (fun x => decide ((s.tag x).bin = (s.tag r).bin))))

/-- The row with the lowest hit count, the lower index among equals (R221). -/
def State.leastHit (s : State) (rows : List Nat) : Option Nat :=
  rows.foldl (fun best r => match best with
    | none => some r
    | some b => if (s.tag r).hits.toNat < (s.tag b).hits.toNat then some r else some b) none

/-- A row is evicted: its accumulator is freed without a commit (R221, R223). -/
def State.evict (s : State) (row : Nat) : State := (s.freeAccum row).bumpLife row

/-- A write of the learning engine waits for its bank's gap (R214, R226). -/
def State.pushWrite (s : State) (w : RowOp) : State :=
  { s with learn := { s.learn with writes := s.learn.writes ++ [(s.learn.stageTick, w)] } }

/-- A spawn into the lowest free normal row, or into an evicted one, or refused and counted (R220, R221). -/
def State.spawn (s : State) (vec : HV) (scope bin radius mu delta : Nat) : State × Option Nat :=
  match s.lowestFree 8192 15360 with
  | some row => (s.pushWrite (.spawn row vec scope bin radius mu delta), some row)
  | none => match s.leastHit (s.evictable scope) with
    | some row => ((s.evict row).pushWrite (.spawn row vec scope bin radius mu delta), some row)
    | none => ({ s with learn := { s.learn with refusedSpawns := satTo 65535 (s.learn.refusedSpawns + 1) } }, none)

/-! ### Admission -/

/-- The nearest normal row still holds what the recall compared (R219). -/
def State.asRecalled (s : State) (q : Query) : Bool :=
  let row := q.res.normal.row
  let t := s.tag row
  decide (sparse s.learn.lives row = q.life) && decide (s.partition row = 1) && t.valid && !t.spent &&
  !s.claimed row && !s.isRetired row

/-- An admission: accumulator and counters now, the tag in its bank's gap (R222, R226, R371). -/
def State.admission (s : State) (vec : HV) (row dist : Nat) : State :=
  ((s.openAccum row).admitCounters row vec).pushWrite (.admission row dist)

/-- The kindling counter of a cell takes the tick's T_ref (R216, R219). -/
def State.addKindling (s : State) (cell tRef : Nat) : State :=
  { s with learn := { s.learn with
      kindling := setSparse s.learn.kindling cell (satTo (2 ^ 48 - 1) (sparse s.learn.kindling cell + tRef)) } }

/-- One query of the learning stage (R219); the row that the machine query spawned goes along. -/
def State.learnQuery (fleet : List Diag) (t : Tick) (a : State × Option Nat) (q : Query) : State × Option Nat :=
  let s := a.1
  if !s.learnable fleet t q then a
  else
    let cell := queryCell t q
    let s := s.addKindling cell t.tRef
    let l := q.res.normal
    if !l.none && decide (l.dist < l.radius) && s.asRecalled q then (s.admission q.vec l.row l.dist, a.2)
    else if s.learn.seasoned.contains cell then (s, a.2)
    else
      let r := s.spawn q.vec q.scope t.bin 1024 2304 256
      (r.1, if q.scope = 32 then r.2 else a.2)

/-! ### Teaching -/

/-- 600 s have passed at the tick's close since the press was accepted (R232). -/
def Teach.overdue (x : Teach) (t : Tick) : Bool := decide (x.acceptedAt + 600 * 6144000 ≤ t.close)

/-- A teach that is overdue at a tick is abandoned with outcome 0x5 and the tick's close instant (R232, R234, R367). -/
def State.teachTimeoutAt (s : State) (t : Tick) : State :=
  match s.learn.teach with
  | none => s
  | some x =>
    if x.overdue t then
      let s := { s with learn := { s.learn with teach := none } }
      let p := teachForgetPayload 5 x.label 0xFFFF 0 (x.bin.getD 0xFF) x.vecs.length 0
      (s.report 0x09 t.close p 1).ashRecord 0x09 t.close p
    else s

/-- A tick is collected by a teach (R232, R367, R368). -/
def Teach.collects (x : Teach) (t : Tick) : Bool :=
  decide (x.acceptedAt < t.close) && decide (t.queries ≠ []) && t.machineLearns &&
  (match x.bin with | none => true | some b => decide (b = t.bin) && decide (x.mask = t.validMask))

/-- The radius, μ and δ of a taught row from the distances of its vectors (R233). -/
def teachValues (ds : List Nat) : Nat × Nat × Nat :=
  let mu := min 16383 (ds.sum / 4)
  (min 2560 (ds.foldl max 0 + 64), mu, min 4095 ((ds.map (fun (d : Nat) => (4 * (d : Int) - mu).natAbs)).sum / 16))

/-- Severity that a label teaches (R232). -/
def labelSeverity (label : Nat) : Nat := if label = 0 then 0 else if label ≤ 7 then 1 else 2

/-- The tag of a spawned row (R220). -/
def spawnTag (old : Tag) (scope bin radius mu delta : Nat) : Tag :=
  { cls := 1, valid := true, scope := BitVec.ofNat 6 scope, bin := BitVec.ofNat 7 bin, radius := BitVec.ofNat 14 radius
    mu := BitVec.ofNat 14 mu, delta := BitVec.ofNat 12 delta, gen := old.gen + 1 }

/-- The hit count, μ, δ and radius of a tag after an admission at distance `d_n` (R222, R224). -/
def Tag.admitted (t : Tag) (dn : Nat) : Tag :=
  let err : Int := 4 * (dn : Int) - t.mu.toNat
  let mu := clampInt 0 16383 ((t.mu.toNat : Int) + asr (err + 16) 5)
  let dev : Int := (err.natAbs : Int) - t.delta.toNat
  let delta := clampInt 0 4095 ((t.delta.toNat : Int) + asr (dev + 16) 5)
  { t with
    hits := BitVec.ofNat 16 (satTo 65535 (t.hits.toNat + 1))
    mu := BitVec.ofInt 14 mu
    delta := BitVec.ofInt 12 delta
    radius := BitVec.ofInt 14 (min 2560 (asr (mu + 6 * delta) 2 + 64)) }

/-- The tag of a taught row (R233). -/
def taughtTag (old : Tag) (bin label severity radius mu delta originId slot : Nat) : Tag :=
  { cls := 2, valid := true, scope := 32, bin := BitVec.ofNat 7 bin, binAny := true, label := BitVec.ofNat 4 label
    severity := BitVec.ofNat 2 severity, radius := BitVec.ofNat 14 radius, mu := BitVec.ofNat 14 mu
    delta := BitVec.ofNat 12 delta, gen := old.gen + 1, originId := BitVec.ofNat 8 originId
    originSlot := BitVec.ofNat 10 slot }

/-- The teach of a slot advances its sequence and is told to the fleet, but in ID clash or with the ring off (R351, R352,
R364). -/
def State.announceTeach (s : State) (slot : Nat) (tag : Tag) (data : HV) : State :=
  let q := (s.eventCounter + 1) % 2 ^ 32
  let s := s.setSlotSeq slot q
  if s.mayOriginate then s.originate 3 32 s.ringId 0 (teachPayload s.mclass slot q s.seedHash tag data) else s

/-- Sixteen vectors make a row: a taught row, or with label 0 a normal row (R233, R234, R351, R352). -/
def State.finishTeach (s : State) (x : Teach) (bin : Nat) : State :=
  let s := { s with learn := { s.learn with teach := none } }
  let bundle := majority x.vecs (s.vectorAt (tieAddr 1))
  let v := teachValues (x.vecs.map (hamming bundle))
  let done (s : State) (outcome row radius : Nat) : State := s.teachRecord outcome x.label row 0 bin 16 radius
  if x.label = 0 then
    let r := s.spawn bundle 32 bin v.1 v.2.1 v.2.2
    match r.2 with
    | some row => done r.1 1 row v.1
    | none => done r.1 3 0xFFFF 0
  else
    match s.lowestFree 15360 16384 with
    | none => done s 3 0xFFFF 0
    | some row =>
      let slot := row - 15360
      let sev := labelSeverity x.label
      let s := s.pushWrite (.taught row bundle bin x.label sev v.1 v.2.1 v.2.2 s.ringId slot)
      let s := done s 0 row v.1
      s.announceTeach slot (taughtTag (s.tag row) bin x.label sev v.1 v.2.1 v.2.2 s.ringId slot) bundle

/-- The machine query vector of a tick. -/
def Tick.machine (t : Tick) : Option Query := t.queries.find? (fun q => decide (q.scope = 32))

/-- A teach takes the machine vector of a tick it collects; the sixteenth completes it (R232, R233). -/
def State.collectTeach (s : State) (t : Tick) : State :=
  match s.learn.teach, t.machine with
  | some x, some q =>
    if x.collects t then
      let x := { x with bin := some t.bin, mask := t.validMask, vecs := x.vecs ++ [q.vec] }
      if x.vecs.length < 16 then { s with learn := { s.learn with teach := some x } } else s.finishTeach x t.bin
    else s
  | _, _ => s

/-! ### The end of the stage -/

/-- An accumulator meets a commit condition: k of 64, or 600 s with an admission (R225). -/
def State.commitReached (s : State) (a : Accum) : Bool :=
  decide (64 ≤ a.k) || (decide (1 ≤ a.k) && decide (a.timer + 600 * perSec ≤ s.learnTime))

/-- The commits that have become due at the end of a tick's learning stage; none under hold (R225, R237). -/
def State.markDue (s : State) : State :=
  if s.panel.hold = some false then
    { s with learn := { s.learn with accums := s.learn.accums.map (fun a =>
        if a.due.isNone && s.commitReached a then { a with due := some s.learn.stageTick } else a) } }
  else s

/-- The cells that are SEASONED after a tick (R217). -/
def State.seasonCells (s : State) : State :=
  { s with learn := { s.learn with
      seasoned := s.heldCells.filter (fun c => s.learn.seasoned.contains c || s.kindled c) } }

/-- The fleet query of a tick: a borrow for the row its machine query spawned, or a novelty (R340, R341). -/
def State.fleetQuestion (s : State) (t : Tick) (seasoned : List Nat) (spawned : Option Nat) (hits : Nat) : State :=
  match t.machine with
  | none => s
  | some q =>
    if !s.mayAsk then s
    else match spawned with
      | some row => s.askFleet 2 t.bin q.vec row none false
      | none =>
        if seasoned.contains (queryCell t q) && decide (s.alertLevel ≤ healthOf q.res.normal) && decide (hits = 0) then
          s.askFleet 1 t.bin q.vec 0 none false
        else s

/-- The tick whose learning stage comes next: the oldest not past it, once its burst has ended (R14, R219). -/
def State.learnTick (s : State) : Option Tick :=
  match s.ticks.find? (fun t => decide (t.stage ≠ .outputs)) with
  | some t => if decide (t.stage = .recall) && t.queries.all (fun q => q.result.isSome) then some t else none
  | none => none

/-- The health, diagnosis and level of a tick, entered in it (R227 to R230). -/
def State.judged (s : State) (t : Tick) : Tick :=
  let fleet := s.tickFleetHits t
  let seasoned := s.learn.seasoned
  let h := tickHealthOf seasoned t
  let d := tickDiag fleet t
  let level := if t.queries = [] then 0 else s.levelFor h d
  { t with
    stage := .outputs
    health := t.queries.map (fun q => (q.scope, healthOf q.res.normal))
    tickHealth := h
    level := level
    levels := if t.queries = [] then s.learn.levels else (level :: s.learn.levels).take 8
    kindling := decide (t.queries ≠ []) && t.queries.all (fun q => !seasoned.contains (queryCell t q))
    diag := d
    diagHits := t.queries.countP (queryHit fleet) }

/-- The learning and health stage of a tick (R217 to R237, R340, R349). -/
def State.learnStage (s : State) (t : Tick) : State :=
  let fleet := s.tickFleetHits t
  let seasoned := s.learn.seasoned
  let j := s.judged t
  let s := { s with
    ticks := s.ticks.map (fun (u : Tick) => if u.id = t.id then j else u)
    learn := { s.learn with fleetHits := [], levels := j.levels, stageTick := t.id } }
  let (s, spawned) := t.queries.foldl (State.learnQuery fleet t) (s, none)
  let s := ((s.teachTimeoutAt t).collectTeach t).markDue.seasonCells
  s.fleetQuestion t seasoned spawned j.diagHits

/-- The commit that comes next: of those that have become due, one of the earliest tick; none while hold is held or
unresolved (R225, R226, R237). -/
def State.commitWaits (s : State) : Option Accum :=
  if s.panel.hold = some false then
    let ticks := s.learn.accums.filterMap Accum.due
    s.learn.accums.find? (fun a => decide (a.due.isSome) && decide (a.due = ticks.min?))
  else none

/-- A recall burst is in progress (R17). -/
def State.burst (s : State) : Bool :=
  s.ticks.any (fun t => decide (t.stage = .recall) && t.queries.any (fun q => q.started) &&
    t.queries.any (fun q => q.result.isNone))

/-- A commit may be made at once: between two scans, after the burst, and with every row write and commit of the learning
engine landed (R17, R214, R226). -/
def State.commitFree (s : State) : Bool :=
  s.banksFree && !s.burst && s.learn.writes.isEmpty && s.commitWaits.isNone

/-- The learning stage of a tick may start: when its admissions may need more accumulators than are free, one may have to
be committed first, and the stage waits until that commit can be made (R17, R223, log 26). -/
def State.stageFree (s : State) (t : Tick) : Bool :=
  decide (s.learn.accums.length + t.queries.length ≤ 512) || s.commitFree

/-- LEARNING_STAGE (R216 to R237, R269, R340, R349, R351, R352): the oldest tick whose burst has ended. -/
def execLearningStage (dt : Nat) (upsets : List Upset) (s : State) : Host.Outcome State Fault Refusal :=
  eventOf (fun _ => upsetForm upsets) dt
    (fun s => s.coreRuns && (match s.learnTick with | some t => s.stageFree t | none => false))
    (fun s =>
      let s := s.upset upsets
      match s.learnTick with
      | none => s
      | some t => s.learnStage t) s

/-- TEACH_TIMEOUT (R232, R234): in the place of the learning stage of the first tick that closes 600 s after the
acceptance. -/
def execTeachTimeout (dt : Nat) (s : State) : Host.Outcome State Fault Refusal :=
  event dt
    (fun s => s.coreRuns && (match s.learnTick, s.learn.teach with
      | some t, some x => x.overdue t
      | _, _ => false))
    (fun s => match s.learnTick with
      | none => s
      | some t => s.teachTimeoutAt t) s

/-- A row write or commit of an earlier tick than `t` still waits (R226). -/
def State.earlierWaits (s : State) (t : Nat) : Bool :=
  s.learn.writes.any (fun w => decide (w.1 < t)) ||
  (match s.commitWaits with
    | some a => decide (a.due.getD 0 < t)
    | none => false)

/-- COMMIT (R17, R214, R225, R226, R237, R268, R269, R365): a commit that has become due is made between two scans, once no
burst is in progress and no write of an earlier tick waits, and not while hold is held or unresolved. -/
def execCommit (dt : Nat) (acc : Fin 512) (upsets : List Upset) (s : State) : Host.Outcome State Fault Refusal :=
  eventOf (fun _ => upsetForm upsets) dt
    (fun s => s.coreRuns && decide (s.panel.hold = some false) && !s.burst && s.banksFree &&
      s.learn.accums.any (fun a => decide (a.idx = acc.val) &&
        (match a.due with | some t => !s.earlierWaits t | none => false)))
    (fun s =>
      let s := s.upset upsets
      match s.learn.accums.find? (fun a => decide (a.idx = acc.val) && a.due.isSome) with
      | none => s
      | some x => s.commitAccum x) s

end Sys2Proof.Machine
end

