-- ==== Sys2Proof/Machine/Answer.lean ====
section
/-! DEFINITION. Sys2Proof/Machine/Answer.lean: what a unit does with a ring frame that it processes or that is delivered to
it: census (R332 to R334), fleet queries and their return (R343 to R350), teaches, forgets and sweeps (R351 to R357),
relayed reports (R360), tags (R337). -/

namespace Sys2Proof.Machine

/-- A ring event about a frame that arrived at a port, or at none: its port, peer and epoch, and its end-to-end sequence
(R249). -/
def State.frameEvent (s : State) (code : Nat) (p : Port) (e2e value : Nat) : State :=
  let x := s.ring.port p
  s.ringEvent code (portNum p) x.peer x.epoch e2e value

/-- A ring event that no port brought about (R249). -/
def State.unitEvent (s : State) (code e2e value : Nat) : State := s.ringEvent code 0xFF 0xFF 0xFF e2e value

/-- The tag of a frame passes: always without ring authentication (R337). -/
def State.verified (s : State) (f : YFrame) : Bool := !s.ringAuth || (f.auth && decide (f.tag = s.frameTag f))

/-! ### Census -/

/-- A stamp that differs from each of the unit's last three (R334). -/
def State.foreignStamp (s : State) (stamp : Nat) : Bool := !s.ring.stamps.contains stamp

/-- A census that carries the unit's own ID: with a foreign stamp it begins or prolongs ID clash (R334). -/
def State.ownCensus (s : State) (p : Port) (f : YFrame) : State :=
  if s.foreignStamp (fieldAt f.payload 0 4) then
    let fresh := s.ring.clashAt.isNone
    let s := { s with ring := { s.ring with clashAt := some s.clock } }
    if fresh then s.frameEvent 0x07 p f.e2e 0 else s
  else s

/-- The ring map entry of a source as a census refreshes it: hops to the source lie against the census's direction, and
count only without a turn (R319, R333). -/
def MapEntry.refresh (m : MapEntry) (f : YFrame) (clock : Nat) : MapEntry :=
  { m with
    hops := if f.turns = 0 then m.hops.set (1 - f.dir) (some f.hops) else m.hops
    seedHash := fieldAt f.payload 4 4
    mclass := byteAt f.payload 8
    flags := byteAt f.payload 9
    at_ := clock }

/-- A census of another unit refreshes its entry; a new entry is a ring event 0x06 with N (R333). -/
def State.census (s : State) (p : Port) (f : YFrame) : State :=
  if s.ring.map.any (fun m => decide (m.id = f.src)) then
    { s with ring := { s.ring with
        map := s.ring.map.map (fun (m : MapEntry) => if m.id = f.src then m.refresh f s.clock else m) } }
  else
    let entry : MapEntry := { id := f.src }
    let s := { s with ring := { s.ring with map := s.ring.map ++ [entry.refresh f s.clock] } }
    s.frameEvent 0x06 p f.e2e s.ringSize

/-! ### Fleet rows -/

/-- Fleet rows that hold (o, i), ascending (R355). -/
def State.holders (s : State) (o i : Nat) : List Nat :=
  s.taggedRows.filter (fun r => decide (s.partition r = 3) && !s.tagBad r &&
    ((s.tag r).valid || (s.tag r).spent) && decide ((s.tag r).originId.toNat = o) &&
    decide ((s.tag r).originSlot.toNat = i))

/-- The row that a placement of (o, i) writes (R355). -/
def State.placeRow (s : State) (o i : Nat) : Option Nat :=
  match s.holders o i with
  | r :: _ => some r
  | [] => ((List.range 8192).drop s.libraryRows).find? (fun r => s.isFree r && !s.tagBad r)

/-- The tag of a placed fleet row (R355). -/
def placedTag (old sent : Tag) (o i seq : Nat) : Tag :=
  { cls := 3, valid := true, scope := sent.scope, bin := sent.bin, binAny := sent.binAny, label := sent.label
    severity := sent.severity, radius := sent.radius, mu := sent.mu, delta := sent.delta, hits := BitVec.ofNat 16 seq
    gen := old.gen + 1, originId := BitVec.ofNat 8 o, originSlot := BitVec.ofNat 10 i }

/-- A placement is refused: ring event 0x0B, and counted (R258, R355). -/
def State.refusePlace (s : State) (p : Port) (e2e : Nat) : State :=
  let s := s.frameEvent 0x0B p e2e 0
  { s with fleet := { s.fleet with refused := s.fleet.refused + 1 } }

/-- A placement of (o, i) (R355). Two lost write collisions refuse it (R258). Segments it heals in a row that is not spent
are memory events 0x02 with source 3 (R265). Profile P0 places nothing (R354). -/
def State.place (s : State) (p : Port) (e2e o i seq : Nat) (sent : Tag) (data : HV) (lost : Nat) : State :=
  if s.profile = 0 then s
  else match s.placeRow o i with
    | none => s.refusePlace p e2e
    | some r =>
      if 2 ≤ lost then s.refusePlace p e2e
      else
        let old := s.tag r
        let healed := if old.valid && !old.spent then (List.range 128).filter old.isErased else []
        let s := s.writeRow r data (placedTag old sent o i seq)
        let s := healed.foldl (fun s g => s.memoryEvent 0x02 .rng (rowAddr r + 8 * g) r g 0 3) s
        s.frameEvent 0x0A p e2e r

/-- Every fleet row that holds (o, i) is freed (R354). -/
def State.freeSlot (s : State) (o i : Nat) : State := (s.holders o i).foldl (fun s r => s.setTag r (freedTag 3)) s

/-- The fleet sequence of an origin is set and written (R353). -/
def State.setFleetSeq (s : State) (o w : Nat) : State :=
  let s := s.poke (fleetSeqAddr o) (leBytes 4 w)
  { s with vault := { s.vault with fleetSeq := setSparse s.vault.fleetSeq o w } }

/-! ### Teach, forget and sweep -/

/-- The fleet frame's seed hash and machine class are this unit's (R338). -/
def State.matches_ (s : State) (seedHash mclass : Nat) : Bool := decide (seedHash = s.seedHash) && decide (mclass = s.mclass)

/-- A teach or forget frame (R338, R352 to R354). -/
def State.teachFrame (s : State) (p : Port) (f : YFrame) (lost : Nat) : State :=
  let b := f.payload
  let kind := byteAt b 0
  let seq := fieldAt b 4 4
  let whole := (decide (kind = 1) && decide (b.length = 1072) && decide (fieldAt b 2 2 < 1024)) ||
    (decide (kind = 2) && decide (b.length = 144))
  if !whole || !s.mayOriginate || !s.matches_ (fieldAt b 8 4) (byteAt b 1) then s
  else if serial32 seq (sparse s.vault.fleetSeq f.src) ≤ 0 then s
  else
    let s := s.setFleetSeq f.src seq
    if kind = 1 then
      s.place p f.e2e f.src (fieldAt b 2 2) seq (Tag.ofNat (fieldAt b 16 32)) (hvOfBytes (slice b 48 1024)) lost
    else
      let freed := fieldAt b 16 128
      ((List.range 1024).filter (fun i => bitOf freed i)).foldl (fun s i => s.freeSlot f.src i) s

/-- A row that holds (o, i) is as the sweep says (R357). -/
def State.current (s : State) (o i q : Nat) : Bool :=
  (s.holders o i).any (fun r =>
    let t := s.tag r
    t.valid && !t.spent && decide (t.erasures = 0) && decide (t.hits.toNat = q % 65536))

/-- A sweep frame (R338, R356, R357). -/
def State.sweepFrame (s : State) (p : Port) (f : YFrame) (lost : Nat) : State :=
  let b := f.payload
  let st := byteAt b 0
  let slot := fieldAt b 2 2
  let q := fieldAt b 4 4
  let whole := decide (slot < 1024) &&
    ((decide (st = 0) && decide (b.length = 16)) || (decide (st = 1) && decide (b.length = 1072)))
  if !whole || !s.mayOriginate || !s.matches_ (fieldAt b 12 4) (byteAt b 1) then s
  else if serial32 (fieldAt b 8 4) (sparse s.vault.fleetSeq f.src) < 0 then s
  else if st = 0 then s.freeSlot f.src slot
  else if s.current f.src slot q then s
  else s.place p f.e2e f.src slot q (Tag.ofNat (fieldAt b 16 32)) (hvOfBytes (slice b 48 1024)) lost

/-! ### Fleet queries -/

/-- Timebase periods of 100 ms. -/
def per100ms : Nat := 2457600

/-- This responder takes a query frame: RUN, no ID clash, a query of this fleet, and a defined kind (R338, R342). -/
def State.takesQuery (s : State) (f : YFrame) : Bool :=
  let b := f.payload
  decide (b.length = 1072) && (decide (byteAt b 0 = 1) || decide (byteAt b 0 = 2)) && s.mayOriginate &&
  s.matches_ (fieldAt b 4 4) (byteAt b 8)

/-- The visited cache entry of a query, less than 100 ms old (R345). -/
def State.visited (s : State) (f : YFrame) : Option Visit :=
  s.fleet.visited.find? (fun v => decide (v.src = f.src) && decide (v.e2e = f.e2e) &&
    decide (v.stamp = fieldAt f.payload 12 4) && decide (s.clock < v.at_ + per100ms))

/-- A query frame is held until its answer is folded in; a cached key needs no search (R343, R345). -/
def State.holdQuery (s : State) (p : Port) (f : YFrame) (cells : List Nat) : State :=
  let job : Job := { id := s.fleet.nextJob, frame := f, source := p, cells := cells, at_ := s.clock }
  let job := match s.visited f with
    | some v => { job with started := true, result := some (v.normal, v.diagnosis) }
    | none => job
  { s with fleet := { s.fleet with jobs := s.fleet.jobs ++ [job], nextJob := s.fleet.nextJob + 1 } }

/-- A fleet hit, from the diagnosis block of a novelty result (R349). -/
def fleetDiag (b : List Byte) : Option Diag :=
  let (l, responder) := parseBlock true (slice b 1056 16)
  if l.hit then
    some { query := 33, severity := l.severity, cls := l.cls, label := l.label, row := l.row, dist := l.dist,
           radius := l.radius, second := l.second, count := l.count, originId := responder, originSlot := l.originSlot }
  else none

/-- A live query's result is used: a fleet hit waits for the next tick, a borrow's rewrite for its bank's gap (R347, R349,
R350). -/
def State.useResult (s : State) (q : OwnQuery) (b : List Byte) : State :=
  if q.kind = 1 then
    match fleetDiag b with
    | some d => { s with learn := { s.learn with fleetHits := s.learn.fleetHits ++ [d] } }
    | none => s
  else
    let l := (parseBlock false (slice b 1040 16)).1
    if !l.none && decide (l.dist < l.radius) then
      s.pushWrite (.borrow q.row q.gen l.mu l.delta (min 2560 l.radius))
    else s

/-- A query frame is removed at its origin: while its key is live it is the result and its sequence is retired; otherwise
it is late (R347, R348). -/
def State.queryReturn (s : State) (p : Port) (f : YFrame) : State :=
  let b := f.payload
  match s.fleet.queries.find? (fun q => decide (q.e2e = f.e2e) && decide (q.stamp = fieldAt b 12 4)) with
  | none => s.frameEvent 0x09 p f.e2e (fieldAt b 10 2)
  | some q => State.useResult { s with fleet := { s.fleet with queries := s.fleet.queries.erase q } } q b

/-! ### Relayed records -/

/-- The CRC-32 of a relayed record is right (R246, R360). -/
def relayedGood (b : List Byte) : Bool :=
  decide (16 ≤ b.length) && decide (fieldAt b (b.length - 4) 4 = (crc32 (b.take (b.length - 4))).toNat)

/-- A relayed record at its collector (R360). -/
def State.relayedRecord (s : State) (b : List Byte) : State :=
  if s.collector && relayedGood b then s.putFlue (s.flue.enterRelayed s.ts b) else s

/-! ### What a frame does here -/

/-- A full-circuit frame is processed without a turn, or after one turn once it has passed its origin (R336). -/
def YFrame.processed (f : YFrame) : Bool := decide (f.turns = 0) || (decide (f.turns = 1) && f.passed)

/-- A frame of the unit's own ID arrives: a census may show an ID clash, and a query frame that is removed is a result
(R334, R336, R347). In ID clash no query frame is taken. -/
def State.ownFrame (s : State) (p : Port) (f : YFrame) : State :=
  let removed := decide (f.turns ≠ 1)
  if !(removed || f.processed) then s
  else if !s.verified f then s.frameEvent 0x0C p f.e2e f.cls
  else match trafficType f.cls with
    | 0 => if f.processed then s.ownCensus p f else s
    | 1 => if removed && s.ring.clashAt.isNone then s.queryReturn p f else s
    | _ => s

/-- A teach, forget or sweep frame is applied (R353, R354, R357). -/
def State.applyFrame (s : State) (p : Port) (f : YFrame) (lost : Nat) : State :=
  if trafficType f.cls = 3 then s.teachFrame p f lost else s.sweepFrame p f lost

/-- Row and tag writes land only between two scans: a teach, forget or sweep frame is applied at once in a gap, and waits
for the next one otherwise, in the order of arrival (R214, R257). -/
def State.placeFrame (s : State) (p : Port) (f : YFrame) (lost : Nat) : State :=
  if s.banksFree ∧ s.fleet.held = [] then s.applyFrame p f lost
  else { s with fleet := { s.fleet with held := s.fleet.held ++ [{ port := p, frame := f }] } }

/-- The oldest waiting teach, forget or sweep frame is applied in a gap. -/
def State.landHeld (s : State) (lost : Nat) : State :=
  match s.fleet.held with
  | [] => s
  | h :: rest => State.applyFrame { s with fleet := { s.fleet with held := rest } } h.port h.frame lost

/-- A full-circuit frame of another unit is processed, but for a query, which is held instead (R333, R353, R357). -/
def State.processFrame (s : State) (p : Port) (f : YFrame) (lost : Nat) : State :=
  match trafficType f.cls with
  | 0 => s.census p f
  | 3 => s.placeFrame p f lost
  | 4 => s.placeFrame p f lost
  | _ => s

/-- A unicast frame whose tag passes is delivered (R319, R360). -/
def State.deliverFrame (s : State) (f : YFrame) : State :=
  if trafficType f.cls = 5 ∨ trafficType f.cls = 6 then s.relayedRecord f.payload else s

end Sys2Proof.Machine
end

