-- ==== Sys2Proof/Machine/Library.lean ====
section
/-! DEFINITION. Sys2Proof/Machine/Library.lean: the library image at LOAD (R297 to R306) and its refetches in RUN (R307,
R308). -/

namespace Sys2Proof.Machine

/-- Where the band plan in force lies (R255, log 21). -/
def planAddr : Nat := 0x05070000

/-- Where the encoder parameters in force lie: seed, depth, machine class (R255, log 21). -/
def paramAddr : Nat := 0x05070800

/-- The built-in seed (R178). -/
def builtInSeed : Nat := 0x5EED0640A5C31B27

/-- The bytes of the band plan in force; none for the built-in plan (R172). -/
def State.plan (s : State) : Option (List Byte) :=
  if s.lib.planBuiltIn then none else some (s.peek planAddr planLen)

/-- Stores encoder parameters beside the plan (R255). -/
def State.storeParams (s : State) : State :=
  s.poke paramAddr (leBytes 8 s.lib.seed ++ [BitVec.ofNat 8 s.depth, BitVec.ofNat 8 s.mclass])

/-- The built-in plan is restored (R173, R306, R308). -/
def State.builtInPlan (s : State) : State :=
  let s := s.wipe planAddr 0x10000
  State.storeParams { s with lib := { s.lib with planBuiltIn := true } }

/-- The item memory is built with the built-in seed: no library is declared, or the image is refused (R178, R192, R306). -/
def State.withoutImage (s : State) : State :=
  let s := s.builtInPlan
  (State.storeParams { s with lib := { s.lib with
    stage := .over, accepted := false, closed := true, seed := effectiveSeed builtInSeed, header := {} } }).buildItems

/-- The memory event of a refusal (R306). -/
def State.refusalEvent (s : State) (cause addr : Nat) : State := s.memoryEvent 0x03 .lib addr 0xFFFF cause 0 1

/-- The image is refused at LOAD (R305, R306). -/
def State.refuse (s : State) (cause addr : Nat) : State := s.withoutImage.refusalEvent cause addr

/-- LOAD begins with the library: ABh with its wait of 100 µs and the header read with 03h, both at 12.288 MHz, or nothing
when no library is declared (R192, R298, R303). -/
def State.startLibrary (s : State) : State :=
  if s.libDeclared then
    { s with
      lib := { stage := .header }
      flash := [{ code := 0xAB, wait := 100 }, { code := 0x03, addr := some 0, length := 256 }] }
  else State.withoutImage { s with lib := {} }

/-- A read with `hdr.rdcmd` at `hdr.clk` (R303, R307). -/
def LibHeader.read (h : LibHeader) (addr length : Nat) : FlashCmd :=
  { code := h.rdcmd, addr := some addr, clk := h.clk, length := length }

/-- Address of record `i` in the flash (R298, R301). -/
def recordAddr (i : Nat) : Nat := 0x900 + recordLen * i

/-- Bit 0 of `hdr.flags`: the flash is in deep power-down between accesses (R299). -/
def LibHeader.sleeps (h : LibHeader) : Bool := bitOf h.flags 0

/-- B9h, when the image asks for deep power-down (R303, R307). -/
def LibHeader.sleepCmd (h : LibHeader) : List FlashCmd := if h.sleeps then [{ code := 0xB9 }] else []

/-- ABh with its wait, when the image asks for deep power-down (R307). -/
def LibHeader.wakeCmd (h : LibHeader) : List FlashCmd := if h.sleeps then [{ code := 0xAB, wait := h.tres }] else []

/-- LIBRARY_HEADER_READ_COMPLETE (R299, R303 to R306): the header checks in order, then the body read. -/
def execLibraryHeaderReadComplete (dt : Nat) (header : List Byte) (s : State) : Host.Outcome State Fault Refusal :=
  eventOf (fun _ => headerForm header) dt (fun s => decide (s.mode = .load) && decide (s.lib.stage = .header))
    (fun s =>
      match headerFailure s.imageAuth s.tap.image.bytes header with
      | some (cause, addr) => s.refuse cause addr
      | none =>
        let h := LibHeader.parse header
        { s with
          lib := { s.lib with stage := .body 0, header := h, sha := Sha.start }
          flash := [h.read 0x100 (planLen + recordLen * h.nrows)] }) s

/-- The band plan arrives (R300, R303, R305). -/
def State.planArrives (s : State) (item : List Byte) : State :=
  if !planCrcGood item then s.refuse 6 0x8FC
  else match planContentFailure item with
    | some o => s.refuse 5 (0x100 + o)
    | none => { s with lib := { s.lib with stage := .body 1, plan := item, sha := s.lib.sha.feed item } }

/-- The row of a record as it arrives: its data, with `tag.valid` 0; a record whose own `tag.valid` is 0 leaves an empty tag,
which is the model's choice (log 70). The rows that are made valid once every check has passed are those of the other
records (R302, R303). -/
def State.loadRow (s : State) (i : Nat) (item : List Byte) : State :=
  let t := recordTag item
  let s := s.writeRow i (recordData item) (if t.valid then loadedTag t false 0 else {})
  if t.valid then { s with lib := { s.lib with rows := s.lib.rows ++ [i] } } else s

/-- Record `i` arrives: its row is written when it is a library row in no retired bank (R301 to R303, R305). -/
def State.recordArrives (s : State) (i : Nat) (item : List Byte) : State :=
  let base := recordAddr i
  if !recordCrcGood item then s.refuse 6 (base + 1056)
  else match recordContentFailure item with
    | some o => s.refuse 5 (base + o)
    | none =>
      let s := { s with lib := { s.lib with stage := .body (i + 2), sha := s.lib.sha.feed item } }
      if decide (i < s.libraryRows) && !s.isRetired i then s.loadRow i item else s

/-- LIBRARY_ITEM_RECEIVED (R303): the band plan, then each record in ascending order. -/
def execLibraryItemReceived (dt : Nat) (item : List Byte) (s : State) : Host.Outcome State Fault Refusal :=
  eventOf
    (fun s => match s.lib.stage with
      | .body 0 => decide (item.length = planLen)
      | .body _ => decide (item.length = recordLen)
      | _ => itemForm item) dt
    (fun s => decide (s.mode = .load) && (match s.lib.stage with
      | .body k => decide (k ≤ s.lib.header.nrows)
      | _ => false))
    (fun s => match s.lib.stage with
      | .body 0 => s.planArrives item
      | .body (k + 1) => s.recordArrives k item
      | _ => s) s

/-- Every check has passed: rows are made valid, the plan and parameters stored, the item memory built (R172, R178, R192,
R303). -/
def State.acceptImage (s : State) : State :=
  let s := s.lib.rows.foldl (fun s r => s.setTag r { s.tag r with valid := true }) s
  let s := s.poke planAddr s.lib.plan
  (State.storeParams { s with
    lib := { s.lib with
      stage := .over, accepted := true, planBuiltIn := false, plan := []
      seed := effectiveSeed s.lib.header.seed
      asleep := s.lib.header.sleeps }
    flash := s.flash ++ s.lib.header.sleepCmd }).buildItems

/-- LIBRARY_BODY_COMPLETE (R303, R305): the digest is compared. -/
def execLibraryBodyComplete (dt : Nat) (s : State) : Host.Outcome State Fault Refusal :=
  event dt (fun s => decide (s.mode = .load) && decide (s.lib.stage = .body (s.lib.header.nrows + 1)))
    (fun s => if s.lib.sha.digest = s.lib.header.digest then s.acceptImage else s.refuse 6 0x20) s

/-! ### Refetches -/

/-- A band plan request is waiting or being served: the tick waits (R269, R308). -/
def State.planPending (s : State) : Bool :=
  decide (s.lib.serving = some .plan) || s.lib.queue.contains .plan

/-- The read of a request: the whole band plan or the whole row record (R307). -/
def LibHeader.fetch (h : LibHeader) : Refetch → FlashCmd
  | .plan => h.read 0x100 planLen
  | .segments row _ _ => h.read (recordAddr row) recordLen
  | .full row _ _ => h.read (recordAddr row) recordLen

/-- REFETCH (R307): the next request is served, band plan requests first; the flash leaves deep power-down for it. -/
def execRefetch (dt : Nat) (s : State) : Host.Outcome State Fault Refusal :=
  event dt (fun s => s.coreRuns && s.lib.serving.isNone && !s.lib.queue.isEmpty && s.flashOpen)
    (fun s =>
      let r := if s.lib.queue.contains .plan then some Refetch.plan else s.lib.queue.head?
      match r with
      | none => s
      | some r => { s with
          lib := { s.lib with serving := some r, queue := s.lib.queue.erase r, asleep := false }
          flash := s.lib.header.wakeCmd ++ [s.lib.header.fetch r] }) s

/-- The flash interface is free again; B9h when the image asks for deep power-down (R307). -/
def State.served (s : State) : State :=
  { s with
    lib := { s.lib with serving := none, asleep := s.lib.header.sleeps }
    flash := s.flash ++ s.lib.header.sleepCmd }

/-- The cause 5 and 6 checks of a band plan read in RUN (R308). -/
def planGood (item : List Byte) : Bool := planCrcGood item && (planContentFailure item).isNone

/-- Every library row is invalidated (R308). -/
def State.invalidateLibrary (s : State) : State :=
  (s.taggedRows.filter (fun r => decide (s.partition r = 0))).foldl
    (fun s r => s.setTag r { s.tag r with valid := false }) s

/-- One attempt at the band plan in RUN: the plan read replaces the stored plan, or a failed attempt; after the fourth the
library is given up (R308). -/
def State.planAttempt (s : State) (item : List Byte) : State :=
  if planGood item then
    let s := ((s.wipe planAddr 0x10000).poke planAddr item).storeParams.served
    { s with lib := { s.lib with planFails := 0, planBuiltIn := false } }
  else if s.lib.planFails < 3 then
    { s with lib := { s.lib with planFails := s.lib.planFails + 1, planAt := s.clock } }
  else
    let s := s.served.builtInPlan.invalidateLibrary
    State.refusalEvent { s with lib := { s.lib with closed := true, queue := [], planFails := 0 } } 7 0x8FC

/-- The segments of a record, by number. -/
def recordSegments (item : List Byte) (segs : List Nat) : List (Nat × List Byte) :=
  segs.map (fun g => (g, slice item (8 * g) 8))

/-- A row record read for a segment heal (R259, R308). `lost` counts lost write collisions; two abandon it (R258). An
uncorrectable word of the tag is a find (R268). -/
def State.applySegments (s : State) (item : List Byte) (row gen lost : Nat) (again : Bool) : State :=
  let t := s.tag row
  let s := s.served
  if s.tagBad row then s.tagFound row .lib
  else if !recordCrcGood item || !t.valid || t.spent then s
  else if t.gen.toNat ≠ gen then (if again then s else s.request (.segments row t.gen.toNat true))
  else if 2 ≤ lost then s
  else s.healSegments row (recordSegments item ((List.range 128).filter t.isErased)) .lib 1

/-- A row record read for a full re-read of a spent row (R259, R302, R308). An uncorrectable word of the tag is a find
(R268). -/
def State.applyFull (s : State) (item : List Byte) (row gen lost : Nat) (again : Bool) : State :=
  let t := s.tag row
  let s := s.served
  if s.tagBad row then s.tagFound row .lib
  else if !recordCrcGood item || !t.spent then s
  else if t.gen.toNat ≠ gen then (if again then s else s.request (.full row t.gen.toNat true))
  else if 2 ≤ lost then s
  else
    let r := recordTag item
    (s.writeRow row (recordData item) (if r.valid then loadedTag r true (t.gen + 1) else { gen := t.gen + 1 })).bumpLife row

/-- The row of a request, if it has one. -/
def Refetch.row? : Refetch → Option Nat
  | .plan => none
  | .segments row _ _ => some row
  | .full row _ _ => some row

/-- The item read for the request that is served may be applied: to a row only between two scans, once no write of the
learning engine waits for its bank (R214, R256). -/
def State.mayApply (s : State) : Bool :=
  match s.lib.serving.bind Refetch.row? with
  | none => true
  | some row => s.banksFree && !s.learnWaits (bankOf row)

/-- In a step-up pause the flash island reads on until its buffer of 1 KiB is full, and then stops `SCK`: the read completes
after the pause (R86, R96). -/
def State.fillFlash (s : State) (item : List Byte) : State :=
  { s with cross := { s.cross with flash := item.take 1024 } }

/-- The item read for a request is checked and applied (R259, R302, R308). -/
def State.applyItem (s : State) (item : List Byte) (lost : Nat) : State :=
  match s.lib.serving with
  | some .plan => s.planAttempt item
  | some (.segments row gen again) => s.applySegments item row gen lost again
  | some (.full row gen again) => s.applyFull item row gen lost again
  | none => s

/-- REFETCH_COMPLETE (R96, R214, R256, R258, R259, R302, R308): the item read is checked and applied. -/
def execRefetchComplete (dt : Nat) (item : List Byte) (lost : Nat) (s : State) : Host.Outcome State Fault Refusal :=
  eventOf
    (fun s => match s.lib.serving with
      | some .plan => decide (item.length = planLen)
      | some _ => decide (item.length = recordLen)
      | none => itemForm item) dt
    (fun s => decide (s.mode = .run) && s.lib.serving.isSome && decide (s.lib.planFails = 0) && (s.paused || s.mayApply))
    (fun s => if s.paused then s.fillFlash item else s.applyItem item lost) s

/-- BAND_PLAN_RETRY (R96, R308): 1 ms after a failed attempt the plan is read again. -/
def execBandPlanRetry (dt : Nat) (item : List Byte) (s : State) : Host.Outcome State Fault Refusal :=
  eventOf
    (fun s => if s.lib.serving = some .plan then decide (item.length = planLen) else itemForm item) dt
    (fun s => decide (s.mode = .run) && decide (s.lib.serving = some .plan) &&
      decide (0 < s.lib.planFails) && decide (s.lib.planAt + perMs ≤ s.clock))
    (fun s =>
      if s.paused then s.fillFlash item
      else State.planAttempt { s with flash := s.flash ++ [s.lib.header.fetch .plan] } item) s

end Sys2Proof.Machine
end

