-- ==== Sys2Proof/Machine/Vault.lean ====
section
/-! DEFINITION. Sys2Proof/Machine/Vault.lean: the vault mover and the MRAM controller's work in RUN: mirrors, journal
entries and the periodic writes of the persistent state (R216, R274 to R281, R286, R366). -/

namespace Sys2Proof.Machine

/-- The timebase periods of 5.0 ms (R277). -/
def per5ms : Nat := 122880

/-- The bits of the segments that a tag marks erased. -/
def erasedMask (t : Tag) : HV :=
  BitVec.ofNat 8192 (((List.range 128).filter t.isErased).foldl (fun m g => m + ((2 ^ 64 - 1) <<< (64 * g))) 0)

/-- The journal entry of a row as it stands; an erased segment is written as zero (R277, R280, R366). -/
def State.mirrorEntry (s : State) (d : Dirty) : Entry :=
  let t := s.tag d.row
  { kind := if !t.valid || t.spent then 3 else if d.data then 1 else 2
    row := d.row
    spawn := if d.row < 15360 then sparse s.learn.spawned d.row else 0
    tag := t
    data := s.row d.row &&& ~~~(erasedMask t) }

/-- The read of a mirror finds errors as any read does (R265, R268). -/
def State.mirrorFinds (s : State) (row : Nat) : State :=
  if s.tagBad row then s.tagFound row .vlt
  else s.metErrors (((s.badSegments row).filter (fun g => !(s.tag row).isErased g)).map (Met.segment row)) .vlt

/-- One row is mirrored: read whole, its flags cleared, one entry handed to the MRAM controller (R277). -/
def State.mirrorRow (s : State) (row : Nat) : State :=
  let s := s.mirrorFinds row
  match s.vault.dirty.find? (fun d => decide (d.row = row)) with
  | none => s
  | some d =>
    let e := s.mirrorEntry d
    { s with
      vault := { s.vault with
        dirty := s.vault.dirty.filter (fun x => !decide (x.row = row))
        entries := s.vault.entries ++ [e] }
      learn := if e.kind = 3 then { s.learn with spawned := setSparse s.learn.spawned row 0 } else s.learn }

/-- VAULT_MIRROR (R214, R277, R366): the oldest dirty row is mirrored in a gap between two scans, at most one every
5.0 ms. -/
def execVaultMirror (dt : Nat) (upsets : List Upset) (s : State) : Host.Outcome State Fault Refusal :=
  eventOf (fun _ => upsetForm upsets) dt
    (fun s => s.coreRuns && s.banksFree && !s.vault.dirty.isEmpty &&
      (match s.vault.mirrorAt with | none => true | some t => decide (t + per5ms ≤ s.clock)))
    (fun s =>
      let s := s.upset upsets
      match s.vault.dirty.head? with
      | none => s
      | some d =>
        let s := s.mirrorRow d.row
        { s with vault := { s.vault with mirrorAt := some s.clock } }) s

/-- Commits every held entry, oldest first; `n` bounds their number (R279, R281). -/
def State.commitAll (s : State) : Nat → State
  | 0 => s
  | n + 1 => match s.vault.entries with
    | [] => s
    | e :: _ => (s.commitEntry e).commitAll n

/-- JOURNAL_COMMIT (R275, R281): the oldest held entry is written to its slot and applied to the vault; ash records are
served first. -/
def execJournalCommit (dt : Nat) (s : State) : Host.Outcome State Fault Refusal :=
  event dt (fun s => decide (s.mode = .run) && !s.vault.entries.isEmpty && s.ash.waiting.isEmpty)
    (fun s => match s.vault.entries with
      | [] => s
      | e :: _ => s.commitEntry e) s

/-- Running time and every kindling counter are written to the persistent state (R216, R286). -/
def State.persistCounters (s : State) : State :=
  let s := s.poke runSecondsAddr (leBytes 8 s.runSeconds)
  let s := s.wipe (kindlingAddr 0) 33792
  s.learn.kindling.foldl (fun s p => s.poke (kindlingAddr p.1) (leBytes 8 p.2)) s

/-- KINDLING_COUNTER_PERSIST (R216, R275, R286, R369): the write that is due after each 60 s of RUN has been made; ash
records and vault commits are served first. -/
def execKindlingCounterPersist (dt : Nat) (s : State) : Host.Outcome State Fault Refusal :=
  event dt (fun s => s.persistDue && s.coreRuns && s.ash.waiting.isEmpty && s.vault.entries.isEmpty)
    (fun s =>
      let s := s.persistCounters
      { s with vault := { s.vault with persistAt := s.vault.persistAt + 60 * perSec } }) s

end Sys2Proof.Machine
end

