-- ==== Sys2Proof/Machine/Recall.lean ====
section
/-! DEFINITION. Sys2Proof/Machine/Recall.lean: one recall against the hearth: eligibility, lanes, the cheap and the exact
path, errors met, and the result (R196, R198 to R208, R371). -/

namespace Sys2Proof.Machine

/-- Rows whose tag holds an uncorrectable word (R204). -/
def State.badTagRows (s : State) : List Nat :=
  (s.ecc.filter (fun e => decide (0x01000000 ≤ e.1) && decide (e.1 < 0x01080000) &&
    decide (fatalErrors e.1 ≤ e.2))).map (fun e => (e.1 - 0x01000000) / 32)

/-- The rows that a recall has to look at, ascending: every other row has `tag.valid` 0. -/
def State.recallRows (s : State) : List Nat := s.badTagRows.foldl insertUp s.taggedRows

/-- A row is eligible (R199). -/
def State.eligible (s : State) (r : Nat) (t : Tag) : Bool :=
  t.valid && !t.spent && decide (t.erasures ≤ 32) && decide (t.cls.toNat = s.partition r) && !reservedScope t &&
  decide (t.severity ≠ 3) && !s.isRetired r

/-- The effective radius (R198). -/
def Tag.effectiveRadius (t : Tag) : Nat := min t.radius.toNat 2560

/-- What a query carries beside its vector (R200): scope, bin, lane mask, and whether fleet rows are left out. -/
structure Filter where
  scope : Nat
  bin : Nat
  normal : Bool := true
  diagnosis : Bool := true
  noFleet : Bool := false
  deriving DecidableEq, Repr

/-- The row's bin matches (R200). -/
def Filter.binMatches (q : Filter) (t : Tag) : Bool := t.binAny || decide (t.bin.toNat = q.bin)

/-- An eligible row enters the normal lane (R200). -/
def Filter.entersNormal (q : Filter) (t : Tag) : Bool :=
  q.normal && decide (t.cls = 1) && decide (t.scope.toNat = q.scope) && q.binMatches t

/-- An eligible row enters the diagnosis lane (R200). -/
def Filter.entersDiagnosis (q : Filter) (t : Tag) : Bool :=
  q.diagnosis && decide (t.cls ≠ 1) && !(q.noFleet && decide (t.cls = 3)) &&
  (decide (t.scope.toNat = q.scope) || decide (t.scope.toNat = 63)) && q.binMatches t

/-- What a bank finds at one row that enters a lane: errors met, and `d_n` when the row took the exact path. -/
structure Look where
  met : List Met := []
  dn : Option Nat := none
  deriving DecidableEq, Repr

/-- Segments of a row, from `lo` on and below `hi`, that a recall meets as uncorrectable: those not yet erased (R204,
R371). -/
def State.metIn (s : State) (r : Nat) (t : Tag) (lo hi : Nat) : List Nat :=
  ((List.range hi).drop lo).filter (fun g => !t.isErased g && s.segBad r g)

/-- The normalised distance of the segments that are not erased (R203). -/
def normalDistance (t : Tag) (row v : HV) : Nat :=
  popcount 8192 ((row ^^^ v) &&& ~~~(erasedMask t)).toNat * 128 / (128 - t.erasures)

/-- The cheap path and the exact path for a row that enters a lane (R201 to R204). -/
def State.look (s : State) (v : HV) (r : Nat) (t : Tag) : Look :=
  let first := s.metIn r t 0 16
  let t0 := first.foldl (fun t g => t.markErased g true) t
  let met0 := first.map (Met.segment r)
  if 32 < t0.erasures then { met := met0 }
  else if (List.range 16).all (fun g => !t0.isErased g) && decide (3072 < 8 * popcount 1024 (s.row r ^^^ v).toNat) then
    { met := met0 }
  else
    let rest := s.metIn r t 16 128
    let t1 := rest.foldl (fun t g => t.markErased g true) t0
    let met := met0 ++ rest.map (Met.segment r)
    if 32 < t1.erasures then { met := met } else { met := met, dn := some (normalDistance t1 (s.row r) v) }

/-- An exact-path row enters a lane's result; rows come in ascending index, so the lower wins a tie (R205 to R207). -/
def Lane.take (l : Lane) (r dn : Nat) (t : Tag) : Lane :=
  let count := satTo 65535 (l.count + b2n (decide (dn < t.effectiveRadius)))
  if l.none || decide (dn < l.dist) then
    { none := false, row := r, dist := dn, radius := t.effectiveRadius, second := l.dist, count := count
      cls := t.cls.toNat, label := t.label.toNat, severity := t.severity.toNat, mu := t.mu.toNat
      delta := t.delta.toNat, originId := t.originId.toNat, originSlot := t.originSlot.toNat }
  else { l with second := min l.second dn, count := count }

/-- One row of a recall (R199 to R208). -/
def State.recallRow (s : State) (v : HV) (q : Filter) (a : Recall × List Met) (r : Nat) : Recall × List Met :=
  if s.isRetired r then a
  else if s.tagBad r then ({ a.1 with erasedSeen := true }, a.2 ++ [.tag r])
  else
    let t := s.tag r
    let normal := q.entersNormal t
    if !s.eligible r t || !(normal || q.entersDiagnosis t) then a
    else
      let x := s.look v r t
      let res := { a.1 with erasedSeen := a.1.erasedSeen || x.met ≠ [] }
      match x.dn with
      | none => (res, a.2 ++ x.met)
      | some dn =>
        (if normal then { res with normal := res.normal.take r dn t, exact := res.exact + 1 }
         else { res with diagnosis := res.diagnosis.take r dn t, exact := res.exact + 1 }, a.2 ++ x.met)

/-- One recall (R205 to R209): the result, and the errors it met. -/
def State.recall (s : State) (v : HV) (q : Filter) : Recall × List Met :=
  s.recallRows.foldl (s.recallRow v q) ({}, [])

end Sys2Proof.Machine
end

