-- ==== Sys2Proof/Machine/Pipeline.lean ====
section
/-! DEFINITION. Sys2Proof/Machine/Pipeline.lean: the features, encoding and recall stages of a tick (R14, R15, R154 to
R175, R186 to R193, R200 to R215, R269). -/

namespace Sys2Proof.Machine

/-! ### Features -/

/-- Changes one channel frame of a tick. -/
def State.editFrame (s : State) (tick chan : Nat) (f : ChanFrame → ChanFrame) : State :=
  { s with ticks := s.ticks.map (fun (t : Tick) =>
      if t.id = tick then { t with frames := t.frames.map (fun x => if x.chan = chan then f x else x) } else t) }

/-- The ticks ahead of the first one that the holdback still holds a frame of, with that one's released frames left out:
the frames of a tick are released at one instant (R14, R111). -/
def releasedTicks : List Tick → List Tick
  | [] => []
  | t :: l => if t.frames.any (fun f => decide (f.stage = .holdback)) then [] else t :: releasedTicks l

/-- The released frame that is earliest in the order of tick, then channel (R14, R158). -/
def State.nextFrame (s : State) : Option (Nat × Nat) :=
  (((releasedTicks s.ticks).flatMap (fun t =>
    (t.frames.filter (fun f => decide (f.stage = .waiting))).map (fun f => (t.id, f.chan)))).head?)

/-- FEATURE_EXTRACTION_START (R154, R155, R158): a free MAC array takes the earliest released page. While the band plan is
being read again the tick waits (R269). -/
def execFeatureExtractionStart (dt : Nat) (array : Fin 4) (s : State) : Host.Outcome State Fault Refusal :=
  event dt
    (fun s => s.coreRuns && !s.planPending && (s.arrays.getD array.val none).isNone &&
      s.nextFrame.isSome)
    (fun s => match s.nextFrame with
      | none => s
      | some (tick, chan) =>
        let job : ArrayJob := { tick := tick, chan := chan, loose := decide (3 ≤ s.power.vset) }
        State.editFrame { s with arrays := s.arrays.set array.val (some job) } tick chan
          (fun f => { f with stage := .extracting })) s

/-- Base of a page (R255). -/
def pageAddr (page : Nat) : Nat := 0x03000000 + page * 0x8000

/-- The `value` fields of stored sample words (R103). -/
def sampleValues : List Byte → List Int
  | a :: b :: c :: _ :: l => signedOf 24 (a.toNat + 256 * b.toNat + 65536 * c.toNat) :: sampleValues l
  | _ => []

/-- The `value` words of a channel frame. -/
def State.frameValues (s : State) (t : Tick) (f : ChanFrame) : List Int :=
  sampleValues (s.peek (pageAddr f.page) (4 * t.len))

/-- How the transform input of a channel frame is formed (R161, R162). -/
def State.domainOf (s : State) (t : Tick) : Domain :=
  match s.plan with
  | none => .time
  | some p =>
    if s.syncMode = .free ∨ byteAt p 0 = 0 then .time
    else
      let n := anglePoints (byteAt p 1) s.edgesPerBoundary s.edgesPerRev
      let rho := match t.span with
        | some d => d * 65536 / (n * s.period)
        | none => t.len * 65536 / n
      let start : Int :=
        if t.status = 1 ∨ t.status = 2 then
          (if s.syncMode = .hardAlign then -24 * 65536 else -((t.phi * 65536 / s.period : Nat) : Int))
        else 0
      .angle n start rho

/-- The memory event of a word outside the hearth (R249, R269). -/
def State.wordEvent (s : State) (ev : Nat) (m : Master) (addr : Nat) : State := s.memoryEvent ev m addr 0xFFFF 0xFF 0 0

/-- The stored band plan holds an uncorrectable word: it is read again from the flash, or the built-in plan is restored
(R269). -/
def State.planBad (s : State) (m : Master) (addr : Nat) : State :=
  let s := s.wordEvent 0x01 m addr
  if s.flashOpen then (if s.planPending then s else s.request .plan) else s.builtInPlan

/-- The 128 levels of a channel frame are written and its page becomes free (R154, R156 to R175). -/
def State.extract (s : State) (array : Nat) (job : ArrayJob) (t : Tick) (f : ChanFrame) : State :=
  let values := s.frameValues t f
  let loose := if job.loose then some s.freeCount else none
  let lv := levels loose s.plan (s.domainOf t) values f.overs
  let s := if job.loose then s.useFree else s
  let s := { s with arrays := s.arrays.set array none }
  (s.editFrame job.tick job.chan
    (fun f => { f with stage := .done, levels := lv, loud := louderThanIdle values })).freePage f.page

/-- Size of the working area of one MAC array in the signal scratch: a quarter of what the band plan leaves (log 61). -/
def workSize : Nat := 0x1C000

/-- Where the working area of an array lies. -/
def workAddr (array : Nat) : Nat := 0x05000000 + workSize * array

/-- An array starts its channel frame again from the page, which it still holds (R269). -/
def State.restartJob (s : State) (array : Nat) : State :=
  { s with arrays := s.arrays.set array ((s.arrays.getD array none).map
      (fun (j : ArrayJob) => { j with loose := decide (3 ≤ s.power.vset) })) }

/-- FEATURE_EXTRACTION_DONE (R154, R156 to R175, R269): the array has read its page, the plan and its working area. A bad
sample word discards the frame; a bad working word restarts it; a bad plan word makes the tick wait. -/
def execFeatureExtractionDone (dt : Nat) (array : Fin 4) (upsets : List Upset) (s : State) :
    Host.Outcome State Fault Refusal :=
  eventOf (fun _ => upsetForm upsets) dt
    (fun s => s.coreRuns && !s.planPending && (s.arrays.getD array.val none).isSome)
    (fun s =>
      let s := s.upset upsets
      match s.arrays.getD array.val none with
      | none => s
      | some job =>
        match (s.ticks.find? (fun t => decide (t.id = job.tick))).bind
            (fun t => (t.frames.find? (fun f => decide (f.chan = job.chan))).map (fun f => (t, f))) with
        | none => { s with arrays := s.arrays.set array.val none }
        | some (t, f) =>
          match s.badIn (pageAddr f.page) (4 * t.len) with
          | some a =>
            let s := { s with arrays := s.arrays.set array.val none }
            ((s.editFrame job.tick job.chan (fun f => { f with stage := .discarded })).freePage f.page).wordEvent
              0x01 .sig a
          | none =>
            match s.badIn planAddr planLen, s.badIn (workAddr array.val) workSize with
            | some a, _ =>
              let s := s.planBad .sig a
              if s.planPending || (s.badIn planAddr planLen).isSome then s else s.extract array.val job t f
            | none, some a => ((s.wipe (wordOf a) 8).restartJob array.val).wordEvent 0x01 .sig a
            | none, none => s.extract array.val job t f) s

/-! ### Encoding -/

/-- The levels of every valid channel of a tick are written (R158). -/
def Tick.featuresDone (t : Tick) : Bool :=
  t.frames.all (fun f => decide (f.stage = .done) || decide (f.stage = .discarded))

/-- The tick that is encoded next: the oldest not yet encoded, once its features are complete (R14, R158). -/
def State.encodeTick (s : State) : Option Tick :=
  match s.ticks.find? (fun t => decide (t.stage = .features)) with
  | some t => if t.featuresDone then some t else none
  | none => none

/-- An uncorrectable word among runs of words. -/
def State.badAmong (s : State) (runs : List (Nat × Nat)) : Option Nat :=
  (runs.filterMap (fun r => s.badIn r.1 r.2)).head?

/-- A rebuild of the item memory starts, with memory event 0x04 (R193). -/
def State.startRebuild (s : State) (m : Master) (addr : Nat) : State :=
  State.wordEvent { s with lib := { s.lib with rebuilding := true } } 0x04 m addr

/-- The queries of a tick and its machine vector: channels ascending, then the machine (R15, R186 to R188). -/
def State.tickQueries (s : State) (fs : List ChanFrame) : List Query × HV :=
  let vs := fs.map (fun f => (f.chan, s.channelVector f.levels))
  let m := s.machineVector vs
  (vs.map (fun v => { scope := v.1, vec := v.2 }) ++ [{ scope := 32, vec := s.machineQuery m }], m)

/-- The vectors of a tick are formed and its queries wait for recall; a tick without a valid channel clears the history
and issues none (R15, R186 to R191). -/
def State.encode (s : State) (t : Tick) : State :=
  let fs := t.valid
  let put (qs : List Query) (short : Bool) (s : State) : State :=
    { s with ticks := s.ticks.map (fun (u : Tick) =>
        if u.id = t.id then { u with stage := .recall, queries := qs, ngramShort := short } else u) }
  if fs = [] then put [] false s.clearHistory
  else
    let x := s.tickQueries fs
    let short := decide (s.learn.history < s.depth - 1)
    put x.1 short (s.pushHistory x.2)

/-- TICK_ENCODING (R15, R158, R186 to R193): the oldest tick with complete features is encoded. A bad item-memory word
starts a rebuild and the tick waits; a bad history word clears the history. -/
def execTickEncoding (dt : Nat) (upsets : List Upset) (s : State) : Host.Outcome State Fault Refusal :=
  eventOf (fun _ => upsetForm upsets) dt
    (fun s => s.coreRuns && !s.lib.rebuilding && s.encodeTick.isSome)
    (fun s =>
      let s := s.upset upsets
      match s.encodeTick with
      | none => s
      | some t =>
        if t.valid = [] then s.encode t
        else
          match s.badAmong (encodeReads t.valid) with
          | some a => s.startRebuild .enc a
          | none =>
            match s.badIn (historyAddr 1) (1024 * min (s.depth - 1) s.learn.history) with
            | some a => (s.clearHistory.wordEvent 0x05 .enc a).encode t
            | none => s.encode t) s

/-- ITEM_MEMORY_REBUILD_END (R179 to R181, R193): the whole item memory stands again, from the effective seed. -/
def execItemMemoryRebuildEnd (dt : Nat) (s : State) : Host.Outcome State Fault Refusal :=
  event dt (fun s => s.coreRuns && s.lib.rebuilding) State.buildItems s

/-! ### Recall -/

/-- The timebase period is an issue opportunity: period floor(2,048 k / 125) of a cycle (R210). -/
def State.opportunity (s : State) : Bool :=
  (List.range 125).any (fun k => decide ((s.clock - s.tsStart) % 2048 = 2048 * k / 125))

/-- The local query that starts next: oldest tick, then the order of R15. -/
def State.localQuery (s : State) : Option (Tick × Nat × Query) :=
  match s.ticks.find? (fun t => decide (t.stage = .recall) && t.queries.any (fun q => !q.started)) with
  | none => none
  | some t => (t.queries.zipIdx.find? (fun q => !q.1.started)).map (fun q => (t, q.2, q.1))

/-- The fleet query that starts next: the oldest held frame not yet started; none in ID clash (R210, R334, R343). -/
def State.fleetJob (s : State) : Option Job :=
  if s.ring.clashAt.isSome then none else s.fleet.jobs.find? (fun j => !j.started)

/-- The previous opportunity carried a local query (R210): opportunities are at most 17 periods apart. -/
def State.previousLocal (s : State) : Bool :=
  s.hearth.lastLocal && (match s.hearth.startedAt with | some t => decide (s.clock ≤ t + 17) | none => false)

/-- The query comes from a local tick. -/
def Origin.isLocal : Origin → Bool
  | .local _ _ => true
  | .fleet _ => false

/-- A query enters the hearth with the next query number; the banks scan for `scan` timebase periods (R208, R211). -/
def State.startQuery (s : State) (scan : Nat) (origin : Origin) (v : HV) (q : Filter) : State :=
  let (res, met) := s.recall v q
  let res := { res with qid := s.hearth.nextQid }
  let job : InFlight := { origin := origin, result := res, life := sparse s.learn.lives res.normal.row, met := met }
  { s with hearth := { s.hearth with
      inFlight := s.hearth.inFlight ++ [job]
      nextQid := (s.hearth.nextQid + 1) % 65536
      lastLocal := origin.isLocal
      startedAt := some s.clock
      scanEnd := s.clock + scan } }

/-- A local query starts (R200). -/
def State.startLocal (s : State) (scan : Nat) (t : Tick) (i : Nat) (q : Query) : State :=
  let s := s.startQuery scan (.local t.id i) q.vec { scope := q.scope, bin := t.bin }
  { s with ticks := s.ticks.map (fun (u : Tick) =>
      if u.id = t.id then { u with queries := modifyAt u.queries i (fun q => { q with started := true }) } else u) }

/-- The filter of a fleet query frame (R200, R342, R343). -/
def fleetFilter (payload : List Byte) : Filter :=
  { scope := byteAt payload 1, bin := byteAt payload 2, normal := bitOf (byteAt payload 3) 0,
    diagnosis := bitOf (byteAt payload 3) 1, noFleet := true }

/-- A fleet query starts (R200, R343); a frame whose cells read uncorrectable is discarded (R269). -/
def State.startFleet (s : State) (scan : Nat) (j : Job) : State :=
  match s.cellsBad j.cells with
  | some a => (s.dropJob j).wordEvent 0x01 .rng a
  | none =>
    let p := j.frame.payload
    let s := s.startQuery scan (.fleet j.id) (hvOfBytes (slice p 16 1024)) (fleetFilter p)
    { s with fleet := { s.fleet with
        jobs := s.fleet.jobs.map (fun (x : Job) => if x.id = j.id then { x with started := true } else x) } }

/-- A query waits, every bank has ended its scan of the previous one, and this opportunity has carried none (R210). -/
def State.mayStart (s : State) : Bool :=
  s.opportunity && s.banksFree && (match s.hearth.startedAt with | some t => decide (t < s.clock) | none => true) &&
  (s.localQuery.isSome || s.fleetJob.isSome)

/-- QUERY_START (R200, R210, R213, R343): at an issue opportunity one waiting query starts; a fleet query goes first when
the previous opportunity carried a local one. The recall compares with the hearth as it stands at the start, and every bank
has ended its scan after `scan` timebase periods (log 8). -/
def execQueryStart (dt scan : Nat) (upsets : List Upset) (s : State) : Host.Outcome State Fault Refusal :=
  eventOf (fun _ => upsetForm upsets) dt
    (fun s => s.coreRuns && s.mayStart)
    (fun s =>
      let s := s.upset upsets
      match s.localQuery, s.fleetJob with
      | some l, some j => if s.previousLocal then s.startFleet scan j else s.startLocal scan l.1 l.2.1 l.2.2
      | some l, none => s.startLocal scan l.1 l.2.1 l.2.2
      | none, some j => s.startFleet scan j
      | none, none => s) s

/-- The latency guard held for a recall (R94, R215). The last canary evaluation is the last one at the instant of the
result: R94 names none (log 53). -/
def State.guardHeld (s : State) (q : InFlight) (replays : Nat) : Bool :=
  decide (s.volt.canaryPassed = some true) && !q.paused && decide (replays ≤ 8)

/-- A fleet query's lanes as its responder reads them: the normal lane only from a SEASONED cell (R343). -/
def State.fleetLanes (s : State) (payload : List Byte) (r : Recall) : Lane × Lane :=
  let cell := 128 * byteAt payload 1 + byteAt payload 2
  (if s.learn.seasoned.contains cell then r.normal else {}, r.diagnosis)

/-- A result reaches its tick, or the fleet query frame that waits for it (R209, R343, R345). -/
def State.deliverRecall (s : State) (q : InFlight) (r : Recall) : State :=
  match q.origin with
  | .local tick i =>
    { s with ticks := s.ticks.map (fun (u : Tick) =>
        if u.id = tick then
          { u with queries := modifyAt u.queries i (fun x => { x with result := some r, life := q.life }) }
        else u) }
  | .fleet job =>
    match s.fleet.jobs.find? (fun j => decide (j.id = job)) with
    | none => s
    | some j =>
      let p := j.frame.payload
      let lanes := s.fleetLanes p r
      let visit : Visit :=
        { src := j.frame.src, e2e := j.frame.e2e, stamp := fieldAt p 12 4, normal := lanes.1, diagnosis := lanes.2,
          at_ := s.clock }
      { s with fleet := { s.fleet with
          jobs := s.fleet.jobs.map (fun (x : Job) => if x.id = job then { x with result := some lanes } else x)
          visited := (s.fleet.visited ++ [visit]).drop (s.fleet.visited.length + 1 - 64) } }

/-- RECALL_RESULT (R94, R204, R209, R212, R215): the oldest query in progress completes, and the errors it met are reported
to the smoulder. `replays` counts the replays of its own stages. -/
def execRecallResult (dt : Nat) (replays : Nat) (s : State) : Host.Outcome State Fault Refusal :=
  event dt (fun s => s.coreRuns && !s.hearth.inFlight.isEmpty)
    (fun s => match s.hearth.inFlight with
      | [] => s
      | q :: rest =>
        let r := { q.result with guard := s.guardHeld q replays }
        let s := { s with
          hearth := { s.hearth with inFlight := rest }
          volt := { s.volt with slowRecalls := s.volt.slowRecalls + b2n (decide (8 < replays)) } }
        (s.deliverRecall q r).metErrors q.met .smd) s

end Sys2Proof.Machine
end

