-- ==== Sys2Proof/Machine/Ring.lean ====
section
/-! DEFINITION. Sys2Proof/Machine/Ring.lean: the commands of the Yarud ring: link resets (R314, R324, R325), frames received
and cut through (R315 to R321, R335 to R337), acknowledgements and retry (R321 to R323), credits (R326 to R328), what a port
sends (R329 to R331), census and ring map (R332 to R334). -/

namespace Sys2Proof.Machine

/-- The ring carries traffic: it is on, and the unit is in RUN (R311, R314). -/
def State.ringRuns (s : State) : Bool := s.ringOn && decide (s.mode = .run)

/-! ### Link resets -/

/-- The speed code of this unit (R324). -/
def State.speedCode (s : State) : Nat := b2n s.ringFast

/-- A down link has been down for at least 1 s; a port that has not been up since entry to RUN need not wait (R325). -/
def State.downOver (s : State) (x : LinkPort) : Bool :=
  match x.downAt with
  | some t => decide (t + perSec ≤ s.clock)
  | none => true

/-- PHY_LINK_UP (R314): `xx_LINK` has been high for 100 ms; the port starts a link reset with cause 3. -/
def execPhyLinkUp (dt : Nat) (port : Port) (s : State) : Host.Outcome State Fault Refusal :=
  event dt
    (fun s =>
      let x := s.ring.port port
      s.ringRuns && !x.up && x.proposal.isNone && s.downOver x &&
      (match x.highSince with | some t => decide (t + per100ms ≤ s.clock) | none => false))
    (fun s => s.proposeReset port 3) s

/-- A link frame is whole: length, FCS, header check, version and kind (R315 to R317). -/
def linkFrameGood (kind : Nat) (b : List Byte) : Bool :=
  let h := Header.parse b
  decide (64 ≤ b.length) && decide (b.length ≤ 1500) && decide (fcsOf b = .good) && headerCrcGood b &&
  decide (h.ver = 1) && decide (h.kind = kind)

/-- A port takes note of its peer's ring ID (R249). -/
def State.notePeer (s : State) (p : Port) (b : List Byte) : State :=
  s.setPort p { s.ring.port p with peer := (Header.parse b).src }

/-- What a peer reports in a link reset or reset ack takes the link down: the same port letter, or another speed
(R325). -/
def State.peerFault (s : State) (p : Port) (b : List Byte) : Option Nat :=
  if byteAt b 16 = portNum p then some 3 else if byteAt b 18 ≠ s.speedCode then some 4 else none

/-- A link reset is answered with a reset ack (R324). -/
def State.answerReset (s : State) (p : Port) (e cause : Nat) : State :=
  let x := s.ring.port p
  s.setPort p { x with links := x.links ++ [.resetAck e cause] }

/-- A port adopts a proposed epoch and answers with a reset ack; causes 1 and 2 of the peer count as cause 2 here. A frame
that proposes the epoch in force on a link that is up is one more of a reset that this port has completed: it is answered,
and neither counted nor carried out again (R324, R325, log 39). -/
def State.adoptReset (s : State) (p : Port) (e cause : Nat) : State :=
  let x := s.ring.port p
  if x.up ∧ x.epoch = e then s.answerReset p e cause
  else
    let (down, s) := if cause = 1 ∨ cause = 2 then s.countReset p e 2 else (false, s)
    if down then s else (s.completeReset p e).answerReset p e cause

/-- LINK_RESET_RECEIVED (R324, R325): the epoch is adopted and answered; the epoch that this port proposes itself counts as
a reset ack. A link that went down answers nothing for 1 s. -/
def execLinkResetReceived (dt : Nat) (port : Port) (frame : List Byte) (s : State) : Host.Outcome State Fault Refusal :=
  event dt (fun s => s.ringRuns && linkFrameGood 2 frame && s.downOver (s.ring.port port))
    (fun s =>
      let s := s.notePeer port frame
      match s.peerFault port frame with
      | some v => s.linkDown port v
      | none =>
        let e := byteAt frame 17 % 16
        match (s.ring.port port).proposal with
        | some pr => if pr.epoch = e then s.completeReset port e else s.adoptReset port e (byteAt frame 19)
        | none => s.adoptReset port e (byteAt frame 19)) s

/-- RESET_ACK_RECEIVED (R324, R325): the reset that this port proposed is complete. -/
def execResetAckReceived (dt : Nat) (port : Port) (frame : List Byte) (s : State) : Host.Outcome State Fault Refusal :=
  event dt
    (fun s => s.ringRuns && linkFrameGood 3 frame && (s.ring.port port).proposal.isSome)
    (fun s =>
      let s := s.notePeer port frame
      match s.peerFault port frame with
      | some v => s.linkDown port v
      | none =>
        let e := byteAt frame 17 % 16
        match (s.ring.port port).proposal with
        | some pr => if pr.epoch = e then s.completeReset port e else s
        | none => s) s

/-- The pending link reset frame is sent again (R324). -/
def State.resendReset (s : State) (p : Port) : State :=
  let x := s.ring.port p
  match x.proposal with
  | none => s
  | some pr =>
    s.setPort p { x with
      proposal := some { pr with sentAt := s.clock }
      links := x.links ++ [.reset pr.epoch pr.cause] }

/-- LINK_RESET_RESEND (R324): every 1 ms. -/
def execLinkResetResend (dt : Nat) (port : Port) (s : State) : Host.Outcome State Fault Refusal :=
  event dt
    (fun s => s.ringRuns && (match (s.ring.port port).proposal with
      | some pr => decide (pr.sentAt + perMs ≤ s.clock)
      | none => false))
    (fun s => s.resendReset port) s

/-- LINK_RECOVERY_ATTEMPT (R325): a link that has been down for at least 1 s attempts a link reset every 100 ms while
`xx_LINK` is high. -/
def execLinkRecoveryAttempt (dt : Nat) (port : Port) (s : State) : Host.Outcome State Fault Refusal :=
  event dt
    (fun s =>
      let x := s.ring.port port
      s.ringRuns && !x.up && x.downAt.isSome && s.downOver x && x.highSince.isSome &&
      decide (x.attemptAt + per100ms ≤ s.clock))
    (fun s =>
      let s := s.setPort port { s.ring.port port with attemptAt := s.clock }
      if (s.ring.port port).proposal.isSome then s.resendReset port else s.proposeReset port 3) s

/-! ### Acknowledgement and retry -/

/-- Go-back-N from the oldest unacknowledged frame, or a link reset with cause 1 when it has had its 4 retransmissions. A
go-back that has not yet resent the oldest frame stands for both its triggers (R323). -/
def State.goBack (s : State) (p : Port) : State :=
  let x := s.ring.port p
  match x.unacked with
  | [] => s
  | u :: _ =>
    if x.proposal.isSome || decide (x.resend.head? = some u.seq) then s
    else if 4 ≤ u.tries then s.exhausted p
    else s.setPort p { x with resend := x.unacked.map Sent.seq }

/-- The frame is acknowledged by `aseq`: serial comparison modulo 4,096 (R321). -/
def Sent.ackedBy (u : Sent) (aseq : Nat) : Bool := decide ((aseq + 4096 - u.seq) % 4096 < 2048)

/-- The acknowledgement that a received frame carries retires frames and frees their cells; a NAK asks for a go-back
(R321 to R323). -/
def State.takeAck (s : State) (p : Port) (h : Header) : State :=
  let x := s.ring.port p
  let acked := if h.aval then x.unacked.filter (fun u => u.ackedBy h.aseq) else []
  let s := s.setPort p { x with
    unacked := x.unacked.filter (fun u => !acked.contains u)
    resend := x.resend.filter (fun q => !acked.any (fun u => decide (u.seq = q))) }
  let s := acked.foldl (fun s u => s.freeCells u.source u.frame.cls u.cells) s
  if h.nak then s.goBack p else s

/-- The 64 credit limits of an ack frame's table (R327). -/
def tableLimits (b : List Byte) : List Nat := (List.range 64).map (fun c => fieldAt b (16 + 2 * c) 2)

/-- ACK_FRAME_RECEIVED (R321 to R323, R327): of the current epoch, on a link that is up. -/
def execAckFrameReceived (dt : Nat) (port : Port) (frame : List Byte) (s : State) : Host.Outcome State Fault Refusal :=
  event dt
    (fun s =>
      let x := s.ring.port port
      s.ringRuns && x.up && linkFrameGood 1 frame && decide ((Header.parse frame).epoch = x.epoch))
    (fun s =>
      let h := Header.parse frame
      let s := s.notePeer port frame
      let s := if h.len = 128 then s.setPort port { s.ring.port port with limits := tableLimits frame } else s
      s.takeAck port h) s

/-- The ack timer of a port in timebase periods, rounded up: 20 µs, or 200 µs at 100 Mb/s (R323). -/
def State.ackLimit (s : State) : Nat := if s.ringFast then 492 else 4916

/-- ACK_TIMER_EXPIRY (R323): it runs from the end of the latest transmission of the oldest unacknowledged frame. -/
def execAckTimerExpiry (dt : Nat) (port : Port) (s : State) : Host.Outcome State Fault Refusal :=
  event dt
    (fun s =>
      let x := s.ring.port port
      s.ringRuns && x.up && !s.paused && x.proposal.isNone &&
      (match x.unacked.head? with
        | some u => decide (x.resend.head? ≠ some u.seq) && decide (u.sentAt + s.ackLimit ≤ x.timer.read s.clock)
        | none => false))
    (fun s => s.goBack port) s

/-! ### Data frames received -/

/-- A frame goes on in its direction, or is turned, or is discarded at the hop limit or when it cannot be turned (R319,
R335). -/
def State.forward (s : State) (p : Port) (f : YFrame) (cells : List Nat) (since : Nat) : State :=
  let own := decide (f.src = s.ringId)
  let drop (s : State) : State := State.countDiscard (s.freeCells (some p) f.cls cells)
  if 512 ≤ f.hops + 1 then drop s
  else match turnFrame s.ring own { f with hops := f.hops + 1 } (otherPort p) with
    | none => drop s
    | some (g, out) =>
      let q : QFrame := { frame := g, out := out, source := some p, at_ := since, cells := cells }
      { s with ring := { s.ring with queue := s.ring.queue ++ [q] } }

/-- A frame whose content is good is removed, delivered, held, or processed and forwarded. One whose tag is missing or fails
where it would be processed or delivered is forwarded unchanged (R319, R336, R337, R343). -/
def State.acceptFrame (s : State) (p : Port) (f : YFrame) (cells : List Nat) (lost : Nat) : State :=
  let onward (s : State) : State :=
    if (s.ring.port p).cut.isSome then s.finishCut p f none cells else s.forward p f cells s.clock
  let consume (s : State) : State := s.freeCells (some p) f.cls cells
  if f.fullCircuit then
    if f.src = s.ringId then
      let s := s.ownFrame p f
      if f.turns = 1 then onward s else consume s
    else if !f.processed then onward s
    else if !s.verified f then onward (s.frameEvent 0x0C p f.e2e f.cls)
    else if decide (trafficType f.cls = 1) && s.takesQuery f && (s.ring.port p).cut.isNone then s.holdQuery p f cells
    else onward (s.processFrame p f lost)
  else if f.dst = s.ringId then
    if s.verified f then consume (s.deliverFrame f) else onward (s.frameEvent 0x0C p f.e2e f.cls)
  else onward s

/-- The bytes of a frame between its header and its FCS, as they came in (R315). -/
def frameRest (b : List Byte) : List Byte := slice b 16 (b.length - 20)

/-- A data frame that a receiver does not accept is discarded, with one NAK per expected value; one being cut through ends
stomped: it goes out as it came in, with its FCS complemented (R320, R321). -/
def State.rejectFrame (s : State) (p : Port) (b : List Byte) : State :=
  let s := match s.arriving p with
    | some c => s.finishCut p c.frame (some (frameRest b)) []
    | none => s
  let x := s.ring.port p
  if x.nakDone then s else s.setPort p { x with nakDone := true, nakDue := true }

/-- A data frame is accepted on its hop: the expected value advances, and an ack is owed (R321, R322). -/
def State.acceptHop (s : State) (p : Port) : State :=
  let x := s.ring.port p
  s.setPort p { x with
    rxSeq := (x.rxSeq + 1) % 4096
    rxAny := true
    nakDone := false
    nakDue := false
    links := if x.links.contains .ack then x.links else x.links ++ [.ack] }

/-- A frame in sequence whose content is discarded and counted: stomped, of another version, of a reserved kind, or of
traffic type 7 (R318, R320). -/
def State.discardContent (s : State) (p : Port) (h : Header) (b : List Byte) : State :=
  let s := match (s.ring.port p).cut with
    | some c => s.finishCut p c.frame (some (frameRest b)) []
    | none => s
  State.countDiscard (s.creditFreed p h.cls (cellsOf h.len h.auth))

/-- The kinds of link frames (R316). -/
def linkKind (k : Nat) : Bool := decide (1 ≤ k) && decide (k ≤ 3)

/-- The content of a frame that its hop has accepted (R318 to R320, R326). -/
def State.takeContent (s : State) (p : Port) (b : List Byte) (lost : Nat) : State :=
  let h := Header.parse b
  if decide (fcsOf b = .stomped) || decide (h.ver ≠ 1) || decide (h.kind ≠ 0) || decide (trafficType h.cls = 7) then
    s.discardContent p h b
  else
    let (cells, s) := s.takeCells (cellsOf h.len h.auth)
    s.acceptFrame p (YFrame.parse b) cells lost

/-- The receive buffer of a port, 16 KiB, has room for one frame more while a step-up pause lasts (R96). -/
def State.rxRoom (s : State) (p : Port) (b : List Byte) : Bool :=
  !s.paused || decide (((s.cross.rx p).map List.length).sum + b.length ≤ 16384)

/-- A whole data frame at a port (R315 to R321). In a step-up pause the port island checks, sequences and acknowledges it,
and its content waits in the receive buffer; without room there it is not accepted (R96, log 67). -/
def State.receiveData (s : State) (p : Port) (b : List Byte) (lost : Nat) : State :=
  if b.length < 64 ∨ 1500 < b.length then s.rejectFrame p b
  else
    let h := Header.parse b
    let heard := headerCrcGood b && decide (fcsOf b ≠ .wrong) && decide (h.epoch = (s.ring.port p).epoch)
    if !heard then s.rejectFrame p b
    else
      let s := s.takeAck p h
      if h.hseq ≠ (s.ring.port p).rxSeq || !s.rxRoom p b then s.rejectFrame p b
      else
        let s := s.acceptHop p
        if s.paused then { s with cross := s.cross.setRx p (s.cross.rx p ++ [b]) } else s.takeContent p b lost

/-- The core takes up the frames that waited behind a port, in the order in which they came (R96). -/
def State.drainPort (s : State) (p : Port) : State :=
  (s.cross.rx p).foldl (fun s b => s.takeContent p b 0) { s with cross := s.cross.setRx p [] }

/-- DATA_FRAME_RECEIVED (R96, R315 to R321, R333 to R337, R343 to R360): on a link that is up. `lost` counts lost write
collisions of a fleet row placement (R258). -/
def execDataFrameReceived (dt : Nat) (port : Port) (frame : List Byte) (lost : Nat) (s : State) :
    Host.Outcome State Fault Refusal :=
  event dt (fun s => s.ringRuns && (s.ring.port port).up && !linkKind (Header.parse frame).kind)
    (fun s => s.receiveData port frame lost) s

/-! ### Cut-through -/

/-- The port is idle: nothing is being sent on it, whole or cut through (R320, R329). -/
def State.portIdle (s : State) (p : Port) : Bool :=
  decide ((s.ring.port p).busyUntil ≤ s.clock) && (s.ring.port (otherPort p)).cut.isNone

/-- A port may start data frames: up, no link reset pending, and fewer than 512 unacknowledged (R321, R324). -/
def LinkPort.mayStart (x : LinkPort) : Bool := x.up && x.proposal.isNone && decide (x.unacked.length < 512)

/-- The frame of a header is one that this unit forwards as it comes: neither removed, delivered nor held here (R319, R336,
R343). -/
def State.passesOn (s : State) (f : YFrame) : Bool :=
  if f.fullCircuit then
    if f.src = s.ringId then decide (f.turns = 1)
    else !(decide (trafficType f.cls = 1) && f.processed && s.mayOriginate)
  else decide (f.dst ≠ s.ringId)

/-- The frame that a header announces; its payload is not yet there. -/
def announced (h : Header) : YFrame :=
  { auth := h.auth, cls := h.cls, dst := h.dst, src := h.src, e2e := h.e2e, hops := h.hops, dir := h.dir,
    turns := h.turns, passed := h.passed, payload := List.replicate h.len 0#8,
    tag := if h.auth then List.replicate 8 0#8 else [] }

/-- No frame of the same source and class waits for the port ahead of it (R330). -/
def State.noneAhead (s : State) (f : YFrame) : Bool :=
  !s.ring.queue.any (fun q => decide (q.frame.src = f.src) && decide (q.frame.cls = f.cls)) &&
  !s.fleet.jobs.any (fun j => decide (j.frame.src = f.src) && decide (j.frame.cls = f.cls))

/-- The frame of a header cuts through: in sequence, forwarded as it comes, its output idle and the credit there
(R320, R327). -/
def State.cutsThrough (s : State) (p : Port) (b : List Byte) : Bool :=
  let h := Header.parse b
  let x := s.ring.port p
  let o := s.ring.port (otherPort p)
  s.ringRuns && !s.paused && x.up && x.cut.isNone && headerCrcGood b && decide (h.ver = 1) && decide (h.kind = 0) &&
  decide (trafficType h.cls ≠ 7) && decide (h.epoch = x.epoch) && decide (h.hseq = x.rxSeq) &&
  s.passesOn (announced h) && s.noneAhead (announced h) && decide (h.hops + 1 < 512) && o.mayStart && o.links.isEmpty &&
  o.resend.isEmpty && s.portIdle (otherPort p) && o.fits h.cls (cellsOf h.len h.auth)

/-- A cut-through starts: the output port takes its next sequence and the credit (R320, R327). -/
def State.startCut (s : State) (p : Port) (h : Header) : State :=
  let f := announced h
  let f := if f.src = s.ringId ∧ f.turns = 1 then { f with passed := true } else f
  let o := s.ring.port (otherPort p)
  let s := s.setPort (otherPort p) { o with
    txSeq := (o.txSeq + 1) % 4096
    sent := o.sent.set h.cls ((o.sent.getD h.cls 0 + cellsOf h.len h.auth) % 65536) }
  s.setPort p { s.ring.port p with cut := some { seq := o.txSeq, frame := f } }

/-- FRAME_HEADER_RECEIVED (R320). -/
def execFrameHeaderReceived (dt : Nat) (port : Port) (header : List Byte) (s : State) :
    Host.Outcome State Fault Refusal :=
  eventOf (fun _ => frameHeaderForm header) dt (fun s => s.cutsThrough port header)
    (fun s => s.startCut port (Header.parse header)) s

/-! ### What a port sends -/

/-- What goes out at a frame boundary. -/
inductive Tx where
  | link (l : LinkFrame)
  | again (u : Sent)
  | data (q : QFrame)
  deriving DecidableEq, Repr

/-- Index of the virtual output queue of a frame (R329). -/
def QFrame.index (q : QFrame) : Nat := q.frame.dst * 64 + q.frame.cls

/-- The head frame of every virtual output queue (R329). -/
def queueHeads : List QFrame → List QFrame
  | [] => []
  | q :: l => q :: (queueHeads l).filter (fun r => !decide (r.index = q.index))

/-- The head frames of a tier that may leave through a port: a transit frame needs credit for its k cells, an own frame for
k + 6 (R327 to R329). -/
def State.eligibleHeads (s : State) (p : Port) (tier : Nat) : List QFrame :=
  let x := s.ring.port p
  (queueHeads s.ring.queue).filter (fun q =>
    decide (q.out = p) && decide (trafficTier (trafficType q.frame.cls) = tier) &&
    x.fits q.frame.cls (q.frame.cellCount + if q.source.isNone then 6 else 0))

/-- How far a queue lies after the last one served (R329). -/
def roundRobin (served index : Nat) : Nat := (index + 32767 - served) % 16384

/-- The queue served next among eligible heads (R329). -/
def nextInTurn (served : Nat) (l : List QFrame) : Option QFrame :=
  l.foldl (fun best q => match best with
    | none => some q
    | some b => if roundRobin served q.index < roundRobin served b.index then some q else some b) none

/-- The queued frame that a port sends next: the highest tier with an eligible queue, round robin within it (R329). -/
def State.nextData (s : State) (p : Port) : Option QFrame :=
  (List.range 4).findSome? (fun tier => nextInTurn ((s.ring.port p).served.getD tier 16383) (s.eligibleHeads p tier))

/-- The data frame that may leave at this boundary: a resend first (R323), then the queues; in a step-up pause only what the
transmit buffer holds (R96). -/
def State.dataChoice (s : State) (p : Port) : Option Tx :=
  let x := s.ring.port p
  if !x.up || x.proposal.isSome then none
  else match x.resend with
    | q :: _ => (x.unacked.find? (fun u => decide (u.seq = q))).map Tx.again
    | [] => if s.paused || !x.mayStart then none else (s.nextData p).map Tx.data

/-- The link frame that waits at a port: the oldest, or an ack frame that a NAK or the credit table asks for (R322, R324,
R327). -/
def LinkPort.linkChoice (x : LinkPort) : Option LinkFrame :=
  match x.links with
  | l :: _ => some l
  | [] => if x.up && (x.nakDue || x.tableDue) then some .ack else none

/-- Only a plain ack waits, which a data frame leaving at this boundary carries as well (R322). -/
def LinkPort.ackOnly (x : LinkPort) : Bool := decide (x.links = [.ack]) && !x.nakDue && !x.tableDue

/-- What a port sends at this frame boundary (R322, R329). -/
def State.choice (s : State) (p : Port) : Option Tx :=
  let x := s.ring.port p
  match x.linkChoice with
  | none => s.dataChoice p
  | some l => if x.ackOnly then (s.dataChoice p).orElse (fun _ => some (.link l)) else some (.link l)

/-- The header of a link frame (R316, R322). -/
def State.linkHeader (s : State) (p : Port) (kind len : Nat) : Header :=
  let x := s.ring.port p
  { kind := kind, dst := x.peer, src := s.ringId, epoch := x.epoch, aseq := (x.rxSeq + 4095) % 4096, aval := x.rxAny
    len := len }

/-- The credit table: `lim_c` of the 64 classes (R327). -/
def LinkPort.table (x : LinkPort) : List Byte :=
  (List.range 64).flatMap (fun c => leBytes 2 ((x.freed.getD c 0 + 8 + x.aside.getD c 0) % 65536))

/-- Payload of a link reset or reset ack (R324). -/
def State.resetPayload (s : State) (p : Port) (epoch cause : Nat) : List Byte :=
  [BitVec.ofNat 8 (portNum p), BitVec.ofNat 8 epoch, BitVec.ofNat 8 s.speedCode, BitVec.ofNat 8 cause]

/-- A link frame leaves a port (R315, R322, R324, R327). -/
def State.sendLink (s : State) (p : Port) (l : LinkFrame) : State :=
  let x := s.ring.port p
  let out (h : Header) (payload : List Byte) (x : LinkPort) : State :=
    let wire := wireFrame h payload [] false
    s.setPort p { x with
      links := x.links.erase l
      wire := wire
      busyUntil := s.clock + s.lineTime (20 + wire.length) }
  match l with
  | .reset e cause => out (s.linkHeader p 2 4) (s.resetPayload p e cause) x
  | .resetAck e cause => out (s.linkHeader p 3 4) (s.resetPayload p e cause) x
  | .ack =>
    let payload := if x.tableDue then x.table else []
    out { s.linkHeader p 1 payload.length with nak := x.nakDue } payload
      { x with nakDue := false, tableDue := false, tableAt := if x.tableDue then s.clock else x.tableAt }

/-- A frame is retransmitted (R323). -/
def State.sendAgain (s : State) (p : Port) (u : Sent) : State :=
  let x := s.ring.port p
  (s.setPort p { x with resend := x.resend.drop 1, links := x.links.erase .ack }).sendFrame p { u with tries := u.tries + 1 }

/-- A queued frame starts on its port (R321, R327, R329). -/
def State.sendData (s : State) (p : Port) (q : QFrame) : State :=
  let x := s.ring.port p
  let cls := q.frame.cls
  let s := { s with ring := { s.ring with queue := s.ring.queue.erase q } }
  let s := s.setPort p { x with
    txSeq := (x.txSeq + 1) % 4096
    sent := x.sent.set cls ((x.sent.getD cls 0 + q.frame.cellCount) % 65536)
    served := x.served.set (trafficTier (trafficType cls)) q.index
    links := x.links.erase .ack }
  s.sendFrame p { seq := x.txSeq, frame := q.frame, source := q.source, cells := q.cells }

/-- Address of the first cell of a frame (R326). -/
def QFrame.cellAddr (q : QFrame) : Nat := regionBase .ringCells + 256 * q.cells.headD 0

/-- PORT_TRANSMIT (R315, R322 to R330): a frame boundary of an idle port. A queued frame one of whose cells reads
uncorrectable is discarded before forwarding (R269, R330); `badCell`: an upset of its first cell has just come about. -/
def execPortTransmit (dt : Nat) (port : Port) (badCell : Bool) (s : State) : Host.Outcome State Fault Refusal :=
  event dt (fun s => s.ringRuns && s.portIdle port && (s.choice port).isSome)
    (fun s => match s.choice port with
      | none => s
      | some (.link l) => s.sendLink port l
      | some (.again u) => s.sendAgain port u
      | some (.data q) =>
        match s.cellsBad q.cells, badCell with
        | some a, _ => (s.dropQueued q).wordEvent 0x01 .rng a
        | none, true => (s.dropQueued q).wordEvent 0x01 .rng q.cellAddr
        | none, false => s.sendData port q) s

/-- CREDIT_TABLE_TIMER (R327): at least every 1 ms an ack frame carries the table. With it the receiver may set aside shared
cells for any class, also one that has been idle. -/
def execCreditTableTimer (dt : Nat) (port : Port) (s : State) : Host.Outcome State Fault Refusal :=
  event dt (fun s => s.ringRuns && (s.ring.port port).up && decide ((s.ring.port port).tableAt + perMs ≤ s.clock))
    (fun s =>
      let s := if s.paused then s else (List.range 64).foldl (fun s c => s.setAside port c) s
      s.setPort port { s.ring.port port with tableDue := true, tableAt := s.clock }) s

/-- Timebase periods of 50 ms. -/
def per50ms : Nat := 1228800

/-- A frame in the queues has waited 50 ms (R331). -/
def State.overAge (s : State) (since : Nat) : Bool := decide (since + per50ms ≤ s.clock)

/-- Frames that have waited 50 ms are discarded and counted (R331). -/
def State.ageOut (s : State) : State :=
  let late := s.ring.waiting.filter (fun w => s.overAge w.1)
  let s := { s with ring := { s.ring with
    waiting := s.ring.waiting.filter (fun w => !s.overAge w.1)
    discards := s.ring.discards + late.length } }
  (s.ring.queue.filter (fun q => s.overAge q.at_)).foldl (fun s q => s.dropQueued q) s

/-- QUEUE_AGE_DISCARD (R331). -/
def execQueueAgeDiscard (dt : Nat) (s : State) : Host.Outcome State Fault Refusal :=
  event dt
    (fun s => s.ringOn && s.coreRuns && (s.ring.queue.any (fun q => s.overAge q.at_) || s.ring.waiting.any (fun w => s.overAge w.1)))
    State.ageOut s

/-! ### Census and ring map -/

/-- Flag byte of the unit's own census (R332). -/
def State.censusFlags (s : State) : Nat :=
  b2n s.collector + 2 * b2n s.ringAuth + 4 * b2n s.ring.clashAt.isSome + 8 * b2n s.lib.accepted

/-- CENSUS_ORIGINATE (R332, R334, R339): two census frames with one stamp, one in each direction. -/
def execCensusOriginate (dt : Nat) (s : State) : Host.Outcome State Fault Refusal :=
  event dt (fun s => s.ringOn && s.coreRuns && decide (s.ring.censusAt + perSec ≤ s.clock))
    (fun s =>
      let stamp := s.ts % 2 ^ 32
      let s := { s with ring := { s.ring with
        censusAt := s.ring.censusAt + perSec
        stamps := (stamp :: s.ring.stamps).take 3 } }
      let payload := censusPayload stamp s.seedHash s.mclass s.censusFlags
      (s.originate 0 32 s.ringId 0 payload).originate 0 32 s.ringId 1 payload) s

/-- RING_MAP_ENTRY_EXPIRY (R333, R353): an entry not refreshed for 3 s is removed, W of its source is 0, and ring event 0x06
carries N. -/
def execRingMapEntryExpiry (dt : Nat) (id : BitVec 8) (s : State) : Host.Outcome State Fault Refusal :=
  event dt
    (fun s => s.ringOn && s.coreRuns && s.ring.map.any (fun m => decide (m.id = id.toNat) && decide (m.at_ + 3 * perSec ≤ s.clock)))
    (fun s =>
      let s := { s with ring := { s.ring with map := s.ring.map.filter (fun m => !decide (m.id = id.toNat)) } }
      let s := s.setFleetSeq id.toNat 0
      s.unitEvent 0x06 0xFFFF s.ringSize) s

/-- ID_CLASH_END (R334): 3 s without a clashing census. -/
def execIdClashEnd (dt : Nat) (s : State) : Host.Outcome State Fault Refusal :=
  event dt
    (fun s => s.ringOn && s.coreRuns && (match s.ring.clashAt with | some t => decide (t + 3 * perSec ≤ s.clock) | none => false))
    (fun s => { s with ring := { s.ring with clashAt := none } }) s

end Sys2Proof.Machine
end

