-- ==== Sys2Proof/Machine/Fleet.lean ====
section
/-! DEFINITION. Sys2Proof/Machine/Fleet.lean: the fleet's own events: folding an answer (R344, R372), the visited cache
(R345), query timers (R346, R347) and the sweep (R351, R356). -/

namespace Sys2Proof.Machine

/-! ### Folding -/

/-- Order of answers: `d_n`, responder ring ID, row (R344). -/
def smaller (d1 id1 r1 d2 id2 r2 : Nat) : Bool :=
  decide (d1 < d2) || (decide (d1 = d2) && (decide (id1 < id2) || (decide (id1 = id2) && decide (r1 < r2))))

/-- Inserts a distance into an ascending list. -/
def insertDist (d : Nat) : List Nat → List Nat
  | [] => [d]
  | x :: l => if d ≤ x then d :: x :: l else x :: insertDist d l

/-- The second smallest of distances, 0x3FFF when there is none (R344). -/
def secondSmallest (ds : List Nat) : Nat := (ds.foldl (fun l d => insertDist d l) []).getD 1 0x3FFF

/-- The distances of a lane that are not none (R342). -/
def Lane.distances (l : Lane) : List Nat :=
  (if l.none then [] else [l.dist]) ++ (if l.second = 0x3FFF then [] else [l.second])

/-- A responder's answer folded into a block of another responder's (R344). -/
def foldLane (unit : Nat) (block : Lane × Nat) (own : Lane) : Lane × Nat :=
  let second := secondSmallest (block.1.distances ++ own.distances)
  let count := satTo 65535 (block.1.count + own.count)
  let better := !own.none &&
    (block.1.none || smaller own.dist unit own.row block.1.dist block.2 block.1.row)
  if better then ({ own with second := second, count := count }, unit)
  else ({ block.1 with second := second, count := count }, block.2)

/-- A block of a query payload after the fold of a lane in the mask; a lane that is none leaves it as it was (R344). -/
def foldBlock (dbest : Bool) (unit : Nat) (own : Lane) (inMask : Bool) (b : List Byte) : List Byte :=
  if !inMask || own.none then b
  else
    let r := foldLane unit (parseBlock dbest b) own
    answerBlock dbest r.2 r.1

/-- The payload of a query frame with this responder's lanes folded in (R342 to R344). -/
def foldPayload (unit : Nat) (own : Lane × Lane) (b : List Byte) : List Byte :=
  let n := bitOf (byteAt b 3) 0
  let d := bitOf (byteAt b 3) 1
  let answered := (n && !own.1.none) || (d && !own.2.none)
  let folded := if answered then satTo 65535 (fieldAt b 10 2 + 1) else fieldAt b 10 2
  b.take 10 ++ leBytes 2 folded ++ slice b 12 1028 ++
  foldBlock false unit own.1 n (slice b 1040 16) ++ foldBlock true unit own.2 d (slice b 1056 16)

/-- A frame with a payload this unit has changed: its tag is made anew under the ring key, or zero without ring
authentication (R337). -/
def State.retag (s : State) (f : YFrame) : YFrame :=
  if !f.auth then f
  else if s.ringAuth then { f with tag := s.frameTag f }
  else { f with tag := List.replicate 8 0#8 }

/-- The oldest held query frame whose result is there; in ID clash also one whose query has not started, which no longer
will (R334, R343). -/
def State.answered (s : State) : Option Job :=
  s.fleet.jobs.find? (fun j => j.result.isSome || (s.ring.clashAt.isSome && !j.started))

/-- A query frame with a unit's own lanes folded in; its tag is made anew only where that changes its payload (R337,
R344). -/
def State.folded (s : State) (f : YFrame) (own : Lane × Lane) : YFrame :=
  let p := foldPayload s.ringId own f.payload
  if p = f.payload then f else s.retag { f with payload := p }

/-- A held query frame is folded and forwarded; in ID clash it is forwarded unchanged (R334, R344). One whose cells read
uncorrectable is discarded (R269). -/
def State.foldJob (s : State) (j : Job) : State :=
  match s.cellsBad j.cells with
  | some a => (s.dropJob j).wordEvent 0x01 .rng a
  | none =>
    let s := { s with fleet := { s.fleet with jobs := s.fleet.jobs.erase j } }
    let f := match j.result with
      | some own => if s.ring.clashAt.isSome then j.frame else s.folded j.frame own
      | none => j.frame
    s.forward j.source f j.cells j.at_

/-- FLEET_FOLD (R337, R343, R344, R372). -/
def execFleetFold (dt : Nat) (s : State) : Host.Outcome State Fault Refusal :=
  event dt (fun s => s.ringOn && s.coreRuns && s.answered.isSome)
    (fun s => match s.answered with
      | none => s
      | some j => s.foldJob j) s

/-- A visited cache entry is 100 ms old (R345). -/
def Visit.old (v : Visit) (clock : Nat) : Bool := decide (v.at_ + per100ms ≤ clock)

/-- VISITED_CACHE_EXPIRY (R345). -/
def execVisitedCacheExpiry (dt : Nat) (s : State) : Host.Outcome State Fault Refusal :=
  event dt (fun s => !s.paused && s.fleet.visited.any (fun v => v.old s.clock))
    (fun s => { s with fleet := { s.fleet with visited := s.fleet.visited.filter (fun v => !v.old s.clock) } }) s

/-! ### Query timers -/

/-- The own query whose timer has fired first (R346). -/
def State.firedQuery (s : State) : Option OwnQuery := s.fleet.queries.find? (fun q => decide (q.at_ + q.limit ≤ s.clock))

/-- A query whose timer fires is retired; a first issue is issued again at once, and a re-issue ends as fleet unreachable,
ring event 0x08 (R347). A unit that may originate no query ends it at once (R334, R338). -/
def State.queryFired (s : State) (q : OwnQuery) : State :=
  let s := { s with fleet := { s.fleet with queries := s.fleet.queries.erase q } }
  if !q.reissue && s.mayOriginate then s.askFleet q.kind q.bin q.vec q.row q.gen true
  else s.unitEvent 0x08 q.e2e q.kind

/-- FLEET_QUERY_TIMEOUT (R346, R347, R363). -/
def execFleetQueryTimeout (dt : Nat) (s : State) : Host.Outcome State Fault Refusal :=
  event dt (fun s => s.ringOn && s.coreRuns && s.firedQuery.isSome)
    (fun s => match s.firedQuery with
      | none => s
      | some q => s.queryFired q) s

/-! ### The sweep -/

/-- The contents of a taught slot, when it is taught (R356). -/
def State.slotRow (s : State) (slot : Nat) : Option (Tag × HV) :=
  let r := 15360 + slot
  let t := s.tag r
  if !s.tagBad r && t.valid && !t.spent then some (t, s.row r) else none

/-- The next sweep: its slot is told to the fleet, unless its row lies in a retired bank; in ID clash nothing is sent (R334,
R356). A slot whose tag cannot be read is free: the row is spent (R268). -/
def State.sweepNext (s : State) : State :=
  let slot := s.fleet.sweepSlot
  let r := 15360 + slot
  let s := { s with fleet := { s.fleet with sweepAt := s.fleet.sweepAt + per50ms } }
  if !s.mayOriginate then s
  else
    let s := { s with fleet := { s.fleet with sweepSlot := (slot + 1) % 1024 } }
    if s.isRetired r then s
    else s.originate 4 32 s.ringId 0
      (sweepPayload s.mclass slot (sparse s.vault.slotSeq slot) s.eventCounter s.seedHash (s.slotRow slot))

/-- SWEEP_ORIGINATE (R338, R356): every 50 ms in RUN. -/
def execSweepOriginate (dt : Nat) (s : State) : Host.Outcome State Fault Refusal :=
  event dt (fun s => s.ringOn && s.coreRuns && decide (s.fleet.sweepAt + per50ms ≤ s.clock)) State.sweepNext s

end Sys2Proof.Machine
end

