-- ==== Sys2Proof/Machine/Power.lean ====
section
/-! DEFINITION. Sys2Proof/Machine/Power.lean: resets, core power and power failure (R53 to R61, R72 to R75, R289,
R378, R380). -/

namespace Sys2Proof.Machine

/-- The timebase periods of 2.0 ms (R58, R59). -/
def per2ms : Nat := 49152

/-- The timebase periods of 10 ms (R55, R75). -/
def per10ms : Nat := 245760

/-- Every always-on rail is valid and the timebase oscillator is stable (R59). -/
def Power.supplied (p : Power) : Bool := p.railsLow.isEmpty && p.oscStable

/-- POWER_ON_RESET_END (R59, R378): the power-on reset ends 2.0 ms after the latest always-on rail became valid or the
timebase oscillator became stable, whichever was later. -/
def execPowerOnResetEnd (dt : Nat) (s : State) : Host.Outcome State Fault Refusal :=
  event dt (fun s => s.power.por && s.power.supplied && decide (s.power.validAt + per2ms ≤ s.clock))
    (fun s => State.leaveReset { s with power := { s.power with por := false } }) s

/-- A rail falls below its falling threshold: RESET at once from any state, with cause power-on reset (R59, R378). A word
in progress may be cut by the loss of supply (R274). The oscillator is fed by `VDDA`, and has to become stable anew once
that has fallen; the 10 ms of `CORE_EN` are not kept through a loss of `VDD_AON` (log 6). -/
def State.railFalls (s : State) (rail : Rail) (progress : MramProgress) : State :=
  let s := s.stopMram progress true
  let low := if s.power.railsLow.contains rail then s.power.railsLow else rail :: s.power.railsLow
  let s := { s with power := { s.power with
    por := true, railsLow := low, oscStable := s.power.oscStable && !decide (rail = Rail.vdda) } }
  let s := (s.enterReset 0).tapOff
  if rail = .vddAon then { s with power := { s.power with releaseWait := false } } else s

/-- A rail reaches its rising threshold: the power-on reset is released for it, and `HEALTH` takes 0.360 V once `VDDA`
and `VDD_AON` are valid (R64, R378, R380). -/
def State.railRises (s : State) (rail : Rail) : State :=
  if s.power.railsLow.contains rail then
    let p := { s.power with railsLow := s.power.railsLow.erase rail, validAt := s.clock }
    { s with power := p, out := { s.out with health := p.resetHealth } }
  else s

/-- The timebase oscillator has become stable (R59). -/
def State.oscillatorSettles (s : State) : State :=
  if s.power.oscStable || s.power.railsLow.contains .vdda then s
  else { s with power := { s.power with oscStable := true, validAt := s.clock } }

/-- POR_THRESHOLD_CROSSED (R59, R64, R378, R380): a rail crosses its falling or its rising threshold, or the oscillator
becomes stable (log 64). -/
def execPorThresholdCrossed (dt : Nat) (what : PorEvent) (s : State) : Host.Outcome State Fault Refusal :=
  event dt (fun _ => true)
    (fun s => match what with
      | .falls rail progress => s.railFalls rail progress
      | .rises rail => s.railRises rail
      | .oscillatorStable => s.oscillatorSettles) s

/-- RESET_N_ASSERTED (R60, R61, R295): `RESET_N` has been found low at `lowSamples` consecutive samples of 6.144 MHz; from
32 on this is RESET, with cause `RESET_N` unless the power-on reset is active. In RESET it is an entry like any other: the
timestamp counter starts anew and a `CORE_EN` that was asserted for the wait of R58 is released (log 14). -/
def execResetNAsserted (dt lowSamples : Nat) (progress : MramProgress) (s : State) : Host.Outcome State Fault Refusal :=
  event dt (fun s => !s.power.resetNLow && decide (32 ≤ lowSamples))
    (fun s =>
      let s := s.stopMram progress false
      State.enterReset { s with power := { s.power with resetNLow := true } }
        (if s.power.por then s.power.resetCause else 1)) s

/-- RESET_N_RELEASED (R59, R395, R396): once no reset condition holds, `CORE_EN` is asserted; the TAP is held in
Test-Logic-Reset. -/
def execResetNReleased (dt : Nat) (s : State) : Host.Outcome State Fault Refusal :=
  event dt (fun s => s.power.resetNLow)
    (fun s => State.leaveReset (State.tapOff { s with power := { s.power with resetNLow := false } })) s

/-- CORE_EN_RELEASE_WAIT_END (R55, R59, R70): `CORE_EN` has been released for 10 ms. -/
def execCoreEnReleaseWaitEnd (dt : Nat) (s : State) : Host.Outcome State Fault Refusal :=
  event dt (fun s => s.power.releaseWait && !s.power.coreEn && decide (s.power.coreEnAt + per10ms ≤ s.clock))
    (fun s => State.leaveReset { s with power := { s.power with releaseWait := false } }) s

/-- The live copies that the always-on logic reads from the persistent state at the start of STRAP_READ (R286), and the
head of the ash (R289). -/
def State.findHead (s : State) : State :=
  { s with
    ash := { s.ash with nextSeq := s.ashHead }
    vault := { s.vault with bootCount := s.peekNat bootCountAddr 4, runSeconds := s.peekNat runSecondsAddr 4 } }

/-- Learned rows whose latest contents are lost from the vault: dirty rows, and rows of held entries whose journal write
has not begun (R279, R292). -/
def State.rowsLost (s : State) (begun : Nat) : Nat :=
  let held := (s.vault.entries.drop begun).filter (fun e => !decide (e.kind = 4))
  ((s.vault.dirty.map Dirty.row ++ held.map Entry.row).dedup).length

/-- The words that the power-fail sequence still writes of the held entry, of which `words` are written: the rest of the
commit when its journal write has begun. Of a REKINDLE entry it is the rest of the journal write only (R73). -/
def State.failCommit (s : State) (words : Nat) : List (Nat × List Byte) :=
  match s.vault.entries with
  | [] => []
  | e :: _ =>
    if words = 0 then []
    else if e.kind = 4 then (e.journalWrites s.vault.nextSeq s.vault.nextSlot).drop words
    else s.entryWrites.drop words

/-- The words that the power-fail sequence still writes to the ash, and whether a record comes of them: the rest of a
record whose write has begun, otherwise the power-fail record where `own` gives its payload (R73). -/
def State.failAsh (s : State) (words : Nat) (own : Option (List Byte)) : List (Nat × List Byte) × Bool :=
  let begun := if words = 0 then none else s.ash.waiting.head?
  match begun, own with
  | some r, _ => ((r.writes s.ash.nextSeq s.vault.bootCount).drop words, true)
  | none, some payload => (AshRec.writes ⟨0x03, s.ts, payload⟩ s.ash.nextSeq s.vault.bootCount, true)
  | none, none => ([], false)

/-- A power-fail trip meets the MRAM controller: what it has written stands, and the power-fail sequence goes on with the
commit whose journal write has begun, then with the ash record. Nothing else is written (R73, R275, R370). -/
def State.startFail (s : State) (p : MramProgress) (own : Option (List Byte)) : State :=
  let commit := s.failCommit p.commitWords
  let ash := s.failAsh p.ashWords own
  let u := s.stopMram p false
  { u with
    ash := { u.ash with waiting := [], nextSeq := if ash.2 then (s.ash.nextSeq + 1) % 2 ^ 32 else s.ash.nextSeq }
    vault := { u.vault with
      entries := if p.commitWords = 0 then u.vault.entries else u.vault.entries.drop 1
      failWrites := commit ++ ash.1 } }

/-- Every queued record whose first byte has not been sent is discarded (R253). -/
def State.discardQueue (s : State) : State := { s with flue := { s.flue with queue := [] } }

/-- The heartbeat marked POWER_FAIL is the next record on `FLUE_TX` (R73, R253). -/
def State.failHeartbeat (s : State) : State :=
  s.putFlue { Flue.push { s.flue with queue := [] }
      { type := 0x03, seq := s.flue.nextSeq, time := s.ts, payload := s.heartbeatPayload true, tier := 0 } with
    nextSeq := (s.flue.nextSeq + 1) % 65536
    wakeMask := none }

/-- What the power-fail sequence of a state does to the MRAM and to the report queue (R64, R73, R97, R253, R370). -/
def State.failSequence (s : State) (p : MramProgress) : State :=
  let code := stateNumber s.mode
  match s.mode with
  | .run =>
    let begun := if p.commitWords = 0 then 0 else 1
    let row := match s.vault.entries with
      | e :: _ => if p.commitWords = 0 || decide (e.kind = 4) then 0xFFFF else e.row
      | [] => 0xFFFF
    (s.startFail p (some (s.powerFailPayload code row (s.rowsLost begun)))).failHeartbeat
  | .strapRead | .bist | .load =>
    (s.startFail p (some (s.powerFailPayload code 0xFFFF (s.rowsLost 0)))).discardQueue
  | _ => (s.startFail p none).discardQueue

/-- Entry to POWER_FAIL from a state, with the power-fail sequence of that state; every waiting flash request is dropped
(R64, R73, R97, R253, R307, R370). -/
def State.enterPowerFail (s : State) (p : MramProgress) : State :=
  let s := (s.failSequence p).unwatch
  { s with
    mode := .powerFail
    power := { s.power with
      running := s.power.running.stop s.clock
      waking := false
      sleepDue := false
      failAt := s.clock }
    lib := { s.lib with queue := [], serving := none }
    out := { s.out with ready := false, health := some healthLow } }

/-- CORE_POWER_WAIT_END (R58, R59, R70, R73, R79): STRAP_READ after a reset, BIST after an EMBER wake. A power-fail latch
still tripped as RESET ends enters POWER_FAIL at the start of STRAP_READ. Every delay tap starts BIST at 10. -/
def execCorePowerWaitEnd (dt : Nat) (s : State) : Host.Outcome State Fault Refusal :=
  event dt
    (fun s => s.power.coreEn && decide (s.power.coreEnAt + per2ms ≤ s.clock) &&
      (decide (s.mode = .reset) || (decide (s.mode = .ember) && s.power.waking)))
    (fun s =>
      if s.mode = .reset then
        let s := { s.findHead with mode := .strapRead, straps := { s.straps with startedAt := s.clock } }
        if s.power.pfail then s.enterPowerFail { commitWords := 0, ashWords := 0 } else s
      else s.enterBist) s

/-- One evaluation of `VSYS_SENSE` for the 10 ms of R75. -/
def State.watchSupply (s : State) (vsys : Nat) : State :=
  { s with power := { s.power with
      pfailOkSince :=
        if vsys < dacMicrovolts 420 then none
        else match s.power.pfailOkSince with
          | some t => some t
          | none => some s.clock } }

/-- POWER_FAIL_TRIP (R72, R73, R123): the evaluation of a slow tick at which `VSYS_SENSE` is at most 1.000 V while the
comparator is armed. In RESET and in POWER_FAIL the latch alone changes. -/
def execPowerFailTrip (dt : Nat) (vsys : Nat) (temp : Int) (progress : MramProgress) (s : State) :
    Host.Outcome State Fault Refusal :=
  event dt (fun s => !s.power.por)
    (fun s =>
      let s := (s.senseTemp temp).watchSupply vsys
      if !s.power.pfail && decide (vsys ≤ dacMicrovolts 400) then
        let s := { s with power := { s.power with pfail := true, pfailTime := s.ts, pfailOkSince := none } }
        if s.mode = .reset ∨ s.mode = .powerFail then s else s.enterPowerFail progress
      else s) s

/-- POWER_FAIL_REARM (R72, R123, R135, R136): `VSYS_SENSE` reaches 1.050 V; the comparator re-arms and a re-arm record goes
to the ash by the router. -/
def execPowerFailRearm (dt : Nat) (vsys : Nat) (temp : Int) (s : State) : Host.Outcome State Fault Refusal :=
  event dt (fun s => !s.power.por)
    (fun s =>
      let s := (s.senseTemp temp).watchSupply vsys
      if s.power.pfail && decide (dacMicrovolts 420 ≤ vsys) then
        State.routeAsh { s with power := { s.power with pfail := false } }
          { time := s.ts, rank := rankRearm, type := 0x04, payload := leBytes 7 s.power.pfailTime }
      else s) s

/-- POWER_FAIL_RECOVERY (R75): `VSYS_SENSE` has held at or above 1.050 V for 10 ms; RESET as if by `RESET_N`. -/
def execPowerFailRecovery (dt : Nat) (s : State) : Host.Outcome State Fault Refusal :=
  event dt
    (fun s => decide (s.mode = .powerFail) && !s.power.pfail &&
      (match s.power.pfailOkSince with | some t => decide (t + per10ms ≤ s.clock) | none => false))
    (fun s => s.finishFail.enterReset 2) s

end Sys2Proof.Machine
end

