-- ==== Sys2Proof/Machine/Straps.lean ====
section
/-! DEFINITION. Sys2Proof/Machine/Straps.lean: the read sequence of the straps (R21 to R48, R63) and the ash dump
(R294). -/

namespace Sys2Proof.Machine

/-- The least number of timebase periods that spans `n` measurements of 140 µs: 3,440.64 each (R27, R32). -/
def measurementTime (n : Nat) : Nat := (344064 * n + 99) / 100

/-- The next of the 45 measurements has ended: 140 µs for each so far (R27, R32). -/
def State.measured (s : State) : Bool :=
  decide (s.straps.startedAt + measurementTime (s.straps.sums.length + 1) ≤ s.clock)

/-- STRAP_MEASUREMENT (R27, R29, R30, R31, R32): the eight codes of one more of the 45 measurements of STRAP_READ, whose
sum is formed. `TEST_N` and `ASHDUMP_N` (true: high) are sampled at the start of each pass. -/
def execStrapMeasurement (dt : Nat) (codes : Codes) (testN ashdumpN : Bool) (s : State) :
    Host.Outcome State Fault Refusal :=
  event dt
    (fun s => decide (s.mode = .strapRead) && !s.straps.ended && decide (s.straps.sums.length < 45) && s.measured)
    (fun s =>
      let x := s.straps
      let first := decide (x.sums.length % 15 = 0)
      { s with straps := { x with
          sums := codeSum codes :: x.sums
          testLow := if first then (!testN) :: x.testLow else x.testLow
          dumpLow := if first then (!ashdumpN) :: x.dumpLow else x.dumpLow } }) s

/-- Failed input and cause code of a STRAP_READ: the first input that is not good, else the key checks, image key first
(R44, R46). -/
def State.strapVerdict (s : State) (x : Straps) : Option Nat × Nat :=
  let code (i : Nat) := (x.level 2 (i + 1)).getD 0
  match x.firstFailed with
  | some k => (some k, causeOfStatus (x.status k))
  | none =>
    if bitOf (code 8) 0 && !s.tap.image.isProgrammed then (some 15, 6)
    else if decide (8 ≤ code 9) && bitOf (code 9) 0 && !s.tap.ring.isProgrammed then (some 16, 7)
    else (none, 0)

/-- The settings that STRAP_READ decodes (R21, R33 to R43, R46, R47, R247). -/
def Straps.decode (x : Straps) (cause : Nat) : Straps :=
  let codes := (List.range 12).map (fun i => (x.level 2 (i + 1)).getD 0)
  { x with
    codes := codes
    cause := cause
    dumpRequested := decide (x.dumpLow.length = 3) && x.dumpLow.all id
    flueFallback := x.status 11 != 0
    recDev := if x.status 1 = 0 ∧ x.status 2 = 0 then 16 * codes.getD 0 0 + codes.getD 1 0 else 0
    ended := true }

/-- The boot count is incremented, saturating at 0xFF_FFFF, and written (R63, R285, R286). -/
def State.countBoot (s : State) : State :=
  let n := satTo 0xFFFFFF (s.vault.bootCount + 1)
  let s := s.poke bootCountAddr (leBytes 8 n)
  { s with vault := { s.vault with bootCount := n } }

/-- The configuration echo and boot records, to the flue as sequences 0 and 1 and to the ash (R46, R63). -/
def State.bootRecords (s : State) (failed : Option Nat) : State :=
  let s := (s.report 0x02 s.ts (s.straps.echoPayload failed) 0).ashRecord 0x02 s.ts (s.straps.echoAsh failed)
  (s.report 0x01 s.ts s.bootPayload 0).ashRecord 0x01 s.ts s.bootPayload

/-- Entry to CONFIG_FAULT (R45, R64). -/
def State.enterConfigFault (s : State) : State :=
  { s with
    mode := .configFault
    out := { s.out with ready := false, alert := false, alarm := false, fault := true, health := some healthLow } }

/-- STRAP_READ_END (R21, R29 to R48, R62, R63): the straps are decoded, the records written, and the next state chosen.
While a dump is awaited and no cause applies, the state stays STRAP_READ. -/
def execStrapReadEnd (dt : Nat) (s : State) : Host.Outcome State Fault Refusal :=
  event dt (fun s => decide (s.mode = .strapRead) && !s.straps.ended && decide (s.straps.sums.length = 45))
    (fun s =>
      let x := s.straps
      let verdict := s.strapVerdict x
      let s := { s with
        straps := x.decode verdict.2
        panel := { s.panel with label := (x.level 2 13).getD 0 } }
      let s := s.countBoot.bootRecords verdict.1
      if verdict.2 ≠ 0 then s.enterConfigFault
      else if s.straps.dumpRequested then s
      else s.enterBist) s

/-- ASH_DUMP_START (R294, R48): the echo and boot ash writes have ended, and the dump starts at the oldest index. -/
def execAshDumpStart (dt : Nat) (s : State) : Host.Outcome State Fault Refusal :=
  event dt
    (fun s => (decide (s.mode = .strapRead) || decide (s.mode = .configFault)) && s.straps.ended &&
      s.straps.dumpRequested && !s.straps.dumping && !s.straps.dumpEndQueued && s.ash.waiting.isEmpty)
    (fun s => { s with straps := { s.straps with dumping := true, dumpFirst := s.ash.nextSeq % 8192 } }) s

/-- Status of an ash record in the dump: 0 valid, 2 when all 64 bytes are zero, 1 otherwise (R294). -/
def State.dumpStatus (s : State) (i : Nat) : Nat :=
  if s.ashValid i then 0 else if (s.peek (ashAddr i) 64).all (fun b => b = 0#8) then 2 else 1

/-- Payload of an ash dump record (R249). -/
def State.dumpPayload (s : State) (i : Nat) : List Byte :=
  leBytes 2 i ++ [BitVec.ofNat 8 (s.dumpStatus i), 0#8] ++ s.peek (ashAddr i) 64

/-- Payload of the dump's end record (R249). -/
def dumpEndPayload (valid : Nat) : List Byte := leBytes 2 0xFFFF ++ [3#8, 0#8] ++ leBytes 4 valid

/-- The next dump record enters the empty report queue with the time of its sending; after the last index the end record
does (R294). -/
def State.feedDump (s : State) : State :=
  if (decide (s.mode = .strapRead) || decide (s.mode = .configFault)) && s.straps.dumping && s.flue.queue.isEmpty && !s.straps.dumpEndQueued then
    if s.straps.dumpSent < 8192 then
      let i := (s.straps.dumpFirst + s.straps.dumpSent) % 8192
      let s' := s.report 0x0C s.ts (s.dumpPayload i) 0
      { s' with straps := { s.straps with
          dumpSent := s.straps.dumpSent + 1
          dumpValid := s.straps.dumpValid + b2n (s.ashValid i) } }
    else
      let s' := s.report 0x0C s.ts (dumpEndPayload s.straps.dumpValid) 0
      { s' with straps := { s.straps with dumpEndQueued := true } }
  else s

/-- ASH_DUMP_END (R294, R48, R62): the last byte of the end record has been sent; BIST starts, or CONFIG_FAULT holds. -/
def execAshDumpEnd (dt : Nat) (s : State) : Host.Outcome State Fault Refusal :=
  event dt
    (fun s => (decide (s.mode = .strapRead) || decide (s.mode = .configFault)) && s.straps.dumping &&
      s.straps.dumpEndQueued && !s.flue.queue.any (fun r => decide (r.type = 0x0C)) &&
      decide (s.flue.busyUntil ≤ s.clock))
    (fun s =>
      let s := { s with straps := { s.straps with dumping := false, dumpRequested := false } }
      if s.mode = .strapRead then s.enterBist else s) s

end Sys2Proof.Machine
end

