-- ==== Sys2Proof/Machine/Flue.lean ====
section
/-! DEFINITION. Sys2Proof/Machine/Flue.lean: the ash writer (R287 to R291, R294), the event router's deliveries (R135,
R136) and the UART (R245, R246, R251 to R253). -/

namespace Sys2Proof.Machine

/-- The MRAM takes new ash records: in every state but RESET, not during a dump, and in POWER_FAIL only once the power-fail
sequence has ended and the latch is clear (R73, R275, R289, R293, R294). -/
def State.ashMayWrite (s : State) : Bool :=
  decide (s.mode ≠ .reset) && !s.dumpHolds &&
  !(decide (s.mode = .powerFail) && (s.power.pfail || !s.failEnded))

/-- Flue ash dump record that carries one ash record to the collector (R249, R359): unstuffed header, payload and
CRC-32. -/
def relayedAsh (dev seq index time : Nat) (stored : List Byte) : List Byte :=
  let r : FlueRec :=
    { type := 0x0C, seq := seq % 65536, time := time,
      payload := leBytes 2 index ++ [0#8, 0#8] ++ stored, tier := 0 }
  r.bytes dev

/-- The oldest waiting record is written at next_seq; in RUN it is relayed (R288, R289, R359). The instant of a coalescing
record is that of its write (R291). -/
def State.writeHead (s : State) : State :=
  match s.ash.waiting with
  | [] => s
  | r :: rest =>
    let r := if r.type = 0x0E then { r with time := s.ts } else r
    let seq := s.ash.nextSeq
    let stored := r.bytes seq s.vault.bootCount
    let s := State.writeAsh { s with ash := { s.ash with waiting := rest } } r
    match s.relayTarget with
    | some c =>
      s.originate 6 32 c (s.unicastDir c) (relayedAsh s.straps.recDev seq (seq % 8192) r.time stored)
    | none => s

/-- ASH_RECORD_WRITE (R275, R287 to R291): a coalescing record that is owed goes first. What a power-fail sequence wrote
stands before it. -/
def execAshRecordWrite (dt : Nat) (s : State) : Host.Outcome State Fault Refusal :=
  event dt (fun s => s.ashMayWrite && !s.coalesce.ash.waiting.isEmpty) (fun s => s.finishFail.coalesce.writeHead) s

/-- Timebase periods of 62.5 ms (R290). -/
def tokenPeriod : Nat := 1536000

/-- ASH_TOKEN_ADD (R290, R291): one token more; a coalescing record that is owed takes it. -/
def execAshTokenAdd (dt : Nat) (s : State) : Host.Outcome State Fault Refusal :=
  event dt (fun s => decide (s.ash.tokens < 64) && decide (s.ash.tokenAt + tokenPeriod ≤ s.clock))
    (fun s =>
      let a := s.ash
      let s := { s with ash := { a with tokens := a.tokens + 1, tokenAt := a.tokenAt + tokenPeriod } }
      if s.ashMayWrite then s.coalesce else s) s

/-- An event is delivered before another: by timestamp, then by row of the router map (R136). -/
def Event.before (e f : Event) : Bool := decide (e.time < f.time) || (decide (e.time = f.time) && decide (e.rank < f.rank))

/-- The event of a queue that is delivered next; events equal in both keep the order in which they came. -/
def nextEvent : List Event → Option Event
  | [] => none
  | e :: es => match nextEvent es with
    | none => some e
    | some f => some (if f.before e then f else e)

/-- Discard tier of a routed record (R248). -/
def routedTier (type : Nat) : Nat := if type = 0x08 ∨ type = 0x0B then 2 else 1

/-- The report queue takes routed events: not before the configuration echo (R63), nor while the core is off. -/
def State.flueMayQueue (s : State) : Bool :=
  match s.mode with
  | .reset | .ember => false
  | .strapRead => s.straps.ended
  | _ => true

/-- A queue of the router delivers now (R136, R294). -/
def State.mayDeliver (s : State) (sink : Sink) : Bool :=
  match sink with
  | .ash => decide (s.mode ≠ .reset) && !s.dumpHolds && !s.router.ash.isEmpty
  | .flue => s.flueMayQueue && !s.dumpHolds && !s.router.flue.isEmpty

/-- The oldest event of a queue reaches its sink (R136). -/
def State.deliver (s : State) (sink : Sink) : State :=
  match sink with
  | .ash => match nextEvent s.router.ash with
    | none => s
    | some e =>
      State.ashRecord { s with router := { s.router with ash := s.router.ash.erase e } } e.type e.time e.payload
  | .flue => match nextEvent s.router.flue with
    | none => s
    | some e =>
      State.report { s with router := { s.router with flue := s.router.flue.erase e } } e.type e.time e.payload
        (routedTier e.type)

/-- ROUTER_DELIVERY (R136). -/
def execRouterDelivery (dt : Nat) (sink : Sink) (s : State) : Host.Outcome State Fault Refusal :=
  event dt (fun s => s.mayDeliver sink) (fun s => s.deliver sink) s

/-- The UART runs: not in RESET, nor asleep (R64, R253, R393). In a step-up pause it takes up no further record (R96). -/
def State.flueRuns (s : State) : Bool :=
  match s.mode with
  | .reset | .banked | .ember => false
  | _ => !s.paused

/-- Timebase periods from the start of a transmission to its bit edge `k` (R245). -/
def State.bitEdge (s : State) (k : Nat) : Nat := k * perSec / s.baud

/-- One bit time in whole timebase periods, rounded up (R245). -/
def State.bitTime (s : State) : Nat := (perSec + s.baud - 1) / s.baud

/-- The bits of one UART frame: start, eight data bits from the least significant one on, stop (R245). -/
def uartFrame (b : Byte) : List Bool := false :: (List.range 8).map b.getLsbD ++ [true]

/-- A record or its delimiter is on `FLUE_TX`, and the UART is not off (R64, R253). -/
def State.flueSending (s : State) : Bool :=
  (match s.mode with
    | .reset | .banked | .ember => false
    | _ => true) && decide (s.clock < s.flue.busyUntil)

/-- `FLUE_TX`: the bit that is due while a record is sent, high when idle (R245). -/
def State.flueTx (s : State) : Bool :=
  if s.flueSending && decide (s.flue.startAt ≤ s.clock) then
    (s.flue.wire.flatMap uartFrame).getD (((s.clock - s.flue.startAt + 1) * s.baud - 1) / perSec) true
  else true

/-- `FLUE_DE`: high from one bit time before the first start bit of a record to one bit time after its last stop bit
(R245); low in RESET and in sleep (R393). -/
def State.flueDe (s : State) : Bool :=
  (match s.mode with
    | .reset | .banked | .ember => false
    | _ => true) && decide (s.clock < s.flue.busyUntil + s.bitTime) && decide (0 < s.flue.busyUntil)

/-- A record that holds an uncorrectable word is discarded and a memory event written (R251, R252, R269). -/
def State.spoilHead (s : State) (r : FlueRec) (rest : List FlueRec) : State :=
  State.memoryEvent { s with flue := { s.flue.tally r with queue := rest } } 0x01 .flu (regionBase .reportQueue)
    0xFFFF 0xFF 0 0

/-- The next record goes out: stuffed, with the extra zero byte first after a reset or a wake, and the delimiter last
(R246). It follows the previous one directly while `FLUE_DE` is still high, otherwise one bit time after `FLUE_DE` has risen
(R245). -/
def State.sendHead (s : State) (r : FlueRec) (rest : List FlueRec) : State :=
  let lead := if s.flue.extraZero then [0#8] else []
  let wire := lead ++ cobs (r.bytes s.straps.recDev) ++ [0#8]
  let start := if s.flueDe then s.clock else s.clock + s.bitTime
  { s with flue := { s.flue with
      queue := rest
      wire := wire
      extraZero := false
      startAt := start
      busyUntil := start + s.bitEdge (10 * wire.length) } }

/-- FLUE_RECORD_SEND (R245 to R247, R251, R269, R294): once the latest record is sent, the UART sends the oldest one. Its
words in the report queue read uncorrectable, or `badWord`: an upset of one of them has just come about. In a dump the next
dump record is formed first. -/
def execFlueRecordSend (dt : Nat) (badWord : Bool) (s : State) : Host.Outcome State Fault Refusal :=
  event dt (fun s => s.flueRuns && decide (s.flue.busyUntil ≤ s.clock) && !s.feedDump.flue.queue.isEmpty)
    (fun s =>
      let s := s.feedDump
      match s.flue.queue with
      | [] => s
      | r :: rest => if badWord || s.recordBad r then s.spoilHead r rest else s.sendHead r rest) s

end Sys2Proof.Machine
end

