-- ==== Sys2Proof/Machine/Pause.lean ====
section
/-! DEFINITION. Sys2Proof/Machine/Pause.lean: the end of a step-up pause (R86, R96, R154, R215, R264, R323). -/

namespace Sys2Proof.Machine

/-- The ack timer of a port goes on after a pause of so many periods (R96, R323). -/
def LinkPort.thaw (x : LinkPort) (clock pause : Nat) : LinkPort :=
  if !x.up then x
  else { x with
    timer := x.timer.go clock
    unacked := x.unacked.map (fun u => u.afterPause (x.timer.read clock) pause) }

/-- What stood still in the pause goes on: ack timers, the smoulder's periods, and a scan that had not ended (R96, R215,
R264, R323). -/
def State.resume (s : State) (began : Nat) : State :=
  let pause := s.clock - began
  { s with
    volt := { s.volt with pauseAt := none }
    hearth := { s.hearth with scanEnd := if began < s.hearth.scanEnd then s.hearth.scanEnd + pause else s.hearth.scanEnd }
    smoulder := { s.smoulder with periodAt := s.smoulder.periodAt.map (· + pause) }
    ring := { s.ring with
      portA := s.ring.portA.thaw s.clock pause
      portB := s.ring.portB.thaw s.clock pause } }

/-- The pages freed during the pause are free (R154). -/
def State.freePages (s : State) : State :=
  (s.freeing.foldl State.releasePage { s with freeing := [] }).redoTurn

/-- The core takes up what the crossing buffers hold (R86, R96). -/
def State.drainCrossing (s : State) : State :=
  let s := (s.drainSamples.drainPort .a).drainPort .b
  { s with cross := { s.cross with flash := [] } }

/-- STEP_UP_PAUSE_END (R86, R96, R154, R215, R264, R323): 100 µs after a step up core handshakes resume. -/
def execStepUpPauseEnd (dt : Nat) (s : State) : Host.Outcome State Fault Refusal :=
  event dt
    (fun s => decide (s.mode = .run) && (match s.volt.pauseAt with
      | some t => decide (t + per100us ≤ s.clock)
      | none => false))
    (fun s => (s.resume (s.volt.pauseAt.getD s.clock)).freePages.drainCrossing) s

end Sys2Proof.Machine
end

