-- ==== Sys2Proof/Machine/Startup.lean ====
section
/-! DEFINITION. Sys2Proof/Machine/Startup.lean: BIST and its outcomes (R271 to R273), the part of LOAD that concerns the
MRAM (R282, R284 to R286), and entry to RUN (R20, R49, R52, R62, R64, R71, R89, R114, R142, R152, R264, R339). -/

namespace Sys2Proof.Machine

/-! ### BIST -/

/-- The fields of the persistent state that BIST judges: every field but the journal slots (R271, R285). -/
def persistFields : List (Nat × Nat) :=
  [(bootCountAddr, 24), (kindlingAddr 0, 33792), (spawnAddr 8192, 28672), (slotSeqAddr 0, 4096), (fleetSeqAddr 0, 1024)]

/-- The lowest uncorrectable word of the persistent fields. -/
def State.persistFailure (s : State) : Option Nat := (persistFields.filterMap (fun f => s.badIn f.1 f.2)).head?

/-- The columns of a sub-array that are repaired. -/
def Repairs.spent (r : Repairs) (a : SubArray) : Nat := (r.fused ++ r.added).countP (fun x => decide (x.1 = a))

/-- One fault of the SRAM: a faulty column takes a spare of its sub-array, of which there are four, while one remains; a
column more and a faulty row line are unrepairable, and are noted (R270, R271). -/
def takeFault (x : Repairs × List ArrayFault) (f : ArrayFault) : Repairs × List ArrayFault :=
  match f.column with
  | none => (x.1, x.2 ++ [f])
  | some c =>
    if (x.1.fused ++ x.1.added).contains (f.sub, c) then x
    else if x.1.spent f.sub < 4 then ({ x.1 with added := x.1.added ++ [(f.sub, c)] }, x.2)
    else (x.1, x.2 ++ [f])

/-- The repairs of a BIST and the faults that remain: the fused repairs are applied, and the remaining spares assigned in
the order of the test (R270, R271, log 12). -/
def State.repairFaults (s : State) (faults : List ArrayFault) : Repairs × List ArrayFault :=
  faults.foldl takeFault ({ fused := s.repairs.fused }, [])

/-- The bank of the hearth data that a fault lies in. -/
def faultBank (f : ArrayFault) : Option Nat :=
  match f.sub with
  | .hearth bank _ => some bank
  | .other _ _ => none

/-- The banks that BIST retires, ascending: those with an unrepairable fault (R272). -/
def retiredBanks (left : List ArrayFault) : List Nat := (left.filterMap faultBank).foldl insertUp []

/-- The lowest failing address of a bank. -/
def lowestIn (left : List ArrayFault) (b : Nat) : Nat :=
  (((left.filter (fun f => decide (faultBank f = some b))).map ArrayFault.addr).min?).getD 0

/-- The failing addresses of the other SRAM regions. -/
def otherFaults (left : List ArrayFault) : List Nat := (left.filter (fun f => (faultBank f).isNone)).map ArrayFault.addr

/-- The first failure that enters FAULT: its cause and lowest failing address (R272). -/
def State.bistFailure (s : State) (left : List ArrayFault) : Option (Nat × Nat) :=
  if 8 < (retiredBanks left).length then
    some (1, (((left.filter (fun f => (faultBank f).isSome)).map ArrayFault.addr).min?).getD 0)
  else match (otherFaults left).min? with
    | some a => some (2, a)
    | none => s.persistFailure.map (fun a => (3, a))

/-- Banks are retired, each with a memory event 0x06 (R249, R272). -/
def State.retireBanks (s : State) (left : List ArrayFault) : State :=
  let s := { s with hearth := { s.hearth with retired := retiredBanks left } }
  s.hearth.retired.foldl (fun s b => s.memoryEvent 0x06 .bst (lowestIn left b) (64 * b) 0xFF 0 0) s

/-- Entry to FAULT: one memory event 0x0C to the flue and one fault ash record (R64, R249, R272, R292). -/
def State.enterFault (s : State) (cause addr : Nat) : State :=
  let count := satTo 255 s.hearth.retired.length
  let s := s.report 0x0A s.ts (memoryPayload 0x0C .bst addr 0xFFFF cause count 0) 1
  let s := s.ashRecord 0x0D s.ts ([BitVec.ofNat 8 cause, BitVec.ofNat 8 count] ++ leBytes 4 addr)
  { s with
    mode := .fault
    power := { s.power with waking := false }
    out := { s.out with ready := false, alert := false, alarm := false, fault := true, health := some healthLow } }

/-! ### LOAD: journal recovery and vault restore -/

/-- The vault words, data and tags, of a memory. -/
def vaultCells (m : List Host.Cell) : List Host.Cell :=
  m.filter (fun c => decide (mramBase ≤ c.1) && decide (c.1 < persistBase))

/-- Uncorrectable vault words. -/
def vaultErrors (l : List (Nat × Nat)) : List (Nat × Nat) :=
  l.filter (fun e => decide (mramBase ≤ e.1) && decide (e.1 < persistBase) && decide (3 ≤ e.2))

/-- The live copy of a journal slot that holds a valid entry (R269). -/
def State.slotCopy (s : State) (k : Nat) : Option (List Byte) :=
  if s.slotValid k then some (s.peek (slotAddr k) 1080) else none

/-- Journal recovery (R282): the later valid entry is applied again. -/
def State.recoverJournal (s : State) : State :=
  let s := { s with vault := { s.vault with slots := [s.slotCopy 0, s.slotCopy 1] } }
  match s.laterSlot with
  | none => { s with vault := { s.vault with nextSeq := 0, nextSlot := 0 } }
  | some k =>
    let e := s.slotEntry k
    let u := s.applyEntry e
    let differed := decide (vaultCells u.mem ≠ vaultCells s.mem) || decide (vaultErrors u.ecc ≠ vaultErrors s.ecc)
    let u := { u with vault := { u.vault with nextSeq := (s.slotSeqOf k + 1) % 2 ^ 32, nextSlot := 1 - k } }
    if differed then u.memoryEvent 0x0B .vlt (slotAddr k) e.row 0xFF 0 0 else u

/-- A learned row's vault tag. -/
def State.vaultTag (s : State) (r : Nat) : Tag := Tag.ofNat (s.peekNat (vaultTagAddr r) 32)

/-- A word of the vault tag reads uncorrectable. -/
def State.vaultTagBad (s : State) (r : Nat) : Bool := (s.badIn (vaultTagAddr r) 32).isSome

/-- The vault holds the row: its tag reads, is valid, is not spent and has the class of the partition (R284). -/
def State.vaultHolds (s : State) (r : Nat) : Bool :=
  let t := s.vaultTag r
  !s.vaultTagBad r && t.valid && !t.spent && decide (t.cls.toNat = s.partition r)

/-- Learned rows whose vault tag is not all zero or reads uncorrectable, ascending. -/
def State.vaultRows (s : State) : List Nat :=
  let row (a : Nat) := 8192 + (a - 0x08800000) / 32
  let inTags (a : Nat) := decide (0x08800000 ≤ a) && decide (a < 0x08840000)
  let tagged := squeeze ((s.mem.filter (fun c => inTags c.1)).map (fun c => row c.1))
  (s.ecc.filter (fun e => inTags e.1 && decide (3 ≤ e.2))).foldl (fun l e => insertUp l (row e.1)) tagged

/-- The segments of a learned row whose vault words read uncorrectable (R284). -/
def State.lostSegments (s : State) (r : Nat) : List Nat :=
  (List.range 128).filter (fun g => s.bad (vaultAddr r + 8 * g))

/-- The vault tag of a row with its lost segments erased (R284). -/
def State.restoredTag (s : State) (r : Nat) : Tag :=
  (s.lostSegments r).foldl (fun t g => t.markErased g true) (s.vaultTag r)

/-- A learned row takes its data from the vault and the tag `t`, in which the lost segments are erased (R284). -/
def State.fillRow (s : State) (r : Nat) (lost : List Nat) (t : Tag) : State :=
  let s := s.writeRow r (BitVec.ofNat 8192 (s.peekNat (vaultAddr r) 1024)) t
  let s := if lost = [] then s else s.markDirty r false true
  if 32 < t.erasures then s.spendRow r .vlt else s

/-- One learned row is restored, left invalid, or mirrored as FREE (R273, R284). -/
def State.restoreRow (s : State) (r : Nat) : State :=
  if s.isRetired r then s
  else if s.vaultTagBad r then (s.markDirty r false true).memoryEvent 0x08 .vlt (vaultTagAddr r) r 0xFF 0 0
  else if !s.vaultHolds r then s
  else s.fillRow r (s.lostSegments r) (s.restoredTag r)

/-- The fields that are not zero among those of `stride` bytes from `base` on over `size` bytes: index and value. -/
def State.sparseField (s : State) (base size stride : Nat) : List (Nat × Nat) :=
  let used := squeeze ((s.mem.filter (fun c => decide (base ≤ c.1) && decide (c.1 < base + size))).map
    (fun c => (c.1 - base) / stride))
  used.map (fun i => (i, s.peekNat (base + stride * i) stride))

/-- The live copies of the persistent fields are read; kindling counters are zero when the vault holds no valid learned
row (R20, R216, R286). -/
def State.loadPersistent (s : State) : State :=
  { s with
    vault := { s.vault with
      e2eMark := s.peekNat e2eMarkAddr 2
      slotSeq := s.sparseField (slotSeqAddr 0) 4096 4
      fleetSeq := s.sparseField (fleetSeqAddr 0) 1024 4 }
    learn := { s.learn with
      kindling := if s.vaultRows.any s.vaultHolds then s.sparseField (kindlingAddr 0) 33792 8 else []
      spawned := (s.sparseField (spawnAddr 8192) 28672 4).map (fun p => (p.1 + 8192, p.2)) } }

/-- LOAD begins: journal recovery, vault restore and the library (R62, R192, R282, R284, R303). -/
def State.enterLoad (s : State) : State :=
  let s := State.recoverJournal { s with mode := .load }
  (s.vaultRows.foldl State.restoreRow s).loadPersistent.startLibrary

/-- BIST_COMPLETE (R270 to R273): columns are repaired, banks are retired, FAULT is entered, or LOAD begins. The March test
leaves the SRAM without contents. -/
def execBistComplete (dt : Nat) (found : BistFindings) (s : State) : Host.Outcome State Fault Refusal :=
  eventOf (fun _ => bistForm found) dt (fun s => decide (s.mode = .bist))
    (fun s =>
      let s := State.upset { s with mem := mramOnly s.mem, ecc := mramErrors s.ecc }
        (found.upsets.filter (fun u => decide (mramBase ≤ u.addr)))
      let repair := s.repairFaults found.faults
      let failure := s.bistFailure repair.2
      let s := State.retireBanks { s with repairs := repair.1 } repair.2
      match failure with
      | some f => s.enterFault f.1 f.2
      | none => s.enterLoad) s

/-! ### Entry to RUN -/

/-- The end-to-end counter starts at the stored mark, which moves on by 1,024 (R339). -/
def State.startE2e (s : State) : State :=
  let m := (s.vault.e2eMark + 1024) % 65536
  let s' := s.poke e2eMarkAddr (leBytes 8 m)
  { s' with
    vault := { s.vault with e2eMark := m }
    fleet := { s.fleet with e2e := s.vault.e2eMark } }

/-- A channel as it enters RUN: nothing stored, its first reserved page filling unless it is withdrawn (R112, R114,
R152). -/
def Chan.enter (x : Chan) (c : Nat) : Chan :=
  { x with
    recovery := 0
    page := if withdrawn x.status then none else some (2 * c)
    missing := false
    doomed := false
    overs := 0
    limiterAge := 24 }

/-- The channels as they enter RUN (R99, R114). -/
def State.chansAtEntry (s : State) : List Chan :=
  s.chans.zipIdx.map (fun p => if p.2 < s.channels then p.1.enter p.2 else p.1)

/-- The frame pool as RUN is entered: the pages that fill (R152). -/
def State.pagesAtEntry (s : State) : List (Nat × Nat) :=
  ((s.enabled.zipIdx).filter (fun p => !withdrawn p.1.status)).map (fun p => (2 * p.2, p.2))

/-- Shaft sync as RUN is entered (R131, R142, R147 to R149). -/
def State.syncAtEntry (s : State) : Sync :=
  { edges := s.edgesPerBoundary
    prevClose := s.ts
    prevStatus := s.sync.prevStatus
    auxLast := s.sync.auxLast
    tachDrops := s.sync.tachDrops
    shock := s.sync.shock
    tach := s.sync.tach
    shockCounts := s.sync.shockCounts
    glitchTotal := s.sync.glitchTotal }

/-- Voltage controller and canary as RUN is entered (R79, R89, R90, R92 to R95). The blocks and the 1 s windows of replays
go on from LOAD; after BANKED, where no handshake is made, a window starts anew (R82, log 53). -/
def State.voltAtEntry (s : State) : Volt :=
  { s.volt with
    pipelines := s.volt.pipelines.map (fun p => { p with handshakes := 0, blockReplays := 0, raiseDue := false })
    secondReplays := if s.mode = .banked then 0 else s.volt.secondReplays
    secondAt := if s.mode = .banked then s.clock else s.volt.secondAt
    windowAt := s.clock
    windowReplays := 0
    canaryAt := none
    canaryNext := s.clock
    canaryPassed := none
    monitorFailed := false
    stepUpDue := false
    holdoffAt := none
    pauseAt := none
    lowest := min s.volt.lowest 2 }

/-- The ring as RUN is entered: ports without a link, every cell free (R312, R326, R332). -/
def State.ringAtEntry (s : State) : Ring :=
  { map := s.ring.map, stamps := s.ring.stamps, censusAt := s.clock, discards := s.ring.discards }

/-- An enabled channel takes part in ticks: the idle timer advances (R65). -/
def State.anyValid (s : State) : Bool := s.enabled.any (fun c => !withdrawn c.status)

/-- Entry to RUN, after a start-up (`wake` none) or after a wake with its source mask. The first `LABEL` reading comes 20 ms
after it (R50, log 41). -/
def State.enterRun (s : State) (wake : Option Nat) : State :=
  let s := s.clearHistory
  { s with
    mode := .run
    power := { s.power with
      vset := 2
      vsetTarget := 2
      sleepDue := false
      wakeMask := 0
      waking := false
      wakeEdges := []
      wakeNRun := 0
      idle := if s.anyValid then Stopwatch.start s.clock else {}
      spotRun := decide (wake = some 8)
      spotTicks := 0
      running := s.power.running.go s.clock }
    volt := s.voltAtEntry
    chans := s.chansAtEntry
    sync := s.syncAtEntry
    pages := s.pagesAtEntry
    freeing := []
    cross := {}
    ticks := []
    arrays := List.replicate 4 none
    hearth := { s.hearth with inFlight := [], lastLocal := false }
    learn := { s.learn with
      time := s.learn.time.stop s.clock
      writes := []
      history := 0
      teach := none
      fleetHits := [] }
    panel :=
      { label := s.panel.label, ignored := s.panel.ignored, readAt := s.clock, rekindleDue := s.panel.rekindleDue }
    out :=
      let o := { s.out with ready := true, fault := s.out.fault || s.anyWithdrawn }
      { o with reported := o.pins }
    flue := { s.flue with
      heartbeatAt := s.clock + perSec
      wakeMask := wake
      extraZero := s.flue.extraZero || decide (s.mode = .banked) }
    smoulder := { periodAt := List.replicate 12 s.clock }
    ring := s.ringAtEntry
    fleet := { s.fleet with queries := [], jobs := [], sweepSlot := 0, sweepAt := s.clock } }

/-- LOAD_COMPLETE (R20, R62, R114, R217, R339): the vault, the library and the item memory are in place; RUN is entered,
after a reset with every enabled channel valid, after an EMBER wake with the channels as they were held. -/
def execLoadComplete (dt : Nat) (s : State) : Host.Outcome State Fault Refusal :=
  event dt (fun s => decide (s.mode = .load) && decide (s.lib.stage = .over) && s.lib.built)
    (fun s =>
      let s := s.startE2e
      let s := { s with learn := { s.learn with accums := [], seasoned := s.seasonedNow } }
      let fresh : Chan := { status := if s.voltageMode then 2 else 1 }
      let chans := if s.power.waking then s.chans
        else (List.range 32).map (fun c => if c < s.channels then fresh else {})
      let wake := if s.power.waking then some s.power.wakeMask else none
      State.enterRun { s with chans := chans } wake) s

end Sys2Proof.Machine
end

