-- ==== Sys2Proof/Machine/Scrub.lean ====
section
/-! DEFINITION. Sys2Proof/Machine/Scrub.lean: row writes in their gaps, region windows, the smoulder and the heals from the
vault (R193, R214, R226, R255 to R269, R283, R350, R365, R366). -/

namespace Sys2Proof.Machine

/-! ### Region windows -/

/-- An address lies in a range of `n` bytes. -/
def within (a lo n : Nat) : Bool := decide (lo ≤ a) && decide (a < lo + n)

/-- An address lies in a region (R255). -/
def inRegion (r : Region) (a : Nat) : Bool := within a (regionBase r) (regionSize r)

/-- An address lies in the data or tags of rows `lo` to `hi - 1` (R194). -/
def inRows (lo hi a : Nat) : Bool := within a (rowAddr lo) (rowAddr (hi - lo)) || within a (tagAddr lo) (32 * (hi - lo))

/-- An address lies in a region of SRAM (R255). -/
def inSram (a : Nat) : Bool :=
  match regionOf a with
  | some _ => decide (a < mramBase)
  | none => false

/-- A master's access to an address lies inside its window (R260). -/
def State.windowOpen (s : State) (x : Access) : Bool :=
  let a := x.addr
  if s.mode = .bist then
    decide (x.master = .bst) && (if x.write then inSram a else (regionOf a).isSome)
  else match x.master, x.write with
    | .acq, false => false
    | .acq, true => inRegion .framePool a
    | .sig, false => inRegion .framePool a || inRegion .signalScratch a
    | .sig, true => inRegion .signalScratch a
    | .enc, false => inRegion .signalScratch a || inRegion .encoderScratch a
    | .enc, true => inRegion .encoderScratch a
    | .hrc, false => inRegion .hearthData a || inRegion .hearthTags a
    | .hrc, true => false
    | .lrn, false => inRegion .hearthData a || inRegion .hearthTags a || inRegion .counters a || inRegion .encoderScratch a
    | .lrn, true => inRows 8192 16384 a || inRegion .counters a
    | .smd, false => (regionOf a).isSome
    | .smd, true => inSram a
    | .vlt, _ => inRows 8192 16384 a || inRegion .vaultData a || inRegion .vaultTags a || inRegion .persistent a
    | .lib, false => within a (tagAddr 0) (32 * s.libraryRows)
    | .lib, true => inRows 0 s.libraryRows a || within a planAddr 0x10000
    | .rng, false => inRegion .ringCells a || inRows 15360 16384 a || inRegion .reportQueue a || inRegion .ash a
    | .rng, true => inRegion .ringCells a || inRows s.libraryRows 8192 a || inRegion .reportQueue a
    | .flu, false => inRegion .reportQueue a || inRegion .ash a
    | .flu, true => inRegion .reportQueue a
    | .ash, _ => inRegion .ash a
    | .bst, _ => false

/-! ### Row writes -/

/-- The write that lands next in a bank: its oldest, unless a write or a commit of an earlier tick still waits (R214,
R226). -/
def State.landing (s : State) (bank : Nat) : Option (Nat × RowOp) :=
  match s.learn.writes.find? (fun w => decide (bankOf w.2.row = bank)) with
  | none => none
  | some w => if s.earlierWaits w.1 then none else some w

/-- A borrow learns the generation of its row as the spawn lands (R350). -/
def State.noteSpawn (s : State) (row gen : Nat) : State :=
  let note (q : OwnQuery) : OwnQuery := if q.row = row ∧ q.kind = 2 then { q with gen := some (q.gen.getD gen) } else q
  let write (w : Nat × RowOp) : Nat × RowOp := match w.2 with
    | .borrow r g mu delta radius => if r = row then (w.1, .borrow r (some (g.getD gen)) mu delta radius) else w
    | _ => w
  { s with
    fleet := { s.fleet with queries := s.fleet.queries.map note }
    learn := { s.learn with writes := s.learn.writes.map write } }

/-- A row takes new contents: data, tag and dirty flags (R214, R219, R276). -/
def State.newRow (s : State) (row : Nat) (v : HV) (t : Tag) : State :=
  (((s.freeAccum row).writeRow row v t).markDirty row true true).bumpLife row

/-- One pending write lands (R220, R222, R224, R226, R233, R276, R350). A tag write that meets an uncorrectable word of the
tag is a find (R268). -/
def State.land (s : State) (w : RowOp) : State :=
  let row := w.row
  let t := s.tag row
  match w with
  | .spawn _ v scope bin radius mu delta =>
    let tag := spawnTag t scope bin radius mu delta
    let s := (s.newRow row v tag).noteSpawn row tag.gen.toNat
    { s with learn := { s.learn with spawned := setSparse s.learn.spawned row s.runSeconds } }
  | .taught _ v bin label severity radius mu delta originId slot =>
    s.newRow row v (taughtTag t bin label severity radius mu delta originId slot)
  | .admission _ dn =>
    if s.tagBad row then s.tagFound row .lrn
    else if t.valid && !t.spent then s.setTag row (t.admitted dn) else s
  | .borrow _ gen mu delta radius =>
    if s.tagBad row then s.tagFound row .lrn
    else if t.valid && !t.spent && decide (gen = some t.gen.toNat) && decide (t.hits = 0) then
      s.setTag row { t with mu := BitVec.ofNat 14 mu, delta := BitVec.ofNat 12 delta, radius := BitVec.ofNat 14 radius }
    else s

/-! ### The smoulder -/

/-- Bytes of the unit that the smoulder reads at once: a line of 16 segments in the hearth data, else a word (R264). -/
def unitBytes : Region → Nat
  | .hearthData => 128
  | _ => 8

/-- Units of a region. -/
def unitsOf (r : Region) : Nat := regionSize r / unitBytes r

/-- Scrub period of a region in timebase periods: 4 s, 2 s, or 60 min (R255). -/
def scrubPeriod : Region → Nat
  | .hearthData => 4 * perSec
  | .vaultData | .vaultTags | .persistent | .ash => 3600 * perSec
  | _ => 2 * perSec

/-- The next unit of a region. -/
def State.scrubUnit (s : State) (r : Region) : Nat := s.smoulder.pointers.getD (regionIndex r) 0

/-- The smoulder may read the next unit: the pass is not over, or its period has ended (R264). -/
def State.mayScrub (s : State) (r : Region) : Bool :=
  decide (s.scrubUnit r < unitsOf r) ||
  decide (s.smoulder.periodAt.getD (regionIndex r) 0 + scrubPeriod r ≤ s.clock)

/-- The pass moves on by one unit; a new pass starts when the period of a finished one has ended (R264). -/
def State.scrubStep (s : State) (r : Region) : Nat × State :=
  let i := regionIndex r
  let ended := decide (unitsOf r ≤ s.scrubUnit r)
  let u := if ended then 0 else s.scrubUnit r
  (u, { s with smoulder := { s.smoulder with
      pointers := s.smoulder.pointers.set i (u + 1)
      periodAt := if ended then modifyAt s.smoulder.periodAt i (· + scrubPeriod r) else s.smoulder.periodAt } })

/-- A word is rewritten as zero with memory event 0x01. -/
def State.zeroWord (s : State) (m : Master) (a : Nat) : State := (s.wipe (wordOf a) 8).wordEvent 0x01 m a

/-- The channel frame that holds a page is discarded; a frame still filling is discarded at its close (R269). -/
def State.discardPage (s : State) (page : Nat) : State :=
  match s.ticks.findSome? (fun t => (t.frames.find? (fun f => decide (f.page = page) &&
      (decide (f.stage = .holdback) || decide (f.stage = .waiting) || decide (f.stage = .extracting)))).map
      (fun f => (t.id, f.chan))) with
  | some (tick, chan) =>
    let clearJob (j : ArrayJob) : Bool := !(decide (j.tick = tick) && decide (j.chan = chan))
    let s := { s with arrays := s.arrays.map (fun (j : Option ArrayJob) => j.filter clearJob) }
    (s.editFrame tick chan (fun f => { f with stage := .discarded })).freePage page
  | none =>
    { s with chans := s.chans.map (fun (c : Chan) => if c.page = some page then { c with doomed := true } else c) }

/-- An uncorrectable word of the frame pool (R269). -/
def State.poolFound (s : State) (m : Master) (a : Nat) : State :=
  let page := (a - 0x03000000) / 0x8000
  (if s.pages.any (fun p => decide (p.1 = page)) then s.discardPage page else s).zeroWord m a

/-- An uncorrectable word of the ring cell pool: the frame in that cell is discarded before forwarding (R269, R330). A
frame that has started on its port is not waiting to be forwarded. -/
def State.cellFound (s : State) (m : Master) (a : Nat) : State :=
  let cell := (a - 0x04000000) / 256
  let s := match s.ring.queue.find? (fun q => q.cells.contains cell) with
    | some q => s.dropQueued q
    | none => match s.fleet.jobs.find? (fun (j : Job) => j.cells.contains cell) with
      | some j => s.dropJob j
      | none => s
  s.zeroWord m a

/-- An uncorrectable word of the encoder scratch, by where it lies (R193). -/
def State.encoderFound (s : State) (m : Master) (a : Nat) : State :=
  if a < itemEnd then (if s.lib.rebuilding then s else s.startRebuild m a)
  else if within a (historyAddr 1) 0xC00 then s.clearHistory.wordEvent 0x05 m a
  else s.zeroWord m a

/-- An uncorrectable word of the report queue: the records holding it are discarded, and a gap record follows (R269). -/
def State.queueFound (s : State) (m : Master) (a : Nat) : State :=
  let off := wordOf a - regionBase .reportQueue
  let hit (r : FlueRec) : Bool := (List.range 8).any (fun i => inRing r.at_ r.size (off + i))
  let lost := s.flue.queue.filter hit
  let flue := { s.flue with queue := s.flue.queue.filter (fun r => !hit r) }
  State.zeroWord { s with flue := lost.foldl Flue.tally flue } m a

/-- An uncorrectable word of the signal scratch: the array that works on it starts its channel frame again from the page;
the plan and the parameters are read again (R269). A word that neither holds is rewritten as zero. -/
def State.signalFound (s : State) (m : Master) (a : Nat) : State :=
  if planAddr ≤ a then s.planBad m a
  else (s.restartJob ((a - regionBase .signalScratch) / workSize)).zeroWord m a

/-- The live row of a vault word may be copied back: it is neither dirty, nor the subject of a held entry, nor spent, nor in
a retired bank (R269, R273, R283). -/
def State.vaultLive (s : State) (row : Nat) : Bool :=
  !s.vault.dirty.any (fun d => decide (d.row = row)) && !s.entryHeld row && !(s.tag row).spent && !s.isRetired row

/-- An uncorrectable word of the vault data (R269, R283). -/
def State.vaultDataFound (s : State) (m : Master) (a : Nat) : State :=
  let off := a - 0x08000000
  let row := 8192 + off / 1024
  let seg := off % 1024 / 8
  let s := if s.vaultLive row && !(s.tag row).isErased seg && !s.segBad row seg then
      s.poke (vaultAddr row + 8 * seg) (s.peek (rowAddr row + 8 * seg) 8) else s
  s.memoryEvent 0x0A m a row seg (s.tag row).erasures 0

/-- An uncorrectable word of the vault tags (R269, R283). -/
def State.vaultTagFound (s : State) (m : Master) (a : Nat) : State :=
  let off := a - 0x08800000
  let row := 8192 + off / 32
  let s := if s.vaultLive row && !s.tagBad row then
      s.poke (wordOf a) (s.peek (tagAddr row + wordOf (off % 32)) 8) else s
  s.memoryEvent 0x0A m a row 0xFF (s.tag row).erasures 0

/-- The live copy of a word of the persistent state (R269, R286). -/
def State.liveWord (s : State) (off : Nat) : List Byte :=
  if off < 0x1000 then
    match s.vault.slots.getD (off / 0x800) none with
    | some b => (slice b (off % 0x800) 8) ++ List.replicate (8 - (slice b (off % 0x800) 8).length) 0#8
    | none => List.replicate 8 0#8
  else if off = 0x1000 then leBytes 8 s.vault.bootCount
  else if off = 0x1008 then leBytes 8 s.runSeconds
  else if off = 0x1010 then leBytes 8 s.vault.e2eMark
  else if within off 0x2000 33792 then leBytes 8 (sparse s.learn.kindling ((off - 0x2000) / 8))
  else if within off 0xB000 28672 then
    let row := 8192 + (off - 0xB000) / 4
    leBytes 4 (sparse s.learn.spawned row) ++ leBytes 4 (sparse s.learn.spawned (row + 1))
  else if within off 0x12000 4096 then
    let i := (off - 0x12000) / 4
    leBytes 4 (sparse s.vault.slotSeq i) ++ leBytes 4 (sparse s.vault.slotSeq (i + 1))
  else if within off 0x13000 1024 then
    let o := (off - 0x13000) / 4
    leBytes 4 (sparse s.vault.fleetSeq o) ++ leBytes 4 (sparse s.vault.fleetSeq (o + 1))
  else List.replicate 8 0#8

/-- An uncorrectable word of the persistent state is rewritten from its live copy (R269). -/
def State.persistentFound (s : State) (m : Master) (a : Nat) : State :=
  (s.poke (wordOf a) (s.liveWord (wordOf a - persistBase))).wordEvent 0x0A m a

/-- An uncorrectable word that a master finds, by its region (R193, R265, R268, R269). -/
def State.scrubFound (s : State) (m : Master) (r : Region) (a : Nat) : State :=
  match r with
  | .hearthData => s.segmentFound (a / 1024) (a % 1024 / 8) m
  | .hearthTags => s.tagFound ((a - 0x01000000) / 32) m
  | .counters => s.reseedAccum ((a - 0x02000000) / 8192) a m
  | .framePool => s.poolFound m a
  | .ringCells => s.cellFound m a
  | .signalScratch => s.signalFound m a
  | .encoderScratch => s.encoderFound m a
  | .reportQueue => s.queueFound m a
  | .vaultData => s.vaultDataFound m a
  | .vaultTags => s.vaultTagFound m a
  | .persistent => s.persistentFound m a
  | .ash => s

/-- The word lies in a retired row of the hearth, which takes part in no write (R196, R273). -/
def State.retiredWord (s : State) (r : Region) (a : Nat) : Bool :=
  match r with
  | .hearthData => s.isRetired (a / 1024)
  | .hearthTags => s.isRetired ((a - 0x01000000) / 32)
  | _ => false

/-- The stores with two ports, where a write of the smoulder can meet one of port A (R257, R258). -/
def twoPorts (r : Region) : Bool := decide (r = .hearthTags) || decide (r = .counters)

/-- One word as the smoulder reads it: an uncorrectable word is handled; a correctable one is written back from one error
in SRAM and from two in MRAM (R258, R259, R263). Nothing is written in a retired row (R196). A write to the tag or counter
store that is lost is abandoned: the erasure bit of a segment is one. -/
def State.scrubWord (s : State) (r : Region) (lost : Bool) (a : Nat) : State :=
  let n := errorsAt s.ecc a
  let fatal := decide (fatalErrors a ≤ n)
  if n = 0 ∨ s.retiredWord r a then s
  else if decide (mramBase ≤ a) && decide (n = 1) then s
  else if lost && (twoPorts r || (decide (r = .hearthData) && fatal)) then s
  else if fatal then s.scrubFound .smd r a
  else { s with ecc := setErrors s.ecc a 0 }

/-- A spent library row whose re-read has failed, or whose request was dropped, is requested again at each pass that
reaches its tag (R267). -/
def State.retrySpent (s : State) (r : Region) (unit : Nat) : State :=
  let row := unit / 4
  if decide (r = .hearthTags) && decide (unit % 4 = 0) && decide (s.partition row = 0) && (s.tag row).spent &&
      !s.isRetired row && !s.rowRequested row then s.requestRow row else s

/-- Every requester of higher priority leaves the unit free: no scan runs, and no write of the learning engine or heal waits
for the bank of a row; the work of the MRAM controller has been done (R214, R256, R257, R264, R275). -/
def State.scrubFree (s : State) (r : Region) (unit : Nat) : Bool :=
  let free (bank : Nat) : Bool := s.banksFree && !s.learnWaits bank && !s.healWaits bank
  match r with
  | .hearthData => free (bankOf (unit / 8))
  | .hearthTags => free (bankOf (unit / 4))
  | .vaultData | .vaultTags | .persistent | .ash =>
    s.ash.waiting.isEmpty && s.vault.entries.isEmpty && !s.persistDue
  | _ => true

/-- The unit that the smoulder reads next: the first one again once a pass is over (R264). -/
def State.nextUnit (s : State) (r : Region) : Nat := if unitsOf r ≤ s.scrubUnit r then 0 else s.scrubUnit r

/-- SMOULDER_READ (R193, R214, R256 to R259, R263 to R269, R275, R283): the next unit of a region is read and corrected or
handled. `lost`: the write of a correction met a port-A write of the same word. -/
def execSmoulderRead (dt : Nat) (region : Region) (upsets : List Upset) (lost : Bool) (s : State) :
    Host.Outcome State Fault Refusal :=
  eventOf (fun _ => upsetForm upsets) dt
    (fun s => s.coreRuns && s.mayScrub region && s.scrubFree region (s.nextUnit region))
    (fun s =>
      let (u, s) := (s.upset upsets).scrubStep region
      let base := regionBase region + u * unitBytes region
      let words := (List.range (unitBytes region / 8)).map (fun i => base + 8 * i)
      (words.foldl (fun s a => s.scrubWord region lost a) s).retrySpent region u) s

/-! ### Heals from the vault -/

/-- The vault tag of a row marks a segment erased, or cannot be read: its word is no source (R366). -/
def State.vaultErased (s : State) (row seg : Nat) : Bool :=
  (s.badIn (vaultTagAddr row) 32).isSome || (Tag.ofNat (s.peekNat (vaultTagAddr row) 32)).isErased seg

/-- One heal from the vault (R258, R259, R265, R366). Where R366 refuses it, the row counts as data-dirty, so that its next
mirror is a ROW entry, which writes the vault word of an erased segment as zero (log 69). -/
def State.healVault (s : State) (h : Heal) (lost : Nat) : State :=
  let t := s.tag h.row
  let a := vaultAddr h.row + 8 * h.seg
  if s.tagBad h.row || !t.valid || t.spent || !t.isErased h.seg then s
  else if t.gen.toNat ≠ h.gen then (if h.again then s else s.startHeal h.row h.seg true)
  else if s.dataDirty h.row || s.entryHeld h.row then s.markDirty h.row true true
  else if s.bad a then s.memoryEvent 0x0A .vlt a h.row h.seg t.erasures 0
  else if s.vaultErased h.row h.seg || decide (2 ≤ lost) then s
  else s.healSegments h.row [(h.seg, s.peek a 8)] .vlt 2

/-- VAULT_HEAL (R214, R256, R258, R259, R265, R266, R366): the oldest waiting heal is served between two scans, once no
write of the learning engine waits for its bank. `lost` counts its lost writes; two abandon it. -/
def execVaultHeal (dt : Nat) (upsets : List Upset) (lost : Nat) (s : State) : Host.Outcome State Fault Refusal :=
  eventOf (fun _ => upsetForm upsets) dt
    (fun s => s.coreRuns && s.banksFree &&
      (match s.smoulder.heals with | [] => false | h :: _ => !s.learnWaits (bankOf h.row)))
    (fun s =>
      let s := s.upset upsets
      match s.smoulder.heals with
      | [] => s
      | h :: rest => State.healVault { s with smoulder := { s.smoulder with heals := rest } } h lost) s

/-! ### The gaps -/

/-- An access outside its window is blocked and reported; a blocked read delivers a word flagged uncorrectable, which its
master treats as one of that region (R261). Inside its window it is no violation. -/
def State.violate (s : State) (x : Access) : State :=
  if s.windowOpen x then s
  else
    let s := s.wordEvent 0x07 x.master x.addr
    if x.write then s
    else match regionOf x.addr with
      | none => s
      | some r => s.scrubFound x.master r x.addr

/-- The windows are loaded, and the masters run (R62, R64, R67, R68, R96, R260). -/
def State.mastersRun (s : State) : Bool :=
  match s.mode with
  | .reset | .strapRead | .banked | .ember | .powerFail => false
  | _ => !s.paused

/-- The oldest pending write of a bank lands, once no recall burst is in progress (R17, R214). -/
def State.landWrite (s : State) (bank : Nat) : State :=
  match s.landing bank with
  | none => s
  | some w => State.land { s with learn := { s.learn with writes := s.learn.writes.erase w } } w.2

/-- A write of the learning engine may land in a bank now (R17, R214). -/
def State.mayLand (s : State) (bank : Nat) : Bool := !s.burst && (s.landing bank).isSome

/-- ROW_WRITE (R17, R214, R226, R256 to R258, R260, R261): a gap of a bank, between two scans: its oldest pending write of
the learning engine lands, or else the oldest teach, forget or sweep frame that waits is applied. `lost` counts the port-B
writes of a fleet row placement that met one of port A in their slot; port A's word is stored all the same (R258). `stray`
is an access made in that slot that may lie outside its master's window, in any state in which masters run (log 60). -/
def execRowWrite (dt : Nat) (bank : Fin 256) (lost : Nat) (stray : Option Access) (s : State) :
    Host.Outcome State Fault Refusal :=
  event dt
    (fun s => (stray.isSome && s.mastersRun) ||
      (s.coreRuns && s.banksFree && (s.mayLand bank.val || !s.fleet.held.isEmpty)))
    (fun s =>
      let s := match stray with | some x => s.violate x | none => s
      if !(s.coreRuns && s.banksFree) then s
      else if s.mayLand bank.val then s.landWrite bank.val
      else if s.learnWaits bank.val then s else s.landHeld lost) s

end Sys2Proof.Machine
end

