-- ==== Sys2Proof/Machine/Voltage.lean ====
section
/-! DEFINITION. Sys2Proof/Machine/Voltage.lean: `VSET`, the matched delay lines and their replays, the canary, the
frame-deadline monitor and the voltage controller (R56, R79 to R97). -/

namespace Sys2Proof.Machine

/-- The step-down window starts anew (R92). -/
def State.restartWindow (s : State) : State :=
  { s with volt := { s.volt with windowAt := s.clock, windowReplays := 0 } }

/-- A step up is due, where one is possible (R89, R93). -/
def State.askStepUp (s : State) : State :=
  if s.scaling && decide (0 < s.power.vset) then { s with volt := { s.volt with stepUpDue := true } } else s

/-- The code changes to `code` (R56); a MAC array at work under a code of 3 to 6 is no longer exact (R85). -/
def State.driveVset (s : State) (code : Nat) : State :=
  { s with
    power := { s.power with vset := code, vsetAt := s.clock }
    arrays := if 3 ≤ code then s.arrays.map (fun (j : Option ArrayJob) => j.map (fun j => { j with loose := true })) else s.arrays
    volt := { s.volt with lowest := if s.mode = .run then min s.volt.lowest code else s.volt.lowest } }

/-- The step-up pause begins: ack timers are frozen and recalls in progress lose the guard (R94, R96, R215, R323). -/
def State.startPause (s : State) : State :=
  let freeze (p : LinkPort) : LinkPort := { p with timer := p.timer.stop s.clock }
  { s with
    volt := { s.volt with pauseAt := some s.clock }
    hearth := { s.hearth with inFlight := s.hearth.inFlight.map (fun (q : InFlight) => { q with paused := true }) }
    ring := { s.ring with portA := freeze s.ring.portA, portB := freeze s.ring.portB } }

/-- One step up in RUN: the code, the pause of 100 µs and the holdoff of 60 s (R93, R96). It answers every condition that
has occurred by now: one that occurs while a step is due or waits asks for no further step, which is the model's choice
(log 66). -/
def State.stepUpNow (s : State) : State :=
  let s := (s.driveVset (s.power.vset - 1)).startPause.restartWindow
  { s with
    power := { s.power with vsetTarget := s.power.vset }
    volt := { s.volt with stepUpDue := false, holdoffAt := some s.clock } }

/-- 100 µs have passed since the latest change (R56). -/
def State.vsetRested (s : State) : Bool := decide (s.power.vsetAt + per100us ≤ s.clock)

/-- One code towards the code that is being stepped to (R56). -/
def State.approachVset (s : State) : State :=
  if s.power.vset < s.power.vsetTarget then s.driveVset (s.power.vset + 1) else s.driveVset (s.power.vset - 1)

/-- VSET_STEP (R56, R67, R68, R69, R93): a pending change of one code is driven. At EMBER entry `CORE_EN` is released as
code 2 is reached. -/
def execVsetStep (dt : Nat) (s : State) : Host.Outcome State Fault Refusal :=
  event dt
    (fun s => (decide (s.mode = .run) || decide (s.mode = .banked) || decide (s.mode = .ember)) &&
      decide (s.power.vset ≠ s.power.vsetTarget) && s.vsetRested)
    (fun s =>
      if s.mode = .run then s.stepUpNow
      else
        let s := s.approachVset
        if s.mode = .ember ∧ s.power.vset = s.power.vsetTarget then s.releaseCore else s) s

/-! ### The canary -/

/-- CANARY_EVALUATION_START (R90): at entry to RUN and every 1 ms after it. -/
def execCanaryEvaluationStart (dt : Nat) (s : State) : Host.Outcome State Fault Refusal :=
  event dt (fun s => decide (s.mode = .run) && s.volt.canaryAt.isNone && decide (s.volt.canaryNext ≤ s.clock))
    (fun s => { s with volt := { s.volt with
      canaryAt := some (s.clock, s.power.vset)
      canaryNext := s.volt.canaryNext + perMs } }) s

/-- Step-down limit of a code (R92). -/
def stepDownLimit (code : Nat) : Nat := [1429, 1403, 1403, 1355, 1257, 1048].getD code 0

/-- The canary-fail ash record (R95, R292). -/
def State.canaryRecord (s : State) (code cause : Nat) : State :=
  s.ashRecord 0x0C s.ts ([BitVec.ofNat 8 code, BitVec.ofNat 8 (b2n s.scaling)] ++
    leBytes 2 (satTo 65535 s.volt.canaryCount) ++ [BitVec.ofNat 8 cause])

/-- CANARY_EVALUATION_END (R90, R92, R93, R95): the count is judged at the code at which the evaluation began, or the
evaluation is discarded. -/
def execCanaryEvaluationEnd (dt : Nat) (count : Nat) (s : State) : Host.Outcome State Fault Refusal :=
  event dt (fun s => decide (s.mode = .run) && s.volt.canaryAt.isSome)
    (fun s => match s.volt.canaryAt with
      | none => s
      | some (began, code) =>
        let s := { s with volt := { s.volt with canaryAt := none } }
        if began < s.power.vsetAt + per100us then s
        else
          let pass := decide (count ≤ 1572)
          let first := s.volt.canaryPassed.getD true
          let s := { s with volt := { s.volt with canaryPassed := some pass, canaryCount := count } }
          let s := if s.volt.windowAt ≤ began ∧ (!pass ∨ stepDownLimit code < count) then s.restartWindow else s
          if pass then s
          else
            let s := { s with volt := { s.volt with canaryFails := s.volt.canaryFails + 1 } }
            let s := s.askStepUp
            if first then s.canaryRecord code 1 else s) s

/-! ### The frame-deadline monitor -/

/-- The monitor fails for a tick: 0.75 T_ref have passed since its close, or a later frame has closed (R91). -/
def State.deadlinePassed (s : State) (t : Tick) : Bool :=
  decide (s.clockOf t.close + 3 * t.tRef ≤ s.clock) || s.ticks.any (fun u => decide (t.id < u.id))

/-- The oldest tick for which the monitor now fails. -/
def State.failingTick (s : State) : Option Tick := s.ticks.find? (fun t => !t.deadlineFailed && s.deadlinePassed t)

/-- The monitor fails for a tick: counted, recorded when the tick before it did not fail, and the margin of the window is
lost (R91, R92, R95, R174). -/
def State.failMonitor (s : State) (t : Tick) : State :=
  let first := !s.volt.monitorFailed
  let s := { s with
    ticks := s.ticks.map (fun (u : Tick) => if u.id = t.id then { u with deadlineFailed := true } else u)
    volt := { s.volt with canaryFails := s.volt.canaryFails + 1, monitorFailed := true } }
  let s := s.restartWindow.askStepUp
  if first then s.canaryRecord s.power.vset 2 else s

/-- FRAME_DEADLINE_MONITOR_FAIL (R91, R93, R95). -/
def execFrameDeadlineMonitorFail (dt : Nat) (s : State) : Host.Outcome State Fault Refusal :=
  event dt (fun s => decide (s.mode = .run) && s.failingTick.isSome)
    (fun s => match s.failingTick with
      | none => s
      | some t => s.failMonitor t) s

/-! ### Replays -/

/-- The states in which the core makes handshakes (R62, R67, R68, R79). -/
def State.coreWorks (s : State) : Bool :=
  decide (s.mode = .run) || decide (s.mode = .load) || decide (s.mode = .bist)

/-- REPLAY_BLOCK_END (R82, R89, R93): a block of 65,536 guarded handshakes ends, wherever the core works; in RUN 66 or
more replays in it ask for a step up. -/
def execReplayBlockEnd (dt : Nat) (s : State) : Host.Outcome State Fault Refusal :=
  event dt State.coreWorks
    (fun s =>
      let s := if s.mode = .run ∧ 66 ≤ s.volt.blockReplays then s.askStepUp else s
      { s with volt := { s.volt with blockReplays := 0 } }) s

/-- REPLAY_WINDOW_END (R82, R95): a 1 s window ends. -/
def execReplayWindowEnd (dt : Nat) (s : State) : Host.Outcome State Fault Refusal :=
  event dt (fun s => s.coreWorks && decide (s.volt.secondAt + perSec ≤ s.clock))
    (fun s => { s with volt := { s.volt with
      lastSecond := s.volt.secondReplays
      secondReplays := 0
      secondAt := s.volt.secondAt + perSec } }) s

/-- A pipeline, at tap 10 when nothing has happened in it since BIST (R79). -/
def Volt.pipeline (v : Volt) (id : Nat) : Pipeline := (v.pipelines.find? (fun p => decide (p.id = id))).getD { id := id }

/-- Replaces a pipeline. -/
def Volt.setPipeline (v : Volt) (p : Pipeline) : Volt :=
  { v with pipelines := v.pipelines.filter (fun q => decide (q.id < p.id)) ++
      (p :: v.pipelines.filter (fun q => decide (p.id < q.id))) }

/-- `n` handshakes of a pipeline pass without a replay; a block of 4,096 that ends takes its count with it (R79). -/
def Pipeline.pass (p : Pipeline) (n : Nat) : Pipeline :=
  if p.handshakes / 4096 = (p.handshakes + n) / 4096 then { p with handshakes := p.handshakes + n }
  else { p with handshakes := p.handshakes + n, blockReplays := 0 }

/-- A replay: the main latch takes the shadow value (R80); the eighth of a block makes a raise due (R79). -/
def Pipeline.replay (p : Pipeline) (shadow : BitVec 64) : Pipeline :=
  { p with
    main := shadow
    shadow := shadow
    blockReplays := p.blockReplays + 1
    raiseDue := p.raiseDue || decide (p.blockReplays + 1 = 8) }

/-- A replay is counted in the block, in the 1 s window and in the step-down window (R82, R92). -/
def Volt.countReplay (v : Volt) : Volt :=
  { v with
    blockReplays := v.blockReplays + 1
    secondReplays := v.secondReplays + 1
    windowReplays := v.windowReplays + 1 }

/-- SHADOW_REPLAY (R79, R80, R82): `after` handshakes later the two latches of a stage differ; the stage replays, and the
replay is counted. A pipeline's own count, which raises its tap, is one of RUN. -/
def execShadowReplay (dt : Nat) (pipeline after : Nat) (main shadow : BitVec 64) (s : State) :
    Host.Outcome State Fault Refusal :=
  event dt (fun s => s.coreWorks && decide (main ≠ shadow))
    (fun s =>
      let p := (s.volt.pipeline pipeline).pass after
      let p := if s.mode = .run then p.replay shadow else { p with main := shadow, shadow := shadow }
      { s with volt := (s.volt.setPipeline p).countReplay }) s

/-- DELAY_TAP_RAISE (R79): one tap longer, up to 15. -/
def execDelayTapRaise (dt : Nat) (pipeline : Nat) (s : State) : Host.Outcome State Fault Refusal :=
  event dt (fun s => decide (s.mode = .run) && (s.volt.pipeline pipeline).raiseDue)
    (fun s =>
      let p := s.volt.pipeline pipeline
      { s with volt := s.volt.setPipeline { p with tap := min 15 (p.tap + 1), raiseDue := false } }) s

/-- DELAY_TAP_LOWER (R79): after 1,048,576 consecutive handshakes without a replay, wherever the core works, one tap
shorter, down to 4. -/
def execDelayTapLower (dt : Nat) (pipeline handshakes : Nat) (s : State) : Host.Outcome State Fault Refusal :=
  event dt (fun s => s.coreWorks && decide (1048576 ≤ handshakes))
    (fun s =>
      let p := (s.volt.pipeline pipeline).pass handshakes
      { s with volt := s.volt.setPipeline { p with tap := max 4 (p.tap - 1) } }) s

/-! ### The voltage controller -/

/-- STEP_DOWN (R92): a 1 s window has passed in which no other condition failed; `handshakes` is its count of guarded
handshakes. With a replay rate below 10⁻⁵ the code falls one step in voltage, else the window restarts. -/
def execStepDown (dt : Nat) (handshakes : Nat) (s : State) : Host.Outcome State Fault Refusal :=
  event dt
    (fun s => decide (s.mode = .run) && s.scaling && !s.paused && s.volt.holdoffAt.isNone && !s.volt.stepUpDue &&
      decide (s.power.vset < 6) && decide (s.power.vsetTarget = s.power.vset) &&
      decide (s.volt.windowAt + perSec ≤ s.clock) && s.vsetRested)
    (fun s =>
      if s.volt.windowReplays * 100000 < handshakes then
        let s := (s.driveVset (s.power.vset + 1)).restartWindow
        { s with power := { s.power with vsetTarget := s.power.vset } }
      else s.restartWindow) s

/-- STEP_UP (R93, R96): the code rises one step in voltage, at once or, less than 100 µs after the latest change, when
they have passed. -/
def execStepUp (dt : Nat) (s : State) : Host.Outcome State Fault Refusal :=
  event dt
    (fun s => decide (s.mode = .run) && s.scaling && s.volt.stepUpDue && decide (0 < s.power.vset) &&
      decide (s.power.vsetTarget = s.power.vset))
    (fun s =>
      if s.vsetRested then s.stepUpNow
      else { s with
        power := { s.power with vsetTarget := s.power.vset - 1 }
        volt := { s.volt with stepUpDue := false } }) s

/-- HOLDOFF_EXPIRY (R92, R93): 60 s after the latest step up; the step-down window begins. -/
def execHoldoffExpiry (dt : Nat) (s : State) : Host.Outcome State Fault Refusal :=
  event dt
    (fun s => decide (s.mode = .run) && (match s.volt.holdoffAt with
      | some t => decide (t + 60 * perSec ≤ s.clock)
      | none => false))
    (fun s => State.restartWindow { s with volt := { s.volt with holdoffAt := none } }) s

end Sys2Proof.Machine
end

