-- ==== Sys2Proof/Machine/Show.lean ====
section
/-! DEFINITION. Sys2Proof/Machine/Show.lean: the outputs of a tick, the heartbeat and the lamps (R18, R65, R71, R91, R116,
R117, R121, R228, R238 to R244, R248 to R250, R254). -/

namespace Sys2Proof.Machine

/-- The alert and alarm pins at a tick that issued queries; a tick without queries leaves them (R238, R239). -/
def State.alarmPins (s : State) (t : Tick) : Bool × Bool :=
  if t.queries = [] then (s.out.alert, s.out.alarm)
  else (pinLogic (levelsAtLeast t.levels 1) s.persistence s.out.alert,
        pinLogic (levelsAtLeast t.levels 2) s.persistence s.out.alarm)

/-- The pins and `HEALTH` take the values of a tick (R238 to R240, R242). -/
def State.drivePins (s : State) (t : Tick) : State :=
  let pins := s.alarmPins t
  let causes := 2 * b2n t.loadFault + 4 * b2n (t.queries = [])
  { s with out := { s.out with
      alert := pins.1
      alarm := pins.2
      faultCauses := causes
      fault := s.anyWithdrawn || decide (0 < causes)
      health := some (if t.queries = [] then healthLow else healthCode t.tickHealth)
      tickHealth := t.tickHealth } }

/-- An alarm change record, by the router to the flue and to the ash, when any of the three pins differs from the latest
one reported (R135, R136, R250). -/
def State.reportPins (s : State) (t : Tick) : State :=
  let new := s.out.pins
  if new = s.out.reported then s
  else
    let p := s.alarmPayload new s.out.reported t.levels t.tickHealth ((t.diag.map Diag.code).getD 0)
    let s := (s.routeFlue { time := t.close, rank := rankAlarm, type := 0x06, payload := p }).routeAsh
      { time := t.close, rank := rankAlarm, type := 0x08, payload := p }
    { s with out := { s.out with reported := new } }

/-- A tick's outputs meet the frame-deadline monitor (R91, R92, R95). -/
def State.judgeDeadline (s : State) (t : Tick) : State :=
  let s :=
    if t.deadlineFailed then s
    else if s.deadlinePassed t then s.failMonitor t
    else { s with volt := { s.volt with monitorFailed := false } }
  if 4 * t.tRef ≤ 2 * (s.clock - s.clockOf t.close) then s.restartWindow else s

/-- A tick holds neither an accepted edge nor a valid frame above 1.00 mV (R65). -/
def Tick.quiet (t : Tick) : Bool := !t.edge && !t.valid.any (fun f => f.loud)

/-- The idle timer and the count of R71 take a tick (R65, R71). A tick that is not idle and completes while sleep entry
waits starts the timer anew, and sleep entry goes on (log 32). -/
def State.judgeIdle (s : State) (t : Tick) : State :=
  let idle := if t.quiet then s.power.idle
    else if s.power.idle.since.isSome then Stopwatch.start s.clock else {}
  let calm := t.quiet && decide (t.valid ≠ [])
  { s with power := { s.power with
      idle := idle
      spotTicks := if calm then s.power.spotTicks + 1 else 0 } }

/-- The frame summary and diagnosis records of a tick (R248, R250, R254). -/
def State.reportTick (s : State) (t : Tick) : State :=
  let s := s.report 0x04 t.close t.summaryPayload 3
  match t.diag with
  | some d => s.report 0x05 t.close (diagnosisPayload d t.diagHits) 1
  | none => s

/-- The tick whose outputs come next (R18); its records wait for the alarm change record of an earlier one (R254). -/
def State.outputTick (s : State) : Option Tick :=
  s.ticks.head?.filter (fun t => decide (t.stage = .outputs) &&
    !s.router.flue.any (fun e => decide (e.rank = rankAlarm)))

/-- TICK_OUTPUTS (R18, R65, R71, R91, R238 to R242, R250, R254): pins, `HEALTH` and records of the oldest tick. -/
def execTickOutputs (dt : Nat) (s : State) : Host.Outcome State Fault Refusal :=
  event dt (fun s => s.coreRuns && s.outputTick.isSome)
    (fun s => match s.outputTick with
      | none => s
      | some t =>
        let s := ((((s.drivePins t).reportTick t).reportPins t).judgeDeadline t).judgeIdle t
        { s with ticks := s.ticks.drop 1 }) s

/-- HEARTBEAT (R71, R95, R118, R248, R249): each second of RUN from its entry. -/
def execHeartbeat (dt : Nat) (s : State) : Host.Outcome State Fault Refusal :=
  event dt (fun s => s.coreRuns && decide (s.flue.heartbeatAt ≤ s.clock))
    (fun s =>
      let s := s.report 0x03 s.ts (s.heartbeatPayload false) 2
      { s with
        flue := { s.flue with heartbeatAt := s.flue.heartbeatAt + perSec, wakeMask := none }
        volt := { s.volt with lowest := s.power.vset }
        sync := { s.sync with auxSums := List.replicate 8 (0, 0) } }) s

/-- The LED of a phase timer; true is `LED1`. -/
def Outputs.led (o : Outputs) (led : Bool) : Led := if led then o.led1 else o.led0

/-- The phase of an LED has ended (R244). -/
def Led.phaseOver (l : Led) (clock : Nat) : Bool :=
  match phaseLength l.pattern l.phase with
  | some n => decide (l.since + n ≤ clock)
  | none => false

/-- An LED enters its next phase (R244). -/
def Led.turn (l : Led) : Led :=
  let next := nextPhase l.pattern l.phase
  { l with
    phase := next
    since := l.since + (phaseLength l.pattern l.phase).getD 0
    lit := phaseLit l.pattern next }

/-- LED_FLASH (R244): `LED0`, or with `led` `LED1`, goes to the next phase of its flash rate or blink code. -/
def execLedFlash (dt : Nat) (led : Bool) (s : State) : Host.Outcome State Fault Refusal :=
  event dt (fun s => (s.out.led led).phaseOver s.clock)
    (fun s => { s with out :=
      if led then { s.out with led1 := s.out.led1.turn } else { s.out with led0 := s.out.led0.turn } }) s

end Sys2Proof.Machine
end

