-- ==== Sys2Proof/Machine/Sleep.lean ====
section
/-! DEFINITION. Sys2Proof/Machine/Sleep.lean: the idle timer, sleep entry, BANKED, EMBER and wake (R65 to R71, R114,
R132, R133, R253, R279, R361). -/

namespace Sys2Proof.Machine

/-- IDLE_TIMER_EXPIRY (R65): the idle timer has reached the idle time of the sleep row; sleep entry begins. -/
def execIdleTimerExpiry (dt : Nat) (s : State) : Host.Outcome State Fault Refusal :=
  event dt
    (fun s => decide (s.mode = .run) && s.sleepState.isSome && !s.power.sleepDue &&
      decide (s.idleSeconds * perSec ≤ s.power.idle.read s.clock))
    (fun s => { s with power := { s.power with sleepDue := true } }) s

/-- A tick none of whose frames has been released from the holdback (R66). -/
def Tick.inHoldback (t : Tick) : Bool :=
  decide (t.stage = .features) && t.frames.any (fun f => decide (f.stage = .holdback)) &&
  t.frames.all (fun f => decide (f.stage = .holdback) || decide (f.stage = .discarded))

/-- Sleep entry waits for no tick, commit or own query (R66). It also waits for a rekindle that has been accepted
(log 28). -/
def State.mayEnterSleep (s : State) : Bool :=
  s.coreRuns && s.power.sleepDue && s.sleepState.isSome && s.ticks.all Tick.inHoldback &&
  s.learn.writes.isEmpty && s.commitWaits.isNone && !s.panel.rekindleDue && s.vault.entries.isEmpty &&
  s.fleet.queries.isEmpty

/-- A channel whose recovery count runs abandons it at sleep entry (R114). -/
def State.abandonRecovery (s : State) : State :=
  (List.range s.channels).foldl
    (fun s c =>
      let x := s.chans.getD c {}
      if x.status = 5 then
        let s := { s with chans := s.chans.set c { x with status := x.outside, recovery := 0 } }
        s.channelRecord c 5 x.outside x.detections
      else s) s

/-- What stops at sleep entry, whichever the sleep state: acquisition, both ports, the core's work in progress (R66, R67,
R68, R126, R131, R155, R241, R361), and the UART's transmission, `FLUE_DE` low (R253, R393). -/
def State.stopWork (s : State) : State :=
  { s with
    power := { s.power with
      sleepDue := false
      sleepAt := s.clock
      wakeMask := 0
      waking := false
      wakeEdges := []
      wakeNRun := 0
      idle := {}
      spotRun := false
      running := s.power.running.stop s.clock }
    volt := { s.volt with canaryAt := none, stepUpDue := false, holdoffAt := none, pauseAt := none }
    chans := s.chans.map (fun c => { c with page := none, missing := false, doomed := false, overs := 0 })
    sync := { s.syncAtEntry with tach := s.sync.tach.take 1 ++ List.replicate 3 none }
    pages := []
    freeing := []
    cross := {}
    ticks := []
    arrays := List.replicate 4 none
    hearth := { s.hearth with inFlight := [] }
    learn := { s.learn with time := s.learn.time.stop s.clock, fleetHits := [] }
    out := { s.out with ready := false }
    flue := { s.flue with busyUntil := 0 }
    smoulder := { s.smoulder with heals := [] }
    lib := { s.lib with queue := [], serving := none, planFails := 0 }
    ring := { map := s.ring.map, stamps := s.ring.stamps, discards := s.ring.discards }
    fleet := { s.fleet with jobs := [], held := [] } }

/-- Entry to BANKED: `VSET` is stepped to code 7 (R67). -/
def State.enterBanked (s : State) : State :=
  { s with mode := .banked, power := { s.power with vsetTarget := 7 } }

/-- Every accumulator with admissions since its last commit is committed, in ascending index (R68). -/
def State.commitOpen (s : State) : State :=
  (List.range 512).foldl
    (fun s i => match s.learn.accums.find? (fun a => decide (a.idx = i) && decide (0 < a.k)) with
      | some x => s.commitAccum x
      | none => s) s

/-- Every dirty row is mirrored and every entry committed (R279). -/
def State.mirrorAll (s : State) : State :=
  let s := s.vault.dirty.foldl (fun s d => s.mirrorRow d.row) s
  s.commitAll s.vault.entries.length

/-- What EMBER loses with the core supply: the SRAM, the report queue among it, and what the core holds beside it (R68,
R253, R270). -/
def State.loseCore (s : State) : State :=
  let flue := s.flue.queue.foldl Flue.tally s.flue
  { s with
    mem := mramOnly s.mem
    ecc := mramErrors s.ecc
    volt := { s.volt with pipelines := [] }
    learn := { s.learn with accums := [], history := 0, seasoned := [], lives := [] }
    flue := { flue with queue := [] }
    lib := {}
    ring := {}
    repairs := { fused := s.repairs.fused }
    fleet := { e2e := s.fleet.e2e, refused := s.fleet.refused, askedAt := s.fleet.askedAt } }

/-- What is written before the core supply goes: the commits, then the mirrors, then the counters (R68, R279). -/
def State.saveCore (s : State) : State :=
  let s := s.commitOpen.mirrorAll.persistCounters
  { s with vault := { s.vault with persistAt := s.power.running.read s.clock, dirty := [] } }

/-- The core supply goes: `CORE_EN` is released at once at code 2, otherwise when `VSET` has been stepped there (R56,
log 28). -/
def State.dropCore (s : State) : State :=
  let s := { s with mode := .ember, power := { s.power with vsetTarget := 2 } }
  if s.power.vset = 2 then s.releaseCore else s

/-- Entry to EMBER (R68, R279). -/
def State.enterEmber (s : State) : State := s.saveCore.loseCore.dropCore

/-- SLEEP_ENTRY (R66 to R68, R114, R241). -/
def execSleepEntry (dt : Nat) (upsets : List Upset) (s : State) : Host.Outcome State Fault Refusal :=
  eventOf (fun _ => upsetForm upsets) dt State.mayEnterSleep
    (fun s =>
      let target := s.sleepState
      let s := (((s.upset upsets).abandonTeach 6).abandonRecovery).stopWork
      if target = some .ember then s.enterEmber else s.enterBanked) s

/-- SPOT_WAKE_TIMER_EXPIRY (R69, R132, R133): the spot-wake interval has elapsed since sleep entry, and no wake request is
latched but one of this timebase period. -/
def execSpotWakeTimerExpiry (dt : Nat) (s : State) : Host.Outcome State Fault Refusal :=
  event dt
    (fun s => s.mayRequest && s.spotElapsed) (fun s => s.requestWake 8) s

/-- BANKED_WAKE (R69): a latched wake request starts the steps of `VSET` up to code 2. -/
def execBankedWake (dt : Nat) (s : State) : Host.Outcome State Fault Refusal :=
  event dt (fun s => decide (s.mode = .banked) && decide (s.power.wakeMask ≠ 0) && !s.power.waking)
    (fun s => { s with power := { s.power with waking := true, vsetTarget := 2 } }) s

/-- BANKED_WAKE_COMPLETE (R58, R69, R71): 100 µs after code 2 is reached the core runs again and RUN is entered with an
empty fleet partition. -/
def execBankedWakeComplete (dt : Nat) (s : State) : Host.Outcome State Fault Refusal :=
  event dt
    (fun s => decide (s.mode = .banked) && s.power.waking && decide (s.power.vset = 2) &&
      decide (s.power.vsetAt + per100us ≤ s.clock))
    (fun s => s.emptyFleet.enterRun (some s.power.wakeMask)) s

/-- EMBER_WAKE (R55, R56, R69, R70): `CORE_EN` is asserted at code 2, once it has been released for 10 ms. -/
def execEmberWake (dt : Nat) (s : State) : Host.Outcome State Fault Refusal :=
  event dt
    (fun s => decide (s.mode = .ember) && decide (s.power.wakeMask ≠ 0) && !s.power.waking && !s.power.coreEn &&
      !s.power.releaseWait)
    (fun s => { s with power := { s.power with waking := true, coreEn := true, coreEnAt := s.clock } }) s

/-- SPOT_WAKE_RESLEEP (R71): after a spot wake, 16 consecutive idle ticks have completed. -/
def execSpotWakeResleep (dt : Nat) (s : State) : Host.Outcome State Fault Refusal :=
  event dt
    (fun s => decide (s.mode = .run) && s.power.spotRun && decide (16 ≤ s.power.spotTicks) && !s.power.sleepDue &&
      s.sleepState.isSome)
    (fun s => { s with power := { s.power with sleepDue := true, spotRun := false } }) s

end Sys2Proof.Machine
end

