-- ==== Sys2Proof/Machine/Pins.lean ====
section
/-! DEFINITION. Sys2Proof/Machine/Pins.lean: what the digital pins carry in every state (R64, R245, R298, R311, R393), and
what the boundary scan makes of them (R395, R396). -/

namespace Sys2Proof.Machine

/-- What the SL640 does to a digital pin. -/
inductive PadLevel where
  /-- drives it low, or holds an open-drain output asserted -/
  | low
  /-- drives it high -/
  | high
  /-- leaves it to the board: an input, a released open-drain output or a three-state output -/
  | released
  /-- drives it with a clock or data that the model does not hold bit by bit (log 50) -/
  | active
  deriving DecidableEq, Repr

/-- A push-pull output. -/
def pushPull (b : Bool) : PadLevel := if b then .high else .low

/-- An open-drain output: low while asserted. -/
def openDrain (asserted : Bool) : PadLevel := if asserted then .low else .released

/-- RESET, BANKED or EMBER: the core and the islands rest (R393). -/
def State.resting (s : State) : Bool :=
  match s.mode with
  | .reset | .banked | .ember => true
  | _ => false

/-- An access to the flash is in progress: the load, or a request that is served (R303, R307). -/
def State.flashBusy (s : State) : Bool :=
  s.libDeclared && !s.resting &&
  ((match s.lib.stage with
    | .header | .body _ => true
    | _ => false) || s.lib.serving.isSome)

/-- The read of the access in progress is 6Bh, whose data come on all four lines (R298). -/
def State.quadRead (s : State) : Bool := decide ((s.flash.getLast?.map FlashCmd.code) = some 0x6B)

/-- `FLASH_CS_N`, `FLASH_SCK` and `FLASH_IO0` to `FLASH_IO3` (R298, R393): without a library, and in RESET and in sleep, the
flash is never selected. On all commands but 6Bh, `FLASH_IO2` and `FLASH_IO3` are high. -/
def State.flashPads (s : State) : List PadLevel :=
  if s.flashBusy then
    let upper := if s.quadRead then PadLevel.released else .high
    [.low, .active, .active, .released, upper, upper]
  else [.high, .low, .low, .released, .released, .released]

/-- The six RGMII outputs of a port: low with the ring off, in RESET and in sleep (R311, R393). -/
def State.portPads (s : State) : List PadLevel :=
  List.replicate 6 (if s.ringOn && !s.resting && decide (s.mode ≠ .strapRead) then PadLevel.active else .low)

/-- The pins as the functions of the device leave them: the signal balls of the `VDD_IO` and `VDD_RG` domains but for the
test port, in the order of the signal list (R393). -/
def State.workPads (s : State) : List PadLevel :=
  List.replicate 7 PadLevel.released ++
  [pushPull s.power.coreEn, pushPull (bitOf s.power.vset 0), pushPull (bitOf s.power.vset 1),
   pushPull (bitOf s.power.vset 2), pushPull s.out.ready, openDrain s.out.alert, openDrain s.out.alarm,
   openDrain s.out.fault, openDrain (s.out.led0.lit && !s.resting), openDrain (s.out.led1.lit && !s.resting),
   pushPull s.flueTx, pushPull s.flueDe] ++
  s.flashPads ++ s.portPads ++ List.replicate 6 PadLevel.released ++ s.portPads ++ List.replicate 9 PadLevel.released

/-- The TAP accepts instructions: `RESET_N` is held low and the always-on rails are valid (R395). -/
def State.tapOpen (s : State) : Bool := s.power.resetNLow && s.power.railsLow.isEmpty

/-- EXTEST is in force: the output cells drive the pins (R396). -/
def State.extestOn (s : State) : Bool := s.tapOpen && decide (s.tap.ir = 0b000000)

/-- What an output cell of the boundary scan makes of its pin; an input has none that drives. -/
def scanPad (cells : BitVec 52) (k : Nat) : PadLevel :=
  let b := cells.getLsbD k
  if decide (12 ≤ k) && decide (k < 17) then openDrain (!b)
  else if (decide (7 ≤ k) && decide (k < 31)) || (decide (37 ≤ k) && decide (k < 43)) then pushPull b
  else .released

/-- The pins, with EXTEST in force or without (R393, R396). -/
def State.pads (s : State) : List PadLevel :=
  if s.extestOn then (List.range 52).map (scanPad s.tap.cells) else s.workPads

/-- `JTDO` is driven only while shifting, and each command of the test port is a whole scan (R393). -/
def State.jtdo (_ : State) : PadLevel := .released

/-- The state of a pin as it is captured: what the device drives, or else what the board does (R396). -/
def capturedBit (pad : PadLevel) (board : Bool) : Bool :=
  match pad with
  | .low => false
  | .high => true
  | .released | .active => board

/-- The pin states that the boundary scan captures, the board's levels being `board` (R396). -/
def State.capture (s : State) (board : BitVec 52) : BitVec 52 :=
  BitVec.ofNat 52 (maskOf ((List.range 52).filter (fun k =>
    capturedBit (s.pads.getD k .released) (board.getLsbD k))))

end Sys2Proof.Machine
end

