-- ==== Sys2Proof/Machine/Tap.lean ====
section
/-! DEFINITION. Sys2Proof/Machine/Tap.lean: the test port and the key fuses (R395, R396). Each command is one scan of the
instruction register, which shifts out 0b000001, and where the instruction has one, a scan of its data register. -/

namespace Sys2Proof.Machine

/-- The low `w` bits of a number, least significant first, as `JTDO` gives them (R396). -/
def bitList (w n : Nat) : List Bool := (List.range w).map (bitOf n)

/-- An instruction is selected, and a data register of `w` bits that captured `n` is shifted out (R396). -/
def Tap.scan (t : Tap) (code : BitVec 6) (w n : Nat) : Tap :=
  { t with ir := code, irOut := 0b000001, shifted := bitList w n }

/-- TEST_LOGIC_RESET (R395, R396): by `JTRST_N` or `JTMS`; a burn in progress goes on. -/
def execTestLogicReset (dt : Nat) (s : State) : Host.Outcome State Fault Refusal :=
  event dt (fun _ => true) (fun s => { s with tap := s.tap.toReset }) s

/-- A boundary scan: the pin states are captured and shifted out, and the shifted bits are taken over into the output
cells (R396). -/
def State.boundaryScan (s : State) (code : BitVec 6) (board shifted : BitVec 52) : State :=
  let pins := s.capture board
  { s with tap := { s.tap.scan code 52 pins.toNat with captured := pins, cells := shifted } }

/-- EXTEST (R396): pin states are captured, and from Update-DR on the output cells drive the pins (`State.pads`). `pins` are
the levels that the board gives the pins. -/
def execExtest (dt : Nat) (pins shifted : BitVec 52) (s : State) : Host.Outcome State Fault Refusal :=
  event dt State.tapOpen (fun s => s.boundaryScan 0b000000 pins shifted) s

/-- SAMPLE_PRELOAD (R396): pin states are captured, and at Update-DR the output cells are loaded. -/
def execSamplePreload (dt : Nat) (pins shifted : BitVec 52) (s : State) : Host.Outcome State Fault Refusal :=
  event dt State.tapOpen (fun s => s.boundaryScan 0b000001 pins shifted) s

/-- IDCODE (R396). -/
def execIdcode (dt : Nat) (s : State) : Host.Outcome State Fault Refusal :=
  event dt State.tapOpen (fun s => { s with tap := s.tap.scan 0b000010 32 0x106400F1 }) s

/-- A block that has any fuse burnt but is not programmed is damaged (R396). -/
def KeyBlock.damaged (k : KeyBlock) : Bool := k.touched && !k.isProgrammed

/-- The KEY_STATUS register (R396). -/
def Tap.status (t : Tap) : Nat :=
  b2n t.image.isProgrammed + 2 * b2n t.ring.isProgrammed + 4 * b2n t.burning.isSome + 8 * b2n t.refused +
  16 * b2n t.failed + 32 * b2n t.image.damaged + 64 * b2n t.ring.damaged

/-- KEY_STATUS (R396). -/
def execKeyStatus (dt : Nat) (s : State) : Host.Outcome State Fault Refusal :=
  event dt State.tapOpen (fun s => { s with tap := s.tap.scan 0b100000 8 s.tap.status }) s

/-- KEY_LOAD (R396): the register holds selector and key; it captures zero, so a loaded key is never shifted out. -/
def execKeyLoad (dt : Nat) (key : BitVec 256) (selector : BitVec 8) (s : State) : Host.Outcome State Fault Refusal :=
  event dt State.tapOpen
    (fun s => { s with tap := { s.tap.scan 0b100001 264 0 with load := selector ++ key } }) s

/-- The loaded key and selector (R396). -/
def Tap.loadedKey (t : Tap) : BitVec 256 := t.load.extractLsb' 0 256

/-- The selector of the register of KEY_LOAD (R396). -/
def Tap.selector (t : Tap) : Nat := (t.load.extractLsb' 256 8).toNat

/-- A burn of the loaded key is refused (R396). -/
def Tap.refuses (t : Tap) : Bool :=
  !(decide (t.selector = 1) || decide (t.selector = 2)) || decide (t.loadedKey = 0) ||
  decide (t.loadedKey = BitVec.allOnes 256) || (t.block t.selector).touched

/-- The word that starts a burn (R396). -/
def burnWord : BitVec 32 := 0x4255524E#32

/-- KEY_BURN (R396): the burn starts or is refused; any other word does nothing. While a burn is in progress no other
starts. -/
def execKeyBurn (dt : Nat) (word : BitVec 32) (s : State) : Host.Outcome State Fault Refusal :=
  event dt State.tapOpen
    (fun s =>
      let t := s.tap.scan 0b100010 32 0
      if word ≠ burnWord ∨ t.burning.isSome then { s with tap := t }
      else if t.refuses then { s with tap := { t with refused := true, failed := false } }
      else { s with tap := { t with burning := some (t.selector, t.loadedKey), refused := false, failed := false } }) s

/-- The fuses of a block after a whole burn are those that read back (R396, log 48). -/
def burntBlock (x : ReadBack) : KeyBlock := { key := x.key, check := x.check, programmed := x.programmed }

/-- The read-back of a burn fails: a key, check or programmed fuse does not read as burnt (R396). -/
def burnFails (key : BitVec 256) (x : ReadBack) : Bool :=
  decide (x.key ≠ key) || decide (x.check ≠ keyCheck key) || !x.programmed

/-- KEY_BURN_COMPLETE (R396): key, check and programmed fuses are burnt and the block read back; the register of KEY_LOAD is
cleared. -/
def execKeyBurnComplete (dt : Nat) (readBack : ReadBack) (s : State) : Host.Outcome State Fault Refusal :=
  event dt (fun s => s.tapOpen && s.tap.burning.isSome)
    (fun s => match s.tap.burning with
      | none => s
      | some (sel, key) =>
        { s with tap := { s.tap.setBlock sel (burntBlock readBack) with
            load := 0
            burning := none
            failed := burnFails key readBack } }) s

/-- Codes with an instruction of their own (R396). -/
def listedCode (c : BitVec 6) : Bool :=
  [0b000000#6, 0b000001#6, 0b000010#6, 0b100000#6, 0b100001#6, 0b100010#6].contains c

/-- BYPASS (R396), by its code or any code not listed: one bit of delay that starts at 0. -/
def execBypass (dt : Nat) (code : BitVec 6) (bits : List Bool) (s : State) : Host.Outcome State Fault Refusal :=
  event dt (fun s => s.tapOpen && !listedCode code)
    (fun s => { s with tap := { s.tap with
        ir := code
        irOut := 0b000001
        shifted := (false :: bits).take bits.length
        bypass := bits.getLastD false } }) s

end Sys2Proof.Machine
end

