-- ==== Sys2Proof/Machine/Dispatch.lean ====
section
/-! DEFINITION. Sys2Proof/Machine/Dispatch.lean: the effect of every command, one arm per constructor. -/

namespace Sys2Proof.Machine

def exec (i : Instr) (s : State) : Host.Outcome State Fault Refusal :=
  match i with
  | .powerOnResetEnd dt => Sys2Proof.Machine.execPowerOnResetEnd dt s
  | .porThresholdCrossed dt what => Sys2Proof.Machine.execPorThresholdCrossed dt what s
  | .resetNAsserted dt lowSamples progress => Sys2Proof.Machine.execResetNAsserted dt lowSamples progress s
  | .resetNReleased dt => Sys2Proof.Machine.execResetNReleased dt s
  | .coreEnReleaseWaitEnd dt => Sys2Proof.Machine.execCoreEnReleaseWaitEnd dt s
  | .corePowerWaitEnd dt => Sys2Proof.Machine.execCorePowerWaitEnd dt s
  | .strapMeasurement dt codes testN ashdumpN => Sys2Proof.Machine.execStrapMeasurement dt codes testN ashdumpN s
  | .strapReadEnd dt => Sys2Proof.Machine.execStrapReadEnd dt s
  | .ashDumpStart dt => Sys2Proof.Machine.execAshDumpStart dt s
  | .ashDumpEnd dt => Sys2Proof.Machine.execAshDumpEnd dt s
  | .bistComplete dt found => Sys2Proof.Machine.execBistComplete dt found s
  | .libraryHeaderReadComplete dt header => Sys2Proof.Machine.execLibraryHeaderReadComplete dt header s
  | .libraryItemReceived dt item => Sys2Proof.Machine.execLibraryItemReceived dt item s
  | .libraryBodyComplete dt => Sys2Proof.Machine.execLibraryBodyComplete dt s
  | .loadComplete dt => Sys2Proof.Machine.execLoadComplete dt s
  | .powerFailTrip dt vsys temp progress => Sys2Proof.Machine.execPowerFailTrip dt vsys temp progress s
  | .powerFailRearm dt vsys temp => Sys2Proof.Machine.execPowerFailRearm dt vsys temp s
  | .powerFailRecovery dt => Sys2Proof.Machine.execPowerFailRecovery dt s
  | .idleTimerExpiry dt => Sys2Proof.Machine.execIdleTimerExpiry dt s
  | .sleepEntry dt upsets => Sys2Proof.Machine.execSleepEntry dt upsets s
  | .spotWakeTimerExpiry dt => Sys2Proof.Machine.execSpotWakeTimerExpiry dt s
  | .bankedWake dt => Sys2Proof.Machine.execBankedWake dt s
  | .bankedWakeComplete dt => Sys2Proof.Machine.execBankedWakeComplete dt s
  | .emberWake dt => Sys2Proof.Machine.execEmberWake dt s
  | .spotWakeResleep dt => Sys2Proof.Machine.execSpotWakeResleep dt s
  | .vsetStep dt => Sys2Proof.Machine.execVsetStep dt s
  | .canaryEvaluationStart dt => Sys2Proof.Machine.execCanaryEvaluationStart dt s
  | .canaryEvaluationEnd dt count => Sys2Proof.Machine.execCanaryEvaluationEnd dt count s
  | .frameDeadlineMonitorFail dt => Sys2Proof.Machine.execFrameDeadlineMonitorFail dt s
  | .replayBlockEnd dt => Sys2Proof.Machine.execReplayBlockEnd dt s
  | .replayWindowEnd dt => Sys2Proof.Machine.execReplayWindowEnd dt s
  | .shadowReplay dt pipeline after main shadow => Sys2Proof.Machine.execShadowReplay dt pipeline after main shadow s
  | .delayTapRaise dt pipeline => Sys2Proof.Machine.execDelayTapRaise dt pipeline s
  | .delayTapLower dt pipeline handshakes => Sys2Proof.Machine.execDelayTapLower dt pipeline handshakes s
  | .stepDown dt handshakes => Sys2Proof.Machine.execStepDown dt handshakes s
  | .stepUp dt => Sys2Proof.Machine.execStepUp dt s
  | .stepUpPauseEnd dt => Sys2Proof.Machine.execStepUpPauseEnd dt s
  | .holdoffExpiry dt => Sys2Proof.Machine.execHoldoffExpiry dt s
  | .decimatorOutput dt samples => Sys2Proof.Machine.execDecimatorOutput dt samples s
  | .tachCapture dt input microvolts => Sys2Proof.Machine.execTachCapture dt input microvolts s
  | .candidateDecision dt => Sys2Proof.Machine.execCandidateDecision dt s
  | .slowTick dt inputs => Sys2Proof.Machine.execSlowTick dt inputs s
  | .channelRecovery dt channel => Sys2Proof.Machine.execChannelRecovery dt channel s
  | .holdbackRelease dt channel => Sys2Proof.Machine.execHoldbackRelease dt channel s
  | .auxConversion dt input code => Sys2Proof.Machine.execAuxConversion dt input code s
  | .labelReading dt zero ref pin teachN forgetN holdN => Sys2Proof.Machine.execLabelReading dt zero ref pin teachN forgetN holdN s
  | .labelAccepted dt => Sys2Proof.Machine.execLabelAccepted dt s
  | .teachPress dt => Sys2Proof.Machine.execTeachPress dt s
  | .forgetPress dt => Sys2Proof.Machine.execForgetPress dt s
  | .holdChange dt => Sys2Proof.Machine.execHoldChange dt s
  | .rekindle dt => Sys2Proof.Machine.execRekindle dt s
  | .featureExtractionStart dt array => Sys2Proof.Machine.execFeatureExtractionStart dt array s
  | .featureExtractionDone dt array upsets => Sys2Proof.Machine.execFeatureExtractionDone dt array upsets s
  | .tickEncoding dt upsets => Sys2Proof.Machine.execTickEncoding dt upsets s
  | .itemMemoryRebuildEnd dt => Sys2Proof.Machine.execItemMemoryRebuildEnd dt s
  | .queryStart dt scan upsets => Sys2Proof.Machine.execQueryStart dt scan upsets s
  | .recallResult dt replays => Sys2Proof.Machine.execRecallResult dt replays s
  | .learningStage dt upsets => Sys2Proof.Machine.execLearningStage dt upsets s
  | .teachTimeout dt => Sys2Proof.Machine.execTeachTimeout dt s
  | .commit dt acc upsets => Sys2Proof.Machine.execCommit dt acc upsets s
  | .tickOutputs dt => Sys2Proof.Machine.execTickOutputs dt s
  | .kindlingCounterPersist dt => Sys2Proof.Machine.execKindlingCounterPersist dt s
  | .heartbeat dt => Sys2Proof.Machine.execHeartbeat dt s
  | .rowWrite dt bank lost stray => Sys2Proof.Machine.execRowWrite dt bank lost stray s
  | .smoulderRead dt region upsets lost => Sys2Proof.Machine.execSmoulderRead dt region upsets lost s
  | .vaultHeal dt upsets lost => Sys2Proof.Machine.execVaultHeal dt upsets lost s
  | .refetch dt => Sys2Proof.Machine.execRefetch dt s
  | .refetchComplete dt item lost => Sys2Proof.Machine.execRefetchComplete dt item lost s
  | .bandPlanRetry dt item => Sys2Proof.Machine.execBandPlanRetry dt item s
  | .vaultMirror dt upsets => Sys2Proof.Machine.execVaultMirror dt upsets s
  | .journalCommit dt => Sys2Proof.Machine.execJournalCommit dt s
  | .ashRecordWrite dt => Sys2Proof.Machine.execAshRecordWrite dt s
  | .ashTokenAdd dt => Sys2Proof.Machine.execAshTokenAdd dt s
  | .routerDelivery dt sink => Sys2Proof.Machine.execRouterDelivery dt sink s
  | .flueRecordSend dt badWord => Sys2Proof.Machine.execFlueRecordSend dt badWord s
  | .phyLinkUp dt port => Sys2Proof.Machine.execPhyLinkUp dt port s
  | .frameHeaderReceived dt port header => Sys2Proof.Machine.execFrameHeaderReceived dt port header s
  | .dataFrameReceived dt port frame lost => Sys2Proof.Machine.execDataFrameReceived dt port frame lost s
  | .ackFrameReceived dt port frame => Sys2Proof.Machine.execAckFrameReceived dt port frame s
  | .linkResetReceived dt port frame => Sys2Proof.Machine.execLinkResetReceived dt port frame s
  | .resetAckReceived dt port frame => Sys2Proof.Machine.execResetAckReceived dt port frame s
  | .ackTimerExpiry dt port => Sys2Proof.Machine.execAckTimerExpiry dt port s
  | .linkResetResend dt port => Sys2Proof.Machine.execLinkResetResend dt port s
  | .linkRecoveryAttempt dt port => Sys2Proof.Machine.execLinkRecoveryAttempt dt port s
  | .portTransmit dt port badCell => Sys2Proof.Machine.execPortTransmit dt port badCell s
  | .creditTableTimer dt port => Sys2Proof.Machine.execCreditTableTimer dt port s
  | .queueAgeDiscard dt => Sys2Proof.Machine.execQueueAgeDiscard dt s
  | .censusOriginate dt => Sys2Proof.Machine.execCensusOriginate dt s
  | .ringMapEntryExpiry dt id => Sys2Proof.Machine.execRingMapEntryExpiry dt id s
  | .idClashEnd dt => Sys2Proof.Machine.execIdClashEnd dt s
  | .fleetFold dt => Sys2Proof.Machine.execFleetFold dt s
  | .visitedCacheExpiry dt => Sys2Proof.Machine.execVisitedCacheExpiry dt s
  | .fleetQueryTimeout dt => Sys2Proof.Machine.execFleetQueryTimeout dt s
  | .sweepOriginate dt => Sys2Proof.Machine.execSweepOriginate dt s
  | .testLogicReset dt => Sys2Proof.Machine.execTestLogicReset dt s
  | .extest dt pins shifted => Sys2Proof.Machine.execExtest dt pins shifted s
  | .samplePreload dt pins shifted => Sys2Proof.Machine.execSamplePreload dt pins shifted s
  | .idcode dt => Sys2Proof.Machine.execIdcode dt s
  | .keyStatus dt => Sys2Proof.Machine.execKeyStatus dt s
  | .keyLoad dt key selector => Sys2Proof.Machine.execKeyLoad dt key selector s
  | .keyBurn dt word => Sys2Proof.Machine.execKeyBurn dt word s
  | .keyBurnComplete dt readBack => Sys2Proof.Machine.execKeyBurnComplete dt readBack s
  | .bypass dt code bits => Sys2Proof.Machine.execBypass dt code bits s
  | .ledFlash dt led => Sys2Proof.Machine.execLedFlash dt led s

end Sys2Proof.Machine
end

