-- ==== Sys2Proof/Safety.lean ====
section
/-! DEFINITION. Sys2Proof/Safety.lean: what counts as a sound state of the SL640, as a lawful move between device states and
as a command with operands of the right form, and how two states are compared, in the terms the statements use. -/

namespace Sys2Proof.Machine

/-- A burn in progress goes to a defined key block that has no fuse burnt (R396). -/
def Tap.burnSound (t : Tap) : Bool :=
  match t.burning with
  | none => true
  | some (sel, _) => (decide (sel = 1) || decide (sel = 2)) && !(t.block sel).touched

/-- The memory and the error map keep their canonical form, and a burn in progress is lawful. -/
def State.sound (s : State) : Prop := Memory.wf s.mem ∧ Errors.wf s.ecc ∧ s.tap.burnSound = true

/-- The moves of the device states diagram: which command can take the device from one state to another (R12, R45, R59 to
R62, R66, R70, R73, R75, R272). -/
def mayMove : Instr → DevState → DevState → Bool
  | .porThresholdCrossed _ (.falls _ _), _, .reset => true
  | .resetNAsserted _ _ _, _, .reset => true
  | .powerFailRecovery _, .powerFail, .reset => true
  | .corePowerWaitEnd _, .reset, .strapRead => true
  | .corePowerWaitEnd _, .reset, .powerFail => true
  | .corePowerWaitEnd _, .ember, .bist => true
  | .strapReadEnd _, .strapRead, .bist => true
  | .strapReadEnd _, .strapRead, .configFault => true
  | .ashDumpEnd _, .strapRead, .bist => true
  | .bistComplete _ _, .bist, .load => true
  | .bistComplete _ _, .bist, .fault => true
  | .loadComplete _, .load, .run => true
  | .sleepEntry _ _, .run, .banked => true
  | .sleepEntry _ _, .run, .ember => true
  | .bankedWakeComplete _, .banked, .run => true
  | .powerFailTrip _ _ _ _, a, .powerFail => decide (a ≠ .reset)
  | _, _, _ => false

/-- The operands of a command have a form that the outside world can bring in a state: the forms of `Instr.wf`, one sample
for each enabled channel, and the length of the item that the library or the flash interface waits for. -/
def formed (c : Instr) (s : State) : Bool :=
  match c with
  | .decimatorOutput _ l => decide (l.length ≤ 32) && decide (l.length = s.channels)
  | .libraryItemReceived _ it => match s.lib.stage with
    | .body k => decide (it.length = if k = 0 then 2048 else 1064)
    | _ => c.wf
  | .refetchComplete _ it _ => match s.lib.serving with
    | some r => decide (it.length = if r = .plan then 2048 else 1064)
    | none => c.wf
  | .bandPlanRetry _ it => if s.lib.serving = some .plan then decide (it.length = 2048) else c.wf
  | c => c.wf

/-- `t` is `u` but for what the LEDs show. -/
def State.agrees (t u : State) : Prop :=
  t = { u with out := { u.out with led0 := t.out.led0, led1 := t.out.led1 } }

/-- Every byte, and the error count of every word, is the same in two states but in the `n` bytes from address `a` on. -/
def State.sameMemoryBut (t u : State) (a n : Nat) : Prop :=
  (∀ x, x < a ∨ a + n ≤ x → Memory.read t.mem x = Memory.read u.mem x) ∧
  (∀ w, w + 8 ≤ a ∨ a + n ≤ w → errorsAt t.ecc w = errorsAt u.ecc w)

/-- The words that a record can be written over: the report queue, and the cells that are free (R262, R326). -/
def State.recordSpace (u : State) (w : Nat) : Bool :=
  (decide (regionBase .reportQueue ≤ w) && decide (w < regionBase .reportQueue + 65536)) ||
  u.ring.free.any (fun c => inCell c w)

/-- `t` is `u` but for what a record that is written can change: the report queue, the ash writer, the event router, the
LEDs, and, where the record is relayed to a collector, the own ring frames, the end-to-end value and its stored mark. The
words that it is written over are good from then on. -/
def State.agreesButRecords (t u : State) : Prop :=
  t = { u with
    mem := t.mem
    ecc := t.ecc
    out := { u.out with led0 := t.out.led0, led1 := t.out.led1 }
    flue := t.flue
    router := t.router
    ash := t.ash
    vault := { u.vault with e2eMark := t.vault.e2eMark }
    ring := { u.ring with
      queue := t.ring.queue, waiting := t.ring.waiting, free := t.ring.free, discards := t.ring.discards }
    fleet := { u.fleet with e2e := t.fleet.e2e } } ∧
  (∃ n, t.ring.free = u.ring.free.drop n) ∧
  (∀ x, x < e2eMarkAddr ∨ e2eMarkAddr + 8 ≤ x → Memory.read t.mem x = Memory.read u.mem x) ∧
  (∀ w, w + 8 ≤ e2eMarkAddr ∨ e2eMarkAddr + 8 ≤ w →
    errorsAt t.ecc w = errorsAt u.ecc w ∨ (u.recordSpace w = true ∧ errorsAt t.ecc w = 0))

/-- The flue and the ash writer of `t` are those of `s` with one record more, of one type and payload in both, stamped at the
clock of `t` (R234, R265, R290, R293). -/
def State.recordedBoth (s t : State) (type : Nat) (payload : List Byte) : Prop :=
  t.flue = s.flue.enter t.ts type t.ts payload 1 ∧ t.ash = s.ash.offer t.clock type t.ts payload

/-- The commands that belong to RUN: acquisition, the pipeline of ticks, learning, the panel, the voltage controller, the
smoulder, the vault mover, the flash interface and the ring all stop in every other state (R64, R66 to R68, R73, R231,
R264, R277, R307, R311). -/
def runOnly : Instr → Bool
  | .powerOnResetEnd _ => false
  | .porThresholdCrossed _ _ => false
  | .resetNAsserted _ _ _ => false
  | .resetNReleased _ => false
  | .coreEnReleaseWaitEnd _ => false
  | .corePowerWaitEnd _ => false
  | .strapMeasurement _ _ _ _ => false
  | .strapReadEnd _ => false
  | .ashDumpStart _ => false
  | .ashDumpEnd _ => false
  | .bistComplete _ _ => false
  | .libraryHeaderReadComplete _ _ => false
  | .libraryItemReceived _ _ => false
  | .libraryBodyComplete _ => false
  | .loadComplete _ => false
  | .powerFailTrip _ _ _ _ => false
  | .powerFailRearm _ _ _ => false
  | .powerFailRecovery _ => false
  | .idleTimerExpiry _ => true
  | .sleepEntry _ _ => true
  | .spotWakeTimerExpiry _ => false
  | .bankedWake _ => false
  | .bankedWakeComplete _ => false
  | .emberWake _ => false
  | .spotWakeResleep _ => true
  | .vsetStep _ => false
  | .canaryEvaluationStart _ => true
  | .canaryEvaluationEnd _ _ => true
  | .frameDeadlineMonitorFail _ => true
  | .replayBlockEnd _ => false
  | .replayWindowEnd _ => false
  | .shadowReplay _ _ _ _ _ => false
  | .delayTapRaise _ _ => true
  | .delayTapLower _ _ _ => false
  | .stepDown _ _ => true
  | .stepUp _ => true
  | .stepUpPauseEnd _ => true
  | .holdoffExpiry _ => true
  | .decimatorOutput _ _ => true
  | .tachCapture _ _ _ => false
  | .candidateDecision _ => true
  | .slowTick _ _ => false
  | .channelRecovery _ _ => true
  | .holdbackRelease _ _ => true
  | .auxConversion _ _ _ => true
  | .labelReading _ _ _ _ _ _ _ => true
  | .labelAccepted _ => true
  | .teachPress _ => true
  | .forgetPress _ => true
  | .holdChange _ => true
  | .rekindle _ => true
  | .featureExtractionStart _ _ => true
  | .featureExtractionDone _ _ _ => true
  | .tickEncoding _ _ => true
  | .itemMemoryRebuildEnd _ => true
  | .queryStart _ _ _ => true
  | .recallResult _ _ => true
  | .learningStage _ _ => true
  | .teachTimeout _ => true
  | .commit _ _ _ => true
  | .tickOutputs _ => true
  | .kindlingCounterPersist _ => true
  | .heartbeat _ => true
  | .rowWrite _ _ _ _ => false
  | .smoulderRead _ _ _ _ => true
  | .vaultHeal _ _ _ => true
  | .refetch _ => true
  | .refetchComplete _ _ _ => true
  | .bandPlanRetry _ _ => true
  | .vaultMirror _ _ => true
  | .journalCommit _ => true
  | .ashRecordWrite _ => false
  | .ashTokenAdd _ => false
  | .routerDelivery _ _ => false
  | .flueRecordSend _ _ => false
  | .phyLinkUp _ _ => true
  | .frameHeaderReceived _ _ _ => true
  | .dataFrameReceived _ _ _ _ => true
  | .ackFrameReceived _ _ _ => true
  | .linkResetReceived _ _ _ => true
  | .resetAckReceived _ _ _ => true
  | .ackTimerExpiry _ _ => true
  | .linkResetResend _ _ => true
  | .linkRecoveryAttempt _ _ => true
  | .portTransmit _ _ _ => true
  | .creditTableTimer _ _ => true
  | .queueAgeDiscard _ => true
  | .censusOriginate _ => true
  | .ringMapEntryExpiry _ _ => true
  | .idClashEnd _ => true
  | .fleetFold _ => true
  | .visitedCacheExpiry _ => false
  | .fleetQueryTimeout _ => true
  | .sweepOriginate _ => true
  | .testLogicReset _ => false
  | .extest _ _ _ => false
  | .samplePreload _ _ _ => false
  | .idcode _ => false
  | .keyStatus _ => false
  | .keyLoad _ _ _ => false
  | .keyBurn _ _ => false
  | .keyBurnComplete _ _ => false
  | .bypass _ _ _ => false
  | .ledFlash _ _ => false

/-- The two LEDs show what R244 gives for the state. -/
def State.ledsRight (s : State) : Prop :=
  s.out.led0.pattern = (match s.mode with
    | .bist | .load => .flash 1
    | .run => if s.learn.teach.isSome then .flash 4 else if s.out.alert then .flash 2 else .on
    | _ => .off) ∧
  s.out.led1.pattern = (match s.mode with
    | .configFault => .blink 2
    | .fault => .blink 3
    | .run =>
      if s.out.alarm then .on
      else if s.ring.clashAt.isSome then .blink 5
      else if (s.chans.take s.channels).any (fun c => decide (c.status = 3) || decide (c.status = 4) || decide (c.status = 5))
        then .blink 1
      else if bitOf s.out.faultCauses 1 then .blink 6
      else if s.ringOn && (!s.ring.portA.up || !s.ring.portB.up || s.ring.wrapped) then .blink 4
      else if s.hearth.retired ≠ [] then .blink 7
      else .off
    | _ => .off)

/-- The bytes that a stuffed record holds: each length code takes the place of a zero byte, but for the last one and for a
code of 255 (R246). -/
def unstuff : Nat → List Byte → List Byte
  | 0, _ => []
  | _, [] => []
  | n + 1, c :: bs =>
    let rest := bs.drop (c.toNat - 1)
    if rest = [] then bs.take (c.toNat - 1)
    else bs.take (c.toNat - 1) ++ (if c = 255#8 then [] else [0#8]) ++ unstuff n rest

/-- The fields of a header keep their widths (R316). -/
def Header.sized (h : Header) : Bool :=
  decide (h.ver < 16) && decide (h.kind < 16) && decide (h.cls < 64) && decide (h.dst < 256) && decide (h.src < 256) &&
  decide (h.hseq < 4096) && decide (h.epoch < 16) && decide (h.aseq < 4096) && decide (h.e2e < 65536) &&
  decide (h.hops < 1024) && decide (h.dir < 2) && decide (h.turns < 4) && decide (h.len < 2048)

/-- `t` is RESET as it is entered from `s` with a reset cause (R61): what is volatile is as at power-up, `CORE_EN` is
released, `VSET` is at code 2, the timestamp counter starts at zero and the SRAM holds nothing. -/
def State.entersReset (s t : State) (cause : Nat) : Prop :=
  t = { State.reset with
    pending := s.pending
    clock := t.clock
    tsStart := t.clock
    freeCount := t.freeCount
    mem := t.mem
    ecc := t.ecc
    straps := { codes := s.straps.codes }
    power := t.power
    out := { health := t.out.health, led0 := t.out.led0, led1 := t.out.led1 }
    repairs := { fused := s.repairs.fused }
    tap := t.tap } ∧
  t.power.coreEn = false ∧ t.power.vset = 2 ∧ t.power.vsetTarget = 2 ∧ t.power.resetCause = cause ∧
  t.power.coreEnAt = (if s.power.coreEn then t.clock else s.power.coreEnAt) ∧
  (∀ a, a < mramBase → Memory.read t.mem a = 0) ∧ (∀ w, w < mramBase → errorsAt t.ecc w = 0)

/-- Cause and address of the first check of a list that fails; none when all pass (R305, R306). -/
def firstFailed (checks : List (Bool × Nat × Nat)) : Option (Nat × Nat) := (checks.find? (fun c => !c.1)).map Prod.snd

/-- What a refusal of the library image leaves: the built-in plan and seed, depth 1, class 0, no further access to the
flash, no row made valid, `FAULT_N` as it was, and one record of the cause and of the address of what failed (R306). -/
def State.refusesImage (s t : State) (cause addr : Nat) : Prop :=
  t.mode = s.mode ∧ t.lib = { s.lib with
    stage := .over, accepted := false, closed := true, seed := 0x5EED0640A5C31B27, header := {}, planBuiltIn := true
    built := true, rebuilding := false } ∧
  t.depth = 1 ∧ t.mclass = 0 ∧ t.plan = none ∧ t.flash = s.flash ∧ t.out.fault = s.out.fault ∧
  (∀ a, a < 0x05000000 → Memory.read t.mem a = Memory.read s.mem a) ∧
  s.recordedBoth t 0x0A (memoryPayload 3 .lib addr 0xFFFF cause 0 1)

/-- The words that the MRAM controller has written when it is stopped: of a power-fail sequence in progress, of the held
journal entry, of the ash record at the front, then of a periodic write that is due (R73, R274, R275, R370). -/
def State.cutWords (s : State) (p : MramProgress) : List (Nat × List Byte) :=
  (if s.failEnded then s.vault.failWrites else s.vault.failWrites.take p.failWords) ++
  (s.entryWrites.take p.commitWords ++ (s.ashWrites.take p.ashWords ++ s.dueWrites.take p.persistWords))

/-- The fuses of a burn that was cut short: some of its key's fuses are burnt, no other, and not the programmed fuse; the
other block is as it was (R396). -/
def Tap.burnCut (old new : Tap) (sel : Nat) (key : BitVec 256) : Prop :=
  new.burning = none ∧ new.ir = 0b000010 ∧ new.load = 0 ∧
  (new.block sel).programmed = false ∧ (new.block sel).touched = true ∧ (new.block sel).key &&& ~~~key = 0 ∧
  (if sel = 1 then new.ring = old.ring else new.image = old.image)

/-- The power registers as a hold of RESET ends: `CORE_EN` is asserted once no hold is left (R59). -/
def Power.letGo (p : Power) (mode : DevState) (clock : Nat) : Power :=
  if mode = .reset ∧ p.por = false ∧ p.resetNLow = false ∧ p.releaseWait = false ∧ p.coreEn = false then
    { p with coreEn := true, coreEnAt := clock }
  else p

/-- RUN as it is entered (R52, R64, R65, R71, R89, R90, R131, R142, R154, R248): code 2 without a holdoff, no tick, page or
query in progress, no capture waiting, and every timer of RUN started at the clock of `t`. -/
def State.entersRun (s t : State) : Prop :=
  t.mode = .run ∧ t.out.ready = true ∧ t.out.alert = s.out.alert ∧ t.out.alarm = s.out.alarm ∧
  t.out.fault = (s.out.fault || t.anyWithdrawn) ∧
  t.power.vset = 2 ∧ t.power.vsetTarget = 2 ∧ t.power.sleepDue = false ∧ t.power.waking = false ∧ t.power.wakeMask = 0 ∧
  (t.power.idle = {} ∨ t.power.idle = Stopwatch.start t.clock) ∧ t.volt.holdoffAt = none ∧ t.volt.stepUpDue = false ∧
  t.volt.pauseAt = none ∧ t.volt.canaryAt = none ∧ t.volt.canaryNext = t.clock ∧ t.volt.canaryPassed = none ∧
  t.sync.edges = t.edgesPerBoundary ∧ t.sync.candidates = [] ∧ t.sync.queues = List.replicate 4 [] ∧
  t.sync.settling = 24 ∧ t.sync.nextOut = none ∧ t.sync.prevClose = t.ts ∧ t.ticks = [] ∧ t.freeing = [] ∧ t.cross = {} ∧
  t.arrays = List.replicate 4 none ∧ t.hearth.inFlight = [] ∧ t.learn.teach = none ∧ t.learn.writes = [] ∧
  t.panel = { label := s.panel.label, ignored := s.panel.ignored, readAt := t.clock, rekindleDue := s.panel.rekindleDue } ∧
  t.flue.heartbeatAt = t.clock + 24576000 ∧ t.smoulder = { periodAt := List.replicate 12 t.clock } ∧
  t.ring = { map := s.ring.map, stamps := s.ring.stamps, censusAt := t.clock, discards := s.ring.discards } ∧
  t.fleet.queries = [] ∧ t.fleet.jobs = [] ∧
  t.learn.levels = s.learn.levels

end Sys2Proof.Machine
end

