-- ==== Sys2Proof/Certificates/Slice0/Obligations.lean ====
section
/-! DEFINITION. Sys2Proof/Certificates/Slice0/Obligations.lean: the statements for the provers. Each docstring names the
rules a statement rests on. In them `t.agrees u` says that `t` is `u` but for the LEDs, which R244 drives and the statement
`LedsFollow` is about, and `t.agreesButRecords u` that it is `u` but for what a record that is written can change. -/

open Sys2Proof Sys2Proof.Machine

/-! ### Every command -/

/-- Step takes the command at the front of the queue and runs it on the state whose queue holds the rest. That commands come
by a queue is the model's choice (log 58). -/
def Obligations.StepRunsFront : Prop :=
  ∀ (s : State) (c : Instr) (rest : List Instr),
    step { s with pending := c :: rest } = exec c { s with pending := rest }

/-- On an empty queue a step is one timebase period in which nothing else happens (the model's choice, log 5). -/
def Obligations.IdleStep : Prop :=
  ∀ s : State, s.pending = [] → step s = .next { s with clock := s.clock + 1 }

/-- No command is refused. One whose operands have the right form answers a next state; any other ends in the fault
`malformed`. That fault is the model's choice, since no event of the device brings such an operand (log 2). -/
def Obligations.CompletesWhenFormed : Prop :=
  ∀ (c : Instr) (s : State),
    (formed c s = true → ∃ t, exec c s = .next t) ∧ (formed c s = false → exec c s = .fault .malformed)

/-- A command touches neither the queue nor any time but its own: the clock moves on by the time it carries. The queue (log
58) and time as a count of timebase periods that each command carries (log 7) are the model's own representation. -/
def Obligations.QueueAndClock : Prop :=
  ∀ (c : Instr) (s t : State), exec c s = .next t → t.pending = s.pending ∧ t.clock = s.clock + c.dt

/-- The device state changes only along the device states diagram, each move by the command that the diagram names
(R12, R45, R59 to R62, R66, R70, R72, R75, R272). Which command stands for which arrow is the model's choice (log 9). -/
def Obligations.LawfulMoves : Prop :=
  ∀ (c : Instr) (s t : State), exec c s = .next t → t.mode = s.mode ∨ mayMove c s.mode t.mode = true

/-- Every step keeps the canonical form of the memory and of the error map, and a burn in progress lawful. The two forms are
the model's representation of what the memories hold and where errors lie (logs 3 and 12). -/
def Obligations.SoundKept : Prop :=
  ∀ s t : State, s.sound → step s = .next t → t.sound

/-- The state after reset is sound: memory and error map, which list nothing, are canonical, and no burn is in progress. An
empty memory and the absence of errors are the model's choice (logs 3 and 4). -/
def Obligations.SoundAtReset : Prop := State.reset.sound

/-- The state after reset: RESET under the power-on reset, with the outputs of R64, `CORE_EN` released and `VSET` code 2
(R61), the timestamp counter at zero (R61), 64 tokens (R290), nothing queued in the event router (R61), no strap read and
IDCODE selected in the TAP (R396). -/
def Obligations.AfterReset : Prop :=
  State.reset.mode = .reset ∧ State.reset.power.por = true ∧ State.reset.out.ready = false ∧
  State.reset.out.alert = false ∧ State.reset.out.alarm = false ∧ State.reset.out.fault = false ∧
  State.reset.power.coreEn = false ∧ State.reset.power.vset = 2 ∧ State.reset.ts = 0 ∧
  State.reset.ash.tokens = 64 ∧ State.reset.router.ash = [] ∧ State.reset.router.flue = [] ∧
  State.reset.straps.sums = [] ∧ State.reset.tap.ir = 0b000010 ∧ State.reset.pending = []

/-- The two LEDs show what the tables of R244 give for the state, and every step keeps it so. A state in which they do not
is not reached from reset, and is left out by the hypothesis. -/
def Obligations.LedsFollow : Prop :=
  ∀ s t : State, s.ledsRight → step s = .next t → t.ledsRight

/-- The decoded straps stay as they are from the end of a STRAP_READ to the end of the next one (R21, R70). -/
def Obligations.StrapsFixed : Prop :=
  ∀ (c : Instr) (s t : State), exec c s = .next t → t.straps.codes = s.straps.codes ∨
    ((∃ dt, c = .strapReadEnd dt) ∧ s.mode = .strapRead)

/-- The fuses of a key block that has any fuse burnt stay as they are, whatever the command (R396). -/
def Obligations.FusesStay : Prop :=
  ∀ (c : Instr) (s t : State), s.tap.burnSound = true → exec c s = .next t →
    (s.tap.image.touched = true → t.tap.image = s.tap.image) ∧ (s.tap.ring.touched = true → t.tap.ring = s.tap.ring)

/-- The commands of RUN have no effect in any other state: acquisition and the pipeline (R64, R66 to R68, R73), the panel
(R231), the smoulder (R264), the vault mover (R277), the flash interface (R307) and the ring (R311). That a command whose
state does not allow it only lets its time pass is the model's choice (log 1). -/
def Obligations.OnlyInRun : Prop :=
  ∀ (c : Instr) (s : State), runOnly c = true → formed c s = true → s.mode ≠ .run →
    exec c s = .next { s with clock := s.clock + c.dt }

/-! ### Layouts and codes -/

/-- The tag field (R197): where each of its bits lies, that it reads back whole, and its bytes in the hearth. -/
def Obligations.TagLayout : Prop :=
  ∀ t : Tag,
    Tag.ofNat t.toNat = t ∧ t.bytes.length = 32 ∧
    (∀ n, n < 256 → (t.bytes.getD (n / 8) 0).getLsbD (n % 8) = t.toNat.testBit n) ∧
    bits t.toNat 0 128 = t.erased.toNat ∧ bits t.toNat 128 2 = t.cls.toNat ∧ t.toNat.testBit 130 = t.valid ∧
    t.toNat.testBit 131 = t.spent ∧ bits t.toNat 132 6 = t.scope.toNat ∧ bits t.toNat 138 7 = t.bin.toNat ∧
    t.toNat.testBit 145 = t.binAny ∧ bits t.toNat 146 4 = t.label.toNat ∧ bits t.toNat 150 2 = t.severity.toNat ∧
    bits t.toNat 152 14 = t.radius.toNat ∧ bits t.toNat 166 14 = t.mu.toNat ∧ bits t.toNat 180 12 = t.delta.toNat ∧
    bits t.toNat 192 16 = t.hits.toNat ∧ bits t.toNat 208 12 = t.gen.toNat ∧ bits t.toNat 220 8 = t.originId.toNat ∧
    bits t.toNat 228 10 = t.originSlot.toNat ∧
    ∀ (s : State) (r : Nat), Memory.wf s.mem → (s.setTag r t).tag r = t

/-- A hypervector held as bytes (R177), in a row of the hearth, in a library record, in the teach, sweep and query payloads of
the ring and in the vault words of a journal entry; and the distance of two hypervectors. -/
def Obligations.HypervectorBytes : Prop :=
  ∀ v w : HV,
    (hvBytes v).length = 1024 ∧
    (∀ k j, k < 1024 → j < 8 → ((hvBytes v).getD k 0).getLsbD j = v.getLsbD (8 * k + j)) ∧
    (∀ s, s < 128 → slice (hvBytes v) (8 * s) 8 = leBytes 8 (segment v s)) ∧
    hvOfBytes (hvBytes v) = v ∧
    (∀ (s : State) (r : Nat), Memory.wf s.mem → (s.setRow r v).row r = v ∧ (s.setRow r v).peek (rowAddr r) 1024 = hvBytes v) ∧
    (∀ rest, recordData (hvBytes v ++ rest) = v) ∧
    (∀ m slot q h t, slice (teachPayload m slot q h t v) 48 1024 = hvBytes v) ∧
    (∀ m slot q f h t, slice (sweepPayload m slot q f h (some (t, v))) 48 1024 = hvBytes v) ∧
    (∀ kind scope bin lanes h m re folded stamp x y,
      slice (queryPayload kind scope bin lanes h m re folded stamp v x y) 16 1024 = hvBytes v) ∧
    (∀ e : Entry, e.kind = 1 → e.data = v → e.vaultWrites.take 128 = asWords 128 (hvBytes v) (vaultAddr e.row)) ∧
    hamming v w = (List.range 8192).countP (fun i => v.getLsbD i != w.getLsbD i)

/-- The normalised distance of an exact-path row (R203). -/
def Obligations.NormalisedDistance : Prop :=
  ∀ (t : Tag) (row v : HV),
    t.erasures = (List.range 128).countP t.isErased ∧
    normalDistance t row v =
      (List.range 8192).countP (fun i => !t.isErased (i / 64) && (row.getLsbD i != v.getLsbD i)) * 128 /
        (128 - t.erasures) ∧
    (t.erasures = 0 → normalDistance t row v = hamming row v)

/-- What a lane holds after its exact-path rows have entered it in ascending order (R205 to R207): the nearest row, the
second distance and the in-radius count. -/
def Obligations.LaneResult : Prop :=
  ∀ l : List (Nat × Nat × Tag),
    l.Pairwise (fun a b => a.1 < b.1) → (∀ x ∈ l, x.2.1 < 0x3FFF) →
    let r := l.foldl (fun (a : Lane) x => a.take x.1 x.2.1 x.2.2) {}
    (r.none = true ↔ l = []) ∧
    (l ≠ [] → ∃ x ∈ l, r.row = x.1 ∧ r.dist = x.2.1 ∧ r.radius = min x.2.2.radius.toNat 2560 ∧
      ∀ y ∈ l, x.2.1 < y.2.1 ∨ (x.2.1 = y.2.1 ∧ x.1 ≤ y.1)) ∧
    r.second = ((l.map (fun x => x.2.1)).mergeSort (fun a b => decide (a ≤ b))).getD 1 0x3FFF ∧
    r.count = min 65535 (l.countP (fun x => decide (x.2.1 < min x.2.2.radius.toNat 2560)))

/-- A Yarud frame on the wire (R315 to R317, R320): the receiver reads back the header, the payload and the tag, the header
check passes, and the FCS is correct, or complemented for a stomped frame. The header check has its check value. -/
def Obligations.FrameReadsBack : Prop :=
  crc16 [0x31, 0x32, 0x33, 0x34, 0x35, 0x36, 0x37, 0x38, 0x39] = 0x29B1#16 ∧
  ∀ (h : Header) (payload tag : List Byte) (stomp : Bool),
    h.sized = true → h.len = payload.length → tag.length = (if h.auth then 8 else 0) →
    let b := wireFrame h payload tag stomp
    Header.parse b = h ∧ headerCrcGood b = true ∧ fcsOf b = (if stomp then .stomped else .good) ∧ 64 ≤ b.length ∧
    YFrame.parse b = { auth := h.auth, cls := h.cls, dst := h.dst, src := h.src, e2e := h.e2e, hops := h.hops,
                       dir := h.dir, turns := h.turns, passed := h.passed, payload := payload, tag := tag }

/-- A stuffed record holds no zero byte, and a receiver gets the record back (R246). -/
def Obligations.StuffingReadsBack : Prop :=
  ∀ bs : List Byte, 0#8 ∉ cobs bs ∧ unstuff (cobs bs).length (cobs bs) = bs

/-! ### Resets, core power and power failure -/

/-- RESET from any state (R59 to R61, R295, R380): by a rail that falls, which holds `HEALTH` to VSS when it is `VDDA` or
`VDD_AON`, and by `RESET_N` low at 32 samples in a row, a shorter low being no assertion. The MRAM keeps everything but the
words of the writes in progress; by `RESET_N`, with every supply good, those that have been written are whole. Model's
choices: which fields RESET keeps beside the MRAM and the repeated entry in RESET (log 14), the cause when two resets meet
(log 15), the SRAM reading 0 (log 3), the 10 ms over a loss of a rail (log 6) and when the oscillator is stable (log 64). -/
def Obligations.ResetEntered : Prop :=
  ∀ (s : State) (dt lowSamples : Nat) (rail : Rail) (p : MramProgress), Memory.wf s.mem →
    let u : State := { s with clock := s.clock + dt }
    (∃ t, exec (.porThresholdCrossed dt (.falls rail p)) s = .next t ∧ t.clock = s.clock + dt ∧ s.entersReset t 0 ∧
      t.power.por = true ∧ rail ∈ t.power.railsLow ∧ (rail = .vdda → t.power.oscStable = false) ∧
      (rail = .vdda ∨ rail = .vddAon → t.out.health = none) ∧
      ∀ a, mramBase ≤ a → (∀ w ∈ u.cutWords p, a < w.1 ∨ w.1 + w.2.length ≤ a) →
        Memory.read t.mem a = Memory.read s.mem a) ∧
    (s.power.resetNLow = false → 32 ≤ lowSamples →
      ∃ t, exec (.resetNAsserted dt lowSamples p) s = .next t ∧ t.clock = s.clock + dt ∧
        s.entersReset t (if s.power.por then s.power.resetCause else 1) ∧ t.power.resetNLow = true ∧
        t.power.por = s.power.por ∧ t.power.validAt = s.power.validAt ∧ t.tap = s.tap ∧
        ∀ a, mramBase ≤ a → Memory.read t.mem a = Memory.read (s.writeAll (u.cutWords p)).mem a ∧
          errorsAt t.ecc a = errorsAt (s.writeAll (u.cutWords p)).ecc a) ∧
    (lowSamples < 32 → exec (.resetNAsserted dt lowSamples p) s = .next u)

/-- The holds of RESET end (R55, R59, R64, R378, R380): a rail reaches its rising threshold, and `HEALTH` takes 0.360 V
once `VDDA` and `VDD_AON` are both valid; the oscillator becomes stable; the power-on reset ends 2.0 ms after the later of
these, and not before; `RESET_N` and the 10 ms of a released `CORE_EN` end. The last hold to end asserts `CORE_EN`; the TAP
is held in Test-Logic-Reset while `RESET_N` is high (R395). How a rising rail and a stable oscillator come as commands is
the model's choice (log 64). -/
def Obligations.ResetHoldsEnd : Prop :=
  ∀ (s : State) (dt : Nat) (rail : Rail),
    let now := s.clock + dt
    (rail ∈ s.power.railsLow →
      ∃ t, exec (.porThresholdCrossed dt (.rises rail)) s = .next t ∧ t.agrees { s with
        clock := now
        power := { s.power with railsLow := s.power.railsLow.erase rail, validAt := now }
        out := { s.out with health :=
          if .vdda ∈ s.power.railsLow.erase rail ∨ .vddAon ∈ s.power.railsLow.erase rail then none else some 720 } }) ∧
    (s.power.oscStable = false → .vdda ∉ s.power.railsLow →
      ∃ t, exec (.porThresholdCrossed dt .oscillatorStable) s = .next t ∧ t.agrees { s with
        clock := now, power := { s.power with oscStable := true, validAt := now } }) ∧
    (s.power.por = true → s.power.railsLow = [] → s.power.oscStable = true → s.power.validAt + 49152 ≤ now →
      ∃ t, exec (.powerOnResetEnd dt) s = .next t ∧ t.agrees { s with
        clock := now, power := Power.letGo { s.power with por := false } s.mode now }) ∧
    (s.power.railsLow ≠ [] ∨ s.power.oscStable = false ∨ now < s.power.validAt + 49152 →
      exec (.powerOnResetEnd dt) s = .next { s with clock := now }) ∧
    (s.power.resetNLow = true → s.tap.burning = none →
      ∃ t, exec (.resetNReleased dt) s = .next t ∧ t.agrees { s with
        clock := now
        power := Power.letGo { s.power with resetNLow := false } s.mode now
        tap := { s.tap with ir := 0b000010, load := 0 } }) ∧
    (s.power.releaseWait = true → s.power.coreEn = false → s.power.coreEnAt + 245760 ≤ now →
      ∃ t, exec (.coreEnReleaseWaitEnd dt) s = .next t ∧ t.agrees { s with
        clock := now
        power := Power.letGo { s.power with releaseWait := false } s.mode now })

/-- A key burn that is cut short by a rail or by a rising edge of `RESET_N` leaves its block damaged (R396). That any
always-on rail cuts it, and that entry to RESET by `RESET_N` does not, is the model's choice (logs 14 and 48); which fuses
are burnt is a free value (log 10). -/
def Obligations.BurnCutShort : Prop :=
  ∀ (s : State) (dt : Nat) (rail : Rail) (p : MramProgress) (sel : Nat) (key : BitVec 256),
    s.tap.burning = some (sel, key) → sel = 1 ∨ sel = 2 → key ≠ 0 →
    (∃ t, exec (.porThresholdCrossed dt (.falls rail p)) s = .next t ∧ s.tap.burnCut t.tap sel key) ∧
    (s.power.resetNLow = true → ∃ t, exec (.resetNReleased dt) s = .next t ∧ s.tap.burnCut t.tap sel key ∧
      t.power.resetNLow = false)

/-- 2.0 ms after `CORE_EN` is asserted the core is in use (R58, R59, R70, R79, R82, R126, R246, R289): STRAP_READ with the
head of the ash found, or BIST in a wake from EMBER with every delay tap at 10 and the acquisition comparators off. With the
power-fail latch tripped, POWER_FAIL at the start of STRAP_READ, and one power-fail record on its way to the ash (R73),
which reads back whole once its words are written. The empty queue and the ash records that are dropped in that case are the
model's choice (log 16). -/
def Obligations.CorePowerGood : Prop :=
  ∀ (s : State) (dt : Nat), s.power.coreEn = true → s.power.coreEnAt + 49152 ≤ s.clock + dt →
    let now := s.clock + dt
    let boot := s.peekNat bootCountAddr 4
    (s.mode = .reset → s.power.pfail = false →
      ∃ t, exec (.corePowerWaitEnd dt) s = .next t ∧ t.agrees { s with
        clock := now
        mode := .strapRead
        straps := { s.straps with startedAt := now }
        ash := { s.ash with nextSeq := s.ashHead }
        vault := { s.vault with bootCount := boot, runSeconds := s.peekNat runSecondsAddr 4 } }) ∧
    (s.mode = .reset → s.power.pfail = true →
      ∃ t payload, exec (.corePowerWaitEnd dt) s = .next t ∧ t.mode = .powerFail ∧ t.out.ready = false ∧
        t.out.health = some 720 ∧ t.ash.waiting = [] ∧ t.flue.queue = [] ∧ t.power.pfail = true ∧
        t.power.failAt = now ∧ t.ash.nextSeq = (s.ashHead + 1) % 2 ^ 32 ∧
        byteAt payload 0 = 1 ∧ fieldAt payload 2 2 = 0xFFFF ∧ payload.length = 9 ∧
        t.vault.failWrites = AshRec.writes ⟨3, (s.elapse dt).ts, payload⟩ s.ashHead boot ∧
        (Memory.wf s.mem →
          t.finishFail.peek (ashAddr (s.ashHead % 8192)) 64 = AshRec.bytes ⟨3, (s.elapse dt).ts, payload⟩ s.ashHead boot)) ∧
    (s.mode = .ember → s.power.waking = true →
      ∃ t, exec (.corePowerWaitEnd dt) s = .next t ∧ t.agrees { s with
        clock := now
        mode := .bist
        chans := s.chans.map (fun c => { c with bias := none })
        sync := { s.sync with shock := List.replicate 4 false, tach := List.replicate 4 none }
        flue := { s.flue with extraZero := true }
        volt := { s.volt with pipelines := [], blockReplays := 0, secondReplays := 0, secondAt := now } } ∧
        ∀ id, (t.volt.pipeline id).tap = 10)

/-- A power-fail trip (R72, R73, R126, R128, R253, R307, R370): POWER_FAIL from every state but RESET, with the acquisition
comparators off and no flash request left. In RUN the marked heartbeat is the only record left for `FLUE_TX`; in the other
states no record is left. What the MRAM controller had written of its writes in progress stands; what it still writes is
the rest of a commit that has begun, then the rest of an ash record that has begun, otherwise one power-fail record where
R73 says so. Model's choices: the heartbeat from RUN only, the ash records that are dropped, a write of no progress taken as
not begun, and the rows lost (log 16). -/
def Obligations.PowerFailTrips : Prop :=
  ∀ (s : State) (dt vsys : Nat) (temp : Int) (p : MramProgress),
    s.power.por = false → s.power.pfail = false → vsys ≤ 1000000 →
    let u : State := { s with clock := s.clock + dt }
    let own := s.mode = .run ∨ s.mode = .strapRead ∨ s.mode = .bist ∨ s.mode = .load
    let begun := s.mode = .run ∧ p.commitWords ≠ 0 ∧ s.vault.entries ≠ []
    let row := match s.vault.entries with
      | e :: _ => if s.mode = .run ∧ p.commitWords ≠ 0 ∧ e.kind ≠ 4 then e.row else 0xFFFF
      | [] => 0xFFFF
    let rest := match s.vault.entries with
      | [] => []
      | e :: _ =>
        if p.commitWords = 0 then []
        else if e.kind = 4 then (e.journalWrites s.vault.nextSeq s.vault.nextSlot).drop p.commitWords
        else (e.journalWrites s.vault.nextSeq s.vault.nextSlot ++ e.vaultWrites).drop p.commitWords
    ∃ t, exec (.powerFailTrip dt vsys temp p) s = .next t ∧
      t.power.pfail = true ∧ t.power.pfailTime = (s.clock + dt - s.tsStart) / 4 % 2 ^ 56 ∧ t.power.pfailOkSince = none ∧
      t.hearth = s.hearth ∧ t.learn = s.learn ∧ t.panel = s.panel ∧ t.volt = s.volt ∧ t.straps = s.straps ∧
      t.tap = s.tap ∧ t.ring = s.ring ∧ t.ticks = s.ticks ∧
      (s.mode = .reset ∨ s.mode = .powerFail →
        t.mode = s.mode ∧ t.mem = s.mem ∧ t.ash = s.ash ∧ t.vault = s.vault ∧ t.flue.queue = s.flue.queue) ∧
      (s.mode ≠ .reset → s.mode ≠ .powerFail →
        t.mode = .powerFail ∧ t.ash.waiting = [] ∧ t.power.waking = false ∧ t.power.sleepDue = false ∧
        t.power.failAt = s.clock + dt ∧ t.mem = (s.writeAll (u.cutWords p)).mem ∧
        t.chans = s.chans.map (fun c => { c with bias := none }) ∧
        t.sync = { s.sync with shock := List.replicate 4 false, tach := List.replicate 4 none } ∧
        t.lib = { s.lib with queue := [], serving := none } ∧
        t.out = { s.out with ready := false, health := some 720, led0 := t.out.led0, led1 := t.out.led1 } ∧
        (s.mode = .run → ∃ r, t.flue.queue = [r] ∧ r.type = 3 ∧ r.seq = s.flue.nextSeq ∧
          bitOf (byteAt r.payload 0) 0 = true) ∧
        (s.mode ≠ .run → t.flue.queue = []) ∧
        t.vault = { s.vault with
          entries := if p.commitWords = 0 then s.vault.entries else s.vault.entries.drop 1
          failWrites := t.vault.failWrites } ∧
        (p.ashWords = 0 ∨ s.ash.waiting = [] → own →
          t.ash.nextSeq = (s.ash.nextSeq + 1) % 2 ^ 32 ∧
          t.vault.failWrites = rest ++ AshRec.writes ⟨3, u.ts, u.powerFailPayload (stateNumber s.mode) row
            (s.rowsLost (if begun then 1 else 0))⟩ s.ash.nextSeq s.vault.bootCount) ∧
        (p.ashWords = 0 ∨ s.ash.waiting = [] → ¬own → t.vault.failWrites = rest ∧ t.ash.nextSeq = s.ash.nextSeq) ∧
        (∀ r l, p.ashWords ≠ 0 → s.ash.waiting = r :: l →
          t.ash.nextSeq = (s.ash.nextSeq + 1) % 2 ^ 32 ∧
          t.vault.failWrites = rest ++ (r.writes s.ash.nextSeq s.vault.bootCount).drop p.ashWords))

/-- The comparator re-arms at 1.050 V, with a record to the ash by the router that carries the time of the trip (R72, R123,
R135, R136). That this is the time of the latest trip is the model's choice (log 16), as is the evaluation that starts the
10 ms of R75 (log 59). -/
def Obligations.PowerFailRearms : Prop :=
  ∀ (s : State) (dt vsys : Nat) (temp : Int), s.power.por = false → s.power.pfail = true → 1050000 ≤ vsys →
    ∃ t, exec (.powerFailRearm dt vsys temp) s = .next t ∧ t.power.pfail = false ∧
      t.power.pfailOkSince = some (s.power.pfailOkSince.getD (s.clock + dt)) ∧ t.mode = s.mode ∧ t.mem = s.mem ∧
      t.vault = s.vault ∧ t.learn = s.learn ∧ t.ring = s.ring ∧ t.out.health = s.out.health ∧
      t.flue.queue = s.flue.queue ∧ t.ash = s.ash ∧
      (s.router.ash.length < 31 →
        ∃ e ∈ t.router.ash, e.type = 4 ∧ e.time = (s.elapse dt).ts ∧ e.payload = leBytes 7 s.power.pfailTime) ∧
      (32 ≤ s.router.ash.length → t.router.ash = s.router.ash ∧ s.router.ashDrops < t.router.ashDrops)

/-- The only way out of POWER_FAIL is RESET (R12, R75): every command leaves the device there or takes it to RESET; an
evaluation below 1.050 V ends the 10 ms, and once they have passed the recovery enters RESET as `RESET_N` would, with the
words of the power-fail sequence written (R73) and the rest of the MRAM kept. That an evaluation between the two thresholds
comes as this row, and clears the 10 ms, is the model's choice (log 59), as are the cause (log 15) and what RESET keeps
(log 14). -/
def Obligations.PowerFailLeft : Prop :=
  (∀ (c : Instr) (s t : State), s.mode = .powerFail → exec c s = .next t → t.mode = .powerFail ∨ t.mode = .reset) ∧
  (∀ (s : State) (dt vsys : Nat) (temp : Int) (p : MramProgress), s.mode = .powerFail → s.power.por = false →
    s.power.pfail = false → 1000000 < vsys →
    ∃ t, exec (.powerFailTrip dt vsys temp p) s = .next t ∧ t.mode = .powerFail ∧
      t.power.pfailOkSince =
        (if vsys < 1050000 then none else some (s.power.pfailOkSince.getD (s.clock + dt)))) ∧
  (∀ (s : State) (dt since : Nat), s.mode = .powerFail → s.power.pfail = false → s.power.pfailOkSince = some since →
    since + 245760 ≤ s.clock + dt →
    ∃ t, exec (.powerFailRecovery dt) s = .next t ∧ t.clock = s.clock + dt ∧ s.entersReset t 2 ∧
      ∀ a, mramBase ≤ a → Memory.read t.mem a = Memory.read (s.writeAll s.vault.failWrites).mem a ∧
        errorsAt t.ecc a = errorsAt (s.writeAll s.vault.failWrites).ecc a)

/-! ### Straps and the ash dump -/

/-- STRAP_READ (R27, R29 to R32, R44 to R48, R62, R63, R79, R82, R126): a measurement, 140 µs after the one before it, adds the
sum of its eight codes to the 45, and `TEST_N` and `ASHDUMP_N` are sampled at the start of each pass of 15. At its end the
straps are decoded, the boot count steps, the echo and boot records go to the ash and, as sequences 0 and 1, to the flue, and
CONFIG_FAULT, the dump or BIST follows. The 140 µs rounded up to whole timebase periods are the model's choice (log 7). -/
def Obligations.StrapsRead : Prop :=
  (∀ (s : State) (dt : Nat) (codes : Codes) (testN ashdumpN : Bool),
      s.mode = .strapRead → s.straps.ended = false → s.straps.sums.length < 45 →
      (s.straps.startedAt + (344064 * (s.straps.sums.length + 1) + 99) / 100 ≤ s.clock + dt →
        ∃ t, exec (.strapMeasurement dt codes testN ashdumpN) s = .next t ∧ t.agrees { s with
          clock := s.clock + dt
          straps := { s.straps with
            sums := (codes[0].toNat + codes[1].toNat + codes[2].toNat + codes[3].toNat + codes[4].toNat +
              codes[5].toNat + codes[6].toNat + codes[7].toNat) :: s.straps.sums
            testLow := if s.straps.sums.length % 15 = 0 then (!testN) :: s.straps.testLow else s.straps.testLow
            dumpLow := if s.straps.sums.length % 15 = 0 then (!ashdumpN) :: s.straps.dumpLow else s.straps.dumpLow } }) ∧
      (s.clock + dt < s.straps.startedAt + (344064 * (s.straps.sums.length + 1) + 99) / 100 →
        exec (.strapMeasurement dt codes testN ashdumpN) s = .next { s with clock := s.clock + dt })) ∧
  ∀ (s : State) (dt : Nat), s.mode = .strapRead → s.straps.ended = false → s.straps.sums.length = 45 →
    let verdict := s.strapVerdict s.straps
    let count := min 0xFFFFFF (s.vault.bootCount + 1)
    ∃ t, exec (.strapReadEnd dt) s = .next t ∧
      t.straps = s.straps.decode verdict.2 ∧
      t.mode = (if verdict.2 ≠ 0 then .configFault else if t.straps.dumpRequested then .strapRead else .bist) ∧
      t.panel = { s.panel with label := (s.straps.level 2 13).getD 0 } ∧
      t.vault = { s.vault with bootCount := count } ∧
      t.ash = { s.ash with waiting := s.ash.waiting ++
        [⟨2, (s.elapse dt).ts, t.straps.echoAsh verdict.1⟩, ⟨1, (s.elapse dt).ts, t.bootPayload⟩] } ∧
      (s.flue.queue = [] → s.flue.gapOwed = false → s.flue.nextSeq = 0 → ∃ echo boot, t.flue.queue = [echo, boot] ∧
        echo.type = 2 ∧ echo.seq = 0 ∧ echo.payload = t.straps.echoPayload verdict.1 ∧
        boot.type = 1 ∧ boot.seq = 1 ∧ boot.payload = t.bootPayload) ∧
      t.out = { s.out with fault := s.out.fault || decide (verdict.2 ≠ 0), ready := t.out.ready, alert := t.out.alert,
                           alarm := t.out.alarm, health := t.out.health, led0 := t.out.led0, led1 := t.out.led1 } ∧
      (verdict.2 ≠ 0 → t.out.ready = false ∧ t.out.alert = false ∧ t.out.alarm = false ∧ t.out.health = some 720) ∧
      (t.mode = .bist →
        t.volt = { s.volt with pipelines := [], blockReplays := 0, secondReplays := 0, secondAt := s.clock + dt } ∧
        t.chans = s.chans.map (fun c => { c with bias := none }) ∧
        t.sync = { s.sync with shock := List.replicate 4 false, tach := List.replicate 4 none }) ∧
      (t.mode ≠ .bist → t.volt = s.volt ∧ t.chans = s.chans ∧ t.sync = s.sync) ∧
      (∀ x, x < bootCountAddr ∨ bootCountAddr + 8 ≤ x → Memory.read t.mem x = Memory.read s.mem x) ∧
      (∀ w, w + 8 ≤ bootCountAddr ∨ bootCountAddr + 8 ≤ w →
        errorsAt t.ecc w = errorsAt s.ecc w ∨ (s.recordSpace w = true ∧ errorsAt t.ecc w = 0)) ∧
      (Memory.wf s.mem → t.peekNat bootCountAddr 8 = count) ∧
      t.power = s.power ∧ t.learn = s.learn ∧ t.lib = s.lib ∧ t.ring = s.ring ∧ t.router = s.router ∧ t.tap = s.tap

/-- What each strap gives at the end of STRAP_READ, field by field (R33 to R43, R47), with `code i` the decoded level of
`CFGi`; a reserved code of `CFG2`, `CFG4`, `CFG8` or `CFG9` leads to CONFIG_FAULT, and a `CFG10` that fails to decode to
the fallback of the flue. -/
def Obligations.StrapSettings : Prop :=
  ∀ (s : State) (dt : Nat), s.mode = .strapRead → s.straps.ended = false → s.straps.sums.length = 45 →
    let code (i : Nat) := (s.straps.level 2 (i + 1)).getD 0
    let bit (i b : Nat) : Bool := decide (code i / 2 ^ b % 2 = 1)
    let hour := 22118400000
    ∃ t, exec (.strapReadEnd dt) s = .next t ∧ (∀ i, code i ≤ 15) ∧
      t.ringId = 16 * code 0 + code 1 ∧
      (code 2 < 14 →
        t.enabled = t.chans.take ([1, 2, 3, 4, 6, 8, 10, 12, 14, 16, 20, 24, 28, 32].getD (code 2) 0)) ∧
      t.period * [24000, 48000, 96000, 192000].getD (code 3 / 4) 0 = 6144000 ∧ t.loadOn = bit 3 1 ∧
      t.voltageMode = bit 3 0 ∧
      (code 4 < 12 → t.syncMode = [.free, .boundary, .hardAlign].getD (code 4 / 4) .free) ∧
      t.lMax = [1024, 2048, 4096, 8192].getD (code 4 % 4) 0 ∧
      t.edgesPerBoundary = [1, 2, 4, 8].getD (code 5 / 4) 0 ∧ t.edgesPerRev = [1, 2, 4, 8].getD (code 5 % 4) 0 ∧
      t.kindlingCounts = (if code 6 = 15 then none else
        some (hour * [0, 1, 2, 4, 8, 12, 24, 48, 72, 96, 168, 336, 500, 720, 1000].getD (code 6) 0)) ∧
      t.alertLevel = [450, 450, 500, 500, 500, 550, 550, 600, 600, 650, 650, 700, 700, 750, 800, 600].getD (code 7) 0 ∧
      t.alarmLevel =
        [650, 700, 700, 750, 750, 800, 800, 850, 850, 900, 900, 950, 950, 1000, 1000, 900].getD (code 7) 0 ∧
      t.persistence = [2, 3, 3, 3, 5, 3, 5, 3, 5, 4, 6, 4, 6, 5, 7, 4].getD (code 7) 0 ∧
      t.profile = code 8 / 4 ∧ t.libDeclared = bit 8 1 ∧ t.imageAuth = bit 8 0 ∧
      t.ringOn = decide (8 ≤ code 9) ∧
      (8 ≤ code 9 → t.ringFast = bit 9 2 ∧ t.collector = bit 9 1 ∧ t.ringAuth = bit 9 0) ∧
      (14 ≤ code 2 ∨ 12 ≤ code 4 ∨ code 8 % 4 = 1 ∨ (1 ≤ code 9 ∧ code 9 ≤ 7) → t.mode = .configFault) ∧
      (∀ k ∈ [1, 2, 4, 6, 7, 8, 11, 12], s.straps.status k ≠ 2) ∧
      (s.straps.status 11 = 0 → t.alarmsOnly = bit 10 0 ∧
        t.baud = [115200, 230400, 460800, 921600, 1000000, 1500000, 2000000, 4000000].getD (code 10 / 2) 0) ∧
      (s.straps.status 11 ≠ 0 → t.mode = .configFault ∧ t.baud = 115200 ∧ t.alarmsOnly = false) ∧
      t.scaling = bit 11 3 ∧
      (t.sleepState, t.idleSeconds, t.spotSeconds) =
        [(none, 0, none), (some .banked, 60, none), (some .banked, 60, some 900), (some .banked, 600, some 3600),
         (some .ember, 600, none), (some .ember, 600, some 3600), (some .ember, 3600, some 14400),
         (some .ember, 3600, some 86400)].getD (code 11 % 8) (none, 0, none)

/-- The ash dump (R48, R62, R79, R82, R126, R246, R294): it starts at the oldest index once the echo and boot records are
written, in STRAP_READ or CONFIG_FAULT, and when the last stop bit of its end record has been sent BIST starts or
CONFIG_FAULT holds. That it runs in CONFIG_FAULT too as a state of its own, and starts only once no ash record waits, is
the model's choice (log 22). -/
def Obligations.AshDump : Prop :=
  ∀ (s : State) (dt : Nat), s.mode = .strapRead ∨ s.mode = .configFault →
    let closing : Straps := { s.straps with dumping := false, dumpRequested := false }
    let sent := s.straps.dumping = true ∧ s.straps.dumpEndQueued = true ∧ (∀ r ∈ s.flue.queue, r.type ≠ 0x0C) ∧
      s.flue.busyUntil ≤ s.clock + dt
    (s.straps.ended = true → s.straps.dumpRequested = true → s.straps.dumping = false →
      s.straps.dumpEndQueued = false → s.ash.waiting = [] →
      ∃ t, exec (.ashDumpStart dt) s = .next t ∧ t.agrees { s with
        clock := s.clock + dt
        straps := { s.straps with dumping := true, dumpFirst := s.ash.nextSeq % 8192 } }) ∧
    (sent → s.mode = .configFault → ∃ t, exec (.ashDumpEnd dt) s = .next t ∧ t.agrees { s with
      clock := s.clock + dt, straps := closing }) ∧
    (sent → s.mode = .strapRead → ∃ t, exec (.ashDumpEnd dt) s = .next t ∧ t.agrees { s with
      clock := s.clock + dt
      mode := .bist
      straps := closing
      chans := s.chans.map (fun c => { c with bias := none })
      sync := { s.sync with shock := List.replicate 4 false, tach := List.replicate 4 none }
      flue := { s.flue with extraZero := s.flue.extraZero || s.power.waking }
      volt := { s.volt with pipelines := [], blockReplays := 0, secondReplays := 0, secondAt := s.clock + dt } })

/-! ### BIST and LOAD -/

/-- BIST ends (R62, R64, R270 to R273, R282, R284, R303). A faulty column takes a spare of its sub-array, of which there are
four, the fused ones first; what no spare repairs retires its bank. FAULT when more than eight banks are retired, when
another SRAM region keeps a fault, or when the persistent state reads uncorrectable, with one fault record to the ash; else
LOAD: the later valid journal entry is applied again, every learned row that the vault holds is restored, with the segments
whose vault words read uncorrectable erased, every other one is left invalid, and the library load begins. Model's choices:
the findings as operands and the order in which spares go (log 12), the plan of a wake's library load (log 23), SRAM that
reads 0 after the test (log 3). -/
def Obligations.BistEnds : Prop :=
  ∀ (s : State) (dt : Nat) (found : BistFindings), s.mode = .bist → bistForm found = true →
    let fixed := (s.repairFaults found.faults).1
    let spent (a : SubArray) := (fixed.fused ++ fixed.added).countP (fun x => decide (x.1 = a))
    let stays (f : ArrayFault) : Bool := match f.column with
      | none => true
      | some c => !(fixed.fused ++ fixed.added).contains (f.sub, c)
    let banks := ((found.faults.filter stays).filterMap faultBank).dedup
    let others := found.faults.filter (fun f => stays f && (faultBank f).isNone)
    let mram : State := State.upset { s with mem := mramOnly s.mem, ecc := mramErrors s.ecc }
      (found.upsets.filter (fun u => decide (mramBase ≤ u.addr)))
    let retires (t : State) : Prop := t.repairs = fixed ∧ t.hearth.retired.Pairwise (· < ·) ∧
      ∀ b, b ∈ t.hearth.retired ↔ b ∈ banks
    let toFault (cause : Nat) : Prop := ∃ t, exec (.bistComplete dt found) s = .next t ∧ t.mode = .fault ∧ retires t ∧
      t.out = { s.out with ready := false, alert := false, alarm := false, fault := true, health := some 720,
                           led0 := t.out.led0, led1 := t.out.led1 } ∧
      ∃ before r, t.ash.waiting = before ++ [r] ∧ r.type = 0x0D ∧ byteAt r.payload 0 = cause ∧
        byteAt r.payload 1 = min 255 banks.length
    (fixed.fused = s.repairs.fused ∧ (∀ x ∈ fixed.added, ∃ f ∈ found.faults, f.sub = x.1 ∧ f.column = some x.2) ∧
      (∀ a, spent a ≤ max 4 (fixed.fused.countP (fun x => decide (x.1 = a)))) ∧
      (∀ f ∈ found.faults, stays f = true → f.column ≠ none → 4 ≤ spent f.sub)) ∧
    (8 < banks.length → toFault 1) ∧
    (banks.length ≤ 8 → others ≠ [] → toFault 2) ∧
    (banks.length ≤ 8 → others = [] → mram.persistFailure.isSome = true → toFault 3) ∧
    (banks.length ≤ 8 → others = [] → mram.persistFailure = none →
      ∃ t, exec (.bistComplete dt found) s = .next t ∧ t.mode = .load ∧ t.out.ready = s.out.ready ∧ retires t ∧
        t.lib.accepted = false ∧ t.lib.stage = (if s.libDeclared then .header else .over) ∧
        t.lib.built = !s.libDeclared ∧
        (s.libDeclared = true →
          t.flash = [{ code := 0xAB, wait := 100 }, { code := 0x03, addr := some 0, length := 256 }]) ∧
        (s.libDeclared = false → t.flash = s.flash) ∧
        (mram.laterSlot = none → t.vault.nextSeq = 0 ∧ t.vault.nextSlot = 0) ∧
        (∀ k, mram.laterSlot = some k →
          t.vault.nextSeq = (mram.slotSeqOf k + 1) % 2 ^ 32 ∧ t.vault.nextSlot = 1 - k ∧
          (Memory.wf s.mem → (mram.slotEntry k).kind = 1 → 8192 ≤ (mram.slotEntry k).row →
            (mram.slotEntry k).row < 16384 →
            t.vaultTag (mram.slotEntry k).row = (mram.slotEntry k).tag ∧
            t.peek (vaultAddr (mram.slotEntry k).row) 1024 = hvBytes (mram.slotEntry k).data)) ∧
        (Memory.wf s.mem → Errors.wf s.ecc → ∀ r, 8192 ≤ r → r < 16384 → r / 64 ∉ t.hearth.retired →
          let lost (g : Nat) : Bool := decide (3 ≤ errorsAt t.ecc (vaultAddr r + 8 * g))
          let read (a n : Nat) : Prop := ∀ w, a ≤ w → w < a + n → errorsAt t.ecc w < 3
          let held := read (vaultTagAddr r) 32 ∧ (t.vaultTag r).valid = true ∧ (t.vaultTag r).spent = false ∧
            (t.vaultTag r).cls.toNat = s.partition r
          (held → { t.tag r with erased := 0, spent := false } = { t.vaultTag r with erased := 0 } ∧
            (∀ g, g < 128 → (t.tag r).erased.getLsbD g = ((t.vaultTag r).erased.getLsbD g || lost g)) ∧
            (t.tag r).spent = decide (32 < (t.tag r).erasures) ∧
            t.row r = BitVec.ofNat 8192 (t.peekNat (vaultAddr r) 1024) ∧
            ((∃ g, g < 128 ∧ lost g = true) → ∃ d ∈ t.vault.dirty, d.row = r ∧ d.tag = true)) ∧
          (¬held → (t.tag r).valid = false)))

/-- The header of a library image (R299, R303 to R306): the checks of R305 in their order, each with the cause and the
address of its field. A header that passes them all is taken over and the body is read with its command and clock; the
first check that fails refuses the image. The address of a check is the model's choice where R306 leaves it open
(log 17). -/
def Obligations.LibraryHeader : Prop :=
  ∀ (s : State) (dt : Nat) (h : List Byte), s.mode = .load → s.lib.stage = .header → h.length = 256 →
    let field (a n : Nat) := leNat ((h.drop a).take n)
    let mac : Bool := decide ((h.drop 224).take 32 = hmacSha256 s.tap.image.bytes (h.take 224))
    let bad := firstFailed
      [(decide (h.take 4 = [0x53#8, 0x4C#8, 0x36#8, 0x34#8]), 1, 0),
       (decide (field 220 4 = (crc32 (h.take 220)).toNat), 2, 220), (decide (field 4 2 = 1), 3, 4),
       (decide (field 6 1 ∈ [0x03, 0x0B, 0x6B]), 3, 6), (decide (field 7 1 ≤ 2), 3, 7),
       (decide (1 ≤ field 9 1) && decide (field 9 1 ≤ 100), 3, 9),
       (decide (1 ≤ field 10 1) && decide (field 10 1 ≤ 4), 3, 10), (decide (field 24 2 ≤ 8192), 3, 24),
       (decide (field 28 4 = 2048 + 1064 * field 24 2), 3, 28),
       (!s.imageAuth || decide (field 8 1 / 2 % 2 = 1), 4, 8), (!s.imageAuth || mac, 4, 224)]
    (bad = none →
      ∃ t, exec (.libraryHeaderReadComplete dt h) s = .next t ∧ t.agrees { s with
        clock := s.clock + dt
        lib := { s.lib with
          stage := .body 0
          header := {
            rdcmd := field 6 1, clk := field 7 1, flags := field 8 1, tres := field 9 1, depth := field 10 1
            mclass := field 11 1, build := field 12 4, seed := field 16 8, nrows := field 24 2
            digest := (h.drop 32).take 32 }
          sha := Sha.start }
        flash := [{ code := field 6 1, addr := some 0x100, clk := field 7 1, length := 2048 + 1064 * field 24 2 }] }) ∧
    (∀ cause addr, bad = some (cause, addr) →
      ∃ t, exec (.libraryHeaderReadComplete dt h) s = .next t ∧ t.clock = s.clock + dt ∧ s.refusesImage t cause addr)

/-- An item of the body (R300 to R303, R305, R306): its CRC, then its content, by address. A good band plan is kept, a good
record is counted and written to its row, not yet valid, when that is a library row in no retired bank; the first check that
fails refuses the image. Which field of a quantisation pair fails, and the bytes of a tag's fields, are the model's choice (log
17). The empty tag of a row whose record is not valid is the model's choice (log 70). -/
def Obligations.LibraryItem : Prop :=
  ∀ (s : State) (dt : Nat) (it : List Byte), s.mode = .load →
    let field (a n : Nat) := leNat ((it.drop a).take n)
    let int (a : Nat) : Int := (BitVec.ofNat 32 (field a 4)).toInt
    let badPlan := firstFailed
      ([(decide (field 2044 4 = (crc32 (it.take 2044)).toNat), 6, 0x8FC), (decide (field 0 1 ≤ 1), 5, 0x100),
        (decide (field 1 1 ≤ 2), 5, 0x101)] ++
       (List.range 224).map (fun i => (decide (field (16 + 4 * i) 4 ≤ 65536), 5, 0x110 + 4 * i)) ++
       (List.range 128).map (fun f => (decide (int (912 + 8 * f) < int (916 + 8 * f)), 5, 0x494 + 8 * f)))
    let tag := Tag.ofNat (field 1024 32)
    let badRecord (k : Nat) := firstFailed
      [(decide (field 1056 4 = (crc32 (it.take 1056)).toNat), 6, 0x900 + 1064 * k + 1056),
       (!tag.valid || decide (tag.scope.toNat ≤ 32) || decide (tag.scope.toNat = 63), 5, 0x900 + 1064 * k + 1040),
       (!tag.valid || decide (tag.severity ≠ 3), 5, 0x900 + 1064 * k + 1042)]
    (s.lib.stage = .body 0 → it.length = 2048 →
      (badPlan = none → ∃ t, exec (.libraryItemReceived dt it) s = .next t ∧ t.agrees { s with
        clock := s.clock + dt, lib := { s.lib with stage := .body 1, plan := it, sha := s.lib.sha.feed it } }) ∧
      (∀ cause addr, badPlan = some (cause, addr) →
        ∃ t, exec (.libraryItemReceived dt it) s = .next t ∧ t.clock = s.clock + dt ∧ s.refusesImage t cause addr)) ∧
    (∀ k, s.lib.stage = .body (k + 1) → k + 1 ≤ s.lib.header.nrows → it.length = 1064 →
      (badRecord k = none →
        ∃ t, exec (.libraryItemReceived dt it) s = .next t ∧
          t.agrees { s with
            clock := s.clock + dt, mem := t.mem, ecc := t.ecc
            lib := { s.lib with
              stage := .body (k + 2), sha := s.lib.sha.feed it
              rows := if tag.valid = true ∧ k < s.libraryRows ∧ k / 64 ∉ s.hearth.retired then s.lib.rows ++ [k]
                else s.lib.rows } } ∧
          (k < s.libraryRows → k / 64 ∉ s.hearth.retired → Memory.wf s.mem →
            t.row k = hvOfBytes (it.take 1024) ∧
            t.tag k = (if tag.valid then { tag with
              erased := 0, cls := 0, valid := false, spent := false, hits := 0, gen := 0, originId := 0
              originSlot := 0 } else {}) ∧
            ∀ a, a < 1024 * k ∨ 1024 * k + 1024 ≤ a → a < 0x01000000 + 32 * k ∨ 0x01000000 + 32 * k + 32 ≤ a →
              Memory.read t.mem a = Memory.read s.mem a) ∧
          (s.libraryRows ≤ k ∨ k / 64 ∈ s.hearth.retired → t.mem = s.mem ∧ t.ecc = s.ecc)) ∧
      (∀ cause addr, badRecord k = some (cause, addr) →
        ∃ t, exec (.libraryItemReceived dt it) s = .next t ∧ t.clock = s.clock + dt ∧ s.refusesImage t cause addr))

/-- The body is complete (R172, R178, R303, R305, R306): with the digest of the header the image is accepted, its plan is
stored and the rows of its valid records become valid; with another digest it is refused with cause 6 at `hdr.digest`. -/
def Obligations.LibraryBody : Prop :=
  ∀ (s : State) (dt : Nat), s.mode = .load → s.lib.stage = .body (s.lib.header.nrows + 1) →
    (s.lib.sha.digest = s.lib.header.digest →
      ∃ t, exec (.libraryBodyComplete dt) s = .next t ∧ t.mode = .load ∧ t.lib = { s.lib with
        stage := .over, accepted := true, planBuiltIn := false, plan := [], built := true, rebuilding := false
        seed := if s.lib.header.seed = 0 then 0x9E3779B97F4A7C15 else s.lib.header.seed
        asleep := bitOf s.lib.header.flags 0 } ∧
        t.flash = s.flash ++ (if bitOf s.lib.header.flags 0 then [{ code := 0xB9 }] else []) ∧
        (Memory.wf s.mem → (∀ r ∈ s.lib.rows, r < 8192 → t.tag r = { s.tag r with valid := true } ∧ t.row r = s.row r) ∧
          (∀ r, r < 8192 → r ∉ s.lib.rows → (∀ x ∈ s.lib.rows, x < 8192) → t.tag r = s.tag r ∧ t.row r = s.row r) ∧
          (s.lib.plan.length = 2048 → t.plan = some s.lib.plan))) ∧
    (s.lib.sha.digest ≠ s.lib.header.digest →
      ∃ t, exec (.libraryBodyComplete dt) s = .next t ∧ t.clock = s.clock + dt ∧ s.refusesImage t 6 0x20)

/-- RUN is entered (R20, R49, R52, R62, R64, R71, R89, R90, R114, R131, R142, R248, R339): from LOAD with every enabled channel
valid, or in a wake from EMBER with the channels as they were held; and from BANKED with an empty fleet partition. Model's
choices: the first heartbeat 1 s after the entry (log 52), 24 settling outputs in every sync mode (log 30), what the ports, the
queues and the wake mask hold (log 28), and the first reading of `LABEL` and the first census, timed from the entry (log 41). So
is the rounding of times to whole timebase periods (log 7). -/
def Obligations.RunEntered : Prop :=
  ∀ (s : State) (dt : Nat),
    (s.mode = .load → s.lib.stage = .over → s.lib.built = true →
      ∃ t, exec (.loadComplete dt) s = .next t ∧ t.clock = s.clock + dt ∧ s.entersRun t ∧ t.learn.accums = [] ∧
        t.fleet.e2e = s.vault.e2eMark ∧ t.vault = { s.vault with e2eMark := (s.vault.e2eMark + 1024) % 65536 } ∧
        t.flue.wakeMask = (if s.power.waking then some s.power.wakeMask else none) ∧
        (s.power.waking = false → ∀ c, c < s.channels →
          (t.chans.getD c {}).status = (if s.voltageMode then 2 else 1) ∧ (t.chans.getD c {}).page = some (2 * c)) ∧
        (s.power.waking = true → t.chans.map Chan.status = s.chans.map Chan.status)) ∧
    (s.mode = .banked → s.power.waking = true → s.power.vset = 2 → s.power.vsetAt + 2458 ≤ s.clock + dt →
      ∃ t, exec (.bankedWakeComplete dt) s = .next t ∧ t.clock = s.clock + dt ∧ s.entersRun t ∧
        t.flue.wakeMask = some s.power.wakeMask ∧ t.power.spotRun = decide (s.power.wakeMask = 8) ∧
        t.learn.accums = s.learn.accums ∧ t.vault = s.vault ∧ t.chans.map Chan.status = s.chans.map Chan.status ∧
        (Memory.wf s.mem → ∀ r, r < 16384 → s.partition r = 3 → (t.tag r).valid = false))

/-! ### Sleep and wake -/

/-- The timers and requests of sleep (R55, R65, R69 to R71, R132, R133): the idle timer and the 16 idle ticks after a spot
wake begin sleep entry; the spot-wake interval latches a request, as a further source where one was latched in the same
timebase period; a latched request starts the wake from BANKED at the steps of `VSET`, and from EMBER at `CORE_EN`, once it
has been released for 10 ms. A timebase period as one evaluation of the wake logic is the model's choice (log 28). -/
def Obligations.SleepTimers : Prop :=
  ∀ (s : State) (dt : Nat),
    let now := s.clock + dt
    (s.mode = .run → s.sleepState ≠ none → s.power.sleepDue = false →
      s.idleSeconds * 24576000 ≤ s.power.idle.read now →
      ∃ t, exec (.idleTimerExpiry dt) s = .next t ∧
        t.agrees { s with clock := now, power := { s.power with sleepDue := true } }) ∧
    (s.mode = .run → s.sleepState ≠ none → s.power.sleepDue = false → s.power.spotRun = true →
      16 ≤ s.power.spotTicks →
      ∃ t, exec (.spotWakeResleep dt) s = .next t ∧
        t.agrees { s with clock := now, power := { s.power with sleepDue := true, spotRun := false } }) ∧
    (∀ n, s.mode = .banked ∨ s.mode = .ember → s.spotSeconds = some n → s.power.sleepAt + n * 24576000 ≤ now →
      (s.power.wakeMask = 0 → s.power.waking = false →
        ∃ t, exec (.spotWakeTimerExpiry dt) s = .next t ∧
          t.agrees { s with clock := now, power := { s.power with wakeMask := 8, wakeAt := now } }) ∧
      (s.power.wakeMask ≠ 0 → s.power.wakeAt = now →
        ∃ t, exec (.spotWakeTimerExpiry dt) s = .next t ∧
          t.agrees { s with clock := now, power := { s.power with wakeMask := s.power.wakeMask ||| 8 } }) ∧
      (s.power.wakeMask ≠ 0 → s.power.wakeAt ≠ now →
        exec (.spotWakeTimerExpiry dt) s = .next { s with clock := now })) ∧
    (s.mode = .banked → s.power.wakeMask ≠ 0 → s.power.waking = false →
      ∃ t, exec (.bankedWake dt) s = .next t ∧
        t.agrees { s with clock := now, power := { s.power with waking := true, vsetTarget := 2 } }) ∧
    (s.mode = .ember → s.power.wakeMask ≠ 0 → s.power.waking = false → s.power.coreEn = false →
      s.power.releaseWait = false →
      ∃ t, exec (.emberWake dt) s = .next t ∧
        t.agrees { s with clock := now, power := { s.power with waking := true, coreEn := true, coreEnAt := now } })

/-- Sleep is entered (R56, R66 to R68, R126, R241, R253, R279): into BANKED, where the rows, the accumulators, the alarm
state and the report queue survive and `VSET` is to go to code 7, or into EMBER. There every accumulator with admissions is
committed, every dirty row is mirrored to the vault and the running time and the kindling counters are written; then the
SRAM and the queue are lost, and `CORE_EN` is released at code 2, at once or as `VSET` comes there. A teach that is
collecting is abandoned. What of the work in progress sleep entry drops, the wait for an accepted rekindle and the steps of
`VSET` before `CORE_EN` are the model's choice (log 28), as is SRAM that reads 0 (log 3). -/
def Obligations.SleepEntered : Prop :=
  ∀ (s : State) (dt : Nat) (us : List Upset),
    upsetForm us = true → s.mode = .run → s.power.sleepDue = true → s.volt.pauseAt = none →
    s.ticks.all Tick.inHoldback = true → s.learn.writes = [] → s.commitWaits = none → s.panel.rekindleDue = false →
    s.vault.entries = [] → s.fleet.queries = [] →
    let slept (t : State) : Prop := t.out.ready = false ∧ t.out.alert = s.out.alert ∧ t.out.alarm = s.out.alarm ∧
      t.out.fault = s.out.fault ∧ t.out.health = s.out.health ∧ t.ticks = [] ∧ t.pages = [] ∧ t.cross = {} ∧
      t.learn.teach = none ∧ t.hearth.inFlight = [] ∧ t.power.sleepAt = s.clock + dt ∧ t.power.wakeMask = 0 ∧
      t.power.waking = false ∧ t.power.running.since = none ∧ t.ring.portA.up = false ∧ t.ring.portB.up = false ∧
      t.learn.levels = s.learn.levels ∧ t.straps = s.straps ∧ t.flue.busyUntil = 0 ∧
      t.sync.tach = s.sync.tach.take 1 ++ List.replicate 3 none ∧ t.power.vset = s.power.vset
    (s.sleepState = some .banked →
      ∃ t, exec (.sleepEntry dt us) s = .next t ∧ t.mode = .banked ∧ slept t ∧ t.power.vsetTarget = 7 ∧
        t.power.coreEn = s.power.coreEn ∧ t.learn.accums = s.learn.accums ∧
        t.learn.kindling = s.learn.kindling ∧ (∀ a, a < e2eMarkAddr → Memory.read t.mem a = Memory.read s.mem a) ∧
        (s.learn.teach = none → t.flue.queue = s.flue.queue ∧ t.mem = s.mem)) ∧
    (s.sleepState = some .ember →
      let u := (((((s.elapse dt).upset us).abandonTeach 6).abandonRecovery).stopWork).commitOpen
      ∃ t, exec (.sleepEntry dt us) s = .next t ∧ t.mode = .ember ∧ slept t ∧ t.power.vsetTarget = 2 ∧
        (s.power.vset = 2 → t.power.coreEn = false ∧ t.power.coreEnAt = s.clock + dt ∧ t.power.releaseWait = true) ∧
        (s.power.vset ≠ 2 → t.power.coreEn = s.power.coreEn ∧ t.power.coreEnAt = s.power.coreEnAt) ∧
        t.flue.queue = [] ∧ t.learn.accums = [] ∧ t.vault.dirty = [] ∧ t.repairs = { fused := s.repairs.fused } ∧
        (∀ a, a < mramBase → Memory.read t.mem a = 0) ∧
        (∀ x ∈ u.learn.accums, x.idx < 512 → x.k = 0) ∧
        (Memory.wf s.mem →
          t.peekNat runSecondsAddr 8 = (s.elapse dt).runSeconds % 2 ^ 64 ∧
          (Errors.wf s.learn.kindling → ∀ c, c < 4224 →
            t.peekNat (kindlingAddr c) 8 = sparse s.learn.kindling c % 2 ^ 64) ∧
          (s.vault.nextSlot ≤ 1 → (∀ e ∈ u.ecc, e.1 < mramBase → e.2 < 2) → ∀ r d, 8192 ≤ r → r < 16384 →
            u.vault.dirty.find? (fun d => decide (d.row = r)) = some d →
            ((u.tag r).valid = true ∧ (u.tag r).spent = false → t.vaultTag r = u.tag r ∧ (d.data = true →
              t.peek (vaultAddr r) 1024 = hvBytes (u.row r &&& ~~~(erasedMask (u.tag r))))) ∧
            ((u.tag r).valid = false ∨ (u.tag r).spent = true → t.vaultTag r = { cls := (u.tag r).cls }))))

/-! ### Voltage -/

/-- Each change of `VSET` (R56, R67 to R69, R86, R92, R93, R96, R154, R215, R264, R323): one code at a time, 100 µs apart; a
step up in RUN starts the pause, in which ack timers stand still and recalls in progress lose the guard, and the holdoff of 60
s. At its end the smoulder and a scan that had not ended go on, freed pages are free, and what the crossing buffers hold is
taken up. On the way into EMBER `CORE_EN` is released as code 2 is reached. That one step answers every condition that has
occurred by then is the model's choice (log 66). So is the rounding of the 100 µs to whole timebase periods (log 7). -/
def Obligations.VoltageSteps : Prop :=
  ∀ (s : State) (dt handshakes : Nat),
    let now := s.clock + dt
    let freeze (p : LinkPort) : LinkPort := { p with timer := { acc := p.timer.read now, since := none } }
    let loose (code : Nat) : List (Option ArrayJob) :=
      if 3 ≤ code then s.arrays.map (fun j => j.map (fun j => { j with loose := true })) else s.arrays
    let drive (code : Nat) : Power := { s.power with vset := code, vsetTarget := code, vsetAt := now }
    let up : State := { s with
      clock := now
      power := drive (s.power.vset - 1)
      arrays := loose (s.power.vset - 1)
      volt := { s.volt with
        lowest := min s.volt.lowest (s.power.vset - 1), windowAt := now, windowReplays := 0, pauseAt := some now,
        stepUpDue := false, holdoffAt := some now }
      hearth := { s.hearth with inFlight := s.hearth.inFlight.map (fun q => { q with paused := true }) }
      ring := { s.ring with portA := freeze s.ring.portA, portB := freeze s.ring.portB } }
    (s.mode = .run → s.power.vsetTarget < s.power.vset → s.power.vsetAt + 2458 ≤ now →
      ∃ t, exec (.vsetStep dt) s = .next t ∧ t.agrees up) ∧
    (s.mode = .banked ∨ s.mode = .ember → s.power.vset ≠ s.power.vsetTarget → s.power.vsetAt + 2458 ≤ now →
      let code := if s.power.vset < s.power.vsetTarget then s.power.vset + 1 else s.power.vset - 1
      let stepped : Power := { s.power with vset := code, vsetAt := now }
      ∃ t, exec (.vsetStep dt) s = .next t ∧ t.agrees { s with
        clock := now
        power := if s.mode = .ember ∧ code = s.power.vsetTarget then
            { stepped with coreEn := false, coreEnAt := now, releaseWait := true }
          else stepped
        arrays := loose code }) ∧
    (now < s.power.vsetAt + 2458 → exec (.vsetStep dt) s = .next { s with clock := now }) ∧
    (s.mode = .run → s.scaling = true → s.volt.stepUpDue = true → 0 < s.power.vset → s.power.vsetTarget = s.power.vset →
      ∃ t, exec (.stepUp dt) s = .next t ∧ t.agrees (if s.power.vsetAt + 2458 ≤ now then up else { s with
        clock := now
        power := { s.power with vsetTarget := s.power.vset - 1 }
        volt := { s.volt with stepUpDue := false } })) ∧
    (s.mode = .run → s.scaling = true → s.volt.pauseAt = none → s.volt.holdoffAt = none → s.volt.stepUpDue = false →
      s.power.vset < 6 → s.power.vsetTarget = s.power.vset → s.volt.windowAt + 24576000 ≤ now →
      s.power.vsetAt + 2458 ≤ now →
      ∃ t, exec (.stepDown dt handshakes) s = .next t ∧
        t.agrees (if s.volt.windowReplays * 100000 < handshakes then { s with
          clock := now
          power := drive (s.power.vset + 1)
          arrays := loose (s.power.vset + 1)
          volt := { s.volt with
            lowest := min s.volt.lowest (s.power.vset + 1), windowAt := now, windowReplays := 0 } }
        else { s with clock := now, volt := { s.volt with windowAt := now, windowReplays := 0 } })) ∧
    (s.scaling = false →
      exec (.stepUp dt) s = .next { s with clock := now } ∧
      exec (.stepDown dt handshakes) s = .next { s with clock := now }) ∧
    (∀ since, s.mode = .run → s.volt.pauseAt = some since → since + 2458 ≤ now →
      ∃ t, exec (.stepUpPauseEnd dt) s = .next t ∧ t.clock = now ∧ t.mode = .run ∧
        (s.cross.rxA = [] → s.cross.rxB = [] → (∀ w, s.sync.turn = some w → w.clock ≠ now) →
          t.volt = { s.volt with pauseAt := none } ∧ t.freeing = [] ∧ t.cross = {} ∧
          t.pages = s.pages.filter (fun p => !s.freeing.contains p.1) ∧
          t.smoulder.periodAt = s.smoulder.periodAt.map (fun a => a + (now - since)) ∧
          t.hearth = { s.hearth with scanEnd :=
            if since < s.hearth.scanEnd then s.hearth.scanEnd + (now - since) else s.hearth.scanEnd } ∧
          (s.ring.portA.up = true → s.ring.portA.timer.since = none → t.ring.portA.timer.since = some now) ∧
          (s.ring.portB.up = true → s.ring.portB.timer.since = none → t.ring.portB.timer.since = some now) ∧
          t.mem = s.cross.samples.foldl (fun m w => Memory.writeBytes m w.1 (leBytes 4 w.2)) s.mem ∧
          t.power = s.power ∧ t.flue = s.flue ∧ t.learn = s.learn ∧ t.ticks = s.ticks ∧ t.chans = s.chans ∧
          t.lib = s.lib ∧ t.vault = s.vault)) ∧
    (∀ since, s.mode = .run → s.volt.pauseAt = some since → now < since + 2458 →
      exec (.stepUpPauseEnd dt) s = .next { s with clock := now }) ∧
    (∀ since, s.mode = .run → s.volt.holdoffAt = some since → since + 60 * 24576000 ≤ now →
      ∃ t, exec (.holdoffExpiry dt) s = .next t ∧ t.agrees { s with
        clock := now, volt := { s.volt with holdoffAt := none, windowAt := now, windowReplays := 0 } })

/-- The canary and the frame-deadline monitor (R90 to R95, R292): an evaluation starts each millisecond and is discarded when
`VSET` changed within 100 µs before it; its count passes up to 1,572. An evaluation that began in the step-down window and
counts more than the limit of its code restarts the window. A failure asks for a step up and, when the outcome before it was not
a failure, is recorded. That a step up is asked for only where one is possible, and one step answers every condition, is the
model's choice (log 66). So is the rounding of the 100 µs to whole timebase periods (log 7). -/
def Obligations.CanaryAndMonitor : Prop :=
  ∀ (s : State) (dt count : Nat), s.mode = .run →
    let now := s.clock + dt
    let ask := s.volt.stepUpDue || (s.scaling && decide (0 < s.power.vset))
    let record (code n cause : Nat) : Ash := s.ash.offer now 0x0C ((now - s.tsStart) / 4 % 2 ^ 56)
      [BitVec.ofNat 8 code, if s.scaling then 1 else 0, BitVec.ofNat 8 (min 65535 n % 256),
        BitVec.ofNat 8 (min 65535 n / 256), BitVec.ofNat 8 cause]
    (s.volt.canaryAt = none → s.volt.canaryNext ≤ now →
      ∃ t, exec (.canaryEvaluationStart dt) s = .next t ∧ t.agrees { s with
        clock := now
        volt := { s.volt with canaryAt := some (now, s.power.vset), canaryNext := s.volt.canaryNext + 24576 } }) ∧
    (∀ began code, s.volt.canaryAt = some (began, code) → began < s.power.vsetAt + 2458 →
      ∃ t, exec (.canaryEvaluationEnd dt count) s = .next t ∧ t.agrees { s with
        clock := now, volt := { s.volt with canaryAt := none } }) ∧
    (∀ began code, s.volt.canaryAt = some (began, code) → s.power.vsetAt + 2458 ≤ began → count ≤ 1572 →
      let anew := s.volt.windowAt ≤ began ∧ [1429, 1403, 1403, 1355, 1257, 1048].getD code 0 < count
      ∃ t, exec (.canaryEvaluationEnd dt count) s = .next t ∧ t.agrees { s with
        clock := now
        volt := { s.volt with
          canaryAt := none, canaryPassed := some true, canaryCount := count
          windowAt := if anew then now else s.volt.windowAt
          windowReplays := if anew then 0 else s.volt.windowReplays } }) ∧
    (∀ began code, s.volt.canaryAt = some (began, code) → s.power.vsetAt + 2458 ≤ began → 1572 < count →
      ∃ t, exec (.canaryEvaluationEnd dt count) s = .next t ∧ t.agrees { s with
        clock := now
        ash := if s.volt.canaryPassed = some false then s.ash else record code count 1
        volt := { s.volt with
          canaryAt := none, canaryPassed := some false, canaryCount := count, canaryFails := s.volt.canaryFails + 1
          windowAt := if s.volt.windowAt ≤ began then now else s.volt.windowAt
          windowReplays := if s.volt.windowAt ≤ began then 0 else s.volt.windowReplays
          stepUpDue := ask } }) ∧
    (∀ (before after : List Tick) (x : Tick), s.ticks = before ++ x :: after → (∀ y ∈ before, y.deadlineFailed = true) →
      x.deadlineFailed = false → s.tsStart + 4 * x.close + 3 * x.tRef ≤ now ∨ (∃ y ∈ s.ticks, x.id < y.id) →
      ∃ t, exec (.frameDeadlineMonitorFail dt) s = .next t ∧ t.agrees { s with
        clock := now
        ticks := s.ticks.map (fun u => if u.id = x.id then { u with deadlineFailed := true } else u)
        ash := if s.volt.monitorFailed then s.ash else record s.power.vset s.volt.canaryCount 2
        volt := { s.volt with
          canaryFails := s.volt.canaryFails + 1, monitorFailed := true
          windowAt := now, windowReplays := 0, stepUpDue := ask } })

/-- Replays and delay taps (R79, R80, R82, R92, R93): a stage whose latches differ takes the shadow value, and the replay
counts in the block of 65,536 guarded handshakes, in the 1 s window and in the step-down window. In RUN 8 in a pipeline's
block of 4,096 handshakes make its tap one longer, up to 15; wherever the core works, 1,048,576 handshakes without one make
it one shorter, down to 4; 66 in 65,536 guarded handshakes ask for a step up in RUN. No other pipeline changes. Model's
choices: replays counted in BIST and LOAD too, and a mismatch of any pipeline as one command (log 53); the numbers of
handshakes as operands (log 62). -/
def Obligations.Replays : Prop :=
  ∀ (s : State) (dt id n : Nat) (main shadow : BitVec 64),
    let now := s.clock + dt
    let p := s.volt.pipeline id
    let works := s.mode = .run ∨ s.mode = .load ∨ s.mode = .bist
    let others (t : State) : Prop := ∀ k, k ≠ id → t.volt.pipeline k = s.volt.pipeline k
    let held := if p.handshakes / 4096 = (p.handshakes + n) / 4096 then p.blockReplays else 0
    (works → main ≠ shadow →
      ∃ t, exec (.shadowReplay dt id n main shadow) s = .next t ∧ others t ∧
        t.volt.pipeline id = (if s.mode = .run then { p with
            main := shadow, shadow := shadow, handshakes := p.handshakes + n, blockReplays := held + 1
            raiseDue := p.raiseDue || decide (held + 1 = 8) }
          else { p with main := shadow, shadow := shadow, handshakes := p.handshakes + n, blockReplays := held }) ∧
        t.agrees { s with clock := now, volt := { s.volt with
          pipelines := t.volt.pipelines, blockReplays := s.volt.blockReplays + 1
          secondReplays := s.volt.secondReplays + 1, windowReplays := s.volt.windowReplays + 1 } }) ∧
    (main = shadow ∨ ¬works → exec (.shadowReplay dt id n main shadow) s = .next { s with clock := now }) ∧
    (s.mode = .run → p.raiseDue = true →
      ∃ t, exec (.delayTapRaise dt id) s = .next t ∧ others t ∧
        t.volt.pipeline id = { p with tap := min 15 (p.tap + 1), raiseDue := false } ∧
        t.agrees { s with clock := now, volt := { s.volt with pipelines := t.volt.pipelines } }) ∧
    (works → 1048576 ≤ n →
      ∃ t, exec (.delayTapLower dt id n) s = .next t ∧ others t ∧
        t.volt.pipeline id = { p with
          tap := max 4 (p.tap - 1), handshakes := p.handshakes + n, blockReplays := 0 } ∧
        t.agrees { s with clock := now, volt := { s.volt with pipelines := t.volt.pipelines } }) ∧
    (works → ∃ t, exec (.replayBlockEnd dt) s = .next t ∧ t.agrees { s with
      clock := now
      volt := { s.volt with
        blockReplays := 0
        stepUpDue := s.volt.stepUpDue ||
          (decide (s.mode = .run) && decide (66 ≤ s.volt.blockReplays) && s.scaling && decide (0 < s.power.vset)) } }) ∧
    (works → s.volt.secondAt + 24576000 ≤ now →
      ∃ t, exec (.replayWindowEnd dt) s = .next t ∧ t.agrees { s with
        clock := now
        volt := { s.volt with
          lastSecond := s.volt.secondReplays, secondReplays := 0, secondAt := s.volt.secondAt + 24576000 } })

/-! ### Acquisition -/

/-- An output of the decimators (R86, R96, R102 to R105, R112, R139, R141, R143 to R146, R151 to R154), which comes at a fast
tick a whole number of output periods after the one before it. It is dropped while the filter settles; it is held while it
reaches the boundary time of a candidate; else each channel's word is stored in its page as the next sample, or waits in the
acquisition buffer, after closing a full frame at its own timestamp: a free-run close, or a late one. At the close the pages
of withdrawn channels are freed first; then each channel in ascending order takes its free reserved page, else, when it
holds none, the lowest free shared one, else its closed frame is dropped and counted. Model's choices: the sample held while
a candidate is open and the instant of the first output (log 30), the fast tick as one timebase period in four (log 7) and
the acquisition buffer when it is full (log 67). -/
def Obligations.OutputSample : Prop :=
  ∀ (s : State) (dt : Nat) (l : List RawSample), s.mode = .run → l.length ≤ 32 → l.length = s.channels →
    let now := s.clock + dt
    let ts := (now - s.tsStart) / 4 % 2 ^ 56
    let close := s.tsStart + 4 * ts
    let word (c : Nat) (x : RawSample) : Nat :=
      let v := max (-8388608) (min 8388607 x.value)
      (v % 16777216).toNat +
        (if v ≠ x.value ∨ x.limited = true ∨ (s.chans.getD c {}).limiterAge < 23 then 16777216 else 0)
    let aged (c : Nat) : Chan := { s.chans.getD c {} with limiterAge := match l[c]? with
      | some x => if x.limited then 0 else min 24 ((s.chans.getD c {}).limiterAge + 1)
      | none => (s.chans.getD c {}).limiterAge }
    let free := s.syncMode = .free
    let undecided := s.sync.held = none ∧
      (s.sync.candidates = [] ∨ (s.syncMode = .boundary ∧ ∀ x ∈ s.sync.candidates, ts < x + 12 * s.period))
    let due := (now - s.tsStart) % 4 = 0 ∧
      (s.sync.nextOut = none ∨ ∃ o, s.sync.nextOut = some o ∧ o ≤ ts ∧ (ts - o) % s.period = 0)
    let next : Sync := { s.sync with settling := s.sync.settling - 1, nextOut := some (ts + s.period) }
    (undecided → ¬due → exec (.decimatorOutput dt l) s = .next { s with clock := now }) ∧
    (undecided → due → 0 < s.sync.settling →
      ∃ t, exec (.decimatorOutput dt l) s = .next t ∧ (∀ c, c < s.chans.length → t.chans.getD c {} = aged c) ∧
        t.chans.length = s.chans.length ∧ t.agrees { s with clock := now, chans := t.chans, sync := next }) ∧
    (undecided → due → s.sync.settling = 0 → l ≠ [] → s.sync.count < s.lMax → Memory.wf s.mem →
      let at_ (p : Nat) := 0x03000000 + p * 0x8000 + 4 * s.sync.count
      let waits := s.volt.pauseAt ≠ none ∨ s.cross.samples ≠ []
      ∃ t, exec (.decimatorOutput dt l) s = .next t ∧
        t.agrees { s with
          clock := now, mem := t.mem, ecc := t.ecc, chans := t.chans, cross := t.cross
          sync := { next with
            count := s.sync.count + 1
            first := some (s.sync.first.getD ts)
            turn := t.sync.turn
            phi := match s.sync.opener with
              | .edge _ => if s.sync.count = 0 ∧ s.syncMode = .boundary then ts - s.sync.prevClose else s.sync.phi
              | _ => s.sync.phi } } ∧
        (∀ c x, l[c]? = some x → c < s.chans.length →
          match (s.chans.getD c {}).page with
          | none => t.chans.getD c {} = aged c
          | some p =>
            t.chans.getD c {} = { aged c with
              overs := (s.chans.getD c {}).overs + (if 16777216 ≤ word c x then 1 else 0) } ∧
            (¬waits → (∀ d, c < d → d < l.length → (s.chans.getD d {}).page ≠ some p) →
              t.peekNat (at_ p) 4 = word c x)) ∧
        (waits →
          let words := (List.range l.length).filterMap (fun c =>
            match l[c]?, (s.chans.getD c {}).page with
            | some x, some p => some (at_ p, word c x)
            | _, _ => none)
          let held := (s.cross.samples ++ words).take (max 2048 s.cross.samples.length)
          t.mem = s.mem ∧ t.cross = { s.cross with samples := held }) ∧
        (¬waits → t.cross = s.cross ∧
          ∀ a, (∀ c p, c < l.length → (s.chans.getD c {}).page = some p → a < at_ p ∨ at_ p + 4 ≤ a) →
            Memory.read t.mem a = Memory.read s.mem a)) ∧
    (undecided → due → s.sync.settling = 0 → l ≠ [] → s.lMax ≤ s.sync.count →
      ∃ t x news, exec (.decimatorOutput dt l) s = .next t ∧ t.ticks = s.ticks ++ [x] ∧ t.nextTick = s.nextTick + 1 ∧
        x.id = s.nextTick ∧ x.close = ts ∧ x.len = s.lMax ∧ x.status = (if free then 0 else 4) ∧ x.edge = false ∧
        x.tRef = (if free then s.lMax * s.period else ts - s.sync.prevClose) ∧ x.stage = .features ∧
        t.sync.opener = (if free then .free else .late) ∧ t.sync.count = 1 ∧ t.sync.first = some ts ∧
        t.sync.prevClose = ts ∧ t.sync.prevStatus = some x.status ∧ t.sync.glitches = 0 ∧
        t.sync.edges = (if free then s.sync.edges else s.edgesPerBoundary) ∧
        ((∀ c ∈ s.chans, c.withdrawnAt ≤ close ∧ c.recoveredAt ≤ close) → (∀ f ∈ s.sync.freed, f.2 ≤ close) →
          let out (c : Nat) : Bool :=
            decide (3 ≤ (s.chans.getD c {}).status) && decide ((s.chans.getD c {}).status ≤ 5)
          let kept := s.pages.filter (fun p => !(List.range s.channels).any (fun c =>
            out c && decide ((s.chans.getD c {}).page = some p.1)))
          t.pages = kept ++ news ∧ news.Pairwise (fun a b => a.2 < b.2) ∧
          (∀ f ∈ x.frames, f.chan < s.channels ∧ out f.chan = false ∧ (s.chans.getD f.chan {}).page = some f.page ∧
            f.overs = (s.chans.getD f.chan {}).overs ∧ f.stage = .holdback) ∧
          ∀ c, c < s.channels → c < s.chans.length →
            let old := s.chans.getD c {}
            let new := t.chans.getD c {}
            let used := kept ++ news.filter (fun p => decide (p.2 < c))
            let isFree (q : Nat) : Bool := !used.any (fun p => decide (p.1 = q))
            let shared := if used.any (fun p => decide (p.2 = c) && decide (2 * s.channels ≤ p.1)) then none
              else ((List.range 96).drop (2 * s.channels)).find? isFree
            let page := ([2 * c, 2 * c + 1].find? isFree).or shared
            let missed := if old.missing = true then 1 else 0
            (out c = true → new.page = none ∧ new.drops = old.drops ∧ c ∉ x.dropped ∧ ∀ f ∈ x.frames, f.chan ≠ c) ∧
            (out c = false → (∀ q, page = some q →
                new.page = some q ∧ (q, c) ∈ news ∧ new.drops = min 65535 (old.drops + missed) ∧
                (c ∈ x.dropped ↔ old.missing = true) ∧
                (∀ p, old.page = some p → ∃ f ∈ x.frames, f.chan = c ∧ f.page = p)) ∧
              (page = none → (∀ p, old.page = some p →
                  new.page = some p ∧ new.drops = min 65535 (old.drops + missed + 1) ∧ c ∈ x.dropped ∧
                  ∀ f ∈ x.frames, f.chan ≠ c) ∧
                (old.page = none → new.page = none ∧ new.missing = true ∧
                  new.drops = min 65535 (old.drops + missed) ∧ (c ∈ x.dropped ↔ old.missing = true)))))) ∧
    (∀ x ∈ s.sync.candidates, s.syncMode = .boundary → s.sync.held = none → due → x + 12 * s.period ≤ ts →
      ∃ t ws, exec (.decimatorOutput dt l) s = .next t ∧
        t.agrees { s with clock := now, chans := t.chans, sync := { next with held := some (ts, ws) } } ∧
        (∀ c, c < s.chans.length → t.chans.getD c {} = aged c) ∧ (0 < s.sync.settling → ws = []) ∧
        (s.sync.settling = 0 → ws.length = l.length ∧
          ∀ c x, l[c]? = some x → c < s.chans.length → ws.getD c 0 = word c x)) ∧
    (∃ t, exec (.decimatorOutput dt l) s = .next t ∧ t.power = s.power ∧ t.volt = s.volt ∧ t.hearth = s.hearth ∧
      t.learn = s.learn ∧ t.panel = s.panel ∧ t.vault = s.vault ∧ t.ash = s.ash ∧ t.flue.queue = s.flue.queue ∧
      t.lib = s.lib ∧ t.ring = s.ring ∧ t.fleet = s.fleet ∧ t.tap = s.tap ∧ t.arrays = s.arrays ∧
      t.smoulder = s.smoulder ∧ ∀ a, a < 0x03000000 → Memory.read t.mem a = Memory.read s.mem a)

/-- Tachometer captures and what is decided of them (R122, R123, R126 to R133, R139, R142 to R147, R150, R249). At a fast
tick `CMP_TACHn` compares its input with 1.600 V while its latch is low and with 0.800 V while it is high; a rise after a low
of the same powered period is captured. In RUN an edge of `TACH0` counts towards the E edges of a boundary, and each that
completes them is a candidate, while a capture of the others is counted with its timestamp; in sleep the fourth of `TACH0`
within 8 s wakes. A candidate whose boundary leaves `L_min` to `L_max` samples closes the frame, which is LOCKED unless its
speed is too low or no edge opened it; any other is a glitch, which leaves the edge count as it stands. Model's choices: the
reference of the first evaluation (log 49), the fast tick as one timebase period in four (log 7), a second candidate before
the decision and the release of the held sample (log 30). -/
def Obligations.Captures : Prop :=
  ∀ (s : State) (dt : Nat) (i : Fin 4) (uv : Nat),
    let now := s.clock + dt
    let ts := (now - s.tsStart) / 4 % 2 ^ 56
    let counted := min s.edgesPerBoundary (s.sync.edges + 1)
    let recent := (now :: s.power.wakeEdges).take 4
    let fourth : Bool := match recent[3]? with | some first => decide (now ≤ first + 8 * 24576000) | none => false
    let spot := match s.spotSeconds with
      | some n => if s.power.sleepAt + n * 24576000 ≤ now then 8 else 0
      | none => 0
    let latch := s.sync.tach.getD i.val none
    let high : Bool := decide ((if latch = some true then 800000 else 1600000) ≤ uv)
    let sensed : Sync := { s.sync with tach := s.sync.tach.set i.val (some high) }
    let fast := (now - s.tsStart) % 4 = 0
    let rises := latch = some false ∧ high = true
    (¬fast → exec (.tachCapture dt i uv) s = .next { s with clock := now }) ∧
    (fast → s.mode = .run →
      ∃ t, exec (.tachCapture dt i uv) s = .next t ∧ t.agrees { s with
        clock := now
        sync :=
          if ¬rises then sensed
          else if 16 ≤ (s.sync.queues.getD i.val []).length then
            { sensed with tachDrops := min 65535 (s.sync.tachDrops + 1) }
          else if i.val ≠ 0 then { sensed with others := s.sync.others.modify (i.val - 1) (fun l => l ++ [ts]) }
          else if s.syncMode = .free then
            { sensed with captures := s.sync.captures ++ [{ time := ts, glitch := false }] }
          else { sensed with
            captures := s.sync.captures ++ [{ time := ts, glitch := false }]
            edges := counted
            candidates := s.sync.candidates ++ (if counted = s.edgesPerBoundary then [ts] else []) } }) ∧
    (fast → s.mode = .banked ∨ s.mode = .ember → i.val = 0 →
      let fresh : Bool := decide (s.power.wakeMask = 0) && !s.power.waking
      let wakes : Bool := fourth && (fresh || decide (s.power.wakeMask ≠ 0) && decide (s.power.wakeAt = now))
      ∃ t, exec (.tachCapture dt i uv) s = .next t ∧ t.agrees { s with
        clock := now
        sync := sensed
        power := if ¬rises then s.power
          else { s.power with
            wakeEdges := recent
            wakeMask := if wakes then s.power.wakeMask ||| 1 ||| spot else s.power.wakeMask
            wakeAt := if wakes then now else s.power.wakeAt } }) ∧
    (s.mode ≠ .run → i.val ≠ 0 ∨ (s.mode ≠ .banked ∧ s.mode ≠ .ember) →
      exec (.tachCapture dt i uv) s = .next { s with clock := now }) ∧
    (∀ x rest, s.mode = .run → s.sync.candidates = x :: rest →
      s.syncMode = .hardAlign ∨
        (∃ sample, s.sync.held = some sample ∧ (if s.syncMode = .boundary then x + 12 * s.period else x) ≤ sample.1) →
      let b := if s.syncMode = .boundary then x + 12 * s.period else x
      let n := match s.sync.first with
        | some f => min s.sync.count ((b - f + s.period - 1) / s.period)
        | none => 0
      (s.lMin ≤ n → n ≤ s.lMax →
        ∃ t y, exec (.candidateDecision dt) s = .next t ∧ t.ticks = s.ticks ++ [y] ∧ y.id = s.nextTick ∧ y.close = b ∧
          y.len = n ∧ y.edge = true ∧ y.tRef = b - s.sync.prevClose ∧ y.glitches = s.sync.glitches ∧
          y.tach0 = s.sync.captures.countP (fun c => decide (s.sync.prevClose < c.time) && decide (c.time ≤ b)) ∧
          y.tach1 = (s.sync.others.getD 0 []).countP (fun u => decide (u ≤ b)) ∧
          (∀ e, s.sync.opener = .edge e →
            let m := s.sync.captures.countP (fun c => !c.glitch && decide (e < c.time) && decide (c.time ≤ x))
            y.status = (if 12288000 * m < s.edgesPerRev * (x - e) then 2 else 1) ∧ y.span = some (x - e)) ∧
          ((∀ e, s.sync.opener ≠ .edge e) → y.status = 3) ∧
          t.sync.opener = .edge x ∧ t.sync.edges = 0 ∧ t.sync.candidates = rest ∧ t.sync.prevClose = b ∧
          t.sync.prevStatus = some y.status ∧ t.sync.glitchTotal = s.sync.glitchTotal ∧
          t.sync.settling = (if s.syncMode = .hardAlign then 24 else s.sync.settling) ∧
          t.sync.nextOut = (if s.syncMode = .hardAlign then some (x + 12 * s.period) else s.sync.nextOut)) ∧
      (n < s.lMin ∨ s.lMax < n → s.sync.held = none ∨ s.sync.count < s.lMax →
        ∃ t, exec (.candidateDecision dt) s = .next t ∧ t.ticks = s.ticks ∧ t.sync.candidates = rest ∧
          t.sync.glitches = s.sync.glitches + 1 ∧ t.sync.glitchTotal = min 0xFFFFFFFF (s.sync.glitchTotal + 1) ∧
          t.sync.edges = s.sync.edges ∧ t.sync.opener = s.sync.opener ∧ t.sync.prevClose = s.sync.prevClose ∧
          t.sync.captures = s.sync.captures.map (fun c => if c.time = x then { c with glitch := true } else c)))

/-- The slow tick (R65, R69, R107 to R109, R112 to R115, R122 to R124, R126 to R129, R132 to R135, R240): the bias of each
IEPE channel, the shock latches and their counts, the temperature comparator, and in sleep the wake sources; and a channel's
recovery. Model's choices: the first evaluation of the temperature compared with a clear latch (log 68); a shock counted at
every evaluation that finds its latch set, and both slow ticks of `WAKE_N` in the sleep (log 18); one timebase period as one
evaluation of the wake logic (log 28). -/
def Obligations.SlowTicks : Prop :=
  ∀ (s : State) (dt : Nat) (x : SlowInputs), x.bias.length = 32 → x.shock.length = 4 → s.power.por = false →
    let now := s.clock + dt
    let hot := if s.power.hot then !decide (x.temp < 95000) else decide (105000 ≤ x.temp)
    let struck (c : Nat) : Bool := decide (c < s.channels) && decide (400000 ≤ x.shock.getD c 0)
    let withdrawnIn (c : Nat) : Prop := 3 ≤ (s.chans.getD c {}).status ∧ (s.chans.getD c {}).status ≤ 5
    (∃ t, exec (.slowTick dt x) s = .next t ∧ t.clock = now ∧ t.power.hot = hot ∧ t.learn = s.learn ∧
      t.hearth = s.hearth ∧ t.volt = s.volt ∧ t.panel = s.panel ∧ t.vault = s.vault ∧ t.lib = s.lib ∧ t.ash = s.ash ∧
      t.tap = s.tap ∧ t.power.vset = s.power.vset ∧ t.power.coreEn = s.power.coreEn ∧ t.flue.queue = s.flue.queue ∧
      ((∀ w, s.sync.turn = some w → w.clock ≠ now) → t.mem = s.mem) ∧
      (s.mode ≠ .run → s.mode ≠ .banked → s.mode ≠ .ember →
        t.agrees { s with clock := now, power := { s.power with hot := hot }, router := t.router, flue := t.flue } ∧
        (hot = s.power.hot → t.router = s.router ∧ t.flue = s.flue)) ∧
      (hot ≠ s.power.hot → s.router.ash.length < 32 → s.router.flue.length < 32 →
        ∃ e ∈ t.router.ash, e ∈ t.router.flue ∨ e.type = 5 ∧ e.payload = [if hot then 1#8 else 0#8] ∧ e.time = t.ts) ∧
      (s.mode = .run ∨ s.mode = .banked ∨ s.mode = .ember →
        t.sync.shock = (List.range 4).map struck ∧
        (∀ c, c < 4 → s.sync.shockCounts.length = 4 → t.sync.shockCounts.getD c 0 =
          if s.mode = .run then min 65535 (s.sync.shockCounts.getD c 0 + (if struck c then 1 else 0))
          else s.sync.shockCounts.getD c 0) ∧
        (s.voltageMode = true → t.chans = s.chans) ∧
        (s.voltageMode = false → ∀ c, c < s.channels → c < s.chans.length →
          let uv := x.bias.getD c 0
          let b := if uv ≤ 100000 then Bias.short else if 2200000 ≤ uv then Bias.open_ else Bias.inWindow
          let code := if b = .short then 4 else 3
          let old := s.chans.getD c {}
          let new := t.chans.getD c {}
          new.bias = some b ∧ new.limiterAge = old.limiterAge ∧
          (withdrawnIn c → b ≠ .inWindow → new.status = code ∧ new.recovery = 0 ∧ new.detections = old.detections) ∧
          (withdrawnIn c → b = .inWindow → s.mode = .run →
            new.status = 5 ∧ new.recovery = old.recovery + 1 ∧ new.detections = old.detections) ∧
          (withdrawnIn c → b = .inWindow → s.mode ≠ .run → (∀ w, s.sync.turn = some w → w.clock ≠ now) →
            new = { old with bias := some b }) ∧
          (¬withdrawnIn c → b ≠ .inWindow → old.bias = some .short ∨ old.bias = some .open_ →
            new.status = code ∧ new.detections = min 65535 (old.detections + 1) ∧ new.recovery = 0 ∧
            new.withdrawnAt = now ∧ (s.mode = .run → t.out.fault = true) ∧
            ((∀ w, s.sync.turn = some w → w.clock ≠ now) →
              new.doomed = old.page.isSome ∧ new.page = old.page ∧ new.drops = old.drops)) ∧
          (¬withdrawnIn c → ¬(b ≠ .inWindow ∧ (old.bias = some .short ∨ old.bias = some .open_)) →
            (∀ w, s.sync.turn = some w → w.clock ≠ now) → new = { old with bias := some b }))) ∧
      (s.mode = .banked ∨ s.mode = .ember →
        let run := if x.wakeNLow then s.power.wakeNRun + 1 else 0
        let spot := match s.spotSeconds with
          | some n => if s.power.sleepAt + n * 24576000 ≤ now then 8 else 0
          | none => 0
        let mask := (if (List.range 4).any struck then 2 else 0) + (if 2 ≤ run then 4 else 0)
        let fresh := s.power.wakeMask = 0 ∧ s.power.waking = false
        t.power.wakeNRun = run ∧
        t.power.wakeMask = (if mask ≠ 0 ∧ (fresh ∨ s.power.wakeMask ≠ 0 ∧ s.power.wakeAt = now) then
          s.power.wakeMask ||| mask ||| spot else s.power.wakeMask))) ∧
    (∀ c : Fin 32, s.mode = .run → c.val < s.channels → c.val < s.chans.length → (s.chans.getD c.val {}).status = 5 →
      100311 ≤ (s.chans.getD c.val {}).recovery → (∀ w, s.sync.turn = some w → w.clock ≠ now) →
      ∃ t, exec (.channelRecovery dt c) s = .next t ∧
        t.chans = s.chans.set c.val { s.chans.getD c.val {} with status := 1, recovery := 0, recoveredAt := now } ∧
        t.agrees { s with
          clock := now, chans := t.chans, router := t.router, flue := t.flue
          power := { s.power with idle := t.power.idle } } ∧
        t.power.idle.read now = s.power.idle.read now ∧ t.flue.queue = s.flue.queue)

/-- The holdback ends (R14, R96, R111, R154): 200 µs after the close of the oldest tick that still holds a frame back, for a
channel of that tick, unless a step-up pause is in progress; no later tick passes it. And an auxiliary conversion (R118,
R120, R249). The 200 µs rounded down to 4,915 timebase periods are the model's choice (log 7). -/
def Obligations.HoldbackAndAux : Prop :=
  ∀ (s : State) (dt : Nat), s.mode = .run →
    let now := s.clock + dt
    (∀ (c : Fin 32) (before after : List Tick) (x : Tick), s.ticks = before ++ x :: after →
      (∀ y ∈ before, ∀ f ∈ y.frames, f.stage ≠ .holdback) →
      (∃ f ∈ x.frames, f.stage = .holdback) →
      (s.volt.pauseAt = none → (∃ f ∈ x.frames, f.chan = c.val ∧ f.stage = .holdback) →
        s.tsStart + 4 * x.close + 4915 ≤ now →
        ∃ t, exec (.holdbackRelease dt c) s = .next t ∧ t.agrees { s with
          clock := now
          ticks := s.ticks.map (fun u => if u.id = x.id then { u with frames := u.frames.map (fun f =>
            if f.chan = c.val ∧ f.stage = .holdback then { f with stage := .waiting, releasedAt := some now } else f) }
            else u) }) ∧
      (s.volt.pauseAt ≠ none ∨ (∀ f ∈ x.frames, f.chan = c.val → f.stage ≠ .holdback) ∨
          now < s.tsStart + 4 * x.close + 4915 →
        exec (.holdbackRelease dt c) s = .next { s with clock := now })) ∧
    (∀ (i : Fin 8) (code : BitVec 12),
      let stamped := ((now - s.tsStart) / 4 % 2 ^ 56, code.toNat)
      ∃ t, exec (.auxConversion dt i code) s = .next t ∧ t.agrees { s with
        clock := now
        sync := { s.sync with
          auxLast := s.sync.auxLast.set i.val stamped
          auxSums := s.sync.auxSums.modify i.val (fun p => (p.1 + code.toNat, p.2 + 1))
          aux0 := if i.val = 0 then s.sync.aux0 ++ [stamped] else s.sync.aux0 } })

/-! ### The panel -/

/-- The panel readings (R27, R28, R50 to R52, R231, R234, R237): every 20 ms the buttons are sampled and the level of
`LABEL`, from three sums of eight codes, is counted; the third equal reading of a new level is the label, and a teach that is
collecting is abandoned; three equal samples of `HOLD_N` change the hold, which stops the commit timers. The first reading
20 ms after entry to RUN is the model's choice (log 41), as is the run of samples that a button has behind it at entry
(log 34). -/
def Obligations.PanelReadings : Prop :=
  ∀ (s : State) (dt : Nat), s.mode = .run →
    let now := s.clock + dt
    (∀ (zero ref pin : Codes) (teachN forgetN holdN : Bool), s.panel.readAt + 491520 ≤ now →
      let sum (v : Codes) : Nat := ([v[0], v[1], v[2], v[3], v[4], v[5], v[6], v[7]].map BitVec.toNat).sum
      let level := if sum zero + 8000 ≤ sum ref ∧ sum ref ≤ sum zero + 18000 then
        strapLevel (49900 * (sum pin - sum zero) / (sum ref - sum zero)) else none
      ∃ t, exec (.labelReading dt zero ref pin teachN forgetN holdN) s = .next t ∧ t.agrees { s with
        clock := now
        panel := { s.panel with
          readAt := now
          labelRun := match level with
            | some l => (l, if s.panel.labelRun.1 = l then s.panel.labelRun.2 + 1 else 1)
            | none => (0, 0)
          ignored := if level = none then min 65535 (s.panel.ignored + 1) else s.panel.ignored
          teachLow := if teachN then 0 else s.panel.teachLow + 1
          teachHigh := if teachN then s.panel.teachHigh + 1 else 0
          teachArmed := s.panel.teachArmed || (teachN && decide (2 ≤ s.panel.teachHigh))
          forgetLow := if forgetN then 0 else s.panel.forgetLow + 1
          forgetHigh := if forgetN then s.panel.forgetHigh + 1 else 0
          forgetArmed := s.panel.forgetArmed || (forgetN && decide (2 ≤ s.panel.forgetHigh))
          holdRun := (!holdN, if s.panel.holdRun.1 = !holdN then s.panel.holdRun.2 + 1 else 1) } }) ∧
    (∀ (zero ref pin : Codes) (teachN forgetN holdN : Bool), now < s.panel.readAt + 491520 →
      exec (.labelReading dt zero ref pin teachN forgetN holdN) s = .next { s with clock := now }) ∧
    (3 ≤ s.panel.labelRun.2 → s.panel.labelRun.1 ≠ s.panel.label → s.volt.pauseAt = none →
      (s.learn.teach = none → ∃ t, exec (.labelAccepted dt) s = .next t ∧ t.agrees { s with
        clock := now, panel := { s.panel with label := s.panel.labelRun.1 } }) ∧
      (∀ x, s.learn.teach = some x →
        ∃ t, exec (.labelAccepted dt) s = .next t ∧
          t.agreesButRecords { s with
            clock := now
            panel := { s.panel with label := s.panel.labelRun.1 }
            learn := { s.learn with teach := none } } ∧
          s.recordedBoth t 0x09 (teachForgetPayload 4 x.label 0xFFFF 0 (x.bin.getD 0xFF) x.vecs.length 0))) ∧
    (3 ≤ s.panel.holdRun.2 → s.panel.hold ≠ some s.panel.holdRun.1 →
      ∃ t, exec (.holdChange dt) s = .next t ∧ t.agrees { s with
        clock := now
        panel := { s.panel with hold := some s.panel.holdRun.1 }
        learn := { s.learn with time := t.learn.time } } ∧
        t.learn.time.read now = s.learn.time.read now ∧ t.learn.time.since.isSome = !s.panel.holdRun.1)

/-- Accepted presses (R231 to R236, R351): `TEACH_N` starts a teach, is refused with label 15, or is ignored while one
collects; `FORGET_N` frees the taught rows of labels 1 to 14, asks for a rekindle with label 0 held, and is refused else.
What a press finds of a teach or rekindle already under way is read from the spec by inference (log 34). -/
def Obligations.Presses : Prop :=
  ∀ (s : State) (dt : Nat), s.mode = .run → s.volt.pauseAt = none →
    let now := s.clock + dt
    let label := s.panel.label
    (s.panel.teachArmed = true → 3 ≤ s.panel.teachLow →
      let pressed : State := { s with clock := now, panel := { s.panel with teachArmed := false } }
      (s.learn.teach.isSome = true ∨ s.panel.rekindleDue = true →
        ∃ t, exec (.teachPress dt) s = .next t ∧ t.agrees pressed) ∧
      (s.learn.teach = none → s.panel.rekindleDue = false → label = 15 →
        ∃ t, exec (.teachPress dt) s = .next t ∧ t.agreesButRecords pressed ∧
          s.recordedBoth t 0x09 (teachForgetPayload 2 15 0xFFFF 0 0xFF 0 0)) ∧
      (s.learn.teach = none → s.panel.rekindleDue = false → label ≠ 15 →
        ∃ t, exec (.teachPress dt) s = .next t ∧ t.agrees { pressed with
          learn := { s.learn with teach := some { label := label, acceptedAt := (now - s.tsStart) / 4 % 2 ^ 56 } } })) ∧
    (s.panel.forgetArmed = true → 151 ≤ s.panel.forgetLow →
      let pressed : State := { s with clock := now, panel := { s.panel with forgetArmed := false } }
      (label = 0 → s.panel.hold = some true → s.learn.teach = none →
        ∃ t, exec (.forgetPress dt) s = .next t ∧ t.agrees { pressed with
          panel := { s.panel with forgetArmed := false, rekindleDue := true } }) ∧
      (label = 0 → s.panel.hold = some true → ∀ x, s.learn.teach = some x →
        ∃ t, exec (.forgetPress dt) s = .next t ∧ t.agreesButRecords { pressed with
            panel := { s.panel with forgetArmed := false, rekindleDue := true }
            learn := { s.learn with teach := none } } ∧
          s.recordedBoth t 0x09 (teachForgetPayload 6 x.label 0xFFFF 0 (x.bin.getD 0xFF) x.vecs.length 0)) ∧
      (15 ≤ label ∨ (label = 0 ∧ s.panel.hold ≠ some true) →
        ∃ t, exec (.forgetPress dt) s = .next t ∧ t.agreesButRecords pressed ∧
          s.recordedBoth t 0x09 (teachForgetPayload 9 label 0xFFFF 0 0xFF 0 0)) ∧
      (1 ≤ label → label ≤ 14 → Memory.wf s.mem →
        let gone (r : Nat) : Bool := (s.tag r).valid && !(s.tag r).spent && !s.isRetired r &&
          decide ((s.tag r).label.toNat = label) && decide (15360 ≤ r)
        ∃ t, exec (.forgetPress dt) s = .next t ∧ t.panel = pressed.panel ∧ t.learn.teach = none ∧
          (∀ r, r < 16384 → t.row r = s.row r ∧
            t.tag r = if gone r then { s.tag r with valid := false } else s.tag r) ∧
          (∀ r, gone r = true → r < 16384 →
            t.vault.dirty.any (fun d => decide (d.row = r) && d.tag) = true ∧
            sparse t.vault.slotSeq (r - 15360) = (((s.vault.slotSeq.map Prod.snd).max?).getD 0 + 1) % 2 ^ 32) ∧
          (∀ a ∈ t.learn.accums, a ∈ s.learn.accums ∧ (15360 ≤ a.row → a.row < 16384 → gone a.row = false)) ∧
          (s.learn.teach = none → t.ash = s.ash.offer now 0x09 ((now - s.tsStart) / 4 % 2 ^ 56)
            (teachForgetPayload 7 label 0xFFFF ((List.range 16384).countP gone) 0xFF 0 0)) ∧
          t.learn.kindling = s.learn.kindling ∧ t.hearth = s.hearth ∧ t.volt = s.volt ∧ t.ticks = s.ticks))

/-- A rekindle (R214, R236, R278): between two ticks, and between two scans, every normal row is freed, every accumulator and
kindling counter cleared, every cell returns to KINDLING, and one REKINDLE entry goes to the MRAM controller. The other rows
stay as they are. While a tick is between its first query and the end of its learning stage the rekindle waits: that span is
the model's reading (log 34). -/
def Obligations.Rekindled : Prop :=
  ∀ (s : State) (dt : Nat), s.mode = .run → s.panel.rekindleDue = true → s.volt.pauseAt = none →
    let inTick := ∃ x ∈ s.ticks, x.stage = .recall ∧ ∃ q ∈ x.queries, q.started = true
    (inTick ∨ s.clock + dt < s.hearth.scanEnd → exec (.rekindle dt) s = .next { s with clock := s.clock + dt }) ∧
    (¬inTick → s.hearth.scanEnd ≤ s.clock + dt → Memory.wf s.mem →
    let freed (r : Nat) : Bool := decide (8192 ≤ r) && decide (r < 15360) && (s.tag r).valid
    ∃ t, exec (.rekindle dt) s = .next t ∧ t.panel = { s.panel with rekindleDue := false } ∧
      (∀ r, r < 16384 → t.row r = s.row r ∧ t.tag r = if freed r then { s.tag r with valid := false } else s.tag r) ∧
      t.learn.accums = [] ∧ t.learn.kindling = [] ∧ t.learn.seasoned = [] ∧ t.learn.spawned = [] ∧
      t.learn.teach = s.learn.teach ∧ t.learn.levels = s.learn.levels ∧
      (∃ e, t.vault.entries = s.vault.entries ++ [e] ∧ e.kind = 4 ∧ e.row = 0xFFFF) ∧
      (∀ d ∈ t.vault.dirty, 15360 ≤ d.row ∧ d ∈ s.vault.dirty) ∧
      s.recordedBoth t 0x09 (teachForgetPayload 8 0 0xFFFF ((List.range 16384).countP freed) 0xFF 0 0) ∧
      t.hearth = s.hearth ∧ t.ticks = s.ticks ∧ t.volt = s.volt ∧ t.power = s.power ∧ t.chans = s.chans ∧
      ∀ a, a < 0x01000000 ∨ (0x01080000 ≤ a ∧ a < e2eMarkAddr) ∨ e2eMarkAddr + 8 ≤ a →
        Memory.read t.mem a = Memory.read s.mem a)

/-! ### The pipeline of ticks -/

/-- The features stage (R14, R85, R154 to R156, R158, R171, R269): a free array takes the earliest released frame, behind
which the holdback keeps no frame; when it is done the frame has 128 levels of 0 to 255 and its page is free. A bad sample
word discards the frame, a bad working word is zeroed and restarts it, and a bad band plan word has the plan read again.
Model's choices: that levels worked out under a code of 3 to 6 take a free value (logs 10 and 56), where the plan (log 21)
and the working area of an array lie (log 61). -/
def Obligations.FeatureStage : Prop :=
  ∀ (s : State) (dt : Nat) (array : Fin 4) (us : List Upset), s.mode = .run → s.volt.pauseAt = none →
    s.lib.serving ≠ some .plan → Refetch.plan ∉ s.lib.queue →
    let now := s.clock + dt
    let edit (u : State) (tick chan : Nat) (g : ChanFrame → ChanFrame) : List Tick := u.ticks.map (fun y =>
      if y.id = tick then { y with frames := y.frames.map (fun h => if h.chan = chan then g h else h) } else y)
    (∀ (before after : List Tick) (x : Tick) (fb fa : List ChanFrame) (f : ChanFrame),
      s.arrays.getD array.val none = none → s.ticks = before ++ x :: after → x.frames = fb ++ f :: fa →
      (∀ y ∈ before, ∀ g ∈ y.frames, g.stage ≠ .waiting ∧ g.stage ≠ .holdback) →
      (∀ g ∈ x.frames, g.stage ≠ .holdback) → (∀ g ∈ fb, g.stage ≠ .waiting) → f.stage = .waiting →
      ∃ t, exec (.featureExtractionStart dt array) s = .next t ∧ t.agrees { s with
        clock := now
        arrays := s.arrays.set array.val (some { tick := x.id, chan := f.chan, loose := decide (3 ≤ s.power.vset) })
        ticks := edit s x.id f.chan (fun g => { g with stage := .extracting }) }) ∧
    (∀ (job : ArrayJob) (x : Tick) (f : ChanFrame), upsetForm us = true → s.arrays.getD array.val none = some job →
      s.ticks.find? (fun y => decide (y.id = job.tick)) = some x →
      x.frames.find? (fun g => decide (g.chan = job.chan)) = some f →
      (∀ w, s.sync.turn = some w → w.clock ≠ now) →
      let work := 0x05000000 + 0x1C000 * array.val
      let sync : Sync := { s.sync with
        freed := (f.page, now) :: s.sync.freed
        turn := s.sync.turn.map (fun w => { w with pages := w.pages.filter (fun p => !decide (p.1 = f.page)) }) }
      let r : State := { s.upset us with clock := now }
      let page := 0x03000000 + f.page * 0x8000
      let freed := s.pages.filter (fun p => !decide (p.1 = f.page))
      (r.badIn page (4 * x.len) = none → r.badIn 0x05070000 2048 = none → r.badIn work 0x1C000 = none →
        ∃ t lv loud, exec (.featureExtractionDone dt array us) s = .next t ∧ lv.length = 128 ∧ (∀ q ∈ lv, q ≤ 255) ∧
          lv = levels (if job.loose then some s.freeCount else none) s.plan (s.domainOf x) (s.frameValues x f) f.overs ∧
          t.agrees { r with
            freeCount := if job.loose then s.freeCount + 1 else s.freeCount
            arrays := s.arrays.set array.val none
            pages := freed
            sync := sync
            ticks := edit s job.tick job.chan (fun g => { g with stage := .done, levels := lv, loud := loud }) }) ∧
      (∀ a, r.badIn page (4 * x.len) = some a →
        ∃ t, exec (.featureExtractionDone dt array us) s = .next t ∧ s.recordedBoth t 0x0A
            (memoryPayload 1 .sig a 0xFFFF 0xFF 0 0) ∧
          t.agreesButRecords { r with
            arrays := s.arrays.set array.val none
            pages := freed
            sync := sync
            ticks := edit s job.tick job.chan (fun g => { g with stage := .discarded }) }) ∧
      (∀ a, r.badIn page (4 * x.len) = none → r.badIn 0x05070000 2048 = none → r.badIn work 0x1C000 = some a →
        ∃ t, exec (.featureExtractionDone dt array us) s = .next t ∧ s.recordedBoth t 0x0A
            (memoryPayload 1 .sig a 0xFFFF 0xFF 0 0) ∧
          t.agreesButRecords { r.wipe (a / 8 * 8) 8 with
            arrays := s.arrays.set array.val (some { job with loose := decide (3 ≤ s.power.vset) }) }) ∧
      (∀ a, r.badIn page (4 * x.len) = none → r.badIn 0x05070000 2048 = some a →
        (s.libDeclared = true → s.lib.accepted = true → s.lib.closed = false → s.lib.queue.length < 16 →
          ∃ t, exec (.featureExtractionDone dt array us) s = .next t ∧ s.recordedBoth t 0x0A
              (memoryPayload 1 .sig a 0xFFFF 0xFF 0 0) ∧
            t.agreesButRecords { r with lib := { s.lib with queue := s.lib.queue ++ [.plan] } }) ∧
        (s.libDeclared = false ∨ s.lib.accepted = false ∨ s.lib.closed = true →
          ∃ t, exec (.featureExtractionDone dt array us) s = .next t ∧ t.lib.planBuiltIn = true ∧
            t.arrays = s.arrays.set array.val none ∧ t.pages = freed)))

/-- The encoding stage (R15, R158, R184, R186 to R190, R193): the oldest tick whose features are complete has one query for each
valid channel, ascending, and one for the machine, or none without a valid channel; the machine vector enters the history. A
bad item-memory word starts a rebuild, which ends with the whole item memory of the seed in force. An uncorrectable word as
something that a command brings is the model's choice (log 12). -/
def Obligations.EncodingStage : Prop :=
  (∀ (terms : List HV) (tie : HV) (i : Nat), i < 8192 →
    let ones := terms.countP (fun v => v.getLsbD i)
    (majority terms tie).getLsbD i =
      if terms.length < 2 * ones then true else if 2 * ones < terms.length then false else tie.getLsbD i) ∧
  ∀ (s : State) (dt : Nat), s.mode = .run → s.volt.pauseAt = none →
    let now := s.clock + dt
    (∀ (us : List Upset) (before after : List Tick) (x : Tick), upsetForm us = true → s.lib.rebuilding = false →
      s.ticks = before ++ x :: after → (∀ y ∈ before, y.stage ≠ .features) → x.stage = .features →
      (∀ f ∈ x.frames, f.stage = .done ∨ f.stage = .discarded) →
      let fs := x.frames.filter (fun f => decide (f.stage = .done))
      let r : State := { s.upset us with clock := now }
      let put (qs : List Query) (short : Bool) : List Tick := s.ticks.map (fun u =>
        if u.id = x.id then { u with stage := .recall, queries := qs, ngramShort := short } else u)
      (fs = [] → ∃ t, exec (.tickEncoding dt us) s = .next t ∧
        t.agrees { r with
          mem := t.mem, ecc := t.ecc, ticks := put [] false, learn := { s.learn with history := 0 } } ∧
        t.sameMemoryBut r 0x050AE800 0xC00 ∧
        ∀ a, 0x050AE800 ≤ a → a < 0x050AF400 → Memory.read t.mem a = 0) ∧
      (fs ≠ [] → r.badAmong (encodeReads fs) = none →
        r.badIn 0x050AE800 (1024 * min (s.depth - 1) s.learn.history) = none → s.depth ≤ 4 → Memory.wf s.mem →
        let vecs := fs.map (fun f => s.channelVector f.levels)
        let machine := s.machineVector (fs.map (fun f => (f.chan, s.channelVector f.levels)))
        ∃ t qs, exec (.tickEncoding dt us) s = .next t ∧
          t.agrees { r with
            mem := t.mem, ecc := t.ecc
            ticks := put qs (decide (s.learn.history < s.depth - 1))
            learn := { s.learn with history := min (s.depth - 1) (s.learn.history + 1) } } ∧
          t.sameMemoryBut r 0x050AE800 0xC00 ∧
          qs.map Query.scope = fs.map ChanFrame.chan ++ [32] ∧
          qs.map Query.vec = vecs ++ [s.machineQuery machine] ∧
          (∀ q ∈ qs, q.started = false ∧ q.result = none) ∧
          (s.depth = 1 → s.machineQuery machine = machine) ∧
          (2 ≤ s.depth → t.vectorAt 0x050AE800 = machine)) ∧
      (∀ a, fs ≠ [] → r.badAmong (encodeReads fs) = some a →
        ∃ t, exec (.tickEncoding dt us) s = .next t ∧ s.recordedBoth t 0x0A
            (memoryPayload 4 .enc a 0xFFFF 0xFF 0 0) ∧
          t.agreesButRecords { r with lib := { s.lib with rebuilding := true } }) ∧
      (∀ a, fs ≠ [] → r.badAmong (encodeReads fs) = none →
        r.badIn 0x050AE800 (1024 * min (s.depth - 1) s.learn.history) = some a →
        ∃ t qs, exec (.tickEncoding dt us) s = .next t ∧ s.recordedBoth t 0x0A
            (memoryPayload 5 .enc a 0xFFFF 0xFF 0 0) ∧
          t.ticks = put qs (decide (0 < s.depth - 1)) ∧ t.learn.history = min (s.depth - 1) 1 ∧
          qs.map Query.scope = fs.map ChanFrame.chan ++ [32])) ∧
    (s.lib.rebuilding = true → ∃ t, exec (.itemMemoryRebuildEnd dt) s = .next t ∧
      t.agrees { s with
        clock := now, mem := t.mem, ecc := t.ecc, lib := { s.lib with built := true, rebuilding := false } } ∧
      t.sameMemoryBut s 0x05080000 190432 ∧ (itemMemory s.lib.seed).length = 190432 ∧
      (∀ w, 0x05080000 ≤ w → w < 0x050AE7E0 → errorsAt t.ecc w = 0) ∧
      (Memory.wf s.mem → t.peek 0x05080000 190432 = itemMemory s.lib.seed))

/-- The recall stage (R94, R199 to R210, R213, R215, R269, R334, R343, R345): at an issue opportunity, with every bank's scan
ended, the next query starts, local and fleet in turn, no fleet query in ID clash. With no uncorrectable word its lanes hold the
exact-path rows that its filters let in, in ascending row: those with an erased segment in line 0 or an estimate of at most
3,072; the nearest is the one at the smallest normalised distance, the lower row of equals. A result reaches its tick, or the
fleet query frame that waits for it, and no other. Model's choices: the length of a scan as an operand (log 8), the comparison
with the hearth as it stands at the start (log 51), the canary's outcome at the result (log 53) and the count of replays (log
62). So is the rounding of an opportunity's instant to whole timebase periods (log 7). -/
def Obligations.RecallStage : Prop :=
  ∀ (s : State) (dt : Nat), s.mode = .run → s.volt.pauseAt = none →
    let now := s.clock + dt
    (∀ (us : List Upset) (k scan : Nat), upsetForm us = true → k < 125 → (now - s.tsStart) % 2048 = 2048 * k / 125 →
      s.hearth.scanEnd ≤ now → (∀ a, s.hearth.startedAt = some a → a < now) →
      let r : State := { s.upset us with clock := now }
      let waits (x : Tick) (q : Query) : Prop := x.stage = .recall ∧ q ∈ x.queries ∧ q.started = false
      let turn := s.hearth.lastLocal = true ∧ ∃ a, s.hearth.startedAt = some a ∧ now ≤ a + 17
      let going (j : InFlight) (isLocal : Bool) : Hearth := { s.hearth with
        inFlight := s.hearth.inFlight ++ [j], nextQid := (s.hearth.nextQid + 1) % 65536, lastLocal := isLocal
        startedAt := some now, scanEnd := now + scan }
      let fits (g scope bin : Nat) : Bool := !s.isRetired g && (s.tag g).valid && !(s.tag g).spent &&
        decide ((s.tag g).erasures ≤ 32) && decide ((s.tag g).cls.toNat = s.partition g) &&
        decide ((s.tag g).severity ≠ 3) && !(decide (33 ≤ (s.tag g).scope.toNat) && decide ((s.tag g).scope.toNat ≤ 62)) &&
        (decide ((s.tag g).scope.toNat = scope) || (decide (s.partition g ≠ 1) && decide ((s.tag g).scope.toNat = 63))) &&
        ((s.tag g).binAny || decide ((s.tag g).bin.toNat = bin))
      let dist (v : HV) (g : Nat) : Nat := normalDistance (s.tag g) (s.row g) v
      let exact (v : HV) (g : Nat) : Bool := (List.range 16).any (fun i => (s.tag g).isErased i) ||
        decide (8 * (List.range 1024).countP (fun i => (s.row g).getLsbD i != v.getLsbD i) ≤ 3072)
      let rows (v : HV) (scope bin : Nat) (lane : Nat → Bool) : List Nat :=
        (List.range 16384).filter (fun g => fits g scope bin && lane (s.partition g) && exact v g)
      let found (l : Lane) (v : HV) (gs : List Nat) : Prop :=
        l = gs.foldl (fun a g => a.take g (dist v g) (s.tag g)) {} ∧ (l.none = true ↔ gs = []) ∧
        (gs ≠ [] → l.row ∈ gs ∧ l.dist = dist v l.row ∧
          ∀ g ∈ gs, l.dist < dist v g ∨ (l.dist = dist v g ∧ l.row ≤ g))
      let answers (j : InFlight) (v : HV) (ns ds : List Nat) : Prop := r.ecc = [] → Memory.wf s.mem →
        j.met = [] ∧ j.result.erasedSeen = false ∧ found j.result.normal v ns ∧ found j.result.diagnosis v ds ∧
        j.result.exact = ns.length + ds.length
      (∀ (before after : List Tick) (x : Tick) (qb qa : List Query) (q : Query),
        s.ticks = before ++ x :: after → (∀ y ∈ before, ∀ p, ¬waits y p) → x.stage = .recall →
        x.queries = qb ++ q :: qa → (∀ p ∈ qb, p.started = true) → q.started = false →
        (∀ j ∈ s.fleet.jobs, j.started = true) ∨ s.ring.clashAt ≠ none ∨ ¬turn →
        ∃ t j, exec (.queryStart dt scan us) s = .next t ∧ t.agrees { r with
            hearth := going j true
            ticks := s.ticks.map (fun u => if u.id = x.id then
              { u with queries := u.queries.modify qb.length (fun p => { p with started := true }) } else u) } ∧
          j.origin = .local x.id qb.length ∧ j.paused = false ∧ j.result.qid = s.hearth.nextQid ∧
          answers j q.vec (rows q.vec q.scope x.bin (fun c => decide (c = 1)))
            (rows q.vec q.scope x.bin (fun c => decide (c ≠ 1)))) ∧
      (∀ (jb ja : List Job) (x : Job), s.fleet.jobs = jb ++ x :: ja → (∀ j ∈ jb, j.started = true) → x.started = false →
        s.ring.clashAt = none → (∀ y ∈ s.ticks, ∀ q, ¬waits y q) ∨ turn →
        let p := x.frame.payload
        let v := hvOfBytes (slice p 16 1024)
        let asked (b : Nat) : Bool := bitOf (byteAt p 3) b
        (r.cellsBad x.cells = none →
          ∃ t j, exec (.queryStart dt scan us) s = .next t ∧ j.origin = .fleet x.id ∧ j.result.qid = s.hearth.nextQid ∧
            t.agrees { r with
              hearth := going j false
              fleet := { s.fleet with
                jobs := s.fleet.jobs.map (fun y => if y.id = x.id then { y with started := true } else y) } } ∧
            answers j v (rows v (byteAt p 1) (byteAt p 2) (fun c => asked 0 && decide (c = 1)))
              (rows v (byteAt p 1) (byteAt p 2) (fun c => asked 1 && decide (c ≠ 1) && decide (c ≠ 3)))) ∧
        (∀ a, r.cellsBad x.cells = some a →
          ∃ t, exec (.queryStart dt scan us) s = .next t ∧ t.hearth = s.hearth ∧
            t.fleet.jobs = s.fleet.jobs.filter (fun y => !decide (y.id = x.id)))) ∧
      (s.ring.clashAt ≠ none → (∀ y ∈ s.ticks, ∀ q, ¬waits y q) →
        exec (.queryStart dt scan us) s = .next { s with clock := now })) ∧
    (∀ (us : List Upset) (scan : Nat), upsetForm us = true → now < s.hearth.scanEnd →
      exec (.queryStart dt scan us) s = .next { s with clock := now }) ∧
    (∀ (q : InFlight) (rest : List InFlight) (replays : Nat), s.hearth.inFlight = q :: rest →
      let result := { q.result with
        guard := decide (s.volt.canaryPassed = some true) && !q.paused && decide (replays ≤ 8) }
      let slow := { s.volt with slowRecalls := s.volt.slowRecalls + (if 8 < replays then 1 else 0) }
      (∀ tick i, q.origin = .local tick i →
        ∃ t, exec (.recallResult dt replays) s = .next t ∧ t.hearth.inFlight = rest ∧ t.volt = slow ∧
          t.ticks = s.ticks.map (fun u => if u.id = tick then
            { u with queries := u.queries.modify i (fun p => { p with result := some result, life := q.life }) } else u) ∧
          (q.met = [] → t.agrees { s with
            clock := now, hearth := { s.hearth with inFlight := rest }, volt := slow, ticks := t.ticks })) ∧
      (∀ id, q.origin = .fleet id → q.met = [] → (∀ y ∈ s.fleet.jobs, y.id ≠ id) →
        ∃ t, exec (.recallResult dt replays) s = .next t ∧ t.agrees { s with
          clock := now, hearth := { s.hearth with inFlight := rest }, volt := slow }) ∧
      (∀ id x, q.origin = .fleet id → q.met = [] → s.fleet.jobs.find? (fun y => decide (y.id = id)) = some x →
        let p := x.frame.payload
        let lanes := (if s.learn.seasoned.contains (128 * byteAt p 1 + byteAt p 2) then q.result.normal else {},
          q.result.diagnosis)
        let visit : Visit := { src := x.frame.src, e2e := x.frame.e2e, stamp := fieldAt p 12 4, normal := lanes.1,
                               diagnosis := lanes.2, at_ := now }
        ∃ t, exec (.recallResult dt replays) s = .next t ∧ t.agrees { s with
            clock := now
            hearth := { s.hearth with inFlight := rest }
            volt := slow
            fleet := { s.fleet with
              jobs := s.fleet.jobs.map (fun y => if y.id = id then { y with result := some lanes } else y)
              visited := t.fleet.visited } } ∧
          (s.fleet.visited.length < 64 → t.fleet.visited = s.fleet.visited ++ [visit]) ∧
          (s.fleet.visited.length = 64 → t.fleet.visited = s.fleet.visited.drop 1 ++ [visit])))

/-- The learning and health stage (R14, R17, R216 to R223, R226 to R230, R232, R234, R237, R349): the oldest tick whose burst
has ended gets its health, its diagnosis, its level and its learning. A diagnosis hit is a nearest row of the diagnosis lane
within its radius, with label 1 to 14 and severity 1 or 2; the tick's is the one of highest severity, then of smallest
distance, then the earliest. A learnable query adds to its cell's counter; with no row within its radius a KINDLING cell
spawns one into the lowest free normal row; a row within its radius is admitted, and its accumulator, opened with counters
seeded from the row where none is open, takes the vector. Under hold nothing is learnt. A teach 600 s old at a close is
abandoned with outcome 5. Model's choices: the order of work in the stage (log 33), the index an accumulator takes and the
wait for a commit that may have to come first (log 26), where counters lie (log 25). -/
def Obligations.LearningStage : Prop :=
  ∀ (s : State) (dt : Nat) (before after : List Tick) (x : Tick), s.mode = .run → s.volt.pauseAt = none →
    s.ticks = before ++ x :: after → (∀ y ∈ before, y.stage = .outputs) → x.stage = .recall →
    (∀ q ∈ x.queries, q.result.isSome = true) →
    let now := s.clock + dt
    let normal (q : Query) : Lane := (q.result.getD {}).normal
    let cell (q : Query) : Nat := 128 * q.scope + x.bin
    let health (q : Query) : Nat := if (normal q).none = true ∨ (normal q).radius = 0 then 1000
      else min 1000 (500 * (normal q).dist / (normal q).radius)
    let own (q : Query) : Option Diag :=
      let l := (q.result.getD {}).diagnosis
      if l.none = false ∧ l.dist < l.radius ∧ 1 ≤ l.label ∧ l.label ≤ 14 ∧ 1 ≤ l.severity ∧ l.severity ≤ 2 then
        some { query := q.scope, severity := l.severity, cls := l.cls, label := l.label, row := l.row, dist := l.dist
               radius := l.radius, second := l.second, count := l.count, originId := l.originId
               originSlot := l.originSlot }
      else none
    let hits := x.queries.filterMap own ++ (if x.queries = [] then [] else s.learn.fleetHits)
    let ready := s.learn.accums.length + x.queries.length ≤ 512 ∨
      (s.hearth.scanEnd ≤ now ∧ s.burst = false ∧ s.learn.writes = [] ∧ s.commitWaits = none)
    (∀ us : List Upset, upsetForm us = true → ¬ready →
      exec (.learningStage dt us) s = .next { s with clock := now }) ∧
    (∀ us : List Upset, upsetForm us = true → ready →
      (∃ t y, exec (.learningStage dt us) s = .next t ∧
        t.ticks = s.ticks.map (fun u => if u.id = x.id then y else u) ∧ y.id = x.id ∧ y.stage = .outputs ∧
        y.queries = x.queries ∧ y.health = x.queries.map (fun q => (q.scope, health q)) ∧
        (∀ q ∈ x.queries, s.learn.seasoned.contains (cell q) = true → health q ≤ y.tickHealth) ∧
        (y.tickHealth = 0 ∨
          ∃ q ∈ x.queries, s.learn.seasoned.contains (cell q) = true ∧ y.tickHealth = health q) ∧
        (y.kindling = true ↔ x.queries ≠ [] ∧ ∀ q ∈ x.queries, s.learn.seasoned.contains (cell q) = false) ∧
        (hits = [] → y.diag = none) ∧
        (hits ≠ [] → ∃ l₁ d l₂, hits = l₁ ++ d :: l₂ ∧ y.diag = some d ∧
          (∀ e ∈ l₁, e.severity < d.severity ∨ (e.severity = d.severity ∧ d.dist < e.dist)) ∧
          (∀ e ∈ l₂, e.severity < d.severity ∨ (e.severity = d.severity ∧ d.dist ≤ e.dist))) ∧
        y.diagHits = x.queries.countP (fun q =>
          (own q).isSome || (decide (q.scope = 32) && !s.learn.fleetHits.isEmpty)) ∧
        (x.queries = [] → y.level = 0 ∧ y.levels = s.learn.levels) ∧
        (x.queries ≠ [] → y.levels = (y.level :: s.learn.levels).take 8 ∧
          y.level = (if s.alarmLevel ≤ y.tickHealth ∨ (∃ d, y.diag = some d ∧ d.severity = 2) then 2
            else if s.alertLevel ≤ y.tickHealth ∨ (∃ d, y.diag = some d ∧ d.severity = 1) then 1 else 0)) ∧
        t.learn.levels = y.levels ∧ t.learn.fleetHits = [] ∧
        t.hearth.inFlight = s.hearth.inFlight ∧ t.out.alert = s.out.alert ∧ t.out.alarm = s.out.alarm ∧
        t.panel = s.panel ∧ t.chans = s.chans ∧
        (s.panel.hold ≠ some false → s.learn.teach = none →
          (∀ a, a < e2eMarkAddr ∨ e2eMarkAddr + 8 ≤ a → Memory.read t.mem a = Memory.read s.mem a) ∧
          t.learn = { s.learn with
            fleetHits := [], levels := y.levels, stageTick := x.id, seasoned := t.learn.seasoned })) ∧
      (∀ (qb qa : List Query) (q : Query), x.queries = qb ++ q :: qa → (∀ p ∈ qb ++ qa, (own p).isSome = true) →
        own q = none → s.panel.hold = some false → x.status ≤ 1 → x.loadFault = false → s.learn.fleetHits = [] →
        s.learn.teach = none → (q.scope = 32 → x.clipped = [] ∧ x.ngramShort = false) →
        (q.scope ≠ 32 → q.scope ∉ x.clipped) →
        let counted (t : State) : Prop :=
          sparse t.learn.kindling (cell q) = min (2 ^ 48 - 1) (sparse s.learn.kindling (cell q) + x.tRef)
        let far := (normal q).none = true ∨ (normal q).radius ≤ (normal q).dist
        let takes (g : Nat) : Prop := s.isFree g = true ∧ ∀ w ∈ s.learn.writes, w.2.claims ≠ some g
        (∀ row, far → s.learn.seasoned.contains (cell q) = false → 8192 ≤ row → row < 15360 → takes row →
          (∀ g, 8192 ≤ g → g < row → ¬takes g) →
          ∃ t, exec (.learningStage dt us) s = .next t ∧ counted t ∧
            t.learn.writes = s.learn.writes ++ [(x.id, .spawn row q.vec q.scope x.bin 1024 2304 256)]) ∧
        (far → s.learn.seasoned.contains (cell q) = false → (∀ g, 8192 ≤ g → g < 15360 → ¬takes g) →
          State.evictable { s with clock := now } q.scope = [] →
          ∃ t, exec (.learningStage dt us) s = .next t ∧ counted t ∧ t.learn.writes = s.learn.writes ∧
            t.learn.refusedSpawns = min 65535 (s.learn.refusedSpawns + 1)) ∧
        (far → s.learn.seasoned.contains (cell q) = true →
          ∃ t, exec (.learningStage dt us) s = .next t ∧ counted t ∧ t.learn.writes = s.learn.writes) ∧
        (let row := (normal q).row
          let old := s.tag row
          let moved (b : Byte) (i : Nat) : Int :=
            if q.vec.getLsbD i then min 127 (b.toInt + 1) else max (-127) (b.toInt - 1)
          let seed (i : Nat) : Byte :=
            if old.isErased (i / 64) then 0#8 else if (s.row row).getLsbD i then 16#8 else 240#8
          (normal q).none = false → (normal q).dist < (normal q).radius → 8192 ≤ row → row < 15360 →
          sparse s.learn.lives row = q.life → old.valid = true → old.spent = false →
          s.isRetired row = false → (∀ w ∈ s.learn.writes, w.2.claims ≠ some row) →
          (∃ t, exec (.learningStage dt us) s = .next t ∧ counted t ∧
            t.learn.writes = s.learn.writes ++ [(x.id, .admission row (normal q).dist)]) ∧
          (∀ a, s.learn.accums.find? (fun a => decide (a.row = row)) = some a → a.idx < 512 → Memory.wf s.mem →
            (s.upset us).badIn (0x02000000 + 8192 * a.idx) 8192 = none →
            ∃ t b, exec (.learningStage dt us) s = .next t ∧ b ∈ t.learn.accums ∧ b.row = a.row ∧ b.idx = a.idx ∧
              b.n = (a.n + 1) % 2 ^ 32 ∧ b.k = (a.k + 1) % 256 ∧ b.lastAdmit = s.learn.admitStamp ∧ b.timer = a.timer ∧
              ∀ i, i < 8192 → (Memory.read t.mem (0x02000000 + 8192 * a.idx + i)).toInt =
                let c := moved (Memory.read s.mem (0x02000000 + 8192 * a.idx + i)) i
                if (a.n + 1) % 256 = 0 then c.tdiv 2 else c) ∧
          (∀ idx, (∀ a ∈ s.learn.accums, a.row ≠ row) → s.learn.accums.length < 512 → idx < 512 →
            (∀ a ∈ s.learn.accums, a.idx ≠ idx) → (∀ j, j < idx → ∃ a ∈ s.learn.accums, a.idx = j) →
            Memory.wf s.mem → (s.upset us).badSegments row = [] →
            ∃ t b, exec (.learningStage dt us) s = .next t ∧ b ∈ t.learn.accums ∧ b.row = row ∧ b.idx = idx ∧
              b.n = 1 ∧ b.k = 1 ∧ b.timer = s.learn.time.read now ∧
              ∀ i, i < 8192 → (Memory.read t.mem (0x02000000 + 8192 * idx + i)).toInt = moved (seed i) i)))) ∧
    (∀ y, s.learn.teach = some y → y.acceptedAt + 600 * 6144000 ≤ x.close →
      ∃ t, exec (.teachTimeout dt) s = .next t ∧
        t.agreesButRecords { s with clock := now, learn := { s.learn with teach := none } } ∧
        (let p := teachForgetPayload 5 y.label 0xFFFF 0 (y.bin.getD 0xFF) y.vecs.length 0;
          t.flue = s.flue.enter t.ts 0x09 x.close p 1 ∧ t.ash = s.ash.offer now 0x09 x.close p)) ∧
    (s.learn.teach = none ∨ (∃ y, s.learn.teach = some y ∧ x.close < y.acceptedAt + 600 * 6144000) →
      exec (.teachTimeout dt) s = .next { s with clock := now })

/-- A commit (R17, R214, R225, R226, R237, R265, R268, R269, R365): between two scans, outside a burst, after every write and
commit of an earlier tick, and never under hold, each bit of the row becomes the sign of its counter, a zero counter keeps
it; a segment that is erased is kept until 64 admissions, and is then written whole and no longer erased. A bad counter word
re-seeds the accumulator instead, and the row is unchanged; a bad tag word makes the row spent. A commit that finds an
uncorrectable segment follows the model's reading (log 35); where counters lie is its choice (log 25). -/
def Obligations.Commits : Prop :=
  ∀ (s : State) (dt : Nat) (acc : Fin 512) (us : List Upset) (x : Accum) (tick : Nat),
    upsetForm us = true → s.mode = .run → s.volt.pauseAt = none →
    s.learn.accums.find? (fun a => decide (a.idx = acc.val) && a.due.isSome) = some x → x.due = some tick →
    let now := s.clock + dt
    let r : State := { s.upset us with clock := now }
    let old := s.tag x.row
    let full := 64 ≤ x.n
    let late := (∃ w ∈ s.learn.writes, w.1 < tick) ∨
      (∃ a ∈ s.learn.accums, ∃ d, a.due = some d ∧ (∀ y ∈ s.learn.accums, ∀ e, y.due = some e → d ≤ e) ∧ d < tick)
    (s.panel.hold ≠ some false ∨ s.burst = true ∨ now < s.hearth.scanEnd →
      exec (.commit dt acc us) s = .next { s with clock := now }) ∧
    (s.panel.hold = some false → s.burst = false → s.hearth.scanEnd ≤ now → ¬late → x.row < 16384 → Memory.wf s.mem →
      (r.badIn (0x02000000 + 8192 * acc.val) 8192 = none → r.tagBad x.row = false → r.badSegments x.row = [] →
        old.erasures ≤ 32 →
        ∃ t, exec (.commit dt acc us) s = .next t ∧
          t.tag x.row = { old with erased := if full then 0 else old.erased, gen := old.gen + 1 } ∧
          (∀ i, i < 8192 → (t.row x.row).getLsbD i =
            let c := (Memory.read s.mem (0x02000000 + 8192 * acc.val + i)).toInt
            if old.isErased (i / 64) then (if full then decide (0 < c) else (s.row x.row).getLsbD i)
            else if 0 < c then true else if c < 0 then false else (s.row x.row).getLsbD i) ∧
          (∀ g, g < 16384 → g ≠ x.row → t.tag g = s.tag g ∧ t.row g = s.row g) ∧
          t.learn = { s.learn with accums := s.learn.accums.map (fun a => if a.idx = acc.val then
            { x with k := 0, timer := s.learn.time.read now, due := none } else a) } ∧
          (8192 ≤ x.row → t.vault.dirty.any (fun d => decide (d.row = x.row) && d.data) = true) ∧
          t.hearth = s.hearth ∧ t.ticks = s.ticks ∧ t.panel = s.panel) ∧
      (∀ a, r.badIn (0x02000000 + 8192 * acc.val) 8192 = some a → r.badSegments x.row = [] →
        (∀ y ∈ s.learn.accums, y.idx = acc.val → y = x) →
        ∃ t, exec (.commit dt acc us) s = .next t ∧ (∀ g, g < 16384 → t.tag g = s.tag g ∧ t.row g = s.row g) ∧
          t.learn = { s.learn with accums := s.learn.accums.map (fun y => if y.idx = acc.val then
            { x with n := 0, k := 0, timer := s.learn.time.read now, due := none } else y) } ∧
          s.recordedBoth t 0x0A (memoryPayload 9 .lrn a x.row 0xFF old.erasures 0) ∧
          (∀ i, i < 8192 → Memory.read t.mem (0x02000000 + 8192 * acc.val + i) =
            if old.isErased (i / 64) then 0#8 else if (s.row x.row).getLsbD i then 16#8 else 240#8)) ∧
      (r.badIn (0x02000000 + 8192 * acc.val) 8192 = none → r.tagBad x.row = true → s.isRetired x.row = false →
        ∃ t, exec (.commit dt acc us) s = .next t ∧
          t.tag x.row = { cls := BitVec.ofNat 2 (s.partition x.row), spent := true } ∧ t.row x.row = s.row x.row ∧
          (∀ g, g < 16384 → g ≠ x.row → t.tag g = s.tag g ∧ t.row g = s.row g) ∧
          (∀ a ∈ t.learn.accums, a.row ≠ x.row)))

/-- The outputs of a tick (R65, R71, R96, R135, R238 to R242, R250, R254), the heartbeat (R71, R95, R248, R249), the writes of
the running time and the kindling counters each 60 s of RUN (R216, R275, R286), and the flashes of the LEDs (R244). An alarm
change goes through the router, and the next tick's records wait for it. Model's choices: when a pin counts as changed (log 31),
the idle timer and the count of R71 at a tick (log 32), and when the heartbeats come and how their means round (log 52). -/
def Obligations.TickShown : Prop :=
  ∀ (s : State) (dt : Nat),
    let now := s.clock + dt
    (s.mode ≠ .run ∨ s.volt.pauseAt ≠ none ∨ s.ticks = [] ∨ (∃ e ∈ s.router.flue, e.rank = 7) ∨
        (∃ x rest, s.ticks = x :: rest ∧ x.stage ≠ .outputs) →
      exec (.tickOutputs dt) s = .next { s with clock := now }) ∧
    (∀ (x : Tick) (rest : List Tick), s.mode = .run → s.volt.pauseAt = none → (∀ e ∈ s.router.flue, e.rank ≠ 7) →
      s.ticks = x :: rest → x.stage = .outputs →
      let k := s.persistence
      let pin (level : Nat) (old : Bool) : Bool :=
        let n := (x.levels.filter (fun l => decide (level ≤ l))).length
        if x.queries = [] then old else if k ≤ n then true else if n ≤ (k - 1) / 2 then false else old
      let alert := pin 1 s.out.alert
      let alarm := pin 2 s.out.alarm
      let causes := (if x.loadFault then 2 else 0) + (if x.queries = [] then 4 else 0)
      let broken := (s.chans.take s.channels).any (fun c => decide (3 ≤ c.status) && decide (c.status ≤ 5))
      let fault := broken || decide (0 < causes)
      let quiet := x.edge = false ∧ ∀ f ∈ x.frames, f.stage ≠ .discarded → f.loud = false
      ∃ t, exec (.tickOutputs dt) s = .next t ∧ ((∀ y ∈ rest, y.id ≠ x.id) → t.ticks = rest) ∧
        t.out = { s.out with
          alert := alert, alarm := alarm, fault := fault, faultCauses := causes, tickHealth := x.tickHealth
          health := some (if x.queries = [] then 720 else 800 + (16 * x.tickHealth + 2) / 5)
          reported := (if alert then 1 else 0) + (if alarm then 2 else 0) + (if fault then 4 else 0)
          led0 := t.out.led0, led1 := t.out.led1 } ∧
        (quiet → t.power.idle = s.power.idle) ∧
        (¬quiet → t.power.idle = (if s.power.idle.since.isSome then { acc := 0, since := some now } else {})) ∧
        (quiet → (∃ f ∈ x.frames, f.stage ≠ .discarded) → t.power.spotTicks = s.power.spotTicks + 1) ∧
        (¬quiet ∨ (∀ f ∈ x.frames, f.stage = .discarded) → t.power.spotTicks = 0) ∧
        (x.deadlineFailed = false → now < s.tsStart + 4 * x.close + 3 * x.tRef → (∀ y ∈ s.ticks, y.id ≤ x.id) →
          t.volt.monitorFailed = false ∧ t.volt.canaryFails = s.volt.canaryFails ∧ t.ash = s.ash) ∧
        (let code := match x.diag with | some d => d.severity % 4 + 4 * (d.cls % 4) + 16 * (d.label % 16) | none => 0
          let p := [BitVec.ofNat 8 t.out.reported, BitVec.ofNat 8 s.out.reported,
              BitVec.ofNat 8 ((if broken then 1 else 0) + causes)] ++
            leBytes 2 (levelsWord (x.levels.take 8)) ++ leBytes 2 x.tickHealth ++ [BitVec.ofNat 8 code]
          (t.out.reported = s.out.reported → t.router = s.router) ∧
          (t.out.reported ≠ s.out.reported → s.router.flue.length < 32 → s.router.ash.length < 32 →
            t.router = { s.router with
              flue := s.router.flue ++ [{ time := x.close, rank := 7, type := 0x06, payload := p }]
              ash := s.router.ash ++ [{ time := x.close, rank := 7, type := 0x08, payload := p }] })) ∧
        (s.router.flue.length < 32 ∨ t.out.reported = s.out.reported →
          let summed := if s.alarmsOnly then s.flue else s.flue.enter t.ts 0x04 x.close x.summaryPayload 3
          t.flue = match x.diag with
            | some d => summed.enter t.ts 0x05 x.close (diagnosisPayload d x.diagHits) 1
            | none => summed) ∧
        t.learn = s.learn ∧ t.hearth = s.hearth ∧ t.chans = s.chans ∧ t.panel = s.panel ∧ t.sync = s.sync ∧
        ∀ a, a < e2eMarkAddr ∨ e2eMarkAddr + 8 ≤ a → Memory.read t.mem a = Memory.read s.mem a) ∧
    (s.mode = .run → s.volt.pauseAt = none → s.flue.heartbeatAt ≤ now →
      ∃ t, exec (.heartbeat dt) s = .next t ∧ t.agreesButRecords { s with
          clock := now
          volt := { s.volt with lowest := s.power.vset }
          sync := { s.sync with auxSums := List.replicate 8 (0, 0) } } ∧
        t.ash = s.ash ∧ t.router = s.router ∧
        t.flue = { s.flue.enter t.ts 0x03 t.ts (State.heartbeatPayload { s with clock := now } false) 2 with
          heartbeatAt := s.flue.heartbeatAt + 24576000, wakeMask := none }) ∧
    (s.mode ≠ .run ∨ s.volt.pauseAt ≠ none ∨ s.ash.waiting ≠ [] ∨ s.vault.entries ≠ [] ∨
        s.power.running.read now < s.vault.persistAt + 60 * 24576000 →
      exec (.kindlingCounterPersist dt) s = .next { s with clock := now }) ∧
    (s.mode = .run → s.volt.pauseAt = none → s.ash.waiting = [] → s.vault.entries = [] →
      s.vault.persistAt + 60 * 24576000 ≤ s.power.running.read now → Memory.wf s.mem →
      ∃ t, exec (.kindlingCounterPersist dt) s = .next t ∧ t.agrees { s with
          clock := now, mem := t.mem, ecc := t.ecc
          vault := { s.vault with persistAt := s.vault.persistAt + 60 * 24576000 } } ∧
        ((∀ p ∈ s.learn.kindling, p.1 < 4224) →
          t.peekNat runSecondsAddr 8 = (s.vault.runSeconds + s.power.running.read now / 24576000) % 2 ^ 64 ∧
          ∀ a, a < runSecondsAddr ∨ (runSecondsAddr + 8 ≤ a ∧ a < 0x08842000) ∨ 0x0884A400 ≤ a →
            Memory.read t.mem a = Memory.read s.mem a) ∧
        (∀ kb ka c n, s.learn.kindling = kb ++ (c, n) :: ka → (∀ p ∈ ka, p.1 ≠ c) → n < 2 ^ 64 →
          t.peekNat (0x08842000 + 8 * c) 8 = n) ∧
        (∀ c, c < 4224 → (∀ p ∈ s.learn.kindling, p.1 ≠ c) → t.peekNat (0x08842000 + 8 * c) 8 = 0)) ∧
    (∀ led : Bool, s.ledsRight →
      let old := if led then s.out.led1 else s.out.led0
      let show_ (new : Led) : Prop := ∃ t, exec (.ledFlash dt led) s = .next t ∧ t = { s with
        clock := now
        out := if led then { s.out with led1 := new } else { s.out with led0 := new } }
      (∀ hz, old.pattern = .flash hz → old.since + 24576000 / (2 * hz) ≤ now →
        show_ { old with
          phase := 1 - old.phase, since := old.since + 24576000 / (2 * hz), lit := decide (old.phase ≠ 0) }) ∧
      (∀ n, old.pattern = .blink n →
        let length := if old.phase = 2 * n then 29491200 else 4915200
        let next := if old.phase = 2 * n then 0 else old.phase + 1
        old.since + length ≤ now →
        show_ { old with
          phase := next, since := old.since + length, lit := decide (next < 2 * n) && decide (next % 2 = 0) }))

/-! ### Rows, the smoulder, the flash and the vault -/

/-- A pending write lands in the gap of its bank (R17, R214, R220, R222, R224, R226, R233, R258, R268, R276, R350), oldest
first, after the burst, after every commit of an earlier tick, and between two scans; with none to land, the oldest waiting
teach, forget or sweep frame does. In every state in which masters run, an access that strays out of its window is blocked and
reported, and a blocked read counts as a find of its region (R260, R261). Model's choices: the order of the writes of a tick
(log 33), how a stray access comes about (log 60), and how a lost write does (log 61). -/
def Obligations.RowWrites : Prop :=
  ∀ (s : State) (dt lost : Nat) (bank : Fin 256),
    let now := s.clock + dt
    (s.mode = .run → s.volt.pauseAt = none →
      (now < s.hearth.scanEnd ∨ (s.fleet.held = [] ∧
          (s.burst = true ∨ ∀ y ∈ s.learn.writes, bankOf y.2.row ≠ bank.val)) →
        exec (.rowWrite dt bank lost none) s = .next { s with clock := now }) ∧
      (∀ (h : HeldFrame) (rest : List HeldFrame), s.fleet.held = h :: rest → s.hearth.scanEnd ≤ now →
        (∀ y ∈ s.learn.writes, bankOf y.2.row ≠ bank.val) → (∀ a ∈ s.learn.accums, a.due = none) →
        byteAt h.frame.payload 0 = 0 → trafficType h.frame.cls = 4 → h.frame.payload.length = 16 →
        s.ringOn = true → s.ring.clashAt = none → fieldAt h.frame.payload 2 2 < 1024 →
        fieldAt h.frame.payload 12 4 = s.seedHash → byteAt h.frame.payload 1 = s.mclass →
        0 ≤ serial32 (fieldAt h.frame.payload 8 4) (sparse s.vault.fleetSeq h.frame.src) → Memory.wf s.mem →
        ∃ t, exec (.rowWrite dt bank lost none) s = .next t ∧ t.fleet = { s.fleet with held := rest } ∧
          ∀ g, g < 16384 → t.row g = s.row g ∧
            t.tag g = if g ∈ s.holders h.frame.src (fieldAt h.frame.payload 2 2) then { cls := 3 } else s.tag g)) ∧
    (∀ (wb wa : List (Nat × RowOp)) (tick : Nat) (w : RowOp), s.mode = .run → s.volt.pauseAt = none → s.burst = false →
      s.hearth.scanEnd ≤ now → s.learn.writes = wb ++ (tick, w) :: wa →
      bankOf w.row = bank.val → (∀ y ∈ wb, bankOf y.2.row ≠ bank.val) → (∀ y ∈ s.learn.writes, tick ≤ y.1) →
      (∀ a ∈ s.learn.accums, ∀ d, a.due = some d → tick ≤ d) → w.row < 16384 → Memory.wf s.mem →
      let old := s.tag w.row
      let others (t : State) : Prop := t.hearth = s.hearth ∧ t.ticks = s.ticks ∧
        t.learn.writes.map Prod.fst = (wb ++ wa).map Prod.fst ∧
        t.learn.writes.map (fun y => y.2.row) = (wb ++ wa).map (fun y => y.2.row) ∧
        ∀ g, g < 16384 → g ≠ w.row → t.tag g = s.tag g ∧ t.row g = s.row g
      let written (t : State) (v : HV) (new : Tag) : Prop := exec (.rowWrite dt bank lost none) s = .next t ∧ others t ∧
        t.tag w.row = new ∧ t.row w.row = v ∧
        (8192 ≤ w.row → t.vault.dirty.any (fun d => decide (d.row = w.row) && d.data && d.tag) = true) ∧
        (∀ a ∈ t.learn.accums, a.row ≠ w.row) ∧ t.flue = s.flue ∧ t.ash = s.ash
      (∀ row v scope bin radius mu delta, w = .spawn row v scope bin radius mu delta →
        ∃ t, written t v { cls := 1, valid := true, scope := BitVec.ofNat 6 scope, bin := BitVec.ofNat 7 bin
                           radius := BitVec.ofNat 14 radius, mu := BitVec.ofNat 14 mu, delta := BitVec.ofNat 12 delta
                           gen := old.gen + 1 } ∧
          sparse t.learn.spawned row = s.vault.runSeconds + s.power.running.read now / 24576000 ∧
          (∀ q ∈ t.fleet.queries, q.row = row → q.kind = 2 → q.gen ≠ none)) ∧
      (∀ row v bin label severity radius mu delta originId slot,
        w = .taught row v bin label severity radius mu delta originId slot →
        ∃ t, written t v { cls := 2, valid := true, scope := 32, bin := BitVec.ofNat 7 bin, binAny := true
                           label := BitVec.ofNat 4 label, severity := BitVec.ofNat 2 severity
                           radius := BitVec.ofNat 14 radius, mu := BitVec.ofNat 14 mu, delta := BitVec.ofNat 12 delta
                           gen := old.gen + 1, originId := BitVec.ofNat 8 originId, originSlot := BitVec.ofNat 10 slot } ∧
          t.learn.spawned = s.learn.spawned ∧ t.learn.writes = wb ++ wa) ∧
      (∀ row dn, w = .admission row dn → s.tagBad row = false → old.valid = true → old.spent = false →
        let err : Int := 4 * (dn : Int) - old.mu.toNat
        let mu := max 0 (min 16383 ((old.mu.toNat : Int) + (err + 16) / 32))
        let delta := max 0 (min 4095 ((old.delta.toNat : Int) + ((err.natAbs : Int) - old.delta.toNat + 16) / 32))
        ∃ t, exec (.rowWrite dt bank lost none) s = .next t ∧ others t ∧ t.row row = s.row row ∧
          t.learn.writes = wb ++ wa ∧ t.tag row = { old with
            hits := BitVec.ofNat 16 (min 65535 (old.hits.toNat + 1)), mu := BitVec.ofInt 14 mu
            delta := BitVec.ofInt 12 delta, radius := BitVec.ofInt 14 (min 2560 ((mu + 6 * delta) / 4 + 64)) }) ∧
      (∀ row gen mu delta radius, w = .borrow row gen mu delta radius → s.tagBad row = false →
        ∃ t, exec (.rowWrite dt bank lost none) s = .next t ∧ others t ∧ t.row row = s.row row ∧
          t.learn.writes = wb ++ wa ∧
          t.tag row = if old.valid = true ∧ old.spent = false ∧ gen = some old.gen.toNat ∧ old.hits = 0 then
            { old with mu := BitVec.ofNat 14 mu, delta := BitVec.ofNat 12 delta, radius := BitVec.ofNat 14 radius }
            else old) ∧
      ((∃ row dn, w = .admission row dn) ∨ (∃ row gen mu delta radius, w = .borrow row gen mu delta radius) →
        s.tagBad w.row = true → s.isRetired w.row = false →
        ∃ t, exec (.rowWrite dt bank lost none) s = .next t ∧ others t ∧ t.row w.row = s.row w.row ∧
          t.tag w.row = { cls := BitVec.ofNat 2 (s.partition w.row), spent := true })) ∧
    (∀ x : Access, s.windowOpen x = true →
      s.mode ≠ .run ∨ (s.burst = true ∧ s.fleet.held = []) →
      ∃ t, exec (.rowWrite dt bank lost (some x)) s = .next t ∧ t.agrees { s with clock := now }) ∧
    (∀ x : Access, s.windowOpen x = false → s.dumpHolds = false → s.fleet.held = [] → s.volt.pauseAt = none →
      (s.mode = .bist ∨ s.mode = .load ∨ s.mode = .configFault ∨ s.mode = .fault ∨ (s.mode = .run ∧ s.burst = true)) →
      let p := memoryPayload 7 x.master x.addr 0xFFFF 0xFF 0 0
      (x.write = true ∨ regionOf x.addr = none ∨ regionOf x.addr = some .ash →
        ∃ t, exec (.rowWrite dt bank lost (some x)) s = .next t ∧ t.agreesButRecords { s with clock := now } ∧
          s.recordedBoth t 0x0A p) ∧
      (x.write = false → regionOf x.addr = some .hearthTags → s.isRetired ((x.addr - 0x01000000) / 32) = false →
        Memory.wf s.mem →
        let row := (x.addr - 0x01000000) / 32
        ∃ t, exec (.rowWrite dt bank lost (some x)) s = .next t ∧
          t.tag row = { cls := BitVec.ofNat 2 (s.partition row), spent := true } ∧
          (∃ rest, t.ash.waiting = s.ash.waiting ++ rest) ∧
          ∀ g, g < 16384 → g ≠ row → t.tag g = s.tag g ∧ t.row g = s.row g))

/-- The smoulder and its heals (R196, R214, R256 to R259, R263 to R268, R273, R275, R283, R366): the next unit of a region is
read once no requester of higher priority has work for it; a correctable word is written back, an uncorrectable segment of a
valid row is erased and its heal asked for, and an uncorrectable tag makes its row spent; a retired row is left alone, and a
lost write is abandoned. A heal from the vault restores the segment's word, clears its erasure bit and steps the generation.
Model's choices: details of a find (log 36), how a lost write comes about (log 61), and that the row of a refused heal counts
as data-dirty (log 69). -/
def Obligations.SmoulderHeals : Prop :=
  ∀ (s : State) (dt : Nat) (us : List Upset), upsetForm us = true → s.mode = .run → s.volt.pauseAt = none →
    let now := s.clock + dt
    let r : State := { s.upset us with clock := now }
    (∀ (region : Region) (lost : Bool),
      let i := regionIndex region
      let p := s.smoulder.pointers.getD i 0
      let ended := regionSize region / unitBytes region ≤ p
      let unit := if ended then 0 else p
      let base := regionBase region + unit * unitBytes region
      let moved : Smoulder := { s.smoulder with
        pointers := s.smoulder.pointers.set i (unit + 1)
        periodAt := if ended then s.smoulder.periodAt.modify i (fun a => a + scrubPeriod region)
          else s.smoulder.periodAt }
      let busy (bank : Nat) : Prop := now < s.hearth.scanEnd ∨ (∃ w ∈ s.learn.writes, bankOf w.2.row = bank) ∨
        (s.panel.hold = some false ∧ ∃ a ∈ s.learn.accums, a.due ≠ none ∧ bankOf a.row = bank) ∨
        ∃ h ∈ s.smoulder.heals, bankOf h.row = bank
      let free : Prop := (region = .hearthData → ¬busy (bankOf (unit / 8))) ∧
        (region = .hearthTags → ¬busy (bankOf (unit / 4))) ∧
        (region ∈ [Region.vaultData, .vaultTags, .persistent, .ash] → s.ash.waiting = [] ∧ s.vault.entries = [] ∧
          s.power.running.read now < s.vault.persistAt + 60 * 24576000)
      (¬free ∨ (ended ∧ now < s.smoulder.periodAt.getD i 0 + scrubPeriod region) →
        exec (.smoulderRead dt region us lost) s = .next { s with clock := now }) ∧
      (free → (ended → s.smoulder.periodAt.getD i 0 + scrubPeriod region ≤ now) →
      ((∀ a, base ≤ a → a < base + unitBytes region → errorsAt r.ecc a < fatalErrors a) → region ≠ .hearthTags →
        ∃ t, exec (.smoulderRead dt region us lost) s = .next t ∧
          t.agrees { r with ecc := t.ecc, smoulder := moved } ∧
          (∀ a, base ≤ a → a < base + unitBytes region → (a - base) % 8 = 0 → errorsAt t.ecc a =
            if (lost = true ∧ region = .counters) ∨ (region = .hearthData ∧ s.isRetired (a / 1024) = true) ∨
              (mramBase ≤ a ∧ errorsAt r.ecc a = 1) then errorsAt r.ecc a else 0) ∧
          (∀ a, a < base ∨ base + unitBytes region ≤ a → errorsAt t.ecc a = errorsAt r.ecc a)) ∧
      (∀ g, region = .hearthData → g < 16 → fatalErrors (base + 8 * g) ≤ errorsAt r.ecc (base + 8 * g) →
        (∀ k, k < 16 → k ≠ g → errorsAt r.ecc (base + 8 * k) = 0) → Memory.wf s.mem → base < 0x01000000 →
        let row := base / 1024
        let seg := (base + 8 * g) % 1024 / 8
        let old := s.tag row
        r.tagBad row = false → s.isRetired row = false → old.valid = true → old.spent = false → old.isErased seg = false →
        old.erasures < 32 →
        (lost = true → ∃ t, exec (.smoulderRead dt region us lost) s = .next t ∧ t.agrees { r with smoulder := moved }) ∧
        (lost = false → ∃ t, exec (.smoulderRead dt region us lost) s = .next t ∧
          t.tag row = { old with erased := old.erased ||| (1#128 <<< seg) } ∧ t.row row = s.row row ∧
          (∀ k, k < 16384 → k ≠ row → t.tag k = s.tag k ∧ t.row k = s.row k) ∧
          s.recordedBoth t 0x0A (memoryPayload 1 .smd (base + 8 * g) row seg (old.erasures + 1) 0) ∧
          (s.partition row = 1 ∨ s.partition row = 2 →
            t.smoulder.heals = s.smoulder.heals ++ [⟨row, seg, old.gen.toNat, false⟩]) ∧
          (s.partition row = 0 → s.libDeclared = true → s.lib.accepted = true → s.lib.closed = false →
            s.lib.queue.length < 16 → t.lib.queue = s.lib.queue ++ [.segments row old.gen.toNat false]))) ∧
      (region = .hearthTags → base < 0x01080000 → fatalErrors base ≤ errorsAt r.ecc base → Memory.wf s.mem →
        let row := (base - 0x01000000) / 32
        (s.isRetired row = true → ∃ t, exec (.smoulderRead dt region us lost) s = .next t ∧
          t.agrees { r with smoulder := moved }) ∧
        (lost = true → ∃ t, exec (.smoulderRead dt region us lost) s = .next t ∧
          t.agrees { r with smoulder := moved, lib := t.lib }) ∧
        (lost = false → s.isRetired row = false → ∃ t, exec (.smoulderRead dt region us lost) s = .next t ∧
          t.tag row = { cls := BitVec.ofNat 2 (s.partition row), spent := true } ∧ t.tagBad row = false ∧
          t.row row = s.row row ∧ (∀ k, k < 16384 → k ≠ row → t.tag k = s.tag k ∧ t.row k = s.row k) ∧
          (∀ a ∈ t.learn.accums, a.row ≠ row))))) ∧
    (∀ (h : Heal) (rest : List Heal) (lost : Nat), s.smoulder.heals = h :: rest → 8192 ≤ h.row → h.row < 16384 →
      h.seg < 128 → Memory.wf s.mem → r.tagBad h.row = false → (s.tag h.row).valid = true → (s.tag h.row).spent = false →
      (s.tag h.row).isErased h.seg = true →
      let old := s.tag h.row
      let a := vaultAddr h.row + 8 * h.seg
      let stays (t : State) : Prop := ∀ g, g < 16384 → t.tag g = s.tag g ∧ t.row g = s.row g
      let waits : Prop := now < s.hearth.scanEnd ∨ (∃ w ∈ s.learn.writes, bankOf w.2.row = bankOf h.row) ∨
        (s.panel.hold = some false ∧ ∃ x ∈ s.learn.accums, x.due ≠ none ∧ bankOf x.row = bankOf h.row)
      (waits → exec (.vaultHeal dt us lost) s = .next { s with clock := now }) ∧
      (¬waits →
      (old.gen.toNat = h.gen → s.dataDirty h.row = false → s.entryHeld h.row = false → r.bad a = false →
        r.vaultErased h.row h.seg = false → lost < 2 →
        ∃ t, exec (.vaultHeal dt us lost) s = .next t ∧ t.smoulder.heals = rest ∧
          t.tag h.row = { old with erased := old.erased &&& ~~~(1#128 <<< h.seg), gen := old.gen + 1 } ∧
          t.peek (rowAddr h.row + 8 * h.seg) 8 = s.peek a 8 ∧
          errorsAt t.ecc (rowAddr h.row + 8 * h.seg) = 0 ∧
          (∀ i, i < 8192 → i / 64 ≠ h.seg → (t.row h.row).getLsbD i = (s.row h.row).getLsbD i) ∧
          (∀ g, g < 16384 → g ≠ h.row → t.tag g = s.tag g ∧ t.row g = s.row g) ∧
          s.recordedBoth t 0x0A (memoryPayload 2 .vlt (rowAddr h.row + 8 * h.seg) h.row h.seg (old.erasures - 1) 2)) ∧
      (old.gen.toNat ≠ h.gen → ∃ t, exec (.vaultHeal dt us lost) s = .next t ∧ stays t ∧
        t.smoulder.heals = rest ++ (if h.again = false ∧ (s.partition h.row = 1 ∨ s.partition h.row = 2) then
          [⟨h.row, h.seg, old.gen.toNat, true⟩] else [])) ∧
      (old.gen.toNat = h.gen → s.dataDirty h.row = true ∨ s.entryHeld h.row = true →
        ∃ t, exec (.vaultHeal dt us lost) s = .next t ∧
          t.agrees { r with smoulder := { s.smoulder with heals := rest }, vault := t.vault } ∧
          t.vault = { s.vault with dirty := t.vault.dirty } ∧
          t.vault.dirty.any (fun d => decide (d.row = h.row) && d.data && d.tag) = true) ∧
      (old.gen.toNat = h.gen → s.dataDirty h.row = false → s.entryHeld h.row = false → r.bad a = true →
        ∃ t, exec (.vaultHeal dt us lost) s = .next t ∧ stays t ∧ t.smoulder.heals = rest ∧
          s.recordedBoth t 0x0A (memoryPayload 0x0A .vlt a h.row h.seg old.erasures 0))))

/-- The flash interface in RUN (R86, R96, R214, R256, R258, R259, R268, R302, R307, R308): band plan requests go first, the
flash is woken and put to sleep as the image asks, the whole record or plan is read; in a step-up pause only its buffer fills. A
good plan replaces the stored one; after a fourth bad attempt the built-in plan stands and every library row is invalid. A
record heals the erased segments of its row, or fills a spent row again, in a gap and unless the row changed meanwhile; a tag
that cannot be read makes the row spent. What is held of the flash commands is the model's choice (log 50), as is how a lost
write comes about (log 61). -/
def Obligations.FlashServes : Prop :=
  ∀ (s : State) (dt : Nat), s.mode = .run →
    let now := s.clock + dt
    let h := s.lib.header
    let idle : Library := { s.lib with serving := none, asleep := bitOf h.flags 0 }
    let wake : List FlashCmd := if bitOf h.flags 0 then [{ code := 0xAB, wait := h.tres }] else []
    let sleep : List FlashCmd := if bitOf h.flags 0 then [{ code := 0xB9 }] else []
    let ofRow (g : Nat) : FlashCmd := { code := h.rdcmd, addr := some (0x900 + 1064 * g), clk := h.clk, length := 1064 }
    let ofPlan : FlashCmd := { code := h.rdcmd, addr := some 0x100, clk := h.clk, length := 2048 }
    (∀ (it : List Byte) (lost : Nat) (q : Refetch), s.volt.pauseAt ≠ none → s.lib.serving = some q →
      it.length = (if q = .plan then 2048 else 1064) →
      exec (.refetch dt) s = .next { s with clock := now } ∧
      (s.lib.planFails = 0 → ∃ t, exec (.refetchComplete dt it lost) s = .next t ∧ t.agrees { s with
        clock := now, cross := { s.cross with flash := it.take 1024 } }) ∧
      (0 < s.lib.planFails → q = .plan → s.lib.planAt + 24576 ≤ now →
        ∃ t, exec (.bandPlanRetry dt it) s = .next t ∧ t.agrees { s with
          clock := now, cross := { s.cross with flash := it.take 1024 } })) ∧
    (∀ (q : Refetch) (rest : List Refetch), s.volt.pauseAt = none → s.lib.serving = none → s.lib.queue = q :: rest → s.libDeclared = true →
      s.lib.accepted = true → s.lib.closed = false →
      let next := if Refetch.plan ∈ s.lib.queue then Refetch.plan else q
      ∃ t, exec (.refetch dt) s = .next t ∧ t.agrees { s with
        clock := now, lib := { s.lib with serving := some next, queue := s.lib.queue.erase next, asleep := false }
        flash := wake ++ (match next with
          | .plan => [ofPlan]
          | .segments g _ _ => [ofRow g]
          | .full g _ _ => [ofRow g]) }) ∧
    (∀ (it : List Byte) (lost : Nat), it.length = 2048 → s.volt.pauseAt = none → s.lib.serving = some .plan →
      Memory.wf s.mem →
      let stored (t : State) (again : List FlashCmd) : Prop := t.agrees { s with
          clock := now, mem := t.mem, ecc := t.ecc, lib := { idle with planFails := 0, planBuiltIn := false }
          flash := s.flash ++ again ++ sleep } ∧
        t.peek 0x05070000 2048 = it ∧ t.sameMemoryBut s 0x05070000 0x10000
      let failed (t : State) (again : List FlashCmd) : Prop := t.agrees { s with
        clock := now, lib := { s.lib with planFails := s.lib.planFails + 1, planAt := now }, flash := s.flash ++ again }
      (s.lib.planFails = 0 → ∃ t, exec (.refetchComplete dt it lost) s = .next t ∧
        (planGood it = true → stored t []) ∧ (planGood it = false → failed t [])) ∧
      (0 < s.lib.planFails → s.lib.planAt + 24576 ≤ now → ∃ t, exec (.bandPlanRetry dt it) s = .next t ∧
        (planGood it = true → stored t [ofPlan]) ∧
        (planGood it = false → s.lib.planFails < 3 → failed t [ofPlan]) ∧
        (planGood it = false → 3 ≤ s.lib.planFails →
          t.lib = { idle with planBuiltIn := true, closed := true, queue := [], planFails := 0 } ∧
          t.flash = s.flash ++ [ofPlan] ++ sleep ∧
          (∀ g, g < 16384 → t.row g = s.row g ∧
            t.tag g = if g < s.libraryRows then { s.tag g with valid := false } else s.tag g) ∧
          s.recordedBoth t 0x0A (memoryPayload 3 .lib 0x8FC 0xFFFF 7 0 1)))) ∧
    (∀ (it : List Byte) (lost row gen : Nat) (again : Bool), it.length = 1064 → s.volt.pauseAt = none →
      s.lib.planFails = 0 → row < 16384 → Memory.wf s.mem →
      let old := s.tag row
      let others (t : State) : Prop := ∀ g, g < 16384 → g ≠ row → t.tag g = s.tag g ∧ t.row g = s.row g
      let plain (t : State) : Prop := t.agrees { s with clock := now, lib := idle, flash := s.flash ++ sleep }
      let waits : Prop := now < s.hearth.scanEnd ∨ (∃ w ∈ s.learn.writes, bankOf w.2.row = bankOf row) ∨
        (s.panel.hold = some false ∧ ∃ x ∈ s.learn.accums, x.due ≠ none ∧ bankOf x.row = bankOf row)
      (s.lib.serving = some (.segments row gen again) ∨ s.lib.serving = some (.full row gen again) →
        (waits → exec (.refetchComplete dt it lost) s = .next { s with clock := now }) ∧
        (¬waits → s.tagBad row = true → s.isRetired row = false →
          ∃ t, exec (.refetchComplete dt it lost) s = .next t ∧ others t ∧ t.row row = s.row row ∧
            t.lib.serving = none ∧ t.tag row = { cls := BitVec.ofNat 2 (s.partition row), spent := true })) ∧
      (¬waits → s.tagBad row = false → s.lib.serving = some (.segments row gen again) →
        (recordCrcGood it = false ∨ old.valid = false ∨ old.spent = true ∨ (old.gen.toNat = gen ∧ 2 ≤ lost) ∨
            (old.gen.toNat = gen ∧ old.erased = 0) ∨ (old.gen.toNat ≠ gen ∧ again = true) →
          ∃ t, exec (.refetchComplete dt it lost) s = .next t ∧ plain t) ∧
        (recordCrcGood it = true → old.valid = true → old.spent = false → old.gen.toNat = gen → lost < 2 →
          old.erased ≠ 0 →
          ∃ t, exec (.refetchComplete dt it lost) s = .next t ∧ others t ∧
            t.tag row = { old with erased := 0, gen := old.gen + 1 } ∧
            ∀ i, i < 8192 → (t.row row).getLsbD i =
              if old.isErased (i / 64) then (recordData it).getLsbD i else (s.row row).getLsbD i)) ∧
      (¬waits → s.tagBad row = false → s.lib.serving = some (.full row gen again) →
        (recordCrcGood it = false ∨ old.spent = false ∨ (old.gen.toNat = gen ∧ 2 ≤ lost) ∨
            (old.gen.toNat ≠ gen ∧ again = true) →
          ∃ t, exec (.refetchComplete dt it lost) s = .next t ∧ plain t) ∧
        (recordCrcGood it = true → old.spent = true → old.gen.toNat = gen → lost < 2 →
          ∃ t, exec (.refetchComplete dt it lost) s = .next t ∧ others t ∧ t.row row = recordData it ∧
            t.tag row = if (recordTag it).valid = true then
              { recordTag it with erased := 0, cls := 0, valid := true, spent := false, hits := 0, gen := old.gen + 1
                                  originId := 0, originSlot := 0 }
              else { gen := old.gen + 1 })))

/-- Mirrors and journal entries (R214, R275, R277, R280, R281, R366): between two scans the oldest dirty row is handed over as
one entry, erased segments as zero, its flags cleared. A commit writes the entry to its slot and applies it to the vault: a row with its tag,
its tag alone, or a freed tag. Ash records go first. -/
def Obligations.VaultFollows : Prop :=
  ∀ (s : State) (dt : Nat), s.mode = .run → Memory.wf s.mem →
    let now := s.clock + dt
    (∀ (us : List Upset) (d : Dirty) (rest : List Dirty), upsetForm us = true → s.volt.pauseAt = none →
      s.vault.dirty = d :: rest →
      (now < s.hearth.scanEnd ∨ (∃ a, s.vault.mirrorAt = some a ∧ now < a + 122880) →
        exec (.vaultMirror dt us) s = .next { s with clock := now }) ∧
      (s.hearth.scanEnd ≤ now → (∀ a, s.vault.mirrorAt = some a → a + 122880 ≤ now) →
      let r : State := { s.upset us with clock := now }
      r.tagBad d.row = false → r.badSegments d.row = [] →
      let tag := s.tag d.row
      ∃ t e, exec (.vaultMirror dt us) s = .next t ∧
        t.vault = { s.vault with
          dirty := s.vault.dirty.filter (fun x => !decide (x.row = d.row))
          entries := s.vault.entries ++ [e], mirrorAt := some now } ∧
        e.kind = (if tag.valid = false ∨ tag.spent = true then 3 else if d.data then 1 else 2) ∧ e.row = d.row ∧
        e.tag = tag ∧ e.spawn = (if d.row < 15360 then sparse s.learn.spawned d.row else 0) ∧
        (∀ i, i < 8192 → e.data.getLsbD i = (!tag.isErased (i / 64) && (s.row d.row).getLsbD i)) ∧
        t.agrees { r with vault := t.vault, learn := t.learn })) ∧
    (s.ash.waiting ≠ [] ∨ s.vault.entries = [] → exec (.journalCommit dt) s = .next { s with clock := now }) ∧
    (∀ (e : Entry) (rest : List Entry), s.vault.entries = e :: rest → s.ash.waiting = [] → s.vault.nextSlot < 2 →
      let slot := slotAddr s.vault.nextSlot
      let held (t : State) : Prop := exec (.journalCommit dt) s = .next t ∧
        t.vault.entries = rest ∧ t.vault.nextSeq = (s.vault.nextSeq + 1) % 2 ^ 32 ∧
        t.vault.nextSlot = 1 - s.vault.nextSlot ∧ t.peekNat slot 4 = s.vault.nextSeq % 2 ^ 32 ∧
        t.peekNat (slot + 4) 1 = e.kind ∧ t.hearth = s.hearth ∧ t.learn = s.learn ∧ t.ash = s.ash ∧
        (∀ a, a < mramBase → Memory.read t.mem a = Memory.read s.mem a) ∧
        (∀ k, 8192 ≤ k → k < 16384 → k ≠ e.row → e.kind ≠ 4 →
          t.peek (vaultAddr k) 1024 = s.peek (vaultAddr k) 1024 ∧
          t.peek (vaultTagAddr k) 32 = s.peek (vaultTagAddr k) 32)
      let tagged (t : State) (tag : Tag) : Prop := Tag.ofNat (t.peekNat (vaultTagAddr e.row) 32) = tag
      (e.kind = 1 → 8192 ≤ e.row → e.row < 16384 → ∃ t, held t ∧ tagged t e.tag ∧
        t.peek (vaultAddr e.row) 1024 = hvBytes e.data ∧
        (e.row < 15360 → t.peekNat (spawnAddr e.row) 4 = e.spawn % 2 ^ 32)) ∧
      (e.kind = 2 → 8192 ≤ e.row → e.row < 16384 → ∃ t, held t ∧ tagged t e.tag ∧
        t.peek (vaultAddr e.row) 1024 = s.peek (vaultAddr e.row) 1024) ∧
      (e.kind = 3 → 8192 ≤ e.row → e.row < 16384 → ∃ t, held t ∧ tagged t { cls := e.tag.cls } ∧
        (e.row < 15360 → t.peekNat (spawnAddr e.row) 4 = 0)) ∧
      (e.kind = 4 → ∃ t, held t ∧
        (∀ k, 8192 ≤ k → k < 15360 → Tag.ofNat (t.peekNat (vaultTagAddr k) 32) = { cls := 1 } ∧
          t.peekNat (spawnAddr k) 4 = 0) ∧
        (∀ k, 15360 ≤ k → k < 16384 → t.peek (vaultTagAddr k) 32 = s.peek (vaultTagAddr k) 32) ∧
        (∀ c, c < 4224 → t.peekNat (0x08842000 + 8 * c) 8 = 0)))

/-! ### Records -/

/-- Records on their way out (R73, R96, R136, R245, R246, R249, R251, R252, R269, R275, R287 to R291, R294): the ash record at
its index, the tokens of the ash, the router's next event to its sink, and, once the record before it is sent, the next flue
record on the wire, in an ash dump formed as it goes out; a record that holds a bad word is discarded and tallied. Model's
choices: in which states the ash and the router work (log 18), how many bytes a record takes (logs 19, 57) and where it lies
(log 27), the start of a token's 62.5 ms (log 20), and how a dump runs (log 22). -/
def Obligations.RecordsOut : Prop :=
  ∀ (s : State) (dt : Nat),
    let now := s.clock + dt
    let ts := (now - s.tsStart) / 4 % 2 ^ 56
    let dumping := (s.mode = .strapRead ∨ s.mode = .configFault) ∧ s.straps.dumping = true ∧
      s.straps.dumpEndQueued = false
    let ashHeld := s.mode = .reset ∨ dumping ∨ (s.mode = .powerFail ∧ (s.power.pfail = true ∨ now < s.power.failAt + 2458))
    (ashHeld → exec (.ashRecordWrite dt) s = .next { s with clock := now }) ∧
    (∀ (x : AshRec) (rest : List AshRec), ¬ashHeld → s.vault.failWrites = [] →
      s.ash.waiting = x :: rest → x.payload.length ≤ 40 → s.ash.dropCount = 0 → s.router.ashDrops = 0 → Memory.wf s.mem →
      let at_ := 0x08880000 + 64 * (s.ash.nextSeq % 8192)
      let time := if x.type = 0x0E then ts else x.time
      ∃ t, exec (.ashRecordWrite dt) s = .next t ∧
        t.ash = { s.ash with waiting := rest, nextSeq := (s.ash.nextSeq + 1) % 2 ^ 32 } ∧
        byteAt (t.peek at_ 64) 0 = 0x5A ∧ byteAt (t.peek at_ 64) 1 = x.type % 256 ∧
        fieldAt (t.peek at_ 64) 2 4 = s.ash.nextSeq % 2 ^ 32 ∧ fieldAt (t.peek at_ 64) 6 3 = s.vault.bootCount % 2 ^ 24 ∧
        fieldAt (t.peek at_ 64) 9 7 = time % 2 ^ 56 ∧ slice (t.peek at_ 64) 16 x.payload.length = x.payload ∧
        t.ashValid (s.ash.nextSeq % 8192) = true ∧
        (∀ a, a < at_ ∨ at_ + 64 ≤ a → a < e2eMarkAddr ∨ e2eMarkAddr + 8 ≤ a →
          Memory.read t.mem a = Memory.read s.mem a) ∧
        t.flue = s.flue ∧ t.router = s.router ∧ t.learn = s.learn ∧ t.hearth = s.hearth ∧ t.straps = s.straps) ∧
    (s.ash.tokens < 64 → s.ash.tokenAt + 1536000 ≤ now →
      ∃ t, exec (.ashTokenAdd dt) s = .next t ∧
        (s.ash.dropCount = 0 → s.router.ashDrops = 0 → t.agrees { s with
          clock := now
          ash := { s.ash with tokens := s.ash.tokens + 1, tokenAt := s.ash.tokenAt + 1536000 } }) ∧
        (0 < s.ash.dropCount ∨ 0 < s.router.ashDrops → ¬ashHeld → ∃ x, t.ash.waiting = x :: s.ash.waiting ∧ x.type = 0x0E ∧
          fieldAt x.payload 0 2 = s.ash.dropCount % 65536 ∧
          fieldAt x.payload 2 2 = min 65535 s.router.ashDrops ∧ fieldAt x.payload 4 2 = s.ash.dropMask % 65536 ∧
          t.ash.tokens = s.ash.tokens ∧ t.ash.dropCount = 0 ∧ t.ash.dropMask = 0 ∧ t.router.ashDrops = 0)) ∧
    (∀ (eb ea : List Event) (e : Event), ¬dumping →
      (∀ f ∈ eb, e.time < f.time ∨ (e.time = f.time ∧ e.rank < f.rank)) →
      (∀ f ∈ ea, e.time < f.time ∨ (e.time = f.time ∧ e.rank ≤ f.rank)) →
      (s.router.ash = eb ++ e :: ea → s.mode ≠ .reset →
        ∃ t, exec (.routerDelivery dt .ash) s = .next t ∧ t.agrees { s with
          clock := now
          router := { s.router with ash := eb ++ ea }
          ash := s.ash.offer now e.type e.time e.payload }) ∧
      (s.router.flue = eb ++ e :: ea → s.mode ≠ .reset → s.mode ≠ .ember →
        (s.mode = .strapRead → s.straps.ended = true) →
        ∃ t, exec (.routerDelivery dt .flue) s = .next t ∧
          t.agreesButRecords { s with clock := now } ∧ t.router = { s.router with flue := eb ++ ea } ∧ t.ash = s.ash ∧
          t.flue = if s.alarmsOnly = true ∧ (e.type = 4 ∨ e.type = 8 ∨ e.type = 0x0B) then s.flue
            else s.flue.enter ts e.type e.time e.payload (if e.type = 8 ∨ e.type = 0x0B then 2 else 1))) ∧
    (∀ bad : Bool, (dumping → exec (.routerDelivery dt .ash) s = .next { s with clock := now } ∧
        exec (.routerDelivery dt .flue) s = .next { s with clock := now }) ∧
      (s.mode = .reset ∨ s.mode = .banked ∨ s.mode = .ember ∨ s.volt.pauseAt ≠ none ∨ now < s.flue.busyUntil →
        exec (.flueRecordSend dt bad) s = .next { s with clock := now })) ∧
    (s.mode ≠ .reset → s.mode ≠ .banked → s.mode ≠ .ember → s.volt.pauseAt = none → s.flue.busyUntil ≤ now →
      let lead := if s.flue.extraZero then [0#8] else []
      let bit := (24576000 + s.baud - 1) / s.baud
      let start := if 0 < s.flue.busyUntil ∧ now < s.flue.busyUntil + bit then now else now + bit
      (∀ (x : FlueRec) (rest : List FlueRec), s.flue.queue = x :: rest →
        (s.recordBad x = false →
          let wire := lead ++ cobs (x.bytes s.straps.recDev) ++ [0#8]
          ∃ t, exec (.flueRecordSend dt false) s = .next t ∧ t.agrees { s with
            clock := now
            flue := { s.flue with
              queue := rest, wire := wire, extraZero := false, startAt := start
              busyUntil := start + 10 * wire.length * 24576000 / s.baud } }) ∧
        (∀ bad : Bool, ¬dumping → bad = true ∨ s.recordBad x = true → x.isGap = false →
          ∃ t, exec (.flueRecordSend dt bad) s = .next t ∧ t.agreesButRecords { s with clock := now } ∧
          (let p := memoryPayload 1 .flu 0x05100000 0xFFFF 0xFF 0 0;
            t.ash = s.ash.offer now 0x0A ts p ∧
            (x.relayed = none → s.flue.gapFirst = none → s.flue.gapCount = 0 → s.flue.gapMask = 0 →
              s.flue.routerDrops = 0 → queueUsed rest + 27 ≤ queueSpace →
              ∃ gap event, t.flue.queue = rest ++ [gap, event] ∧ gap.type = 0x0D ∧ gap.seq = s.flue.nextSeq ∧
                fieldAt gap.payload 0 2 = x.seq % 65536 ∧ fieldAt gap.payload 2 2 = 1 ∧
                fieldAt gap.payload 4 2 = 2 ^ x.type % 65536 ∧ event.type = 0x0A ∧ event.payload = p ∧
                event.seq = (s.flue.nextSeq + 1) % 65536 ∧ t.flue.gapOwed = false)))) ∧
      (dumping → s.flue.queue = [] → 8192 ≤ s.straps.dumpSent →
        ∃ (t : State) (x : FlueRec), exec (.flueRecordSend dt false) s = .next t ∧
          t.flue.wire = lead ++ cobs (x.bytes s.straps.recDev) ++ [0#8] ∧ t.flue.queue = [] ∧ x.type = 0x0C ∧
          x.seq = s.flue.nextSeq ∧ x.relayed = none ∧ x.time = ts ∧
          x.payload = leBytes 2 0xFFFF ++ [3#8, 0#8] ++ leBytes 4 s.straps.dumpValid ∧
          t.straps = { s.straps with dumpEndQueued := true }) ∧
      (dumping → s.flue.queue = [] → s.straps.dumpSent < 8192 →
        let i := (s.straps.dumpFirst + s.straps.dumpSent) % 8192
        let stored := s.peek (0x08880000 + 64 * i) 64
        ∃ (t : State) (x : FlueRec), exec (.flueRecordSend dt false) s = .next t ∧
          t.flue.wire = lead ++ cobs (x.bytes s.straps.recDev) ++ [0#8] ∧ t.flue.queue = [] ∧ x.type = 0x0C ∧
          x.seq = s.flue.nextSeq ∧ x.relayed = none ∧ x.time = ts ∧ slice x.payload 0 2 = leBytes 2 i ∧
          slice x.payload 4 64 = stored ∧
          byteAt x.payload 2 = (if s.ashValid i then 0 else if ∀ b ∈ stored, b = 0#8 then 2 else 1) ∧
          t.straps = { s.straps with
            dumpSent := s.straps.dumpSent + 1
            dumpValid := s.straps.dumpValid + (if s.ashValid i then 1 else 0) } ∧ t.mem = s.mem ∧ t.ash = s.ash))

/-! ### The ring -/

/-- Links (R249, R314, R321 to R325, R327): a link reset is proposed, repeated and adopted once, a repeated one only answered;
its end leaves a port with the new epoch and nothing outstanding. The same port letter or another speed takes the link down, as
a third reset with cause 1 or 2 within 1 s does. Acknowledgements retire frames, an expired timer or a NAK goes back to the
oldest, link frames and credit tables leave first, and with a table the receiver sets shared cells aside within its bounds.
Model's choices: details of link resets, among them that a reset exactly 1 s old no longer counts (log 39), of acknowledgement
and retry (log 40), of the credits (log 46), and the fields of a ring event (log 38). So is the rounding of the timers to whole
timebase periods (log 7). -/
def Obligations.RingLinks : Prop :=
  ∀ (s : State) (dt : Nat) (p : Port), s.ringOn = true → s.mode = .run →
    let now := s.clock + dt
    let x := s.ring.port p
    let after (y : LinkPort) : State := { s with clock := now, ring := s.ring.setPort p y }
    let next := (x.epoch + 1) % 16
    let proposed (y : LinkPort) : LinkPort := { y with
      proposal := some { epoch := next, cause := 3, sentAt := now }, links := y.links ++ [.reset next 3] }
    let again (y : LinkPort) (r : Proposal) : LinkPort := { y with
      proposal := some { r with sentAt := now }, links := y.links ++ [.reset r.epoch r.cause] }
    let downLong := ∀ a, x.downAt = some a → a + 24576000 ≤ now
    let resets := (x.resets.filter (fun a => decide (now < a + 24576000))).length
    let speed := if s.ringFast then 1 else 0
    let down (t : State) : Prop := (t.ring.port p).up = false ∧ (t.ring.port p).downAt = some now ∧
      (t.ring.port p).proposal = none ∧ t.ring.wrapped = true
    let complete (t : State) (e peer : Nat) : Prop :=
      let y := t.ring.port p
      y.up = true ∧ y.epoch = e ∧ y.txSeq = 0 ∧ y.rxSeq = 0 ∧ y.rxAny = false ∧ y.unacked = [] ∧ y.resend = [] ∧
      y.proposal = none ∧ y.sent = List.replicate 64 0 ∧ y.limits = List.replicate 64 8 ∧ y.tableDue = true ∧
      y.peer = peer ∧ (s.cross.rx p = [] → y.cut = none)
    (∀ h, x.up = false → x.proposal = none → downLong → x.highSince = some h → h + 2457600 ≤ now →
      ∃ t, exec (.phyLinkUp dt p) s = .next t ∧ t.agrees (after (proposed x))) ∧
    (∀ r, x.proposal = some r → r.sentAt + 24576 ≤ now →
      ∃ t, exec (.linkResetResend dt p) s = .next t ∧ t.agrees (after (again x r))) ∧
    (x.up = false → x.downAt.isSome = true → downLong → x.highSince.isSome = true → x.attemptAt + 2457600 ≤ now →
      ∃ t, exec (.linkRecoveryAttempt dt p) s = .next t ∧ t.agrees (after (match x.proposal with
        | some r => again { x with attemptAt := now } r
        | none => proposed { x with attemptAt := now }))) ∧
    (∀ b : List Byte,
      let e := byteAt b 17 % 16
      let cause := byteAt b 19
      let peer := (Header.parse b).src
      (linkFrameGood 2 b = true → downLong →
        (byteAt b 16 = portNum p ∨ byteAt b 18 ≠ speed →
          ∃ t, exec (.linkResetReceived dt p b) s = .next t ∧ down t ∧ (t.ring.port p).peer = peer) ∧
        (byteAt b 16 ≠ portNum p → byteAt b 18 = speed → (∀ r, x.proposal = some r → r.epoch ≠ e) → x.up = true →
          x.epoch = e → ∃ t, exec (.linkResetReceived dt p b) s = .next t ∧
            t.agrees (after { x with peer := peer, links := x.links ++ [.resetAck e cause] })) ∧
        (byteAt b 16 ≠ portNum p → byteAt b 18 = speed → (∀ r, x.proposal = some r → r.epoch ≠ e) →
          ¬(x.up = true ∧ x.epoch = e) →
          ((cause ≠ 1 ∧ cause ≠ 2) ∨ resets < 2 → ∃ t, exec (.linkResetReceived dt p b) s = .next t ∧ complete t e peer ∧
            (t.ring.port p).links.getLast? = some (.resetAck e cause)) ∧
          (cause = 1 ∨ cause = 2 → 2 ≤ resets → ∃ t, exec (.linkResetReceived dt p b) s = .next t ∧ down t)) ∧
        (∀ r, byteAt b 16 ≠ portNum p → byteAt b 18 = speed → x.proposal = some r → r.epoch = e →
          ∃ t, exec (.linkResetReceived dt p b) s = .next t ∧ complete t e peer)) ∧
      (∀ r, linkFrameGood 3 b = true → x.proposal = some r →
        (byteAt b 16 = portNum p ∨ byteAt b 18 ≠ speed →
          ∃ t, exec (.resetAckReceived dt p b) s = .next t ∧ down t ∧ (t.ring.port p).peer = peer) ∧
        (byteAt b 16 ≠ portNum p → byteAt b 18 = speed → r.epoch = e →
          ∃ t, exec (.resetAckReceived dt p b) s = .next t ∧ complete t e peer) ∧
        (byteAt b 16 ≠ portNum p → byteAt b 18 = speed → r.epoch ≠ e →
          ∃ t, exec (.resetAckReceived dt p b) s = .next t ∧ t.agrees (after { x with peer := peer }))) ∧
      (linkFrameGood 1 b = true → x.up = true → (Header.parse b).epoch = x.epoch →
        let h := Header.parse b
        let retired (u : Sent) : Prop := h.aval = true ∧ (h.aseq + 4096 - u.seq) % 4096 < 2048
        ∃ t, exec (.ackFrameReceived dt p b) s = .next t ∧
          (∀ u, u ∈ (t.ring.port p).unacked ↔ u ∈ x.unacked ∧ ¬retired u) ∧ (t.ring.port p).peer = peer ∧
          (t.ring.port p).txSeq = x.txSeq ∧ (t.ring.port p).rxSeq = x.rxSeq ∧
          (t.ring.port p).limits =
            (if h.len = 128 then (List.range 64).map (fun c => fieldAt b (16 + 2 * c) 2) else x.limits) ∧
          (∀ u rest, h.nak = true → (t.ring.port p).unacked = u :: rest → x.proposal = none → x.resend = [] →
            u.tries < 4 → (t.ring.port p).resend = (t.ring.port p).unacked.map Sent.seq))) ∧
    (∀ u rest, x.up = true → s.volt.pauseAt = none → x.proposal = none → x.unacked = u :: rest →
      x.resend.head? ≠ some u.seq → u.sentAt + (if s.ringFast then 492 else 4916) ≤ x.timer.read now →
      (u.tries < 4 → ∃ t, exec (.ackTimerExpiry dt p) s = .next t ∧
        t.agrees (after { x with resend := x.unacked.map Sent.seq })) ∧
      (4 ≤ u.tries → resets < 2 → ∃ t, exec (.ackTimerExpiry dt p) s = .next t ∧
        (t.ring.port p).proposal = some { epoch := next, cause := 1, sentAt := now } ∧
        (t.ring.port p).links = x.links ++ [.reset next 1] ∧ (t.ring.port p).unacked = x.unacked ∧
        (t.ring.port p).up = true) ∧
      (4 ≤ u.tries → 2 ≤ resets → ∃ t, exec (.ackTimerExpiry dt p) s = .next t ∧ down t)) ∧
    (x.up = true → x.tableAt + 24576 ≤ now →
      ∃ t, exec (.creditTableTimer dt p) s = .next t ∧
        (let y := t.ring.port p;
          y = { x with tableDue := true, tableAt := now, aside := y.aside } ∧
          t.agrees { after y with freeCount := t.freeCount } ∧
          (∀ c, x.aside.getD c 0 ≤ y.aside.getD c 0 ∧ y.aside.getD c 0 ≤ max 56 (x.aside.getD c 0)) ∧
          (255 ≤ s.ring.sharedFree → 255 ≤ t.ring.sharedFree) ∧
          (s.volt.pauseAt ≠ none → y.aside = x.aside ∧ t.freeCount = s.freeCount))) ∧
    (∀ bad : Bool, x.busyUntil ≤ now → (s.ring.port (otherPort p)).cut = none →
      let sent (h : Header) (payload : List Byte) (y : LinkPort) : Prop :=
        let wire := wireFrame { h with
          dst := x.peer, src := s.ringId, epoch := x.epoch, aseq := (x.rxSeq + 4095) % 4096, aval := x.rxAny
          len := payload.length } payload [] false
        ∃ t, exec (.portTransmit dt p bad) s = .next t ∧ t.agrees (after { y with
          wire := wire, busyUntil := now + s.lineTime (20 + wire.length) })
      (∀ e cause rest, x.links = .reset e cause :: rest →
        sent { kind := 2 } [BitVec.ofNat 8 (portNum p), BitVec.ofNat 8 e, BitVec.ofNat 8 speed, BitVec.ofNat 8 cause]
          { x with links := rest }) ∧
      (∀ e cause rest, x.links = .resetAck e cause :: rest →
        sent { kind := 3 } [BitVec.ofNat 8 (portNum p), BitVec.ofNat 8 e, BitVec.ofNat 8 speed, BitVec.ofNat 8 cause]
          { x with links := rest }) ∧
      (x.up = true → x.nakDue = true ∨ x.tableDue = true → x.links = [] ∨ (∃ rest, x.links = .ack :: rest) →
        sent { kind := 1, nak := x.nakDue }
          (if x.tableDue then (List.range 64).flatMap (fun c =>
            leBytes 2 ((x.freed.getD c 0 + 8 + x.aside.getD c 0) % 65536)) else [])
          { x with
            links := x.links.drop 1, nakDue := false, tableDue := false
            tableAt := if x.tableDue then now else x.tableAt }))

/-- Frames (R86, R96, R315 to R323, R326 to R337, R352 to R355, R360): a bad or unexpected frame is discarded with one NAK; an
expected one is acknowledged, and goes on in its direction with one hop more, is delivered, or is processed here: a relayed
record, a census, the unit's own ID from another unit, a taught row. In a step-up pause it waits in the receive buffer of its
port. A queued frame takes the next sequence and the credit of its cells; one that has waited 50 ms, or whose cells cannot be
read, is discarded. A frame whose header allows it is cut through. Model's choices: which cells a frame takes (log 24), details
of acknowledgement (log 40), of forwarding and tags (log 42), of whole frames (log 43), of a pause (logs 44, 67), of cut-through
(log 45), and that a placement waits for a gap (log 8). -/
def Obligations.RingFrames : Prop :=
  ∀ (s : State) (dt : Nat) (p : Port), s.ringOn = true → s.mode = .run →
    let now := s.clock + dt
    let ts := (now - s.tsStart) / 4 % 2 ^ 56
    let x := s.ring.port p
    let o := s.ring.port (otherPort p)
    let u : State := { s with clock := now }
    (∀ b : List Byte, b.length = 16 →
      (u.cutsThrough p b = false → ∃ t, exec (.frameHeaderReceived dt p b) s = .next t ∧ t.agrees u) ∧
      (u.cutsThrough p b = true →
        let h := Header.parse b
        ∃ (t : State) (c : Cut), exec (.frameHeaderReceived dt p b) s = .next t ∧ c.seq = o.txSeq ∧ c.live = true ∧
          c.frame.dst = h.dst ∧ c.frame.src = h.src ∧ c.frame.cls = h.cls ∧ c.frame.hops = h.hops ∧
          c.frame.passed = (h.passed || decide (h.src = s.ringId) && decide (h.turns = 1)) ∧ s.volt.pauseAt = none ∧
          h.hseq = x.rxSeq ∧ o.up = true ∧ o.busyUntil ≤ now ∧
          (let onward : LinkPort := { o with
              txSeq := (o.txSeq + 1) % 4096
              sent := o.sent.set h.cls ((o.sent.getD h.cls 0 + cellsOf h.len h.auth) % 65536) };
            let held : LinkPort := { x with cut := some c };
            t.agrees { u with ring := (s.ring.setPort (otherPort p) onward).setPort p held }))) ∧
    (∀ (b : List Byte) (lost : Nat), x.up = true → (Header.parse b).kind = 0 ∨ 3 < (Header.parse b).kind →
      let h := Header.parse b
      let heard := 64 ≤ b.length ∧ b.length ≤ 1500 ∧ headerCrcGood b = true ∧ fcsOf b ≠ .wrong ∧ h.epoch = x.epoch
      let plain := h.aval = false ∧ h.nak = false ∧ x.cut = none
      let refused (t : State) : Prop := exec (.dataFrameReceived dt p b lost) s = .next t ∧
        t.agrees { u with ring := s.ring.setPort p { x with nakDone := true, nakDue := x.nakDue || !x.nakDone } }
      let taken : LinkPort := { x with
        rxSeq := (x.rxSeq + 1) % 4096, rxAny := true, nakDone := false, nakDue := false
        links := if .ack ∈ x.links then x.links else x.links ++ [.ack] }
      let room := ((s.cross.rx p).map List.length).sum + b.length ≤ 16384
      (¬heard → x.cut = none → ∃ t, refused t) ∧
      (heard → plain → h.hseq ≠ x.rxSeq → ∃ t, refused t) ∧
      (heard → plain → h.hseq = x.rxSeq → s.volt.pauseAt ≠ none → ¬room → ∃ t, refused t) ∧
      (heard → plain → h.hseq = x.rxSeq → s.volt.pauseAt ≠ none → room →
        ∃ t, exec (.dataFrameReceived dt p b lost) s = .next t ∧ t.agrees { u with
          ring := s.ring.setPort p taken, cross := s.cross.setRx p (s.cross.rx p ++ [b]) }) ∧
      (heard → h.hseq = x.rxSeq → s.volt.pauseAt = none ∨ room →
        ∃ t, exec (.dataFrameReceived dt p b lost) s = .next t ∧ (t.ring.port p).rxSeq = (x.rxSeq + 1) % 4096 ∧
          (t.ring.port p).rxAny = true ∧ (t.ring.port p).nakDone = false ∧ .ack ∈ (t.ring.port p).links) ∧
      (heard → h.hseq = x.rxSeq → plain → s.volt.pauseAt = none → fcsOf b = .good → h.ver = 1 → h.kind = 0 → h.cls < 56 →
        let f := YFrame.parse b
        let k := cellsOf h.len h.auth
        let pass := s.ringAuth = true → f.auth = true ∧ f.tag = (hmacSha256 s.tap.ring.bytes f.covered).take 8
        (f.dst ≠ f.src → f.dst ≠ s.ringId → f.hops + 1 < 512 → o.up = true →
          let q : QFrame := { frame := { f with hops := f.hops + 1 }, out := otherPort p, source := some p,
                              at_ := now, cells := s.ring.free.take k }
          let ring : Ring := s.ring.setPort p taken
          ∃ t, exec (.dataFrameReceived dt p b lost) s = .next t ∧
            t.agrees { u with
              ecc := t.ecc, ring := { ring with free := s.ring.free.drop k, queue := s.ring.queue ++ [q] } } ∧
            ∀ w, (∀ c ∈ q.cells, inCell c w = false) → errorsAt t.ecc w = errorsAt s.ecc w) ∧
        (f.dst = s.ringId → f.src ≠ s.ringId → ¬pass → f.hops + 1 < 512 → o.up = true →
          ∃ t q, exec (.dataFrameReceived dt p b lost) s = .next t ∧ t.ring.queue = s.ring.queue ++ [q] ∧
            q.frame = { f with hops := f.hops + 1 } ∧ q.out = otherPort p ∧ t.flue.queue = s.flue.queue ∧
            (s.router.ash.length < 32 → ∃ e, t.router.ash = s.router.ash ++ [e] ∧ e.type = 0x0B ∧
              byteAt e.payload 0 = 0x0C ∧ fieldAt e.payload 5 2 = f.e2e % 65536)) ∧
        (f.dst = s.ringId → f.src ≠ s.ringId → f.cls / 8 = 5 ∨ f.cls / 8 = 6 → s.collector = true → pass →
          relayedGood f.payload = true →
          ∃ t, exec (.dataFrameReceived dt p b lost) s = .next t ∧ t.flue = s.flue.enterRelayed ts f.payload ∧
            t.ring.queue = s.ring.queue ∧ ∀ c, c ∈ t.ring.free ↔ c ∈ s.ring.free) ∧
        (f.dst = f.src → f.src ≠ s.ringId → f.turns = 0 → f.cls / 8 = 0 → pass →
          ∃ t, exec (.dataFrameReceived dt p b lost) s = .next t ∧
            (∃ m ∈ t.ring.map, m.id = f.src ∧ m.at_ = now ∧ m.seedHash = fieldAt f.payload 4 4 ∧
              m.mclass = byteAt f.payload 8 ∧ m.flags = byteAt f.payload 9 ∧
              ((∀ m ∈ s.ring.map, m.id ≠ f.src) → m.hops.getD (1 - f.dir) none = some f.hops)) ∧
            (∀ m ∈ s.ring.map, m.id ≠ f.src → m ∈ t.ring.map)) ∧
        (f.dst = s.ringId → f.src = s.ringId → f.turns = 0 → f.cls / 8 = 0 → pass →
          fieldAt f.payload 0 4 ∉ s.ring.stamps →
          ∃ t, exec (.dataFrameReceived dt p b lost) s = .next t ∧ t.ring.clashAt = some now ∧
            t.ring.map = s.ring.map) ∧
        (f.dst = f.src → f.src ≠ s.ringId → f.turns = 0 → f.cls / 8 = 3 ∨ f.cls / 8 = 4 → pass →
          now < s.hearth.scanEnd ∨ s.fleet.held ≠ [] →
          ∃ t, exec (.dataFrameReceived dt p b lost) s = .next t ∧ t.mem = s.mem ∧
            t.fleet = { s.fleet with held := s.fleet.held ++ [{ port := p, frame := f }] }) ∧
        (∀ r, f.dst = f.src → f.src ≠ s.ringId → f.turns = 0 → f.cls / 8 = 3 → pass → f.payload.length = 1072 →
          s.hearth.scanEnd ≤ now → s.fleet.held = [] →
          byteAt f.payload 0 = 1 → fieldAt f.payload 2 2 < 1024 → s.ring.clashAt = none →
          fieldAt f.payload 8 4 = s.seedHash → byteAt f.payload 1 = s.mclass →
          0 < serial32 (fieldAt f.payload 4 4) (sparse s.vault.fleetSeq f.src) → s.profile ≠ 0 → lost < 2 →
          s.placeRow f.src (fieldAt f.payload 2 2) = some r → r < 8192 → Memory.wf s.mem →
          let seq := fieldAt f.payload 4 4
          let sent := Tag.ofNat (fieldAt f.payload 16 32)
          ∃ t, exec (.dataFrameReceived dt p b lost) s = .next t ∧ sparse t.vault.fleetSeq f.src = seq ∧
            t.row r = hvOfBytes (slice f.payload 48 1024) ∧
            t.tag r = { cls := 3, valid := true, scope := sent.scope, bin := sent.bin, binAny := sent.binAny
                        label := sent.label, severity := sent.severity, radius := sent.radius, mu := sent.mu
                        delta := sent.delta, hits := BitVec.ofNat 16 seq, gen := (s.tag r).gen + 1
                        originId := BitVec.ofNat 8 f.src, originSlot := BitVec.ofNat 10 (fieldAt f.payload 2 2) } ∧
            ∀ g, g < 16384 → g ≠ r → t.tag g = s.tag g ∧ t.row g = s.row g))) ∧
    (x.up = true → x.proposal = none → x.busyUntil ≤ now → o.cut = none → x.links = [] → x.nakDue = false →
      x.tableDue = false →
      (∀ q, x.resend = [] → s.volt.pauseAt = none → x.unacked.length < 512 → (∀ v ∈ x.unacked, v.seq ≠ x.txSeq) →
        u.nextData p = some q →
        let cls := q.frame.cls
        let wire := wireFrame { cls := cls, auth := q.frame.auth, dst := q.frame.dst, src := q.frame.src, hseq := x.txSeq
                                epoch := x.epoch, aseq := (x.rxSeq + 4095) % 4096, aval := x.rxAny, e2e := q.frame.e2e
                                hops := q.frame.hops, dir := q.frame.dir, turns := q.frame.turns
                                passed := q.frame.passed, len := q.frame.payload.length } q.frame.payload q.frame.tag false
        (s.cellsBad q.cells = none → ∃ t v, exec (.portTransmit dt p false) s = .next t ∧ q ∈ s.ring.queue ∧ q.out = p ∧
          t.ring.queue = s.ring.queue.erase q ∧ (t.ring.port p).txSeq = (x.txSeq + 1) % 4096 ∧
          (t.ring.port p).sent = x.sent.set cls ((x.sent.getD cls 0 + q.frame.cellCount) % 65536) ∧
          (t.ring.port p).unacked = x.unacked ++ [v] ∧ v.seq = x.txSeq ∧ v.frame = q.frame ∧ v.tries = 0 ∧
          v.cells = q.cells ∧ (t.ring.port p).wire = wire ∧
          (t.ring.port p).busyUntil = now + s.lineTime (20 + wire.length)) ∧
        (∀ bad : Bool, bad = true ∨ s.cellsBad q.cells ≠ none → s.ring.waiting = [] → s.relayTarget = none →
          ∃ t, exec (.portTransmit dt p bad) s = .next t ∧ t.ring.discards = s.ring.discards + 1 ∧
            t.ring.queue = s.ring.queue.erase q ∧ (t.ring.port p).txSeq = x.txSeq ∧ s.recordedBoth t 0x0A
              (memoryPayload 1 .rng ((s.cellsBad q.cells).getD (0x04000000 + 256 * q.cells.headD 0)) 0xFFFF 0xFF 0 0))) ∧
      (∀ n rest v bad, x.resend = n :: rest → x.unacked.find? (fun v => decide (v.seq = n)) = some v →
        ∃ t w, exec (.portTransmit dt p bad) s = .next t ∧ (t.ring.port p).resend = rest ∧
          w ∈ (t.ring.port p).unacked ∧ w.seq = n ∧ w.tries = v.tries + 1 ∧ w.frame = v.frame ∧
          (t.ring.port p).txSeq = x.txSeq ∧ t.ring.queue = s.ring.queue)) ∧
    (∀ q ∈ s.ring.queue, s.volt.pauseAt = none → q.at_ + 1228800 ≤ now →
      ∃ t, exec (.queueAgeDiscard dt) s = .next t ∧ (∀ v ∈ t.ring.queue, now < v.at_ + 1228800) ∧
        (∀ v ∈ s.ring.queue, now < v.at_ + 1228800 → v ∈ t.ring.queue) ∧ s.ring.discards < t.ring.discards ∧
        t.mem = s.mem ∧ t.learn = s.learn ∧ t.flue = s.flue)

/-- The fleet's own events (R96, R268, R269, R326, R328, R332 to R334, R337, R339, R343 to R347, R353, R356): a census in each
direction each second, map entries and cached queries that expire, the end of an ID clash, an answer folded in and passed on, a
query that is issued again once and then given up, and the sweep of the taught slots. Model's choices: when the census comes
(log 41), which cells a frame takes (log 24), the fields of a ring event (log 38), a re-issue without a port (log 37), and what
a step-up pause halts (log 44). -/
def Obligations.FleetEvents : Prop :=
  ∀ (s : State) (dt : Nat),
    let now := s.clock + dt
    let ts := (now - s.tsStart) / 4 % 2 ^ 56
    (s.volt.pauseAt = none → (∃ v ∈ s.fleet.visited, v.at_ + 2457600 ≤ now) →
      ∃ t, exec (.visitedCacheExpiry dt) s = .next t ∧ t.agrees { s with
        clock := now
        fleet := { s.fleet with visited := s.fleet.visited.filter (fun v => decide (now < v.at_ + 2457600)) } }) ∧
    (s.volt.pauseAt ≠ none ∨ s.mode ≠ .run ∨ s.ringOn = false →
      ∀ c ∈ [Instr.censusOriginate dt, .idClashEnd dt, .fleetFold dt, .fleetQueryTimeout dt, .sweepOriginate dt,
        .queueAgeDiscard dt], exec c s = .next { s with clock := now }) ∧
    (s.ringOn = true → s.mode = .run → s.volt.pauseAt = none →
      (s.ring.censusAt + 24576000 ≤ now →
        let payload := censusPayload (ts % 2 ^ 32) s.seedHash s.mclass s.censusFlags
        let frame (e dir : Nat) : YFrame :=
          { cls := 4, dst := s.ringId, src := s.ringId, e2e := e % 65536, dir := dir, payload := payload }
        ∃ t, exec (.censusOriginate dt) s = .next t ∧ t.ring.censusAt = s.ring.censusAt + 24576000 ∧
          t.ring.stamps = (ts % 2 ^ 32 :: s.ring.stamps).take 3 ∧
          (s.fleet.e2e < 65536 → t.fleet.e2e = (s.fleet.e2e + 2) % 65536) ∧
          (∀ c0 c1 rest, s.ring.portA.up = true → s.ring.portB.up = true → s.ringAuth = false → s.ring.waiting = [] →
            s.ring.free = c0 :: c1 :: rest → s.cellsHeld none 4 ≤ 6 → s.fleet.e2e < 65536 →
            t.ring.free = rest ∧ t.ring.queue = s.ring.queue ++
              [{ frame := frame s.fleet.e2e 0, out := .a, source := none, at_ := now, cells := [c0] },
               { frame := frame (s.fleet.e2e + 1) 1, out := .b, source := none, at_ := now, cells := [c1] }])) ∧
      (∀ id : BitVec 8, (∃ m ∈ s.ring.map, m.id = id.toNat ∧ m.at_ + 73728000 ≤ now) →
        let left := s.ring.map.filter (fun m => !decide (m.id = id.toNat))
        ∃ t, exec (.ringMapEntryExpiry dt id) s = .next t ∧ t.ring.map = left ∧
          sparse t.vault.fleetSeq id.toNat = 0 ∧
          (∀ k, k ≠ id.toNat → sparse t.vault.fleetSeq k = sparse s.vault.fleetSeq k) ∧
          (Memory.wf s.mem → t.peekNat (fleetSeqAddr id.toNat) 4 = 0) ∧
          (s.router.ash.length < 32 → ∃ e, t.router.ash = s.router.ash ++ [e] ∧ e.type = 0x0B ∧ e.time = ts ∧
            byteAt e.payload 0 = 6 ∧ fieldAt e.payload 7 2 = (left.length + 1) % 65536)) ∧
      (∀ since, s.ring.clashAt = some since → since + 73728000 ≤ now →
        ∃ t, exec (.idClashEnd dt) s = .next t ∧ t.agrees { s with
          clock := now, ring := { s.ring with clashAt := none } }) ∧
      (∀ (jb ja : List Job) (j : Job), s.fleet.jobs = jb ++ j :: ja →
        (∀ y ∈ jb, y.result = none ∧ (s.ring.clashAt.isSome = true → y.started = true)) → s.cellsBad j.cells = none →
        j.result = none → j.started = false → s.ring.clashAt.isSome = true → j.frame.hops + 1 < 512 →
        j.frame.src ≠ s.ringId → (s.ring.port (otherPort j.source)).up = true →
        let q : QFrame := { frame := { j.frame with hops := j.frame.hops + 1 }, out := otherPort j.source
                            source := some j.source, at_ := j.at_, cells := j.cells }
        ∃ t, exec (.fleetFold dt) s = .next t ∧ t.agrees { s with
          clock := now
          fleet := { s.fleet with jobs := jb ++ ja }
          ring := { s.ring with queue := s.ring.queue ++ [q] } }) ∧
      (∀ (jb ja : List Job) (j : Job) (own : Lane × Lane), s.fleet.jobs = jb ++ j :: ja →
        (∀ y ∈ jb, y.result = none ∧ (s.ring.clashAt.isSome = true → y.started = true)) → s.cellsBad j.cells = none →
        j.result = some own → j.frame.hops + 1 < 512 → j.frame.src ≠ s.ringId →
        (s.ring.port (otherPort j.source)).up = true → j.frame.payload.length = 1072 →
        let answers := (bitOf (byteAt j.frame.payload 3) 0 = true ∧ own.1.none = false) ∨
          (bitOf (byteAt j.frame.payload 3) 1 = true ∧ own.2.none = false)
        let old := fieldAt j.frame.payload 10 2
        ∃ t f, exec (.fleetFold dt) s = .next t ∧ t.agrees { s with
            clock := now
            fleet := { s.fleet with jobs := jb ++ ja }
            ring := { s.ring with queue := s.ring.queue ++ [{ frame := f, out := otherPort j.source
                                                              source := some j.source, at_ := j.at_, cells := j.cells }] } } ∧
          f.hops = j.frame.hops + 1 ∧ f.dst = j.frame.dst ∧ f.src = j.frame.src ∧ f.e2e = j.frame.e2e ∧
          f.cls = j.frame.cls ∧ f.payload.length = 1072 ∧ (f.payload = j.frame.payload → f.tag = j.frame.tag) ∧
          (∀ i, i < 1040 → i ≠ 10 → i ≠ 11 → byteAt f.payload i = byteAt j.frame.payload i) ∧
          (s.ring.clashAt.isSome = true → f.payload = j.frame.payload) ∧
          (s.ring.clashAt = none → fieldAt f.payload 10 2 = if answers then min 65535 (old + 1) else old)) ∧
      (∀ (qb qa : List OwnQuery) (q : OwnQuery), s.fleet.queries = qb ++ q :: qa → (∀ y ∈ qb, now < y.at_ + y.limit) →
        q.at_ + q.limit ≤ now →
        (q.reissue = true ∨ s.ring.clashAt.isSome = true →
          ∃ t, exec (.fleetQueryTimeout dt) s = .next t ∧ t.agrees { s with
              clock := now, fleet := { s.fleet with queries := qb ++ qa }, router := t.router, flue := t.flue } ∧
            (s.router.ash.length < 32 → ∃ e, t.router.ash = s.router.ash ++ [e] ∧ e.type = 0x0B ∧
              byteAt e.payload 0 = 8 ∧ fieldAt e.payload 5 2 = q.e2e % 65536)) ∧
        (q.reissue = false → s.ring.clashAt = none →
          ∃ t v, exec (.fleetQueryTimeout dt) s = .next t ∧ t.fleet.queries = qb ++ qa ++ [v] ∧ v.reissue = true ∧
            v.e2e = s.fleet.e2e ∧ v.kind = q.kind ∧ v.bin = q.bin ∧ v.vec = q.vec ∧ v.row = q.row ∧ v.gen = q.gen ∧
            v.at_ = now ∧ t.fleet.askedAt = some now ∧ t.fleet.e2e = (s.fleet.e2e + 1) % 65536)) ∧
      (s.fleet.sweepAt + 1228800 ≤ now →
        let slot := s.fleet.sweepSlot
        (s.ring.clashAt.isSome = true → ∃ t, exec (.sweepOriginate dt) s = .next t ∧ t.agrees { s with
          clock := now, fleet := { s.fleet with sweepAt := s.fleet.sweepAt + 1228800 } }) ∧
        (s.ring.clashAt = none → ∃ t, exec (.sweepOriginate dt) s = .next t ∧
          t.fleet.sweepAt = s.fleet.sweepAt + 1228800 ∧ t.fleet.sweepSlot = (slot + 1) % 1024 ∧
          (s.isRetired (15360 + slot) = true → t.ring = s.ring ∧ t.mem = s.mem) ∧
          (s.isRetired (15360 + slot) = false → s.ring.portA.up = true →
            s.ringAuth = false → s.ring.waiting = [] → s.cellsHeld none 36 ≤ 3 → 5 ≤ s.ring.free.length →
            ∃ q, t.ring.queue = s.ring.queue ++ [q] ∧ q.out = .a ∧ q.source = none ∧ q.frame.cls = 36 ∧
              q.frame.dst = s.ringId ∧ q.frame.src = s.ringId ∧ q.frame.dir = 0 ∧ q.frame.e2e = s.fleet.e2e ∧
              fieldAt q.frame.payload 2 2 = slot % 65536 ∧
              (s.tagBad (15360 + slot) = false → (s.tag (15360 + slot)).valid = true →
                (s.tag (15360 + slot)).spent = false → byteAt q.frame.payload 0 = 1 ∧ slice q.frame.payload 16 32 = (s.tag (15360 + slot)).bytes ∧
                slice q.frame.payload 48 1024 = hvBytes (s.row (15360 + slot))) ∧
              (s.tagBad (15360 + slot) = true ∨ (s.tag (15360 + slot)).valid = false ∨
                  (s.tag (15360 + slot)).spent = true → byteAt q.frame.payload 0 = 0 ∧ q.frame.payload.length = 16)))))

/-! ### The test port -/

/-- The test port (R393, R395, R396): while `RESET_N` is held low and the always-on rails are valid, each instruction is a scan
that shifts out 0b000001 and its data register; a boundary scan captures the pins, and from EXTEST on its cells drive them; a
key is loaded, its burn started or refused, and the burnt block read back. No scan shifts a key out. Model's choices: the order
of the boundary-scan chain (log 47), and details of loading and burning (log 48). -/
def Obligations.TestPort : Prop :=
  ∀ (s : State) (dt : Nat),
    let now := s.clock + dt
    let bitsOf (w n : Nat) : List Bool := (List.range w).map (fun i => n.testBit i)
    let scanned (code : BitVec 6) (w n : Nat) : Tap := { s.tap with ir := code, irOut := 0b000001, shifted := bitsOf w n }
    let shows (c : Instr) (tap : Tap) : Prop :=
      ∃ t, exec c s = .next t ∧ t.agrees { s with clock := now, tap := tap }
    shows (.testLogicReset dt) { s.tap with ir := 0b000010, load := 0 } ∧
    (∀ (pins shifted : BitVec 52) (key : BitVec 256) (selector : BitVec 8) (word : BitVec 32) (x : ReadBack),
      s.power.resetNLow = false ∨ s.power.railsLow ≠ [] →
      ∀ c ∈ [Instr.extest dt pins shifted, .samplePreload dt pins shifted, .idcode dt, .keyStatus dt,
        .keyLoad dt key selector, .keyBurn dt word, .keyBurnComplete dt x], exec c s = .next { s with clock := now }) ∧
    (s.power.resetNLow = true → s.power.railsLow = [] →
      (∀ pins shifted : BitVec 52,
        let u : State := { s with clock := now }
        let seen := u.capture pins
        (∀ k, k < 52 → seen.getLsbD k = match u.pads.getD k .released with
          | .low => false
          | .high => true
          | _ => pins.getLsbD k) ∧
        shows (.extest dt pins shifted) { scanned 0b000000 52 seen.toNat with captured := seen, cells := shifted } ∧
        (∀ t, exec (.extest dt pins shifted) s = .next t → t.pads = (List.range 52).map (fun k =>
          if 12 ≤ k ∧ k < 17 then (if shifted.getLsbD k then PadLevel.released else .low)
          else if (7 ≤ k ∧ k < 31) ∨ (37 ≤ k ∧ k < 43) then (if shifted.getLsbD k then PadLevel.high else .low)
          else .released)) ∧
        shows (.samplePreload dt pins shifted)
          { scanned 0b000001 52 seen.toNat with captured := seen, cells := shifted }) ∧
      shows (.idcode dt) (scanned 0b000010 32 0x106400F1) ∧
      (let status (k : KeyBlock) : Bool := k.programmed && decide (k.check = crc32 (leBytes 32 k.key.toNat));
        shows (.keyStatus dt) (scanned 0b100000 8
          ((if status s.tap.image then 1 else 0) + (if status s.tap.ring then 2 else 0) +
            (if s.tap.burning.isSome then 4 else 0) + (if s.tap.refused then 8 else 0) + (if s.tap.failed then 16 else 0) +
            (if s.tap.image.touched && !status s.tap.image then 32 else 0) +
            (if s.tap.ring.touched && !status s.tap.ring then 64 else 0)))) ∧
      (∀ (key : BitVec 256) (selector : BitVec 8),
        shows (.keyLoad dt key selector) { scanned 0b100001 264 0 with load := selector ++ key }) ∧
      (∀ (key : BitVec 256) (selector : BitVec 8) (word : BitVec 32), s.tap.load = selector ++ key →
        let bad := (selector ≠ 1 ∧ selector ≠ 2) ∨ key = 0 ∨ key = BitVec.allOnes 256 ∨
          (selector = 1 ∧ s.tap.image.touched = true) ∨ (selector = 2 ∧ s.tap.ring.touched = true)
        let idle := scanned 0b100010 32 0
        (word ≠ 0x4255524E#32 ∨ s.tap.burning.isSome = true → shows (.keyBurn dt word) idle) ∧
        (word = 0x4255524E#32 → s.tap.burning = none → bad →
          shows (.keyBurn dt word) { idle with refused := true, failed := false }) ∧
        (word = 0x4255524E#32 → s.tap.burning = none → ¬bad →
          shows (.keyBurn dt word) { idle with
            burning := some (selector.toNat, key), refused := false, failed := false })) ∧
      (∀ (sel : Nat) (key : BitVec 256) (x : ReadBack), s.tap.burning = some (sel, key) → sel = 1 ∨ sel = 2 →
        let block : KeyBlock := { key := x.key, check := x.check, programmed := x.programmed }
        shows (.keyBurnComplete dt x) { s.tap with
          load := 0, burning := none
          failed := decide (x.key ≠ key) || decide (x.check ≠ crc32 (leBytes 32 key.toNat)) || !x.programmed
          image := if sel = 1 then block else s.tap.image
          ring := if sel = 1 then s.tap.ring else block }) ∧
      (∀ (code : BitVec 6) (bits : List Bool),
        code ∉ [0b000000#6, 0b000001#6, 0b000010#6, 0b100000#6, 0b100001#6, 0b100010#6] →
        shows (.bypass dt code bits) { s.tap with
          ir := code, irOut := 0b000001, shifted := (false :: bits).take bits.length, bypass := bits.getLastD false }))
end

