-- ==== Sys2Proof/Laws/Bytes.lean ====
section
/-! SUPPORT. Sys2Proof/Laws/Bytes.lean: byte strings: lengths, slices of joined strings, and numbers read back from their
bytes. -/

namespace Sys2Proof.Machine

@[simp] theorem leBytes_length (w n : Nat) : (leBytes w n).length = w := by simp [leBytes]

theorem leBytes_succ (w n : Nat) : leBytes (w + 1) n = byteOf n 0 :: leBytes w (n / 256) := by
  simp only [leBytes, List.range_succ_eq_map, List.map_cons, List.map_map, List.cons.injEq, true_and]
  apply List.map_congr_left
  intro i _
  simp only [Function.comp_apply, byteOf, Nat.succ_eq_add_one]
  congr 1
  rw [Nat.shiftRight_eq_div_pow, Nat.shiftRight_eq_div_pow, Nat.div_div_eq_div_mul]
  congr 1
  rw [show 8 * (i + 1) = 8 + 8 * i by ring, pow_add]
  norm_num

/-- A number read back from its bytes. -/
theorem leNat_leBytes (w n : Nat) : leNat (leBytes w n) = n % 256 ^ w := by
  induction w generalizing n with
  | zero => simp [leBytes, leNat, Nat.mod_one]
  | succ w ih =>
    rw [leBytes_succ, leNat, ih]
    simp only [byteOf, Nat.mul_zero, Nat.shiftRight_zero, BitVec.toNat_ofNat]
    rw [show (256 : Nat) ^ (w + 1) = 256 * 256 ^ w by ring, Nat.mod_mul]

/-- The slice of the front part of a joined string. -/
theorem slice_append_left (a b : List Byte) (off w : Nat) (h : off + w ≤ a.length) :
    slice (a ++ b) off w = slice a off w := by
  rw [slice, slice, List.drop_append_of_le_length (by omega), List.take_append_of_le_length (by simp; omega)]

/-- The slice that starts where the front part ends. -/
theorem slice_append_right (a b : List Byte) (n w : Nat) (h : a.length = n) : slice (a ++ b) n w = b.take w := by
  subst h; simp [slice]

theorem slice_full (a : List Byte) (n : Nat) (h : a.length = n) : slice a 0 n = a := by
  subst h; simp [slice]

theorem slice_length (a : List Byte) (off w : Nat) (h : off + w ≤ a.length) : (slice a off w).length = w := by
  simp [slice]; omega

end Sys2Proof.Machine
end

