-- ==== Sys2Proof/Laws/Frames.lean ====
section
/-! SUPPORT. Sys2Proof/Laws/Frames.lean: what is read back from a frame on the wire: its header, its payload,
  its header CRC
and its FCS (R315 to R317, R320). -/

namespace Sys2Proof.Machine

theorem byteAt_append_left (a b : List Byte) (i : Nat) (h : i < a.length) : byteAt (a ++ b) i = byteAt a i := by
  rw [byteAt, byteAt, fieldAt, fieldAt, slice_append_left _ _ _ _ (by omega)]

theorem fieldAt_append_left (a b : List Byte) (off w : Nat) (h : off + w ≤ a.length) :
    fieldAt (a ++ b) off w = fieldAt a off w := by
  rw [fieldAt, fieldAt, slice_append_left _ _ _ _ h]

@[simp] theorem header_bytes_length (h : Header) : h.bytes.length = 16 := by
  simp [Header.bytes, Header.body]

/-- A frame on the wire begins with its header and its payload. -/
theorem wireFrame_eq (h : Header) (p t : List Byte) (stomp : Bool) :
    ∃ rest, wireFrame h p t stomp = h.bytes ++ (p ++ rest) := by
  refine ⟨t ++ (List.replicate (60 - (h.bytes ++ p ++ t).length) 0#8 ++ leBytes 4 (if stomp then
    ~~~crc32 (h.bytes ++ p ++ t ++ List.replicate (60 - (h.bytes ++ p ++ t).length) 0#8) else
      crc32 (h.bytes ++ p ++ t ++ List.replicate (60 - (h.bytes ++ p ++ t).length) 0#8)).toNat), ?_⟩
  simp only [wireFrame, List.append_assoc]

/-- A header is read from the first 16 bytes. -/
theorem parse_append (a b : List Byte) (h : a.length = 16) : Header.parse (a ++ b) = Header.parse a := by
  simp only [Header.parse, byteAt_append_left a b _ (show 0 < a.length by omega),
    byteAt_append_left a b _ (show 1 < a.length by omega), byteAt_append_left a b _ (show 2 < a.length by omega),
    byteAt_append_left a b _ (show 3 < a.length by omega),
    fieldAt_append_left a b _ _ (show 4 + 2 ≤ a.length by omega),
    fieldAt_append_left a b _ _ (show 6 + 2 ≤ a.length by omega),
      fieldAt_append_left a b _ _ (show 8 + 2 ≤ a.length by omega),
    fieldAt_append_left a b _ _ (show 10 + 2 ≤ a.length by omega),
    fieldAt_append_left a b _ _ (show 12 + 2 ≤ a.length by omega)]

/-- The header of a frame on the wire. -/
theorem wireFrame_parse (h : Header) (p t : List Byte) (stomp : Bool) :
    Header.parse (wireFrame h p t stomp) = Header.parse h.bytes := by
  obtain ⟨rest, e⟩ := wireFrame_eq h p t stomp
  rw [e, parse_append _ _ (header_bytes_length h)]

/-- The payload of a frame on the wire. -/
theorem wireFrame_payload (h : Header) (p t : List Byte) (stomp : Bool) :
    slice (wireFrame h p t stomp) 16 p.length = p := by
  obtain ⟨rest, e⟩ := wireFrame_eq h p t stomp
  rw [e, slice_append_right _ _ _ _ (header_bytes_length h), List.take_left' rfl]

/-- The header CRC that a header is sent with is correct. -/
theorem headerCrcGood_bytes (h : Header) : headerCrcGood h.bytes = true := by
  have hl : h.body.length = 14 := by simp [Header.body]
  rw [headerCrcGood, Header.bytes, slice_append_left _ _ _ _ (by omega), slice_full _ _ hl, fieldAt,
    slice_append_right _ _ _ _ hl, List.take_of_length_le (by simp), leNat_leBytes,
    show (256 : Nat) ^ 2 = 2 ^ 16 by norm_num, Nat.mod_eq_of_lt (BitVec.isLt _)]
  exact decide_eq_true rfl

/-- The header CRC of a frame on the wire. -/
theorem wireFrame_headerCrc (h : Header) (p t : List Byte) (stomp : Bool) :
    headerCrcGood (wireFrame h p t stomp) = true := by
  rw [← headerCrcGood_bytes h]
  obtain ⟨rest, e⟩ := wireFrame_eq h p t stomp
  have := header_bytes_length h
  rw [e, headerCrcGood, headerCrcGood, slice_append_left _ _ _ _ (by omega), fieldAt_append_left _ _ _ _ (by omega)]

/-- The FCS of a frame on the wire is correct, or stomped. -/
theorem wireFrame_fcs (h : Header) (p t : List Byte) (stomp : Bool) :
    fcsOf (wireFrame h p t stomp) = if stomp then .stomped else .good := by
  generalize hb : h.bytes ++ p ++ t ++ List.replicate (60 - (h.bytes ++ p ++ t).length) 0#8 = b
  have e : wireFrame h p t stomp = b ++ leBytes 4 (if stomp then ~~~crc32 b else crc32 b).toNat := by
    rw [← hb]; rfl
  have hl : (wireFrame h p t stomp).length - 4 = b.length := by simp [e]
  have h2 : BitVec.ofNat 32 (fieldAt (wireFrame h p t stomp) b.length 4) = if stomp then ~~~crc32 b else crc32 b := by
    rw [fieldAt, e, slice_append_right _ _ _ _ rfl, List.take_of_length_le (by simp), leNat_leBytes,
      show (256 : Nat) ^ 4 = 2 ^ 32 by norm_num, Nat.mod_eq_of_lt (BitVec.isLt _), BitVec.ofNat_toNat,
        BitVec.setWidth_eq]
  have h3 : (wireFrame h p t stomp).take b.length = b := by rw [e, List.take_left' rfl]
  rw [fcsOf, hl, h2, h3]
  cases stomp
  · simp
  · have : ~~~crc32 b ≠ crc32 b := by
      intro hc
      have := congrArg (fun (v : BitVec 32) => v.getLsbD 0) hc
      simp at this
    simp [this]

/-- The length of a frame on the wire. -/
theorem wireFrame_length (h : Header) (p t : List Byte) (stomp : Bool) :
    (wireFrame h p t stomp).length = max 64 (20 + p.length + t.length) := by
  simp [wireFrame]; omega

end Sys2Proof.Machine
end

