-- ==== Sys2Proof/Laws/Kept.lean ====
section
/-! SUPPORT. Sys2Proof/Laws/Kept.lean: every shared operation leaves the queue, the clock, the device state, the straps and
the test port as they are, but for the few that are there to change them. -/

namespace Sys2Proof.Machine

/-- What no shared operation touches: queue, clock, start of the timestamp counter, device state, straps, test port. -/
def State.spine (s : State) : List Instr × Nat × Nat × DevState × Straps × Tap :=
  (s.pending, s.clock, s.tsStart, s.mode, s.straps, s.tap)

/-- A record update that touches none of the spine. -/
@[simp] theorem spine_mk (u : State) (freeCount') (mem') (ecc') (power') (volt') (chans') (sync') (pages') (freeing') (cross') (repairs')
    (ticks') (nextTick') (arrays') (hearth') (learn') (panel') (out') (flue') (router') (ash') (vault') (smoulder')
    (lib') (flash') (ring') (fleet') :
    State.spine ⟨u.pending, u.clock, u.tsStart, u.mode, freeCount', mem', ecc', u.straps, power', volt', chans', sync',
    pages', freeing', cross', repairs', ticks', nextTick', arrays', hearth', learn', panel', out', flue', router', ash', vault',
    smoulder', lib', flash', ring', fleet', u.tap⟩ = u.spine := (rfl)

theorem spine_foldl {α : Type} (f : State → α → State) (hf : ∀ s x, (f s x).spine = s.spine) (l : List α) (s : State) :
    (l.foldl f s).spine = s.spine := by
  induction l generalizing s with
  | nil => rfl
  | cons x l ih => rw [List.foldl_cons, ih, hf]

@[simp] theorem State.poke_spine (s : State) (a : Nat) (bs : List Byte) : (s.poke a bs).spine = s.spine := (rfl)

@[simp] theorem State.wipe_spine (s : State) (a n : Nat) : (s.wipe a n).spine = s.spine := (rfl)

@[simp] theorem State.upset_spine (s : State) (us : List Upset) : (s.upset us).spine = s.spine := (rfl)

@[simp] theorem State.setTag_spine (s : State) (r : Nat) (t : Tag) : (s.setTag r t).spine = s.spine := by
  simp only [State.setTag, State.poke_spine]

@[simp] theorem State.setRow_spine (s : State) (r : Nat) (v : HV) : (s.setRow r v).spine = s.spine := by
  simp only [State.setRow, State.poke_spine]

@[simp] theorem State.writeRow_spine (s : State) (r : Nat) (v : HV) (t : Tag) : (s.writeRow r v t).spine = s.spine := by
  simp only [State.writeRow, State.setRow_spine, State.setTag_spine]

@[simp] theorem State.writeAll_spine (s : State) (ws : List (Nat × List Byte)) : (s.writeAll ws).spine = s.spine := by
  simp only [State.writeAll, State.poke_spine, spine_foldl, implies_true]

@[simp] theorem State.applyEntry_spine (s : State) (e : Entry) : (s.applyEntry e).spine = s.spine := by
  simp only [State.applyEntry, State.poke_spine, State.wipe_spine, State.writeAll_spine, apply_ite State.spine,
    ite_self]

@[simp] theorem State.commitEntry_spine (s : State) (e : Entry) : (s.commitEntry e).spine = s.spine := by
  simp only [State.commitEntry, State.writeAll_spine, State.applyEntry_spine, spine_mk]

@[simp] theorem State.writeAsh_spine (s : State) (r : AshRec) : (s.writeAsh r).spine = s.spine := by
  simp only [State.writeAsh, State.writeAll_spine, spine_mk]

@[simp] theorem State.settle_spine (s : State) : (s.settle).spine = s.spine := by
  simp only [State.settle, spine_mk]

@[simp] theorem State.useFree_spine (s : State) : (s.useFree).spine = s.spine := by
  simp only [State.useFree, spine_mk]

@[simp] theorem State.setPort_spine (s : State) (p : Port) (x : LinkPort) : (s.setPort p x).spine = s.spine := by
  simp only [State.setPort, spine_mk]

@[simp] theorem State.countDiscard_spine (s : State) : (s.countDiscard).spine = s.spine := by
  simp only [State.countDiscard, spine_mk]

@[simp] theorem State.takeCells_spine (s : State) (k : Nat) : ((s.takeCells k).2).spine = s.spine := by
  simp only [State.takeCells, spine_mk]

@[simp] theorem State.enqueueFrame_spine (s : State) (f : YFrame) (out : Port) (source : Option Port) (since : Nat) :
  ((s.enqueueFrame f out source since)).spine = s.spine := by
  simp only [State.enqueueFrame, State.takeCells_spine, spine_mk, apply_ite State.spine, ite_self]

@[simp] theorem State.offerLocal_spine (s : State) (since : Nat) (f : YFrame) :
    (s.offerLocal since f).spine = s.spine := by
  unfold State.offerLocal
  try simp only []
  (repeat' split) <;> simp only [State.countDiscard_spine, State.enqueueFrame_spine, spine_mk]

@[simp] theorem State.offerWaiting_spine (s : State) : (s.offerWaiting).spine = s.spine := by
  simp only [State.offerWaiting, State.offerLocal_spine, spine_mk, spine_foldl, implies_true]

@[simp] theorem State.takeE2e_spine (s : State) : ((s.takeE2e).2).spine = s.spine := by
  simp only [State.takeE2e, State.poke_spine, spine_mk, apply_ite State.spine, ite_self]

@[simp] theorem State.originate_spine (s : State) (type chan dst dir : Nat) (payload : List Byte) :
    (s.originate type chan dst dir payload).spine = s.spine := by
  simp only [State.originate, State.takeE2e_spine, State.offerLocal_spine]

@[simp] theorem State.putFlue_spine (s : State) (f : Flue) : ((s.putFlue f)).spine = s.spine := by
  simp only [State.putFlue, spine_mk, apply_ite State.spine, ite_self]

@[simp] theorem State.report_spine (s : State) (type time : Nat) (payload : List Byte) (tier : Nat) : ((s.report type
  time payload tier)).spine = s.spine := by
  unfold State.report
  try simp only []
  (repeat' split) <;> simp only [State.putFlue_spine, State.originate_spine, spine_mk, spine_foldl, implies_true,
    apply_ite State.spine, ite_self]

@[simp] theorem State.ashRecord_spine (s : State) (type time : Nat) (payload : List Byte) :
    (s.ashRecord type time payload).spine = s.spine := by
  simp only [State.ashRecord, spine_mk]

@[simp] theorem State.coalesce_spine (s : State) : (s.coalesce).spine = s.spine := by
  simp only [State.coalesce, spine_mk, apply_ite State.spine, ite_self]

@[simp] theorem State.routeAsh_spine (s : State) (e : Event) : (s.routeAsh e).spine = s.spine := by
  simp only [State.routeAsh, spine_mk, apply_ite State.spine, ite_self]

@[simp] theorem State.routeFlue_spine (s : State) (e : Event) : (s.routeFlue e).spine = s.spine := by
  simp only [State.routeFlue, spine_mk, apply_ite State.spine, ite_self]

@[simp] theorem State.ringEvent_spine (s : State) (code port peer epoch e2e value : Nat) :
    (s.ringEvent code port peer epoch e2e value).spine = s.spine := by
  simp only [State.ringEvent, State.routeAsh_spine, State.routeFlue_spine]

@[simp] theorem State.channelRecord_spine (s : State) (c old new detections : Nat) :
    (s.channelRecord c old new detections).spine = s.spine := by
  simp only [State.channelRecord, State.routeFlue_spine, State.routeAsh_spine, apply_ite State.spine, ite_self]

@[simp] theorem State.syncRecord_spine (s : State) (time old new : Nat) :
    (s.syncRecord time old new).spine = s.spine := by
  simp only [State.syncRecord, State.routeFlue_spine, State.routeAsh_spine]

@[simp] theorem State.senseTemp_spine (s : State) (milli : Int) : (s.senseTemp milli).spine = s.spine := by
  simp only [State.senseTemp, State.routeFlue_spine, State.routeAsh_spine, spine_mk, apply_ite State.spine, ite_self]

@[simp] theorem State.memoryEvent_spine (s : State) (ev : Nat) (m : Master) (addr row seg erased source : Nat) :
  ((s.memoryEvent ev m addr row seg erased source)).spine = s.spine := by
  simp only [State.memoryEvent, State.routeFlue_spine, State.routeAsh_spine, State.report_spine,
    State.ashRecord_spine, spine_mk, apply_ite State.spine, ite_self]

@[simp] theorem State.writeCut_spine (s : State) (ws : List (Nat × List Byte)) (supplyLost : Bool) :
    (s.writeCut ws supplyLost).spine = s.spine := by
  unfold State.writeCut
  try simp only []
  (repeat' split) <;> simp only [State.writeAll_spine, State.useFree_spine, State.poke_spine, spine_mk]

@[simp] theorem State.finishFail_spine (s : State) : ((s.finishFail)).spine = s.spine := by
  simp only [State.finishFail, State.writeAll_spine, spine_mk, apply_ite State.spine, ite_self]

@[simp] theorem State.stopFail_spine (s : State) (words : Nat) (supplyLost : Bool) : ((s.stopFail words
  supplyLost)).spine = s.spine := by
  simp only [State.stopFail, State.finishFail_spine, State.writeCut_spine, spine_mk, apply_ite State.spine, ite_self]

@[simp] theorem State.stopWrites_spine (s : State) (ws : List (Nat × List Byte)) (words : Nat) (supplyLost : Bool) :
  ((s.stopWrites ws words supplyLost)).spine = s.spine := by
  simp only [State.stopWrites, State.writeCut_spine, spine_mk, apply_ite State.spine, ite_self]

@[simp] theorem State.stopMram_spine (s : State) (p : MramProgress) (supplyLost : Bool) : ((s.stopMram p
  supplyLost)).spine = s.spine := by
  unfold State.stopMram
  try simp only []
  (repeat' split) <;> simp only [State.stopFail_spine, State.stopWrites_spine, spine_mk, apply_ite State.spine,
    ite_self]

@[simp] theorem State.unwatch_spine (s : State) : ((s.unwatch)).spine = s.spine := by
  simp only [State.unwatch, spine_mk, apply_ite State.spine, ite_self]

@[simp] theorem State.releaseCore_spine (s : State) : ((s.releaseCore)).spine = s.spine := by
  simp only [State.releaseCore, spine_mk, apply_ite State.spine, ite_self]

@[simp] theorem State.leaveReset_spine (s : State) : (s.leaveReset).spine = s.spine := by
  simp only [State.leaveReset, spine_mk, apply_ite State.spine, ite_self]

@[simp] theorem State.teachRecord_spine (s : State) (outcome label row freed bin collected radius : Nat) :
    (s.teachRecord outcome label row freed bin collected radius).spine = s.spine := by
  simp only [State.teachRecord, State.report_spine, State.ashRecord_spine]

@[simp] theorem State.abandonTeach_spine (s : State) (outcome : Nat) : (s.abandonTeach outcome).spine = s.spine := by
  unfold State.abandonTeach
  try simp only []
  (repeat' split) <;> simp only [State.teachRecord_spine, spine_mk]

@[simp] theorem State.markDirty_spine (s : State) (row : Nat) (data tag : Bool) :
    (s.markDirty row data tag).spine = s.spine := by
  simp only [State.markDirty, spine_mk, apply_ite State.spine, ite_self]

@[simp] theorem State.freeAccum_spine (s : State) (row : Nat) : (s.freeAccum row).spine = s.spine := by
  simp only [State.freeAccum, spine_mk]

@[simp] theorem State.bumpLife_spine (s : State) (row : Nat) : (s.bumpLife row).spine = s.spine := by
  simp only [State.bumpLife, spine_mk]

@[simp] theorem State.request_spine (s : State) (r : Refetch) : (s.request r).spine = s.spine := by
  simp only [State.request, spine_mk, apply_ite State.spine, ite_self]

@[simp] theorem State.requestRow_spine (s : State) (row : Nat) : (s.requestRow row).spine = s.spine := by
  simp only [State.requestRow, State.request_spine]

@[simp] theorem State.spendRow_spine (s : State) (row : Nat) (m : Master) : (s.spendRow row m).spine = s.spine := by
  simp only [State.spendRow, State.setTag_spine, State.markDirty_spine, State.memoryEvent_spine,
    State.freeAccum_spine, State.bumpLife_spine, State.requestRow_spine, apply_ite State.spine, ite_self]

@[simp] theorem State.startHeal_spine (s : State) (row seg : Nat) (again : Bool) :
    (s.startHeal row seg again).spine = s.spine := by
  unfold State.startHeal
  try simp only []
  (repeat' split) <;> simp only [State.request_spine, spine_mk]

@[simp] theorem State.segmentFound_spine (s : State) (row seg : Nat) (m : Master) :
    (s.segmentFound row seg m).spine = s.spine := by
  simp only [State.segmentFound, State.startHeal_spine, State.setTag_spine, State.markDirty_spine,
    State.memoryEvent_spine, State.spendRow_spine, apply_ite State.spine, ite_self]

@[simp] theorem State.tagFound_spine (s : State) (row : Nat) (m : Master) : (s.tagFound row m).spine = s.spine := by
  simp only [State.tagFound, State.setTag_spine, State.markDirty_spine, State.memoryEvent_spine,
    State.freeAccum_spine, State.bumpLife_spine, State.requestRow_spine, apply_ite State.spine, ite_self]

@[simp] theorem State.metErrors_spine (s : State) (met : List Met) (m : Master) :
    (s.metErrors met m).spine = s.spine := by
  unfold State.metErrors
  apply spine_foldl
  intro s e
  split <;> split <;> simp only [State.segmentFound_spine, State.tagFound_spine]

@[simp] theorem State.healSegments_spine (s : State) (row : Nat) (words : List (Nat × List Byte)) (m : Master)
    (source : Nat) : (s.healSegments row words m source).spine = s.spine := by
  simp only [State.healSegments, State.poke_spine, State.setTag_spine, State.markDirty_spine,
    State.memoryEvent_spine, spine_foldl, apply_ite State.spine, ite_self, implies_true]

@[simp] theorem State.freeRow_spine (s : State) (row : Nat) : (s.freeRow row).spine = s.spine := by
  simp only [State.freeRow, State.setTag_spine, State.markDirty_spine, State.freeAccum_spine, State.bumpLife_spine]

@[simp] theorem State.emptyFleet_spine (s : State) : (s.emptyFleet).spine = s.spine := by
  simp only [State.emptyFleet, State.setTag_spine, spine_foldl, implies_true]

@[simp] theorem State.buildItems_spine (s : State) : (s.buildItems).spine = s.spine := by
  simp only [State.buildItems, State.poke_spine, spine_mk]

@[simp] theorem State.pushHistory_spine (s : State) (m : HV) : (s.pushHistory m).spine = s.spine := by
  simp only [State.pushHistory, State.poke_spine, spine_mk]

@[simp] theorem State.clearHistory_spine (s : State) : (s.clearHistory).spine = s.spine := by
  simp only [State.clearHistory, State.wipe_spine, spine_mk]

@[simp] theorem State.setAccum_spine (s : State) (x : Accum) : (s.setAccum x).spine = s.spine := by
  simp only [State.setAccum, spine_mk]

@[simp] theorem State.seedCounters_spine (s : State) (a row : Nat) : (s.seedCounters a row).spine = s.spine := by
  simp only [State.seedCounters, State.poke_spine, State.metErrors_spine]

@[simp] theorem State.reseedAccum_spine (s : State) (a addr : Nat) (m : Master) :
    (s.reseedAccum a addr m).spine = s.spine := by
  unfold State.reseedAccum
  try simp only []
  (repeat' split) <;> simp only [State.poke_spine, State.memoryEvent_spine, State.setAccum_spine,
    State.seedCounters_spine]

@[simp] theorem State.commitRow_spine (s : State) (x : Accum) : (s.commitRow x).spine = s.spine := by
  simp only [State.commitRow, State.writeRow_spine, State.markDirty_spine, State.setAccum_spine,
    State.memoryEvent_spine, State.spendRow_spine, spine_mk, spine_foldl, apply_ite State.spine, ite_self, implies_true]

@[simp] theorem State.commitAccum_spine (s : State) (x : Accum) : ((s.commitAccum x)).spine = s.spine := by
  unfold State.commitAccum
  try simp only []
  (repeat' split) <;> simp only [State.reseedAccum_spine, State.tagFound_spine, State.commitRow_spine, spine_mk,
    apply_ite State.spine, ite_self]

@[simp] theorem State.takeAccum_spine (s : State) (x : Accum) : (s.takeAccum x).spine = s.spine := by
  simp only [State.takeAccum, State.commitAccum_spine, spine_mk, apply_ite State.spine, ite_self]

@[simp] theorem State.openAccum_spine (s : State) (row : Nat) : (s.openAccum row).spine = s.spine := by
  unfold State.openAccum
  try simp only []
  (repeat' split) <;> simp only [State.takeAccum_spine, State.seedCounters_spine, spine_mk]

@[simp] theorem State.admitCounters_spine (s : State) (row : Nat) (v : HV) :
    (s.admitCounters row v).spine = s.spine := by
  unfold State.admitCounters
  try simp only []
  (repeat' split) <;> simp only [State.reseedAccum_spine, State.poke_spine, State.setAccum_spine, spine_mk]

@[simp] theorem State.clearPage_spine (s : State) (page : Nat) : ((s.clearPage page)).spine = s.spine := by
  simp only [State.clearPage, spine_mk, apply_ite State.spine, ite_self]

@[simp] theorem State.endFilling_spine (s : State) (at_ c : Nat) : ((s.endFilling at_ c).1).spine = s.spine := by
  unfold State.endFilling
  try simp only []
  (repeat' split) <;> simp only [State.clearPage_spine, spine_mk, apply_ite State.spine, ite_self]

@[simp] theorem State.allocate_spine (s : State) (at_ c : Nat) (closed : Option ChanFrame) (tick : List ChanFrame ×
  List Nat) : ((s.allocate at_ c closed tick).1).spine = s.spine := by
  unfold State.allocate
  try simp only []
  (repeat' split) <;> simp only [spine_mk, apply_ite State.spine, ite_self]

@[simp] theorem State.releasePage_spine (s : State) (page : Nat) : ((s.releasePage page)).spine = s.spine := by
  simp only [State.releasePage, State.clearPage_spine, spine_mk, apply_ite State.spine, ite_self]

@[simp] theorem State.turnPages_spine (s : State) (at_ : Nat) : ((s.turnPages at_).1).spine = s.spine := by
  have h1 : ∀ (l : List Nat) (a : State × List (Option ChanFrame)),
      (l.foldl (fun a c => ((a.1.endFilling at_ c).1, a.2 ++ [(a.1.endFilling at_ c).2])) a).1.spine = a.1.spine := by
    intro l
    induction l with
    | nil => intro a; rfl
    | cons c l ih => intro a; rw [List.foldl_cons, ih]; simp only [State.endFilling_spine]
  have h2 : ∀ (g : Nat → Option ChanFrame) (l : List Nat) (a : State × (List ChanFrame × List Nat)),
      (l.foldl (fun a c => a.1.allocate at_ c (g c) a.2) a).1.spine = a.1.spine := by
    intro g l
    induction l with
    | nil => intro a; rfl
    | cons c l ih => intro a; rw [List.foldl_cons, ih]; simp only [State.allocate_spine]
  unfold State.turnPages
  simp only [spine_foldl, State.releasePage_spine, spine_mk, implies_true]
  exact (h2 _ _ _).trans (h1 _ _)

@[simp] theorem State.crossWord_spine (s : State) (addr word : Nat) : ((s.crossWord addr word)).spine = s.spine := by
  simp only [State.crossWord, State.poke_spine, spine_mk, apply_ite State.spine, ite_self]

@[simp] theorem State.drainSamples_spine (s : State) : ((s.drainSamples)).spine = s.spine := by
  simp only [State.drainSamples, State.poke_spine, spine_mk, spine_foldl, implies_true, apply_ite State.spine,
    ite_self]

@[simp] theorem State.storeWord_spine (s : State) (j c word : Nat) : ((s.storeWord j c word)).spine = s.spine := by
  unfold State.storeWord
  try simp only []
  (repeat' split) <;> simp only [State.crossWord_spine, spine_mk, apply_ite State.spine, ite_self]

@[simp] theorem State.storeWords_spine (s : State) (j : Nat) (words : List Nat) : ((s.storeWords j words)).spine =
  s.spine := by
  simp only [State.storeWords, State.storeWord_spine, spine_mk, spine_foldl, implies_true, apply_ite State.spine,
    ite_self]

@[simp] theorem State.redoTurn_spine (s : State) : ((s.redoTurn)).spine = s.spine := by
  unfold State.redoTurn
  try simp only []
  (repeat' split) <;> simp only [State.poke_spine, State.turnPages_spine, State.storeWords_spine, spine_mk,
    spine_foldl, implies_true, apply_ite State.spine, ite_self]

@[simp] theorem State.freePage_spine (s : State) (page : Nat) : ((s.freePage page)).spine = s.spine := by
  simp only [State.freePage, State.releasePage_spine, State.redoTurn_spine, spine_mk, apply_ite State.spine, ite_self]

@[simp] theorem State.closeFrame_spine (s : State) (close len : Nat) (by_ : Closer) :
    (s.closeFrame close len by_).spine = s.spine := by
  have hp := State.turnPages_spine s (s.clockOf close)
  unfold State.closeFrame
  extract_lets y span fault load speed at_
  revert hp
  generalize s.turnPages (s.clockOf close) = x
  obtain ⟨u, f, d⟩ := x
  generalize s.frameStatus by_ = y
  obtain ⟨a, b, c⟩ := y
  intro hp
  dsimp only at hp ⊢
  (repeat' split) <;> simp only [State.syncRecord_spine, spine_mk, hp]

@[simp] theorem State.decideCandidate_spine (s : State) : ((s.decideCandidate)).spine = s.spine := by
  unfold State.decideCandidate
  try simp only []
  (repeat' split) <;> simp only [State.closeFrame_spine, spine_mk, apply_ite State.spine, ite_self]

@[simp] theorem State.decideAll_spine (s : State) (n : Nat) : (s.decideAll n).spine = s.spine := by
  induction n generalizing s with
  | zero => rfl
  | succ n ih =>
    rw [State.decideAll]
    split
    · rw [ih, State.decideCandidate_spine]
    · rfl

@[simp] theorem State.noteWords_spine (s : State) (words : List Nat) : ((s.noteWords words)).spine = s.spine := by
  unfold State.noteWords
  try simp only []
  (repeat' split) <;> simp only [spine_mk, apply_ite State.spine, ite_self]

@[simp] theorem State.placeSample_spine (s : State) (t : Nat) (words : List Nat) : ((s.placeSample t words)).spine =
  s.spine := by
  simp only [State.placeSample, State.closeFrame_spine, State.noteWords_spine, State.storeWords_spine, spine_mk,
    apply_ite State.spine, ite_self]

@[simp] theorem State.placeHeld_spine (s : State) : (s.placeHeld).spine = s.spine := by
  unfold State.placeHeld
  try simp only []
  (repeat' split) <;> simp only [State.placeSample_spine, spine_mk]

@[simp] theorem State.requestWake_spine (s : State) (mask : Nat) : (s.requestWake mask).spine = s.spine := by
  simp only [State.requestWake, spine_mk, apply_ite State.spine, ite_self]

@[simp] theorem State.wakeCapture_spine (s : State) : (s.wakeCapture).spine = s.spine := by
  unfold State.wakeCapture
  try simp only []
  (repeat' split) <;> simp only [State.requestWake_spine, spine_mk]

@[simp] theorem State.takeCapture_spine (s : State) (i : Nat) : (s.takeCapture i).spine = s.spine := by
  simp only [State.takeCapture, spine_mk, apply_ite State.spine, ite_self]

@[simp] theorem State.senseTach_spine (s : State) (i uv : Nat) : ((s.senseTach i uv)).spine = s.spine := by
  simp only [State.senseTach, State.takeCapture_spine, State.wakeCapture_spine, spine_mk, apply_ite State.spine,
    ite_self]

@[simp] theorem State.setAside_spine (s : State) (p : Port) (cls : Nat) : ((s.setAside p cls)).spine = s.spine := by
  simp only [State.setAside, State.setPort_spine, State.useFree_spine, spine_mk, apply_ite State.spine, ite_self]

@[simp] theorem State.creditFreed_spine (s : State) (p : Port) (cls k : Nat) : ((s.creditFreed p cls k)).spine =
  s.spine := by
  simp only [State.creditFreed, State.setPort_spine, State.useFree_spine, State.setAside_spine, spine_mk, apply_ite
    State.spine, ite_self]

@[simp] theorem State.freeCells_spine (s : State) (source : Option Port) (cls : Nat) (cells : List Nat) :
    (s.freeCells source cls cells).spine = s.spine := by
  unfold State.freeCells
  try simp only []
  (repeat' split) <;> simp only [State.offerWaiting_spine, State.creditFreed_spine, spine_mk]

@[simp] theorem State.dropQueued_spine (s : State) (q : QFrame) : (s.dropQueued q).spine = s.spine := by
  simp only [State.dropQueued, State.countDiscard_spine, State.freeCells_spine, spine_mk]

@[simp] theorem State.dropJob_spine (s : State) (j : Job) : ((s.dropJob j)).spine = s.spine := by
  simp only [State.dropJob, State.countDiscard_spine, State.freeCells_spine, spine_mk, apply_ite State.spine,
    ite_self]

@[simp] theorem State.turnQueue_spine (s : State) (p : Port) : (s.turnQueue p).spine = s.spine := by
  unfold State.turnQueue
  apply spine_foldl
  intro s q
  split
  · rfl
  · simp only [State.dropQueued_spine]

@[simp] theorem State.sendFrame_spine (s : State) (p : Port) (u : Sent) : (s.sendFrame p u).spine = s.spine := by
  simp only [State.sendFrame, State.setPort_spine]

@[simp] theorem State.finishCut_spine (s : State) (p : Port) (f : YFrame) (torn : Option (List Byte)) (cells : List
  Nat) : ((s.finishCut p f torn cells)).spine = s.spine := by
  unfold State.finishCut
  try simp only []
  (repeat' split) <;> simp only [State.setPort_spine, State.sendFrame_spine, State.countDiscard_spine,
    State.freeCells_spine, spine_mk, apply_ite State.spine, ite_self]

@[simp] theorem State.breakCuts_spine (s : State) (p : Port) : ((s.breakCuts p)).spine = s.spine := by
  unfold State.breakCuts
  try simp only []
  (repeat' split) <;> simp only [State.finishCut_spine, State.useFree_spine, State.setPort_spine, spine_mk, apply_ite
    State.spine, ite_self]

@[simp] theorem State.linkDown_spine (s : State) (p : Port) (value : Nat) : (s.linkDown p value).spine = s.spine := by
  simp only [State.linkDown, State.breakCuts_spine, State.setPort_spine, State.ringEvent_spine,
    State.turnQueue_spine, spine_mk, apply_ite State.spine, ite_self]

@[simp] theorem State.linkUp_spine (s : State) (p : Port) : (s.linkUp p).spine = s.spine := by
  simp only [State.linkUp, State.setPort_spine, State.ringEvent_spine, spine_mk, apply_ite State.spine, ite_self]

@[simp] theorem State.proposeReset_spine (s : State) (p : Port) (cause : Nat) :
    (s.proposeReset p cause).spine = s.spine := by
  simp only [State.proposeReset, State.setPort_spine]

@[simp] theorem State.countReset_spine (s : State) (p : Port) (epoch cause : Nat) :
    ((s.countReset p epoch cause).2).spine = s.spine := by
  unfold State.countReset
  try simp only []
  (repeat' split) <;> simp only [State.setPort_spine, State.ringEvent_spine, State.linkDown_spine]

@[simp] theorem State.exhausted_spine (s : State) (p : Port) : (s.exhausted p).spine = s.spine := by
  simp only [State.exhausted, State.countReset_spine, State.proposeReset_spine, apply_ite State.spine, ite_self]

@[simp] theorem State.completeReset_spine (s : State) (p : Port) (epoch : Nat) :
    (s.completeReset p epoch).spine = s.spine := by
  simp only [State.completeReset, State.breakCuts_spine, State.setPort_spine, State.freeCells_spine,
    State.linkUp_spine, spine_foldl, apply_ite State.spine, ite_self, implies_true]

@[simp] theorem State.sampleLink_spine (s : State) (p : Port) (high : Bool) :
    (s.sampleLink p high).spine = s.spine := by
  simp only [State.sampleLink, State.setPort_spine, State.linkDown_spine, apply_ite State.spine, ite_self]

@[simp] theorem State.ageLimiters_spine (s : State) (l : List RawSample) : (s.ageLimiters l).spine = s.spine := by
  simp only [State.ageLimiters, spine_mk]

@[simp] theorem State.followIdle_spine (s : State) : (s.followIdle).spine = s.spine := by
  simp only [State.followIdle, spine_mk, apply_ite State.spine, ite_self]

@[simp] theorem State.setStatus_spine (s : State) (c : Nat) (x : Chan) (new : Nat) :
    (s.setStatus c x new).spine = s.spine := by
  simp only [State.setStatus, State.channelRecord_spine, State.followIdle_spine, spine_mk, apply_ite State.spine,
    ite_self]

@[simp] theorem State.discardHeld_spine (s : State) (c : Nat) : ((s.discardHeld c)).spine = s.spine := by
  simp only [State.discardHeld, State.releasePage_spine, spine_mk, spine_foldl, implies_true, apply_ite State.spine,
    ite_self]

@[simp] theorem State.withdraw_spine (s : State) (c : Nat) (x : Chan) (b : Bias) : ((s.withdraw c x b)).spine =
  s.spine := by
  simp only [State.withdraw, State.setStatus_spine, State.redoTurn_spine, State.discardHeld_spine, spine_mk, apply_ite
    State.spine, ite_self]

@[simp] theorem State.evaluateBias_spine (s : State) (c uv : Nat) : (s.evaluateBias c uv).spine = s.spine := by
  simp only [State.evaluateBias, State.setStatus_spine, State.withdraw_spine, spine_mk, apply_ite State.spine, ite_self]

@[simp] theorem State.evaluateBiases_spine (s : State) (l : List Nat) : (s.evaluateBiases l).spine = s.spine := by
  simp only [State.evaluateBiases, State.evaluateBias_spine, spine_foldl, apply_ite State.spine, ite_self, implies_true]

@[simp] theorem State.evaluateShock_spine (s : State) (l : List Nat) : (s.evaluateShock l).spine = s.spine := by
  simp only [State.evaluateShock, spine_mk]

@[simp] theorem State.wakeTick_spine (s : State) (wakeNLow : Bool) : (s.wakeTick wakeNLow).spine = s.spine := by
  simp only [State.wakeTick, State.requestWake_spine, spine_mk, apply_ite State.spine, ite_self]

@[simp] theorem State.askFleet_spine (s : State) (kind bin : Nat) (vec : HV) (row : Nat) (gen : Option Nat) (reissue :
  Bool) : ((s.askFleet kind bin vec row gen reissue)).spine = s.spine := by
  simp only [State.askFleet, State.originate_spine, spine_mk, apply_ite State.spine, ite_self]

@[simp] theorem State.setSlotSeq_spine (s : State) (slot q : Nat) : (s.setSlotSeq slot q).spine = s.spine := by
  simp only [State.setSlotSeq, State.poke_spine, spine_mk]

@[simp] theorem State.forget_spine (s : State) (label : Nat) : (s.forget label).spine = s.spine := by
  simp only [State.forget, State.freeRow_spine, State.setSlotSeq_spine, State.originate_spine,
    State.teachRecord_spine, spine_foldl, apply_ite State.spine, ite_self, implies_true]

@[simp] theorem State.evict_spine (s : State) (row : Nat) : (s.evict row).spine = s.spine := by
  simp only [State.evict, State.freeAccum_spine, State.bumpLife_spine]

@[simp] theorem State.pushWrite_spine (s : State) (w : RowOp) : (s.pushWrite w).spine = s.spine := by
  simp only [State.pushWrite, spine_mk]

@[simp] theorem State.spawn_spine (s : State) (vec : HV) (scope bin radius mu delta : Nat) :
    ((s.spawn vec scope bin radius mu delta).1).spine = s.spine := by
  unfold State.spawn
  split
  · exact State.pushWrite_spine _ _
  · split
    · simp only [State.pushWrite_spine, State.evict_spine]
    · exact (rfl)

@[simp] theorem State.admission_spine (s : State) (vec : HV) (row dist : Nat) :
    (s.admission vec row dist).spine = s.spine := by
  simp only [State.admission, State.openAccum_spine, State.admitCounters_spine, State.pushWrite_spine]

@[simp] theorem State.addKindling_spine (s : State) (cell tRef : Nat) : (s.addKindling cell tRef).spine = s.spine := by
  simp only [State.addKindling, spine_mk]

@[simp] theorem State.learnQuery_spine (fleet : List Diag) (t : Tick) (a : State × Option Nat) (q : Query) :
    ((State.learnQuery fleet t a q).1).spine = a.1.spine := by
  unfold State.learnQuery
  try simp only []
  (repeat' split) <;> simp only [State.addKindling_spine, State.admission_spine, State.spawn_spine]

@[simp] theorem State.teachTimeoutAt_spine (s : State) (t : Tick) : (s.teachTimeoutAt t).spine = s.spine := by
  unfold State.teachTimeoutAt
  try simp only []
  (repeat' split) <;> simp only [State.report_spine, State.ashRecord_spine, spine_mk]

@[simp] theorem State.announceTeach_spine (s : State) (slot : Nat) (tag : Tag) (data : HV) :
    (s.announceTeach slot tag data).spine = s.spine := by
  simp only [State.announceTeach, State.setSlotSeq_spine, State.originate_spine, apply_ite State.spine, ite_self]

@[simp] theorem State.finishTeach_spine (s : State) (x : Teach) (bin : Nat) :
    (s.finishTeach x bin).spine = s.spine := by
  unfold State.finishTeach
  try simp only []
  (repeat' split) <;> simp only [State.teachRecord_spine, State.spawn_spine, State.pushWrite_spine,
    State.announceTeach_spine, spine_mk]

@[simp] theorem State.collectTeach_spine (s : State) (t : Tick) : (s.collectTeach t).spine = s.spine := by
  unfold State.collectTeach
  try simp only []
  (repeat' split) <;> simp only [State.finishTeach_spine, spine_mk]

@[simp] theorem State.markDue_spine (s : State) : (s.markDue).spine = s.spine := by
  simp only [State.markDue, spine_mk, apply_ite State.spine, ite_self]

@[simp] theorem State.seasonCells_spine (s : State) : (s.seasonCells).spine = s.spine := by
  simp only [State.seasonCells, spine_mk]

@[simp] theorem State.fleetQuestion_spine (s : State) (t : Tick) (seasoned : List Nat) (spawned : Option Nat)
    (hits : Nat) : (s.fleetQuestion t seasoned spawned hits).spine = s.spine := by
  unfold State.fleetQuestion
  try simp only []
  (repeat' split) <;> simp only [State.askFleet_spine]

@[simp] theorem State.learnStage_spine (s : State) (t : Tick) : (s.learnStage t).spine = s.spine := by
  have hq : ∀ (t : Tick) (fleet : List Diag) (l : List Query) (a : State × Option Nat),
      (l.foldl (State.learnQuery fleet t) a).1.spine = a.1.spine := by
    intro t fleet l
    induction l with
    | nil => intro a; rfl
    | cons q l ih => intro a; rw [List.foldl_cons, ih, State.learnQuery_spine]
  unfold State.learnStage
  simp only [State.fleetQuestion_spine, State.seasonCells_spine, State.markDue_spine, State.collectTeach_spine,
    State.teachTimeoutAt_spine, hq, spine_mk]

@[simp] theorem State.frameEvent_spine (s : State) (code : Nat) (p : Port) (e2e value : Nat) :
    (s.frameEvent code p e2e value).spine = s.spine := by
  simp only [State.frameEvent, State.ringEvent_spine]

@[simp] theorem State.unitEvent_spine (s : State) (code e2e value : Nat) :
    (s.unitEvent code e2e value).spine = s.spine := by
  simp only [State.unitEvent, State.ringEvent_spine]

@[simp] theorem State.ownCensus_spine (s : State) (p : Port) (f : YFrame) : (s.ownCensus p f).spine = s.spine := by
  simp only [State.ownCensus, State.frameEvent_spine, spine_mk, apply_ite State.spine, ite_self]

@[simp] theorem State.census_spine (s : State) (p : Port) (f : YFrame) : (s.census p f).spine = s.spine := by
  simp only [State.census, State.frameEvent_spine, spine_mk, apply_ite State.spine, ite_self]

@[simp] theorem State.refusePlace_spine (s : State) (p : Port) (e2e : Nat) : (s.refusePlace p e2e).spine = s.spine := by
  simp only [State.refusePlace, State.frameEvent_spine, spine_mk]

@[simp] theorem State.place_spine (s : State) (p : Port) (e2e o i seq : Nat) (sent : Tag) (data : HV) (lost : Nat) :
    (s.place p e2e o i seq sent data lost).spine = s.spine := by
  unfold State.place
  try simp only []
  (repeat' split) <;> simp only [State.refusePlace_spine, State.writeRow_spine, State.memoryEvent_spine,
    State.frameEvent_spine, spine_foldl, implies_true]

@[simp] theorem State.freeSlot_spine (s : State) (o i : Nat) : (s.freeSlot o i).spine = s.spine := by
  simp only [State.freeSlot, State.setTag_spine, spine_foldl, implies_true]

@[simp] theorem State.setFleetSeq_spine (s : State) (o w : Nat) : (s.setFleetSeq o w).spine = s.spine := by
  simp only [State.setFleetSeq, State.poke_spine, spine_mk]

@[simp] theorem State.teachFrame_spine (s : State) (p : Port) (f : YFrame) (lost : Nat) :
    (s.teachFrame p f lost).spine = s.spine := by
  simp only [State.teachFrame, State.setFleetSeq_spine, State.place_spine, State.freeSlot_spine, spine_foldl,
    apply_ite State.spine, ite_self, implies_true]

@[simp] theorem State.sweepFrame_spine (s : State) (p : Port) (f : YFrame) (lost : Nat) :
    (s.sweepFrame p f lost).spine = s.spine := by
  simp only [State.sweepFrame, State.freeSlot_spine, State.place_spine, apply_ite State.spine, ite_self]

@[simp] theorem State.holdQuery_spine (s : State) (p : Port) (f : YFrame) (cells : List Nat) :
    (s.holdQuery p f cells).spine = s.spine := by
  simp only [State.holdQuery, spine_mk]

@[simp] theorem State.useResult_spine (s : State) (q : OwnQuery) (b : List Byte) :
    (s.useResult q b).spine = s.spine := by
  unfold State.useResult
  try simp only []
  (repeat' split) <;> simp only [State.pushWrite_spine, spine_mk]

@[simp] theorem State.queryReturn_spine (s : State) (p : Port) (f : YFrame) : (s.queryReturn p f).spine = s.spine := by
  unfold State.queryReturn
  try simp only []
  (repeat' split) <;> simp only [State.frameEvent_spine, State.useResult_spine, spine_mk]

@[simp] theorem State.relayedRecord_spine (s : State) (b : List Byte) : ((s.relayedRecord b)).spine = s.spine := by
  simp only [State.relayedRecord, State.putFlue_spine, spine_mk, apply_ite State.spine, ite_self]

@[simp] theorem State.ownFrame_spine (s : State) (p : Port) (f : YFrame) : (s.ownFrame p f).spine = s.spine := by
  unfold State.ownFrame
  try simp only []
  (repeat' split) <;> simp only [State.frameEvent_spine, State.ownCensus_spine, State.queryReturn_spine]

@[simp] theorem State.applyFrame_spine (s : State) (p : Port) (f : YFrame) (lost : Nat) : ((s.applyFrame p f
  lost)).spine = s.spine := by
  simp only [State.applyFrame, State.teachFrame_spine, State.sweepFrame_spine, spine_mk, apply_ite State.spine,
    ite_self]

@[simp] theorem State.placeFrame_spine (s : State) (p : Port) (f : YFrame) (lost : Nat) : ((s.placeFrame p f
  lost)).spine = s.spine := by
  simp only [State.placeFrame, State.applyFrame_spine, spine_mk, apply_ite State.spine, ite_self]

@[simp] theorem State.landHeld_spine (s : State) (lost : Nat) : ((s.landHeld lost)).spine = s.spine := by
  unfold State.landHeld
  try simp only []
  (repeat' split) <;> simp only [State.applyFrame_spine, spine_mk, apply_ite State.spine, ite_self]

@[simp] theorem State.processFrame_spine (s : State) (p : Port) (f : YFrame) (lost : Nat) : ((s.processFrame p f
  lost)).spine = s.spine := by
  unfold State.processFrame
  try simp only []
  (repeat' split) <;> simp only [State.census_spine, State.placeFrame_spine, spine_mk, apply_ite State.spine,
    ite_self]

@[simp] theorem State.deliverFrame_spine (s : State) (f : YFrame) : ((s.deliverFrame f)).spine = s.spine := by
  simp only [State.deliverFrame, State.relayedRecord_spine, spine_mk, apply_ite State.spine, ite_self]

@[simp] theorem State.mirrorFinds_spine (s : State) (row : Nat) : (s.mirrorFinds row).spine = s.spine := by
  simp only [State.mirrorFinds, State.tagFound_spine, State.metErrors_spine, apply_ite State.spine, ite_self]

@[simp] theorem State.mirrorRow_spine (s : State) (row : Nat) : (s.mirrorRow row).spine = s.spine := by
  unfold State.mirrorRow
  try simp only []
  (repeat' split) <;> simp only [State.mirrorFinds_spine, spine_mk]

@[simp] theorem State.commitAll_spine (s : State) (n : Nat) : (s.commitAll n).spine = s.spine := by
  induction n generalizing s with
  | zero => rfl
  | succ n ih =>
    rw [State.commitAll]
    split
    · rfl
    · rw [ih, State.commitEntry_spine]

@[simp] theorem State.persistCounters_spine (s : State) : (s.persistCounters).spine = s.spine := by
  simp only [State.persistCounters, State.poke_spine, State.wipe_spine, spine_foldl, implies_true]

@[simp] theorem State.storeParams_spine (s : State) : (s.storeParams).spine = s.spine := by
  simp only [State.storeParams, State.poke_spine]

@[simp] theorem State.builtInPlan_spine (s : State) : (s.builtInPlan).spine = s.spine := by
  simp only [State.builtInPlan, State.wipe_spine, State.storeParams_spine, spine_mk]

@[simp] theorem State.withoutImage_spine (s : State) : (s.withoutImage).spine = s.spine := by
  simp only [State.withoutImage, State.builtInPlan_spine, State.storeParams_spine, State.buildItems_spine, spine_mk]

@[simp] theorem State.refusalEvent_spine (s : State) (cause addr : Nat) :
    (s.refusalEvent cause addr).spine = s.spine := by
  simp only [State.refusalEvent, State.memoryEvent_spine]

@[simp] theorem State.refuse_spine (s : State) (cause addr : Nat) : (s.refuse cause addr).spine = s.spine := by
  simp only [State.refuse, State.withoutImage_spine, State.refusalEvent_spine]

@[simp] theorem State.startLibrary_spine (s : State) : (s.startLibrary).spine = s.spine := by
  simp only [State.startLibrary, State.withoutImage_spine, spine_mk, apply_ite State.spine, ite_self]

@[simp] theorem State.planArrives_spine (s : State) (item : List Byte) : (s.planArrives item).spine = s.spine := by
  unfold State.planArrives
  try simp only []
  (repeat' split) <;> simp only [State.refuse_spine, spine_mk]

@[simp] theorem State.loadRow_spine (s : State) (i : Nat) (item : List Byte) : ((s.loadRow i item)).spine = s.spine :=
  by
  simp only [State.loadRow, State.writeRow_spine, spine_mk, apply_ite State.spine, ite_self]

@[simp] theorem State.recordArrives_spine (s : State) (i : Nat) (item : List Byte) : ((s.recordArrives i item)).spine
  = s.spine := by
  unfold State.recordArrives
  try simp only []
  (repeat' split) <;> simp only [State.refuse_spine, State.loadRow_spine, spine_mk, apply_ite State.spine, ite_self]

@[simp] theorem State.acceptImage_spine (s : State) : (s.acceptImage).spine = s.spine := by
  simp only [State.acceptImage, State.setTag_spine, State.poke_spine, State.storeParams_spine,
    State.buildItems_spine, spine_mk, spine_foldl, implies_true]

@[simp] theorem State.served_spine (s : State) : (s.served).spine = s.spine := by
  simp only [State.served, spine_mk]

@[simp] theorem State.invalidateLibrary_spine (s : State) : (s.invalidateLibrary).spine = s.spine := by
  simp only [State.invalidateLibrary, State.setTag_spine, spine_foldl, implies_true]

@[simp] theorem State.planAttempt_spine (s : State) (item : List Byte) : (s.planAttempt item).spine = s.spine := by
  simp only [State.planAttempt, State.wipe_spine, State.poke_spine, State.storeParams_spine, State.served_spine,
    State.builtInPlan_spine, State.invalidateLibrary_spine, State.refusalEvent_spine, spine_mk,
      apply_ite State.spine, ite_self]

@[simp] theorem State.applySegments_spine (s : State) (item : List Byte) (row gen lost : Nat) (again : Bool) :
  ((s.applySegments item row gen lost again)).spine = s.spine := by
  simp only [State.applySegments, State.served_spine, State.tagFound_spine, State.request_spine,
    State.healSegments_spine, spine_mk, apply_ite State.spine, ite_self]

@[simp] theorem State.applyFull_spine (s : State) (item : List Byte) (row gen lost : Nat) (again : Bool) :
  ((s.applyFull item row gen lost again)).spine = s.spine := by
  simp only [State.applyFull, State.served_spine, State.tagFound_spine, State.request_spine, State.writeRow_spine,
    State.bumpLife_spine, spine_mk, apply_ite State.spine, ite_self]

@[simp] theorem State.fillFlash_spine (s : State) (item : List Byte) : ((s.fillFlash item)).spine = s.spine := by
  simp only [State.fillFlash, spine_mk, apply_ite State.spine, ite_self]

@[simp] theorem State.applyItem_spine (s : State) (item : List Byte) (lost : Nat) : ((s.applyItem item lost)).spine =
  s.spine := by
  unfold State.applyItem
  try simp only []
  (repeat' split) <;> simp only [State.planAttempt_spine, State.applySegments_spine, State.applyFull_spine, spine_mk,
    apply_ite State.spine, ite_self]

@[simp] theorem State.editFrame_spine (s : State) (tick chan : Nat) (f : ChanFrame → ChanFrame) :
    (s.editFrame tick chan f).spine = s.spine := by
  simp only [State.editFrame, spine_mk]

@[simp] theorem State.wordEvent_spine (s : State) (ev : Nat) (m : Master) (addr : Nat) :
    (s.wordEvent ev m addr).spine = s.spine := by
  simp only [State.wordEvent, State.memoryEvent_spine]

@[simp] theorem State.planBad_spine (s : State) (m : Master) (addr : Nat) : (s.planBad m addr).spine = s.spine := by
  simp only [State.planBad, State.wordEvent_spine, State.request_spine, State.builtInPlan_spine,
    apply_ite State.spine, ite_self]

@[simp] theorem State.extract_spine (s : State) (array : Nat) (job : ArrayJob) (t : Tick) (f : ChanFrame) :
    (s.extract array job t f).spine = s.spine := by
  simp only [State.extract, State.useFree_spine, State.editFrame_spine, State.freePage_spine, spine_mk,
    apply_ite State.spine, ite_self]

@[simp] theorem State.restartJob_spine (s : State) (array : Nat) : ((s.restartJob array)).spine = s.spine := by
  simp only [State.restartJob, spine_mk, apply_ite State.spine, ite_self]

@[simp] theorem State.startRebuild_spine (s : State) (m : Master) (addr : Nat) :
    (s.startRebuild m addr).spine = s.spine := by
  simp only [State.startRebuild, State.wordEvent_spine, spine_mk]

@[simp] theorem State.encode_spine (s : State) (t : Tick) : (s.encode t).spine = s.spine := by
  simp only [State.encode, State.clearHistory_spine, State.pushHistory_spine, spine_mk, apply_ite State.spine, ite_self]

@[simp] theorem State.startQuery_spine (s : State) (scan : Nat) (origin : Origin) (v : HV) (q : Filter) :
  ((s.startQuery scan origin v q)).spine = s.spine := by
  simp only [State.startQuery, spine_mk, apply_ite State.spine, ite_self]

@[simp] theorem State.startLocal_spine (s : State) (scan : Nat) (t : Tick) (i : Nat) (q : Query) : ((s.startLocal scan
  t i q)).spine = s.spine := by
  simp only [State.startLocal, State.startQuery_spine, spine_mk, apply_ite State.spine, ite_self]

@[simp] theorem State.startFleet_spine (s : State) (scan : Nat) (j : Job) : ((s.startFleet scan j)).spine = s.spine :=
  by
  unfold State.startFleet
  try simp only []
  (repeat' split) <;> simp only [State.dropJob_spine, State.wordEvent_spine, State.startQuery_spine, spine_mk,
    apply_ite State.spine, ite_self]

@[simp] theorem State.deliverRecall_spine (s : State) (q : InFlight) (r : Recall) :
    (s.deliverRecall q r).spine = s.spine := by
  unfold State.deliverRecall
  try simp only []
  (repeat' split) <;> simp only [spine_mk]

@[simp] theorem State.notePeer_spine (s : State) (p : Port) (b : List Byte) : (s.notePeer p b).spine = s.spine := by
  simp only [State.notePeer, State.setPort_spine]

@[simp] theorem State.answerReset_spine (s : State) (p : Port) (e cause : Nat) : ((s.answerReset p e cause)).spine =
  s.spine := by
  simp only [State.answerReset, State.setPort_spine, spine_mk, apply_ite State.spine, ite_self]

@[simp] theorem State.adoptReset_spine (s : State) (p : Port) (e cause : Nat) : ((s.adoptReset p e cause)).spine =
  s.spine := by
  unfold State.adoptReset
  try simp only []
  (repeat' split) <;> simp only [State.answerReset_spine, State.countReset_spine, State.completeReset_spine, spine_mk,
    apply_ite State.spine, ite_self]

@[simp] theorem State.resendReset_spine (s : State) (p : Port) : (s.resendReset p).spine = s.spine := by
  unfold State.resendReset
  try simp only []
  (repeat' split) <;> simp only [State.setPort_spine]

@[simp] theorem State.goBack_spine (s : State) (p : Port) : (s.goBack p).spine = s.spine := by
  unfold State.goBack
  try simp only []
  (repeat' split) <;> simp only [State.exhausted_spine, State.setPort_spine]

@[simp] theorem State.takeAck_spine (s : State) (p : Port) (h : Header) : (s.takeAck p h).spine = s.spine := by
  simp only [State.takeAck, State.setPort_spine, State.freeCells_spine, State.goBack_spine, spine_foldl,
    apply_ite State.spine, ite_self, implies_true]

@[simp] theorem State.forward_spine (s : State) (p : Port) (f : YFrame) (cells : List Nat) (since : Nat) :
    (s.forward p f cells since).spine = s.spine := by
  unfold State.forward
  try simp only []
  (repeat' split) <;> simp only [State.countDiscard_spine, State.freeCells_spine, spine_mk]

@[simp] theorem State.acceptFrame_spine (s : State) (p : Port) (f : YFrame) (cells : List Nat) (lost : Nat) :
    (s.acceptFrame p f cells lost).spine = s.spine := by
  simp only [State.acceptFrame, State.finishCut_spine, State.forward_spine, State.freeCells_spine,
    State.ownFrame_spine, State.frameEvent_spine, State.holdQuery_spine, State.processFrame_spine,
      State.deliverFrame_spine, apply_ite State.spine, ite_self]

@[simp] theorem State.rejectFrame_spine (s : State) (p : Port) (b : List Byte) : ((s.rejectFrame p b)).spine = s.spine
  := by
  unfold State.rejectFrame
  try simp only []
  (repeat' split) <;> simp only [State.finishCut_spine, State.setPort_spine, spine_mk, apply_ite State.spine,
    ite_self]

@[simp] theorem State.acceptHop_spine (s : State) (p : Port) : (s.acceptHop p).spine = s.spine := by
  simp only [State.acceptHop, State.setPort_spine]

@[simp] theorem State.discardContent_spine (s : State) (p : Port) (h : Header) (b : List Byte) : ((s.discardContent p
  h b)).spine = s.spine := by
  unfold State.discardContent
  try simp only []
  (repeat' split) <;> simp only [State.finishCut_spine, State.countDiscard_spine, State.creditFreed_spine, spine_mk,
    apply_ite State.spine, ite_self]

@[simp] theorem State.takeContent_spine (s : State) (p : Port) (b : List Byte) (lost : Nat) : ((s.takeContent p b
  lost)).spine = s.spine := by
  simp only [State.takeContent, State.discardContent_spine, State.takeCells_spine, State.acceptFrame_spine, spine_mk,
    apply_ite State.spine, ite_self]

@[simp] theorem State.receiveData_spine (s : State) (p : Port) (b : List Byte) (lost : Nat) : ((s.receiveData p b
  lost)).spine = s.spine := by
  simp only [State.receiveData, State.rejectFrame_spine, State.takeAck_spine, State.acceptHop_spine,
    State.takeContent_spine, spine_mk, apply_ite State.spine, ite_self]

@[simp] theorem State.drainPort_spine (s : State) (p : Port) : ((s.drainPort p)).spine = s.spine := by
  simp only [State.drainPort, State.takeContent_spine, spine_mk, spine_foldl, implies_true, apply_ite State.spine,
    ite_self]

@[simp] theorem State.startCut_spine (s : State) (p : Port) (h : Header) : (s.startCut p h).spine = s.spine := by
  simp only [State.startCut, State.setPort_spine]

@[simp] theorem State.sendLink_spine (s : State) (p : Port) (l : LinkFrame) : (s.sendLink p l).spine = s.spine := by
  unfold State.sendLink
  try simp only []
  (repeat' split) <;> simp only [State.setPort_spine]

@[simp] theorem State.sendAgain_spine (s : State) (p : Port) (u : Sent) : (s.sendAgain p u).spine = s.spine := by
  simp only [State.sendAgain, State.setPort_spine, State.sendFrame_spine]

@[simp] theorem State.sendData_spine (s : State) (p : Port) (q : QFrame) : (s.sendData p q).spine = s.spine := by
  simp only [State.sendData, State.setPort_spine, State.sendFrame_spine, spine_mk]

@[simp] theorem State.ageOut_spine (s : State) : (s.ageOut).spine = s.spine := by
  simp only [State.ageOut, State.dropQueued_spine, spine_mk, spine_foldl, implies_true]

@[simp] theorem State.foldJob_spine (s : State) (j : Job) : ((s.foldJob j)).spine = s.spine := by
  unfold State.foldJob
  try simp only []
  (repeat' split) <;> simp only [State.dropJob_spine, State.wordEvent_spine, State.forward_spine, spine_mk, apply_ite
    State.spine, ite_self]

@[simp] theorem State.queryFired_spine (s : State) (q : OwnQuery) : (s.queryFired q).spine = s.spine := by
  simp only [State.queryFired, State.askFleet_spine, State.unitEvent_spine, spine_mk, apply_ite State.spine, ite_self]

@[simp] theorem State.sweepNext_spine (s : State) : (s.sweepNext).spine = s.spine := by
  simp only [State.sweepNext, State.originate_spine, spine_mk, apply_ite State.spine, ite_self]

@[simp] theorem State.resume_spine (s : State) (began : Nat) : ((s.resume began)).spine = s.spine := by
  simp only [State.resume, spine_mk, apply_ite State.spine, ite_self]

@[simp] theorem State.freePages_spine (s : State) : ((s.freePages)).spine = s.spine := by
  simp only [State.freePages, State.releasePage_spine, State.redoTurn_spine, spine_mk, spine_foldl, implies_true,
    apply_ite State.spine, ite_self]

@[simp] theorem State.drainCrossing_spine (s : State) : ((s.drainCrossing)).spine = s.spine := by
  simp only [State.drainCrossing, State.drainSamples_spine, State.drainPort_spine, spine_mk, apply_ite State.spine,
    ite_self]

@[simp] theorem State.railRises_spine (s : State) (rail : Rail) : ((s.railRises rail)).spine = s.spine := by
  simp only [State.railRises, spine_mk, apply_ite State.spine, ite_self]

@[simp] theorem State.oscillatorSettles_spine (s : State) : ((s.oscillatorSettles)).spine = s.spine := by
  simp only [State.oscillatorSettles, spine_mk, apply_ite State.spine, ite_self]

@[simp] theorem State.findHead_spine (s : State) : (s.findHead).spine = s.spine := by
  simp only [State.findHead, spine_mk]

@[simp] theorem State.startFail_spine (s : State) (p : MramProgress) (own : Option (List Byte)) : ((s.startFail p
  own)).spine = s.spine := by
  simp only [State.startFail, State.stopMram_spine, spine_mk, apply_ite State.spine, ite_self]

@[simp] theorem State.discardQueue_spine (s : State) : (s.discardQueue).spine = s.spine := by
  simp only [State.discardQueue, spine_mk]

@[simp] theorem State.failHeartbeat_spine (s : State) : ((s.failHeartbeat)).spine = s.spine := by
  simp only [State.failHeartbeat, State.putFlue_spine, spine_mk, apply_ite State.spine, ite_self]

@[simp] theorem State.failSequence_spine (s : State) (p : MramProgress) : ((s.failSequence p)).spine = s.spine := by
  unfold State.failSequence
  try simp only []
  (repeat' split) <;> simp only [State.startFail_spine, State.failHeartbeat_spine, State.discardQueue_spine, spine_mk,
    apply_ite State.spine, ite_self]

@[simp] theorem State.watchSupply_spine (s : State) (vsys : Nat) : (s.watchSupply vsys).spine = s.spine := by
  simp only [State.watchSupply, spine_mk]

@[simp] theorem State.countBoot_spine (s : State) : (s.countBoot).spine = s.spine := by
  simp only [State.countBoot, State.poke_spine, spine_mk]

@[simp] theorem State.bootRecords_spine (s : State) (failed : Option Nat) : (s.bootRecords failed).spine = s.spine := by
  simp only [State.bootRecords, State.report_spine, State.ashRecord_spine]

@[simp] theorem State.writeHead_spine (s : State) : (s.writeHead).spine = s.spine := by
  unfold State.writeHead
  try simp only []
  (repeat' split) <;> simp only [State.writeAsh_spine, State.originate_spine, spine_mk]

@[simp] theorem State.deliver_spine (s : State) (sink : Sink) : (s.deliver sink).spine = s.spine := by
  unfold State.deliver
  try simp only []
  (repeat' split) <;> simp only [State.ashRecord_spine, State.report_spine, spine_mk]

@[simp] theorem State.spoilHead_spine (s : State) (r : FlueRec) (rest : List FlueRec) :
    (s.spoilHead r rest).spine = s.spine := by
  simp only [State.spoilHead, State.routeFlue_spine, State.routeAsh_spine, State.memoryEvent_spine, spine_mk,
    apply_ite State.spine, ite_self]

@[simp] theorem State.sendHead_spine (s : State) (r : FlueRec) (rest : List FlueRec) :
    (s.sendHead r rest).spine = s.spine := by
  simp only [State.sendHead, spine_mk]

@[simp] theorem State.retireBanks_spine (s : State) (left : List ArrayFault) : ((s.retireBanks left)).spine = s.spine
  := by
  simp only [State.retireBanks, State.memoryEvent_spine, spine_mk, spine_foldl, implies_true, apply_ite State.spine,
    ite_self]

@[simp] theorem State.recoverJournal_spine (s : State) : (s.recoverJournal).spine = s.spine := by
  unfold State.recoverJournal
  try simp only []
  (repeat' split) <;> simp only [State.applyEntry_spine, State.memoryEvent_spine, spine_mk]

@[simp] theorem State.fillRow_spine (s : State) (r : Nat) (lost : List Nat) (t : Tag) :
    (s.fillRow r lost t).spine = s.spine := by
  simp only [State.fillRow, State.writeRow_spine, State.markDirty_spine, State.spendRow_spine, apply_ite State.spine,
    ite_self]

@[simp] theorem State.restoreRow_spine (s : State) (r : Nat) : (s.restoreRow r).spine = s.spine := by
  simp only [State.restoreRow, State.markDirty_spine, State.memoryEvent_spine, State.fillRow_spine,
    apply_ite State.spine, ite_self]

@[simp] theorem State.loadPersistent_spine (s : State) : (s.loadPersistent).spine = s.spine := by
  simp only [State.loadPersistent, spine_mk]

@[simp] theorem State.startE2e_spine (s : State) : (s.startE2e).spine = s.spine := by
  simp only [State.startE2e, State.poke_spine, spine_mk]

@[simp] theorem State.noteSpawn_spine (s : State) (row gen : Nat) : ((s.noteSpawn row gen)).spine = s.spine := by
  simp only [State.noteSpawn, spine_mk, apply_ite State.spine, ite_self]

@[simp] theorem State.newRow_spine (s : State) (row : Nat) (v : HV) (t : Tag) : (s.newRow row v t).spine = s.spine := by
  simp only [State.newRow, State.freeAccum_spine, State.writeRow_spine, State.markDirty_spine, State.bumpLife_spine]

@[simp] theorem State.land_spine (s : State) (w : RowOp) : ((s.land w)).spine = s.spine := by
  unfold State.land
  try simp only []
  (repeat' split) <;> simp only [State.spawn_spine, State.newRow_spine, State.noteSpawn_spine, State.admission_spine,
    State.tagFound_spine, State.setTag_spine, spine_mk, apply_ite State.spine, ite_self]

@[simp] theorem State.scrubStep_spine (s : State) (r : Region) : ((s.scrubStep r).2).spine = s.spine := by
  simp only [State.scrubStep, spine_mk]

@[simp] theorem State.zeroWord_spine (s : State) (m : Master) (a : Nat) : ((s.zeroWord m a)).spine = s.spine := by
  simp only [State.zeroWord, State.wipe_spine, State.wordEvent_spine, spine_mk, apply_ite State.spine, ite_self]

@[simp] theorem State.discardPage_spine (s : State) (page : Nat) : (s.discardPage page).spine = s.spine := by
  unfold State.discardPage
  try simp only []
  (repeat' split) <;> simp only [State.editFrame_spine, State.freePage_spine, spine_mk]

@[simp] theorem State.poolFound_spine (s : State) (m : Master) (a : Nat) : ((s.poolFound m a)).spine = s.spine := by
  simp only [State.poolFound, State.discardPage_spine, State.zeroWord_spine, spine_mk, apply_ite State.spine,
    ite_self]

@[simp] theorem State.cellFound_spine (s : State) (m : Master) (a : Nat) : ((s.cellFound m a)).spine = s.spine := by
  unfold State.cellFound
  try simp only []
  (repeat' split) <;> simp only [State.dropQueued_spine, State.dropJob_spine, State.zeroWord_spine, spine_mk,
    apply_ite State.spine, ite_self]

@[simp] theorem State.encoderFound_spine (s : State) (m : Master) (a : Nat) : ((s.encoderFound m a)).spine = s.spine
  := by
  simp only [State.encoderFound, State.startRebuild_spine, State.clearHistory_spine, State.wordEvent_spine,
    State.zeroWord_spine, spine_mk, apply_ite State.spine, ite_self]

@[simp] theorem State.queueFound_spine (s : State) (m : Master) (a : Nat) : ((s.queueFound m a)).spine = s.spine := by
  simp only [State.queueFound, State.zeroWord_spine, spine_mk, spine_foldl, implies_true, apply_ite State.spine,
    ite_self]

@[simp] theorem State.signalFound_spine (s : State) (m : Master) (a : Nat) : ((s.signalFound m a)).spine = s.spine :=
  by
  simp only [State.signalFound, State.planBad_spine, State.restartJob_spine, State.zeroWord_spine, spine_mk, apply_ite
    State.spine, ite_self]

@[simp] theorem State.vaultDataFound_spine (s : State) (m : Master) (a : Nat) : ((s.vaultDataFound m a)).spine =
  s.spine := by
  simp only [State.vaultDataFound, State.poke_spine, State.memoryEvent_spine, spine_mk, apply_ite State.spine,
    ite_self]

@[simp] theorem State.vaultTagFound_spine (s : State) (m : Master) (a : Nat) : ((s.vaultTagFound m a)).spine = s.spine
  := by
  simp only [State.vaultTagFound, State.poke_spine, State.memoryEvent_spine, spine_mk, apply_ite State.spine,
    ite_self]

@[simp] theorem State.persistentFound_spine (s : State) (m : Master) (a : Nat) : ((s.persistentFound m a)).spine =
  s.spine := by
  simp only [State.persistentFound, State.poke_spine, State.wordEvent_spine, spine_mk, apply_ite State.spine,
    ite_self]

@[simp] theorem State.scrubFound_spine (s : State) (m : Master) (r : Region) (a : Nat) : ((s.scrubFound m r a)).spine
  = s.spine := by
  unfold State.scrubFound
  try simp only []
  (repeat' split) <;> simp only [State.segmentFound_spine, State.tagFound_spine, State.reseedAccum_spine,
    State.poolFound_spine, State.cellFound_spine, State.signalFound_spine, State.encoderFound_spine,
    State.queueFound_spine, State.vaultDataFound_spine, State.vaultTagFound_spine, State.persistentFound_spine,
    spine_mk, apply_ite State.spine, ite_self]

@[simp] theorem State.scrubWord_spine (s : State) (r : Region) (lost : Bool) (a : Nat) :
    (s.scrubWord r lost a).spine = s.spine := by
  simp only [State.scrubWord, State.scrubFound_spine, spine_mk, apply_ite State.spine, ite_self]

@[simp] theorem State.retrySpent_spine (s : State) (r : Region) (unit : Nat) :
    (s.retrySpent r unit).spine = s.spine := by
  simp only [State.retrySpent, State.requestRow_spine, apply_ite State.spine, ite_self]

@[simp] theorem State.healVault_spine (s : State) (h : Heal) (lost : Nat) : ((s.healVault h lost)).spine = s.spine :=
  by
  simp only [State.healVault, State.startHeal_spine, State.markDirty_spine, State.memoryEvent_spine,
    State.healSegments_spine, spine_mk, apply_ite State.spine, ite_self]

@[simp] theorem State.violate_spine (s : State) (x : Access) : ((s.violate x)).spine = s.spine := by
  unfold State.violate
  try simp only []
  (repeat' split) <;> simp only [State.wordEvent_spine, State.scrubFound_spine, spine_mk, apply_ite State.spine,
    ite_self]

@[simp] theorem State.landWrite_spine (s : State) (bank : Nat) : ((s.landWrite bank)).spine = s.spine := by
  unfold State.landWrite
  try simp only []
  (repeat' split) <;> simp only [State.land_spine, spine_mk, apply_ite State.spine, ite_self]

@[simp] theorem State.restartWindow_spine (s : State) : (s.restartWindow).spine = s.spine := by
  simp only [State.restartWindow, spine_mk]

@[simp] theorem State.askStepUp_spine (s : State) : (s.askStepUp).spine = s.spine := by
  simp only [State.askStepUp, spine_mk, apply_ite State.spine, ite_self]

@[simp] theorem State.driveVset_spine (s : State) (code : Nat) : (s.driveVset code).spine = s.spine := by
  simp only [State.driveVset, spine_mk]

@[simp] theorem State.startPause_spine (s : State) : (s.startPause).spine = s.spine := by
  simp only [State.startPause, spine_mk]

@[simp] theorem State.stepUpNow_spine (s : State) : (s.stepUpNow).spine = s.spine := by
  simp only [State.stepUpNow, State.driveVset_spine, State.startPause_spine, State.restartWindow_spine, spine_mk]

@[simp] theorem State.approachVset_spine (s : State) : ((s.approachVset)).spine = s.spine := by
  simp only [State.approachVset, State.driveVset_spine, spine_mk, apply_ite State.spine, ite_self]

@[simp] theorem State.canaryRecord_spine (s : State) (code cause : Nat) :
    (s.canaryRecord code cause).spine = s.spine := by
  simp only [State.canaryRecord, State.ashRecord_spine]

@[simp] theorem State.failMonitor_spine (s : State) (t : Tick) : (s.failMonitor t).spine = s.spine := by
  simp only [State.failMonitor, State.restartWindow_spine, State.askStepUp_spine, State.canaryRecord_spine, spine_mk,
    apply_ite State.spine, ite_self]

@[simp] theorem State.drivePins_spine (s : State) (t : Tick) : (s.drivePins t).spine = s.spine := by
  simp only [State.drivePins, spine_mk]

@[simp] theorem State.reportPins_spine (s : State) (t : Tick) : ((s.reportPins t)).spine = s.spine := by
  simp only [State.reportPins, State.routeFlue_spine, State.routeAsh_spine, spine_mk, apply_ite State.spine, ite_self]

@[simp] theorem State.judgeDeadline_spine (s : State) (t : Tick) : (s.judgeDeadline t).spine = s.spine := by
  simp only [State.judgeDeadline, State.failMonitor_spine, State.restartWindow_spine, spine_mk,
    apply_ite State.spine, ite_self]

@[simp] theorem State.judgeIdle_spine (s : State) (t : Tick) : (s.judgeIdle t).spine = s.spine := by
  simp only [State.judgeIdle, spine_mk]

@[simp] theorem State.reportTick_spine (s : State) (t : Tick) : (s.reportTick t).spine = s.spine := by
  unfold State.reportTick
  try simp only []
  (repeat' split) <;> simp only [State.report_spine]

@[simp] theorem State.abandonRecovery_spine (s : State) : (s.abandonRecovery).spine = s.spine := by
  simp only [State.abandonRecovery, State.channelRecord_spine, spine_mk, spine_foldl, apply_ite State.spine,
    ite_self, implies_true]

@[simp] theorem State.stopWork_spine (s : State) : (s.stopWork).spine = s.spine := by
  simp only [State.stopWork, spine_mk]

@[simp] theorem State.commitOpen_spine (s : State) : (s.commitOpen).spine = s.spine := by
  unfold State.commitOpen
  apply spine_foldl
  intro s i
  split
  · exact State.commitAccum_spine _ _
  · rfl

@[simp] theorem State.mirrorAll_spine (s : State) : (s.mirrorAll).spine = s.spine := by
  unfold State.mirrorAll
  dsimp only
  rw [State.commitAll_spine]
  exact spine_foldl (fun s (d : Dirty) => s.mirrorRow d.row) (fun s d => State.mirrorRow_spine s d.row) _ _

@[simp] theorem State.loseCore_spine (s : State) : (s.loseCore).spine = s.spine := by
  simp only [State.loseCore, spine_mk]

@[simp] theorem State.saveCore_spine (s : State) : ((s.saveCore)).spine = s.spine := by
  simp only [State.saveCore, State.commitOpen_spine, State.mirrorAll_spine, State.persistCounters_spine, spine_mk,
    apply_ite State.spine, ite_self]

end Sys2Proof.Machine
end

