-- ==== Sys2Proof/Laws/Memory.lean ====
section
/-! SUPPORT. Sys2Proof/Laws/Memory.lean: the memory keeps its canonical form under every operation, and what a read of one
byte gives after each; the error map stays in ascending order. -/

namespace Sys2Proof.Machine

/-! ### Canonical form -/

theorem Memory.cells_range (a : Nat) (bs : List Byte) :
    ∀ c ∈ Memory.cells a bs, a ≤ c.1 ∧ c.1 < a + bs.length ∧ c.2 ≠ 0#8 := by
  induction bs generalizing a with
  | nil => simp [Memory.cells]
  | cons b bs ih =>
    intro c hc
    rw [Memory.cells] at hc
    split at hc
    · obtain ⟨h1, h2, h3⟩ := ih (a + 1) c hc
      refine ⟨by omega, ?_, h3⟩
      simp only [List.length_cons]; omega
    · simp only [List.mem_cons] at hc
      rcases hc with rfl | hc
      · exact ⟨Nat.le_refl _, by simp, by assumption⟩
      · obtain ⟨h1, h2, h3⟩ := ih (a + 1) c hc
        refine ⟨by omega, ?_, h3⟩
        simp only [List.length_cons]; omega

theorem Memory.cells_sorted (a : Nat) (bs : List Byte) :
    (Memory.cells a bs).Pairwise (fun c d => c.1 < d.1) := by
  induction bs generalizing a with
  | nil => simp [Memory.cells]
  | cons b bs ih =>
    rw [Memory.cells]
    split
    · exact ih _
    · refine List.Pairwise.cons ?_ (ih _)
      intro c hc
      have := (Memory.cells_range _ _ c hc).1
      simp only; omega

theorem Memory.wf_nil : Memory.wf [] := by simp [Memory.wf]

theorem Memory.wf_filter (m : List Host.Cell) (p : Host.Cell → Bool) (h : Memory.wf m) : Memory.wf (m.filter p) :=
  ⟨h.1.filter p, fun c hc => h.2 c (List.mem_filter.mp hc).1⟩

theorem Memory.wf_clear (m : List Host.Cell) (a n : Nat) (h : Memory.wf m) : Memory.wf (Memory.clear m a n) :=
  Memory.wf_filter _ _ h

theorem Memory.wf_writeBytes (m : List Host.Cell) (a : Nat) (bs : List Byte) (h : Memory.wf m) :
    Memory.wf (Memory.writeBytes m a bs) := by
  have hc := Memory.cells_range a bs
  constructor
  · unfold Memory.writeBytes
    rw [List.pairwise_append]
    refine ⟨h.1.filter _, ?_, ?_⟩
    · rw [List.pairwise_append]
      refine ⟨Memory.cells_sorted a bs, h.1.filter _, ?_⟩
      intro x hx y hy
      have h1 := (hc x hx).2.1
      have h2 := (List.mem_filter.mp hy).2
      simp only [decide_eq_true_eq] at h2; omega
    · intro x hx y hy
      have h1 := (List.mem_filter.mp hx).2
      simp only [decide_eq_true_eq] at h1
      rcases List.mem_append.mp hy with hy | hy
      · have := (hc y hy).1; omega
      · have h2 := (List.mem_filter.mp hy).2
        simp only [decide_eq_true_eq] at h2; omega
  · intro c hcm
    unfold Memory.writeBytes at hcm
    rcases List.mem_append.mp hcm with h1 | h1
    · exact h.2 c (List.mem_filter.mp h1).1
    · rcases List.mem_append.mp h1 with h1 | h1
      · exact (hc c h1).2.2
      · exact h.2 c (List.mem_filter.mp h1).1

/-! ### Reading one byte -/

theorem Memory.read_append (l m : List Host.Cell) (x : Nat) :
    Memory.read (l ++ m) x = if l.any (fun c => decide (c.1 = x)) then Memory.read l x else Memory.read m x := by
  induction l with
  | nil => simp
  | cons c l ih =>
    by_cases h : c.1 = x
    · simp [Memory.read, h]
    · simp [Memory.read, h, ih]

theorem Memory.read_none (m : List Host.Cell) (x : Nat) (h : ∀ c ∈ m, c.1 ≠ x) : Memory.read m x = 0#8 := by
  induction m with
  | nil => rfl
  | cons c m ih =>
    simp only [List.mem_cons, ne_eq, forall_eq_or_imp] at h
    simp only [Memory.read, h.1, if_false]
    exact ih h.2

/-- Dropping cells by their address leaves every other address as it was and empties the rest. -/
theorem Memory.read_filter (m : List Host.Cell) (p : Nat → Bool) (x : Nat) :
    Memory.read (m.filter (fun c => p c.1)) x = if p x then Memory.read m x else 0#8 := by
  induction m with
  | nil => simp [Memory.read]
  | cons c m ih =>
    by_cases hc : p c.1
    · simp only [List.filter_cons_of_pos, hc, Memory.read, ih]
      by_cases hx : c.1 = x
      · subst hx; simp [hc]
      · simp [hx]
    · rw [List.filter_cons_of_neg (by simpa using hc), ih]
      by_cases hx : c.1 = x
      · subst hx; simp [hc]
      · simp [Memory.read, hx]

theorem Memory.read_clear (m : List Host.Cell) (a n x : Nat) :
    Memory.read (Memory.clear m a n) x = if a ≤ x ∧ x < a + n then 0#8 else Memory.read m x := by
  unfold Memory.clear
  rw [Memory.read_filter m (fun y => !(decide (a ≤ y) && decide (y < a + n)))]
  by_cases h : a ≤ x ∧ x < a + n
  · simp [h]
  · rw [if_neg h]
    simp only [not_and] at h
    by_cases h1 : a ≤ x
    · simp [h1, Nat.not_lt.mp (by simpa using h h1)]
    · simp [h1]

theorem Memory.read_cells (a : Nat) (bs : List Byte) (x : Nat) :
    Memory.read (Memory.cells a bs) x = if a ≤ x ∧ x < a + bs.length then bs.getD (x - a) 0#8 else 0#8 := by
  induction bs generalizing a with
  | nil => simp [Memory.cells, Memory.read]
  | cons b bs ih =>
    have hrec : Memory.read (if b = 0#8 then Memory.cells (a + 1) bs else (a, b) :: Memory.cells (a + 1) bs) x =
        if a = x then b else Memory.read (Memory.cells (a + 1) bs) x := by
      by_cases hb : b = 0#8
      · subst hb
        simp only [if_true]
        by_cases hx : a = x
        · subst hx
          rw [if_pos rfl]
          apply Memory.read_none
          intro c hc
          have := (Memory.cells_range _ _ c hc).1
          omega
        · rw [if_neg hx]
      · simp [hb, Memory.read]
    rw [Memory.cells, hrec, ih]
    by_cases hx : a = x
    · subst hx; simp
    · by_cases h1 : a + 1 ≤ x ∧ x < a + 1 + bs.length
      · have h2 : a ≤ x ∧ x < a + (b :: bs).length := by simp only [List.length_cons]; omega
        rw [if_neg hx, if_pos h1, if_pos h2]
        obtain ⟨k, rfl⟩ : ∃ k, x = a + 1 + k := ⟨x - (a + 1), by omega⟩
        have e1 : a + 1 + k - (a + 1) = k := by omega
        have e2 : a + 1 + k - a = k + 1 := by omega
        rw [e1, e2, List.getD_cons_succ]
      · have h2 : ¬ (a ≤ x ∧ x < a + (b :: bs).length) := by simp only [List.length_cons]; omega
        rw [if_neg hx, if_neg h1, if_neg h2]

/-- A read after a write: the byte written inside it, the old byte outside. -/
theorem Memory.read_writeBytes (m : List Host.Cell) (a : Nat) (bs : List Byte) (x : Nat) :
    Memory.read (Memory.writeBytes m a bs) x =
      if a ≤ x ∧ x < a + bs.length then bs.getD (x - a) 0#8 else Memory.read m x := by
  unfold Memory.writeBytes
  have hlow := Memory.read_filter m (fun y => decide (y < a)) x
  have hhigh := Memory.read_filter m (fun y => decide (a + bs.length ≤ y)) x
  rw [Memory.read_append, Memory.read_append, hlow, hhigh, Memory.read_cells]
  by_cases h1 : x < a
  · have hout : ¬ (a ≤ x ∧ x < a + bs.length) := by omega
    simp only [hout, if_false]
    have hc : (Memory.cells a bs).any (fun c => decide (c.1 = x)) = false := by
      rw [List.any_eq_false]
      intro c hc
      have := (Memory.cells_range _ _ c hc).1
      simp only [decide_eq_true_eq]; omega
    simp only [h1, decide_true, if_true, hc]
    split
    · rfl
    · rename_i hany
      rw [if_neg (by simp)]
      rw [if_neg (by simp only [decide_eq_true_eq]; omega)]
      symm
      apply Memory.read_none
      intro c hcm hcx
      apply hany
      rw [List.any_eq_true]
      exact ⟨c, List.mem_filter.mpr ⟨hcm, by simp only [decide_eq_true_eq]; omega⟩, by simp [hcx]⟩
  · have hl : (m.filter (fun c => decide (c.1 < a))).any (fun c => decide (c.1 = x)) = false := by
      rw [List.any_eq_false]
      intro c hc
      have := (List.mem_filter.mp hc).2
      simp only [decide_eq_true_eq] at this ⊢; omega
    rw [hl, if_neg (by simp)]
    by_cases h2 : x < a + bs.length
    · have hin : a ≤ x ∧ x < a + bs.length := ⟨by omega, h2⟩
      simp only [hin, and_self, if_true]
      split
      · rfl
      · rename_i hany
        rw [if_neg (by simp only [decide_eq_true_eq]; omega)]
        have := Memory.read_cells a bs x
        rw [if_pos (⟨by omega, h2⟩ : a ≤ x ∧ x < a + bs.length)] at this
        rw [← this]
        symm
        apply Memory.read_none
        intro c hcm hcx
        apply hany
        rw [List.any_eq_true]
        exact ⟨c, hcm, by simp [hcx]⟩
    · have hout : ¬ (a ≤ x ∧ x < a + bs.length) := by omega
      simp only [hout, if_false]
      have hc : (Memory.cells a bs).any (fun c => decide (c.1 = x)) = false := by
        rw [List.any_eq_false]
        intro c hc
        have := (Memory.cells_range _ _ c hc).2.1
        simp only [decide_eq_true_eq]; omega
      rw [hc, if_neg (by simp), if_pos (by simp only [decide_eq_true_eq]; omega)]

/-! ### Reading a run of bytes -/

theorem Memory.collect_read (m : List Host.Cell) (a n : Nat) (h : m.Pairwise (fun c d => c.1 < d.1))
    (hlow : ∀ c ∈ m, a ≤ c.1) :
    Memory.collect m a n = (List.range n).map (fun i => Memory.read m (a + i)) := by
  induction n generalizing m a with
  | zero => cases m <;> rfl
  | succ n ih =>
    rw [List.range_succ_eq_map, List.map_cons, List.map_map]
    cases m with
    | nil =>
      rw [Memory.collect, ih [] (a + 1) List.Pairwise.nil (by simp)]
      congr 1
    | cons c m =>
      rw [Memory.collect]
      have hm := (List.pairwise_cons.mp h)
      by_cases hc : c.1 = a
      · rw [if_pos hc, ih m (a + 1) hm.2 (fun d hd => by have := hm.1 d hd; omega)]
        simp only [Nat.add_zero, Memory.read, hc, if_true, List.cons.injEq, true_and]
        apply List.map_congr_left
        intro i _
        have e : a + 1 + i = a + (i + 1) := by omega
        have e2 : ¬ a = a + (i + 1) := by omega
        simp only [Function.comp_apply, Nat.succ_eq_add_one, e, e2, if_false]
      · have hc' := hlow c (by simp)
        rw [if_neg hc, ih (c :: m) (a + 1) h (fun d hd => by
          rcases List.mem_cons.mp hd with rfl | hd
          · omega
          · have := hm.1 d hd; omega)]
        have hz : Memory.read (c :: m) (a + 0) = 0#8 := by
          apply Memory.read_none
          intro d hd
          rcases List.mem_cons.mp hd with rfl | hd
          · simpa using hc
          · have := hm.1 d hd; simp only [Nat.add_zero, ne_eq]; omega
        rw [hz]
        congr 1
        apply List.map_congr_left
        intro i _
        have e : a + 1 + i = a + (i + 1) := by omega
        simp only [Function.comp_apply, Nat.succ_eq_add_one, e]

theorem Memory.read_dropWhile (m : List Host.Cell) (a x : Nat) (hx : a ≤ x) :
    Memory.read (m.dropWhile (fun c => decide (c.1 < a))) x = Memory.read m x := by
  induction m with
  | nil => rfl
  | cons c m ih =>
    by_cases hc : c.1 < a
    · have : ¬ c.1 = x := by omega
      rw [List.dropWhile_cons_of_pos (by simpa using hc), ih]
      simp [Memory.read, this]
    · rw [List.dropWhile_cons_of_neg (by simpa using hc)]

/-- In canonical form a run of bytes is read byte by byte. -/
theorem Memory.readBytes_eq (m : List Host.Cell) (a n : Nat) (h : Memory.wf m) :
    Memory.readBytes m a n = (List.range n).map (fun i => Memory.read m (a + i)) := by
  unfold Memory.readBytes
  have hs : (m.dropWhile (fun c => decide (c.1 < a))).Pairwise (fun c d => c.1 < d.1) :=
    h.1.sublist (List.dropWhile_sublist _)
  rw [Memory.collect_read _ a n hs]
  · apply List.map_congr_left
    intro i _
    exact Memory.read_dropWhile m a (a + i) (by omega)
  · intro c hc
    cases hd : m.dropWhile (fun c => decide (c.1 < a)) with
    | nil => rw [hd] at hc; simp at hc
    | cons d l =>
      have hhd : ¬ d.1 < a := by
        have hne : m.dropWhile (fun c => decide (c.1 < a)) ≠ [] := by rw [hd]; simp
        have hh := List.head_dropWhile_not (fun c : Host.Cell => decide (c.1 < a)) (l := m) hne
        simpa [hd] using hh
      rw [hd] at hc hs
      rcases List.mem_cons.mp hc with rfl | hc
      · omega
      · have := (List.pairwise_cons.mp hs).1 c hc; omega

theorem Memory.readBytes_length (m : List Host.Cell) (a n : Nat) : (Memory.readBytes m a n).length = n := by
  unfold Memory.readBytes
  generalize m.dropWhile _ = l
  induction n generalizing l a with
  | zero => cases l <;> rfl
  | succ n ih =>
    cases l with
    | nil => simp [Memory.collect, ih]
    | cons c l => rw [Memory.collect]; split <;> simp [ih]

/-- A run of bytes just written reads as it was written. -/
theorem Memory.readBytes_writeBytes (m : List Host.Cell) (a : Nat) (bs : List Byte) (h : Memory.wf m) :
    Memory.readBytes (Memory.writeBytes m a bs) a bs.length = bs := by
  rw [Memory.readBytes_eq _ _ _ (Memory.wf_writeBytes m a bs h)]
  apply List.ext_getElem
  · simp
  · intro i h1 h2
    simp only [List.getElem_map, List.getElem_range, Memory.read_writeBytes]
    rw [if_pos (by omega)]
    have e : a + i - a = i := by omega
    rw [e, List.getD_eq_getElem _ _ h2]

/-- A run of bytes that a write does not touch reads as before. -/
theorem Memory.readBytes_writeBytes_apart (m : List Host.Cell) (a : Nat) (bs : List Byte) (x n : Nat)
    (h : Memory.wf m) (hx : x + n ≤ a ∨ a + bs.length ≤ x) :
    Memory.readBytes (Memory.writeBytes m a bs) x n = Memory.readBytes m x n := by
  rw [Memory.readBytes_eq _ _ _ (Memory.wf_writeBytes m a bs h), Memory.readBytes_eq _ _ _ h]
  apply List.map_congr_left
  intro i hi
  have hi := List.mem_range.mp hi
  rw [Memory.read_writeBytes, if_neg (by omega)]

/-! ### The error map -/

theorem Errors.wf_filter (l : List (Nat × Nat)) (p : Nat × Nat → Bool) (h : Errors.wf l) : Errors.wf (l.filter p) :=
  ⟨h.1.filter p, fun e he => h.2 e (List.mem_filter.mp he).1⟩

theorem Errors.wf_set (l : List (Nat × Nat)) (a n : Nat) (h : Errors.wf l) : Errors.wf (setErrors l a n) := by
  have hr := Errors.wf_filter l (fun e => !decide (e.1 = a)) h
  unfold setErrors
  simp only
  split
  · exact hr
  · rename_i hn
    generalize l.filter (fun e => !decide (e.1 = a)) = r at hr
    constructor
    · rw [List.pairwise_append]
      refine ⟨hr.1.filter _, ?_, ?_⟩
      · refine List.Pairwise.cons ?_ (hr.1.filter _)
        intro e he
        have := (List.mem_filter.mp he).2
        simpa using this
      · intro x hx y hy
        have h1 := (List.mem_filter.mp hx).2
        simp only [decide_eq_true_eq] at h1
        rcases List.mem_cons.mp hy with rfl | hy
        · exact h1
        · have h2 := (List.mem_filter.mp hy).2
          simp only [decide_eq_true_eq] at h2; omega
    · intro e he
      rcases List.mem_append.mp he with h1 | h1
      · exact hr.2 e (List.mem_filter.mp h1).1
      · rcases List.mem_cons.mp h1 with rfl | h1
        · exact hn
        · exact hr.2 e (List.mem_filter.mp h1).1

theorem Errors.wf_foldl {α : Type} (l : List α) (f : List (Nat × Nat) → α → List (Nat × Nat)) (e : List (Nat × Nat))
    (hf : ∀ e x, Errors.wf e → Errors.wf (f e x)) (h : Errors.wf e) : Errors.wf (l.foldl f e) := by
  induction l generalizing e with
  | nil => exact h
  | cons x l ih => exact ih (f e x) (hf e x h)

end Sys2Proof.Machine
end

