-- ==== Sys2Proof/Laws/State.lean ====
section
/-! SUPPORT. Sys2Proof/Laws/State.lean: what each field reads after each named update of the state,
  and that the settings of
the straps do not depend on the time. -/

namespace Sys2Proof.Machine

/-! ### `State.elapse` -/

@[simp] theorem State.elapse_pending (s : State) (dt : Nat) : (s.elapse dt).pending = s.pending := rfl
@[simp] theorem State.elapse_clock (s : State) (dt : Nat) : (s.elapse dt).clock = s.clock + dt := rfl
@[simp] theorem State.elapse_tsStart (s : State) (dt : Nat) : (s.elapse dt).tsStart = s.tsStart := rfl
@[simp] theorem State.elapse_mode (s : State) (dt : Nat) : (s.elapse dt).mode = s.mode := rfl
@[simp] theorem State.elapse_freeCount (s : State) (dt : Nat) : (s.elapse dt).freeCount = s.freeCount := rfl
@[simp] theorem State.elapse_mem (s : State) (dt : Nat) : (s.elapse dt).mem = s.mem := rfl
@[simp] theorem State.elapse_ecc (s : State) (dt : Nat) : (s.elapse dt).ecc = s.ecc := rfl
@[simp] theorem State.elapse_straps (s : State) (dt : Nat) : (s.elapse dt).straps = s.straps := rfl
@[simp] theorem State.elapse_power (s : State) (dt : Nat) : (s.elapse dt).power = s.power := rfl
@[simp] theorem State.elapse_volt (s : State) (dt : Nat) : (s.elapse dt).volt = s.volt := rfl
@[simp] theorem State.elapse_chans (s : State) (dt : Nat) : (s.elapse dt).chans = s.chans := rfl
@[simp] theorem State.elapse_sync (s : State) (dt : Nat) : (s.elapse dt).sync = s.sync := rfl
@[simp] theorem State.elapse_pages (s : State) (dt : Nat) : (s.elapse dt).pages = s.pages := rfl
@[simp] theorem State.elapse_freeing (s : State) (dt : Nat) : (s.elapse dt).freeing = s.freeing := rfl
@[simp] theorem State.elapse_cross (s : State) (dt : Nat) : (s.elapse dt).cross = s.cross := rfl
@[simp] theorem State.elapse_repairs (s : State) (dt : Nat) : (s.elapse dt).repairs = s.repairs := rfl
@[simp] theorem State.elapse_ticks (s : State) (dt : Nat) : (s.elapse dt).ticks = s.ticks := rfl
@[simp] theorem State.elapse_nextTick (s : State) (dt : Nat) : (s.elapse dt).nextTick = s.nextTick := rfl
@[simp] theorem State.elapse_arrays (s : State) (dt : Nat) : (s.elapse dt).arrays = s.arrays := rfl
@[simp] theorem State.elapse_hearth (s : State) (dt : Nat) : (s.elapse dt).hearth = s.hearth := rfl
@[simp] theorem State.elapse_learn (s : State) (dt : Nat) : (s.elapse dt).learn = s.learn := rfl
@[simp] theorem State.elapse_panel (s : State) (dt : Nat) : (s.elapse dt).panel = s.panel := rfl
@[simp] theorem State.elapse_out (s : State) (dt : Nat) : (s.elapse dt).out = s.out := rfl
@[simp] theorem State.elapse_flue (s : State) (dt : Nat) : (s.elapse dt).flue = s.flue := rfl
@[simp] theorem State.elapse_router (s : State) (dt : Nat) : (s.elapse dt).router = s.router := rfl
@[simp] theorem State.elapse_ash (s : State) (dt : Nat) : (s.elapse dt).ash = s.ash := rfl
@[simp] theorem State.elapse_vault (s : State) (dt : Nat) : (s.elapse dt).vault = s.vault := rfl
@[simp] theorem State.elapse_smoulder (s : State) (dt : Nat) : (s.elapse dt).smoulder = s.smoulder := rfl
@[simp] theorem State.elapse_lib (s : State) (dt : Nat) : (s.elapse dt).lib = s.lib := rfl
@[simp] theorem State.elapse_flash (s : State) (dt : Nat) : (s.elapse dt).flash = s.flash := rfl
@[simp] theorem State.elapse_ring (s : State) (dt : Nat) : (s.elapse dt).ring = s.ring := rfl
@[simp] theorem State.elapse_fleet (s : State) (dt : Nat) : (s.elapse dt).fleet = s.fleet := rfl
@[simp] theorem State.elapse_tap (s : State) (dt : Nat) : (s.elapse dt).tap = s.tap := rfl

/-! ### `State.poke` -/

@[simp] theorem State.poke_pending (s : State) (a : Nat) (bs : List Byte) : (s.poke a bs).pending = s.pending := rfl
@[simp] theorem State.poke_clock (s : State) (a : Nat) (bs : List Byte) : (s.poke a bs).clock = s.clock := rfl
@[simp] theorem State.poke_tsStart (s : State) (a : Nat) (bs : List Byte) : (s.poke a bs).tsStart = s.tsStart := rfl
@[simp] theorem State.poke_mode (s : State) (a : Nat) (bs : List Byte) : (s.poke a bs).mode = s.mode := rfl
@[simp] theorem State.poke_freeCount (s : State) (a : Nat) (bs : List Byte) :
    (s.poke a bs).freeCount = s.freeCount := rfl
@[simp] theorem State.poke_mem (s : State) (a : Nat) (bs : List Byte) :
    (s.poke a bs).mem = Memory.writeBytes s.mem a bs := rfl
@[simp] theorem State.poke_straps (s : State) (a : Nat) (bs : List Byte) : (s.poke a bs).straps = s.straps := rfl
@[simp] theorem State.poke_power (s : State) (a : Nat) (bs : List Byte) : (s.poke a bs).power = s.power := rfl
@[simp] theorem State.poke_volt (s : State) (a : Nat) (bs : List Byte) : (s.poke a bs).volt = s.volt := rfl
@[simp] theorem State.poke_chans (s : State) (a : Nat) (bs : List Byte) : (s.poke a bs).chans = s.chans := rfl
@[simp] theorem State.poke_sync (s : State) (a : Nat) (bs : List Byte) : (s.poke a bs).sync = s.sync := rfl
@[simp] theorem State.poke_pages (s : State) (a : Nat) (bs : List Byte) : (s.poke a bs).pages = s.pages := rfl
@[simp] theorem State.poke_freeing (s : State) (a : Nat) (bs : List Byte) : (s.poke a bs).freeing = s.freeing := rfl
@[simp] theorem State.poke_cross (s : State) (a : Nat) (bs : List Byte) : (s.poke a bs).cross = s.cross := rfl
@[simp] theorem State.poke_repairs (s : State) (a : Nat) (bs : List Byte) : (s.poke a bs).repairs = s.repairs := rfl
@[simp] theorem State.poke_ticks (s : State) (a : Nat) (bs : List Byte) : (s.poke a bs).ticks = s.ticks := rfl
@[simp] theorem State.poke_nextTick (s : State) (a : Nat) (bs : List Byte) : (s.poke a bs).nextTick = s.nextTick := rfl
@[simp] theorem State.poke_arrays (s : State) (a : Nat) (bs : List Byte) : (s.poke a bs).arrays = s.arrays := rfl
@[simp] theorem State.poke_hearth (s : State) (a : Nat) (bs : List Byte) : (s.poke a bs).hearth = s.hearth := rfl
@[simp] theorem State.poke_learn (s : State) (a : Nat) (bs : List Byte) : (s.poke a bs).learn = s.learn := rfl
@[simp] theorem State.poke_panel (s : State) (a : Nat) (bs : List Byte) : (s.poke a bs).panel = s.panel := rfl
@[simp] theorem State.poke_out (s : State) (a : Nat) (bs : List Byte) : (s.poke a bs).out = s.out := rfl
@[simp] theorem State.poke_flue (s : State) (a : Nat) (bs : List Byte) : (s.poke a bs).flue = s.flue := rfl
@[simp] theorem State.poke_router (s : State) (a : Nat) (bs : List Byte) : (s.poke a bs).router = s.router := rfl
@[simp] theorem State.poke_ash (s : State) (a : Nat) (bs : List Byte) : (s.poke a bs).ash = s.ash := rfl
@[simp] theorem State.poke_vault (s : State) (a : Nat) (bs : List Byte) : (s.poke a bs).vault = s.vault := rfl
@[simp] theorem State.poke_smoulder (s : State) (a : Nat) (bs : List Byte) : (s.poke a bs).smoulder = s.smoulder := rfl
@[simp] theorem State.poke_lib (s : State) (a : Nat) (bs : List Byte) : (s.poke a bs).lib = s.lib := rfl
@[simp] theorem State.poke_flash (s : State) (a : Nat) (bs : List Byte) : (s.poke a bs).flash = s.flash := rfl
@[simp] theorem State.poke_ring (s : State) (a : Nat) (bs : List Byte) : (s.poke a bs).ring = s.ring := rfl
@[simp] theorem State.poke_fleet (s : State) (a : Nat) (bs : List Byte) : (s.poke a bs).fleet = s.fleet := rfl
@[simp] theorem State.poke_tap (s : State) (a : Nat) (bs : List Byte) : (s.poke a bs).tap = s.tap := rfl

/-! ### `State.wipe` -/

@[simp] theorem State.wipe_pending (s : State) (a n : Nat) : (s.wipe a n).pending = s.pending := rfl
@[simp] theorem State.wipe_clock (s : State) (a n : Nat) : (s.wipe a n).clock = s.clock := rfl
@[simp] theorem State.wipe_tsStart (s : State) (a n : Nat) : (s.wipe a n).tsStart = s.tsStart := rfl
@[simp] theorem State.wipe_mode (s : State) (a n : Nat) : (s.wipe a n).mode = s.mode := rfl
@[simp] theorem State.wipe_freeCount (s : State) (a n : Nat) : (s.wipe a n).freeCount = s.freeCount := rfl
@[simp] theorem State.wipe_mem (s : State) (a n : Nat) : (s.wipe a n).mem = Memory.clear s.mem a n := rfl
@[simp] theorem State.wipe_straps (s : State) (a n : Nat) : (s.wipe a n).straps = s.straps := rfl
@[simp] theorem State.wipe_power (s : State) (a n : Nat) : (s.wipe a n).power = s.power := rfl
@[simp] theorem State.wipe_volt (s : State) (a n : Nat) : (s.wipe a n).volt = s.volt := rfl
@[simp] theorem State.wipe_chans (s : State) (a n : Nat) : (s.wipe a n).chans = s.chans := rfl
@[simp] theorem State.wipe_sync (s : State) (a n : Nat) : (s.wipe a n).sync = s.sync := rfl
@[simp] theorem State.wipe_pages (s : State) (a n : Nat) : (s.wipe a n).pages = s.pages := rfl
@[simp] theorem State.wipe_freeing (s : State) (a n : Nat) : (s.wipe a n).freeing = s.freeing := rfl
@[simp] theorem State.wipe_cross (s : State) (a n : Nat) : (s.wipe a n).cross = s.cross := rfl
@[simp] theorem State.wipe_repairs (s : State) (a n : Nat) : (s.wipe a n).repairs = s.repairs := rfl
@[simp] theorem State.wipe_ticks (s : State) (a n : Nat) : (s.wipe a n).ticks = s.ticks := rfl
@[simp] theorem State.wipe_nextTick (s : State) (a n : Nat) : (s.wipe a n).nextTick = s.nextTick := rfl
@[simp] theorem State.wipe_arrays (s : State) (a n : Nat) : (s.wipe a n).arrays = s.arrays := rfl
@[simp] theorem State.wipe_hearth (s : State) (a n : Nat) : (s.wipe a n).hearth = s.hearth := rfl
@[simp] theorem State.wipe_learn (s : State) (a n : Nat) : (s.wipe a n).learn = s.learn := rfl
@[simp] theorem State.wipe_panel (s : State) (a n : Nat) : (s.wipe a n).panel = s.panel := rfl
@[simp] theorem State.wipe_out (s : State) (a n : Nat) : (s.wipe a n).out = s.out := rfl
@[simp] theorem State.wipe_flue (s : State) (a n : Nat) : (s.wipe a n).flue = s.flue := rfl
@[simp] theorem State.wipe_router (s : State) (a n : Nat) : (s.wipe a n).router = s.router := rfl
@[simp] theorem State.wipe_ash (s : State) (a n : Nat) : (s.wipe a n).ash = s.ash := rfl
@[simp] theorem State.wipe_vault (s : State) (a n : Nat) : (s.wipe a n).vault = s.vault := rfl
@[simp] theorem State.wipe_smoulder (s : State) (a n : Nat) : (s.wipe a n).smoulder = s.smoulder := rfl
@[simp] theorem State.wipe_lib (s : State) (a n : Nat) : (s.wipe a n).lib = s.lib := rfl
@[simp] theorem State.wipe_flash (s : State) (a n : Nat) : (s.wipe a n).flash = s.flash := rfl
@[simp] theorem State.wipe_ring (s : State) (a n : Nat) : (s.wipe a n).ring = s.ring := rfl
@[simp] theorem State.wipe_fleet (s : State) (a n : Nat) : (s.wipe a n).fleet = s.fleet := rfl
@[simp] theorem State.wipe_tap (s : State) (a n : Nat) : (s.wipe a n).tap = s.tap := rfl

/-! ### `State.upset` -/

@[simp] theorem State.upset_pending (s : State) (us : List Upset) : (s.upset us).pending = s.pending := rfl
@[simp] theorem State.upset_clock (s : State) (us : List Upset) : (s.upset us).clock = s.clock := rfl
@[simp] theorem State.upset_tsStart (s : State) (us : List Upset) : (s.upset us).tsStart = s.tsStart := rfl
@[simp] theorem State.upset_mode (s : State) (us : List Upset) : (s.upset us).mode = s.mode := rfl
@[simp] theorem State.upset_freeCount (s : State) (us : List Upset) : (s.upset us).freeCount = s.freeCount := rfl
@[simp] theorem State.upset_mem (s : State) (us : List Upset) : (s.upset us).mem = s.mem := rfl
@[simp] theorem State.upset_straps (s : State) (us : List Upset) : (s.upset us).straps = s.straps := rfl
@[simp] theorem State.upset_power (s : State) (us : List Upset) : (s.upset us).power = s.power := rfl
@[simp] theorem State.upset_volt (s : State) (us : List Upset) : (s.upset us).volt = s.volt := rfl
@[simp] theorem State.upset_chans (s : State) (us : List Upset) : (s.upset us).chans = s.chans := rfl
@[simp] theorem State.upset_sync (s : State) (us : List Upset) : (s.upset us).sync = s.sync := rfl
@[simp] theorem State.upset_pages (s : State) (us : List Upset) : (s.upset us).pages = s.pages := rfl
@[simp] theorem State.upset_freeing (s : State) (us : List Upset) : (s.upset us).freeing = s.freeing := rfl
@[simp] theorem State.upset_cross (s : State) (us : List Upset) : (s.upset us).cross = s.cross := rfl
@[simp] theorem State.upset_repairs (s : State) (us : List Upset) : (s.upset us).repairs = s.repairs := rfl
@[simp] theorem State.upset_ticks (s : State) (us : List Upset) : (s.upset us).ticks = s.ticks := rfl
@[simp] theorem State.upset_nextTick (s : State) (us : List Upset) : (s.upset us).nextTick = s.nextTick := rfl
@[simp] theorem State.upset_arrays (s : State) (us : List Upset) : (s.upset us).arrays = s.arrays := rfl
@[simp] theorem State.upset_hearth (s : State) (us : List Upset) : (s.upset us).hearth = s.hearth := rfl
@[simp] theorem State.upset_learn (s : State) (us : List Upset) : (s.upset us).learn = s.learn := rfl
@[simp] theorem State.upset_panel (s : State) (us : List Upset) : (s.upset us).panel = s.panel := rfl
@[simp] theorem State.upset_out (s : State) (us : List Upset) : (s.upset us).out = s.out := rfl
@[simp] theorem State.upset_flue (s : State) (us : List Upset) : (s.upset us).flue = s.flue := rfl
@[simp] theorem State.upset_router (s : State) (us : List Upset) : (s.upset us).router = s.router := rfl
@[simp] theorem State.upset_ash (s : State) (us : List Upset) : (s.upset us).ash = s.ash := rfl
@[simp] theorem State.upset_vault (s : State) (us : List Upset) : (s.upset us).vault = s.vault := rfl
@[simp] theorem State.upset_smoulder (s : State) (us : List Upset) : (s.upset us).smoulder = s.smoulder := rfl
@[simp] theorem State.upset_lib (s : State) (us : List Upset) : (s.upset us).lib = s.lib := rfl
@[simp] theorem State.upset_flash (s : State) (us : List Upset) : (s.upset us).flash = s.flash := rfl
@[simp] theorem State.upset_ring (s : State) (us : List Upset) : (s.upset us).ring = s.ring := rfl
@[simp] theorem State.upset_fleet (s : State) (us : List Upset) : (s.upset us).fleet = s.fleet := rfl
@[simp] theorem State.upset_tap (s : State) (us : List Upset) : (s.upset us).tap = s.tap := rfl

/-! ### `State.useFree` -/

@[simp] theorem State.useFree_pending (s : State) : (s.useFree).pending = s.pending := rfl
@[simp] theorem State.useFree_clock (s : State) : (s.useFree).clock = s.clock := rfl
@[simp] theorem State.useFree_tsStart (s : State) : (s.useFree).tsStart = s.tsStart := rfl
@[simp] theorem State.useFree_mode (s : State) : (s.useFree).mode = s.mode := rfl
@[simp] theorem State.useFree_freeCount (s : State) : (s.useFree).freeCount = s.freeCount + 1 := rfl
@[simp] theorem State.useFree_mem (s : State) : (s.useFree).mem = s.mem := rfl
@[simp] theorem State.useFree_ecc (s : State) : (s.useFree).ecc = s.ecc := rfl
@[simp] theorem State.useFree_straps (s : State) : (s.useFree).straps = s.straps := rfl
@[simp] theorem State.useFree_power (s : State) : (s.useFree).power = s.power := rfl
@[simp] theorem State.useFree_volt (s : State) : (s.useFree).volt = s.volt := rfl
@[simp] theorem State.useFree_chans (s : State) : (s.useFree).chans = s.chans := rfl
@[simp] theorem State.useFree_sync (s : State) : (s.useFree).sync = s.sync := rfl
@[simp] theorem State.useFree_pages (s : State) : (s.useFree).pages = s.pages := rfl
@[simp] theorem State.useFree_freeing (s : State) : (s.useFree).freeing = s.freeing := rfl
@[simp] theorem State.useFree_cross (s : State) : (s.useFree).cross = s.cross := rfl
@[simp] theorem State.useFree_repairs (s : State) : (s.useFree).repairs = s.repairs := rfl
@[simp] theorem State.useFree_ticks (s : State) : (s.useFree).ticks = s.ticks := rfl
@[simp] theorem State.useFree_nextTick (s : State) : (s.useFree).nextTick = s.nextTick := rfl
@[simp] theorem State.useFree_arrays (s : State) : (s.useFree).arrays = s.arrays := rfl
@[simp] theorem State.useFree_hearth (s : State) : (s.useFree).hearth = s.hearth := rfl
@[simp] theorem State.useFree_learn (s : State) : (s.useFree).learn = s.learn := rfl
@[simp] theorem State.useFree_panel (s : State) : (s.useFree).panel = s.panel := rfl
@[simp] theorem State.useFree_out (s : State) : (s.useFree).out = s.out := rfl
@[simp] theorem State.useFree_flue (s : State) : (s.useFree).flue = s.flue := rfl
@[simp] theorem State.useFree_router (s : State) : (s.useFree).router = s.router := rfl
@[simp] theorem State.useFree_ash (s : State) : (s.useFree).ash = s.ash := rfl
@[simp] theorem State.useFree_vault (s : State) : (s.useFree).vault = s.vault := rfl
@[simp] theorem State.useFree_smoulder (s : State) : (s.useFree).smoulder = s.smoulder := rfl
@[simp] theorem State.useFree_lib (s : State) : (s.useFree).lib = s.lib := rfl
@[simp] theorem State.useFree_flash (s : State) : (s.useFree).flash = s.flash := rfl
@[simp] theorem State.useFree_ring (s : State) : (s.useFree).ring = s.ring := rfl
@[simp] theorem State.useFree_fleet (s : State) : (s.useFree).fleet = s.fleet := rfl
@[simp] theorem State.useFree_tap (s : State) : (s.useFree).tap = s.tap := rfl

/-! ### `State.setPort` -/

@[simp] theorem State.setPort_pending (s : State) (p : Port) (x : LinkPort) : (s.setPort p x).pending = s.pending := rfl
@[simp] theorem State.setPort_clock (s : State) (p : Port) (x : LinkPort) : (s.setPort p x).clock = s.clock := rfl
@[simp] theorem State.setPort_tsStart (s : State) (p : Port) (x : LinkPort) : (s.setPort p x).tsStart = s.tsStart := rfl
@[simp] theorem State.setPort_mode (s : State) (p : Port) (x : LinkPort) : (s.setPort p x).mode = s.mode := rfl
@[simp] theorem State.setPort_freeCount (s : State) (p : Port) (x : LinkPort) :
    (s.setPort p x).freeCount = s.freeCount := rfl
@[simp] theorem State.setPort_mem (s : State) (p : Port) (x : LinkPort) : (s.setPort p x).mem = s.mem := rfl
@[simp] theorem State.setPort_ecc (s : State) (p : Port) (x : LinkPort) : (s.setPort p x).ecc = s.ecc := rfl
@[simp] theorem State.setPort_straps (s : State) (p : Port) (x : LinkPort) : (s.setPort p x).straps = s.straps := rfl
@[simp] theorem State.setPort_power (s : State) (p : Port) (x : LinkPort) : (s.setPort p x).power = s.power := rfl
@[simp] theorem State.setPort_volt (s : State) (p : Port) (x : LinkPort) : (s.setPort p x).volt = s.volt := rfl
@[simp] theorem State.setPort_chans (s : State) (p : Port) (x : LinkPort) : (s.setPort p x).chans = s.chans := rfl
@[simp] theorem State.setPort_sync (s : State) (p : Port) (x : LinkPort) : (s.setPort p x).sync = s.sync := rfl
@[simp] theorem State.setPort_pages (s : State) (p : Port) (x : LinkPort) : (s.setPort p x).pages = s.pages := rfl
@[simp] theorem State.setPort_freeing (s : State) (p : Port) (x : LinkPort) : (s.setPort p x).freeing = s.freeing := rfl
@[simp] theorem State.setPort_cross (s : State) (p : Port) (x : LinkPort) : (s.setPort p x).cross = s.cross := rfl
@[simp] theorem State.setPort_repairs (s : State) (p : Port) (x : LinkPort) : (s.setPort p x).repairs = s.repairs := rfl
@[simp] theorem State.setPort_ticks (s : State) (p : Port) (x : LinkPort) : (s.setPort p x).ticks = s.ticks := rfl
@[simp] theorem State.setPort_nextTick (s : State) (p : Port) (x : LinkPort) :
    (s.setPort p x).nextTick = s.nextTick := rfl
@[simp] theorem State.setPort_arrays (s : State) (p : Port) (x : LinkPort) : (s.setPort p x).arrays = s.arrays := rfl
@[simp] theorem State.setPort_hearth (s : State) (p : Port) (x : LinkPort) : (s.setPort p x).hearth = s.hearth := rfl
@[simp] theorem State.setPort_learn (s : State) (p : Port) (x : LinkPort) : (s.setPort p x).learn = s.learn := rfl
@[simp] theorem State.setPort_panel (s : State) (p : Port) (x : LinkPort) : (s.setPort p x).panel = s.panel := rfl
@[simp] theorem State.setPort_out (s : State) (p : Port) (x : LinkPort) : (s.setPort p x).out = s.out := rfl
@[simp] theorem State.setPort_flue (s : State) (p : Port) (x : LinkPort) : (s.setPort p x).flue = s.flue := rfl
@[simp] theorem State.setPort_router (s : State) (p : Port) (x : LinkPort) : (s.setPort p x).router = s.router := rfl
@[simp] theorem State.setPort_ash (s : State) (p : Port) (x : LinkPort) : (s.setPort p x).ash = s.ash := rfl
@[simp] theorem State.setPort_vault (s : State) (p : Port) (x : LinkPort) : (s.setPort p x).vault = s.vault := rfl
@[simp] theorem State.setPort_smoulder (s : State) (p : Port) (x : LinkPort) :
    (s.setPort p x).smoulder = s.smoulder := rfl
@[simp] theorem State.setPort_lib (s : State) (p : Port) (x : LinkPort) : (s.setPort p x).lib = s.lib := rfl
@[simp] theorem State.setPort_flash (s : State) (p : Port) (x : LinkPort) : (s.setPort p x).flash = s.flash := rfl
@[simp] theorem State.setPort_ring (s : State) (p : Port) (x : LinkPort) :
    (s.setPort p x).ring = s.ring.setPort p x := rfl
@[simp] theorem State.setPort_fleet (s : State) (p : Port) (x : LinkPort) : (s.setPort p x).fleet = s.fleet := rfl
@[simp] theorem State.setPort_tap (s : State) (p : Port) (x : LinkPort) : (s.setPort p x).tap = s.tap := rfl

/-! ### `State.countDiscard` -/

@[simp] theorem State.countDiscard_pending (s : State) : (s.countDiscard).pending = s.pending := rfl
@[simp] theorem State.countDiscard_clock (s : State) : (s.countDiscard).clock = s.clock := rfl
@[simp] theorem State.countDiscard_tsStart (s : State) : (s.countDiscard).tsStart = s.tsStart := rfl
@[simp] theorem State.countDiscard_mode (s : State) : (s.countDiscard).mode = s.mode := rfl
@[simp] theorem State.countDiscard_freeCount (s : State) : (s.countDiscard).freeCount = s.freeCount := rfl
@[simp] theorem State.countDiscard_mem (s : State) : (s.countDiscard).mem = s.mem := rfl
@[simp] theorem State.countDiscard_ecc (s : State) : (s.countDiscard).ecc = s.ecc := rfl
@[simp] theorem State.countDiscard_straps (s : State) : (s.countDiscard).straps = s.straps := rfl
@[simp] theorem State.countDiscard_power (s : State) : (s.countDiscard).power = s.power := rfl
@[simp] theorem State.countDiscard_volt (s : State) : (s.countDiscard).volt = s.volt := rfl
@[simp] theorem State.countDiscard_chans (s : State) : (s.countDiscard).chans = s.chans := rfl
@[simp] theorem State.countDiscard_sync (s : State) : (s.countDiscard).sync = s.sync := rfl
@[simp] theorem State.countDiscard_pages (s : State) : (s.countDiscard).pages = s.pages := rfl
@[simp] theorem State.countDiscard_freeing (s : State) : (s.countDiscard).freeing = s.freeing := rfl
@[simp] theorem State.countDiscard_cross (s : State) : (s.countDiscard).cross = s.cross := rfl
@[simp] theorem State.countDiscard_repairs (s : State) : (s.countDiscard).repairs = s.repairs := rfl
@[simp] theorem State.countDiscard_ticks (s : State) : (s.countDiscard).ticks = s.ticks := rfl
@[simp] theorem State.countDiscard_nextTick (s : State) : (s.countDiscard).nextTick = s.nextTick := rfl
@[simp] theorem State.countDiscard_arrays (s : State) : (s.countDiscard).arrays = s.arrays := rfl
@[simp] theorem State.countDiscard_hearth (s : State) : (s.countDiscard).hearth = s.hearth := rfl
@[simp] theorem State.countDiscard_learn (s : State) : (s.countDiscard).learn = s.learn := rfl
@[simp] theorem State.countDiscard_panel (s : State) : (s.countDiscard).panel = s.panel := rfl
@[simp] theorem State.countDiscard_out (s : State) : (s.countDiscard).out = s.out := rfl
@[simp] theorem State.countDiscard_flue (s : State) : (s.countDiscard).flue = s.flue := rfl
@[simp] theorem State.countDiscard_router (s : State) : (s.countDiscard).router = s.router := rfl
@[simp] theorem State.countDiscard_ash (s : State) : (s.countDiscard).ash = s.ash := rfl
@[simp] theorem State.countDiscard_vault (s : State) : (s.countDiscard).vault = s.vault := rfl
@[simp] theorem State.countDiscard_smoulder (s : State) : (s.countDiscard).smoulder = s.smoulder := rfl
@[simp] theorem State.countDiscard_lib (s : State) : (s.countDiscard).lib = s.lib := rfl
@[simp] theorem State.countDiscard_flash (s : State) : (s.countDiscard).flash = s.flash := rfl
@[simp] theorem State.countDiscard_ring (s : State) :
    (s.countDiscard).ring = { s.ring with discards := s.ring.discards + 1 } := rfl
@[simp] theorem State.countDiscard_fleet (s : State) : (s.countDiscard).fleet = s.fleet := rfl
@[simp] theorem State.countDiscard_tap (s : State) : (s.countDiscard).tap = s.tap := rfl

/-! ### `State.ashRecord` -/

@[simp] theorem State.ashRecord_pending (s : State) (type time : Nat) (payload : List Byte) :
    (s.ashRecord type time payload).pending = s.pending := rfl
@[simp] theorem State.ashRecord_clock (s : State) (type time : Nat) (payload : List Byte) :
    (s.ashRecord type time payload).clock = s.clock := rfl
@[simp] theorem State.ashRecord_tsStart (s : State) (type time : Nat) (payload : List Byte) :
    (s.ashRecord type time payload).tsStart = s.tsStart := rfl
@[simp] theorem State.ashRecord_mode (s : State) (type time : Nat) (payload : List Byte) :
    (s.ashRecord type time payload).mode = s.mode := rfl
@[simp] theorem State.ashRecord_freeCount (s : State) (type time : Nat) (payload : List Byte) :
    (s.ashRecord type time payload).freeCount = s.freeCount := rfl
@[simp] theorem State.ashRecord_mem (s : State) (type time : Nat) (payload : List Byte) :
    (s.ashRecord type time payload).mem = s.mem := rfl
@[simp] theorem State.ashRecord_ecc (s : State) (type time : Nat) (payload : List Byte) :
    (s.ashRecord type time payload).ecc = s.ecc := rfl
@[simp] theorem State.ashRecord_straps (s : State) (type time : Nat) (payload : List Byte) :
    (s.ashRecord type time payload).straps = s.straps := rfl
@[simp] theorem State.ashRecord_power (s : State) (type time : Nat) (payload : List Byte) :
    (s.ashRecord type time payload).power = s.power := rfl
@[simp] theorem State.ashRecord_volt (s : State) (type time : Nat) (payload : List Byte) :
    (s.ashRecord type time payload).volt = s.volt := rfl
@[simp] theorem State.ashRecord_chans (s : State) (type time : Nat) (payload : List Byte) :
    (s.ashRecord type time payload).chans = s.chans := rfl
@[simp] theorem State.ashRecord_sync (s : State) (type time : Nat) (payload : List Byte) :
    (s.ashRecord type time payload).sync = s.sync := rfl
@[simp] theorem State.ashRecord_pages (s : State) (type time : Nat) (payload : List Byte) :
    (s.ashRecord type time payload).pages = s.pages := rfl
@[simp] theorem State.ashRecord_freeing (s : State) (type time : Nat) (payload : List Byte) :
    (s.ashRecord type time payload).freeing = s.freeing := rfl
@[simp] theorem State.ashRecord_cross (s : State) (type time : Nat) (payload : List Byte) :
    (s.ashRecord type time payload).cross = s.cross := rfl
@[simp] theorem State.ashRecord_repairs (s : State) (type time : Nat) (payload : List Byte) :
    (s.ashRecord type time payload).repairs = s.repairs := rfl
@[simp] theorem State.ashRecord_ticks (s : State) (type time : Nat) (payload : List Byte) :
    (s.ashRecord type time payload).ticks = s.ticks := rfl
@[simp] theorem State.ashRecord_nextTick (s : State) (type time : Nat) (payload : List Byte) :
    (s.ashRecord type time payload).nextTick = s.nextTick := rfl
@[simp] theorem State.ashRecord_arrays (s : State) (type time : Nat) (payload : List Byte) :
    (s.ashRecord type time payload).arrays = s.arrays := rfl
@[simp] theorem State.ashRecord_hearth (s : State) (type time : Nat) (payload : List Byte) :
    (s.ashRecord type time payload).hearth = s.hearth := rfl
@[simp] theorem State.ashRecord_learn (s : State) (type time : Nat) (payload : List Byte) :
    (s.ashRecord type time payload).learn = s.learn := rfl
@[simp] theorem State.ashRecord_panel (s : State) (type time : Nat) (payload : List Byte) :
    (s.ashRecord type time payload).panel = s.panel := rfl
@[simp] theorem State.ashRecord_out (s : State) (type time : Nat) (payload : List Byte) :
    (s.ashRecord type time payload).out = s.out := rfl
@[simp] theorem State.ashRecord_flue (s : State) (type time : Nat) (payload : List Byte) :
    (s.ashRecord type time payload).flue = s.flue := rfl
@[simp] theorem State.ashRecord_router (s : State) (type time : Nat) (payload : List Byte) :
    (s.ashRecord type time payload).router = s.router := rfl
@[simp] theorem State.ashRecord_ash (s : State) (type time : Nat) (payload : List Byte) :
    (s.ashRecord type time payload).ash = s.ash.offer s.clock type time payload := rfl
@[simp] theorem State.ashRecord_vault (s : State) (type time : Nat) (payload : List Byte) :
    (s.ashRecord type time payload).vault = s.vault := rfl
@[simp] theorem State.ashRecord_smoulder (s : State) (type time : Nat) (payload : List Byte) :
    (s.ashRecord type time payload).smoulder = s.smoulder := rfl
@[simp] theorem State.ashRecord_lib (s : State) (type time : Nat) (payload : List Byte) :
    (s.ashRecord type time payload).lib = s.lib := rfl
@[simp] theorem State.ashRecord_flash (s : State) (type time : Nat) (payload : List Byte) :
    (s.ashRecord type time payload).flash = s.flash := rfl
@[simp] theorem State.ashRecord_ring (s : State) (type time : Nat) (payload : List Byte) :
    (s.ashRecord type time payload).ring = s.ring := rfl
@[simp] theorem State.ashRecord_fleet (s : State) (type time : Nat) (payload : List Byte) :
    (s.ashRecord type time payload).fleet = s.fleet := rfl
@[simp] theorem State.ashRecord_tap (s : State) (type time : Nat) (payload : List Byte) :
    (s.ashRecord type time payload).tap = s.tap := rfl

/-! ### `State.settle` -/

@[simp] theorem State.settle_pending (s : State) : (s.settle).pending = s.pending := rfl
@[simp] theorem State.settle_clock (s : State) : (s.settle).clock = s.clock := rfl
@[simp] theorem State.settle_tsStart (s : State) : (s.settle).tsStart = s.tsStart := rfl
@[simp] theorem State.settle_mode (s : State) : (s.settle).mode = s.mode := rfl
@[simp] theorem State.settle_freeCount (s : State) : (s.settle).freeCount = s.freeCount := rfl
@[simp] theorem State.settle_mem (s : State) : (s.settle).mem = s.mem := rfl
@[simp] theorem State.settle_ecc (s : State) : (s.settle).ecc = s.ecc := rfl
@[simp] theorem State.settle_straps (s : State) : (s.settle).straps = s.straps := rfl
@[simp] theorem State.settle_power (s : State) : (s.settle).power = s.power := rfl
@[simp] theorem State.settle_volt (s : State) : (s.settle).volt = s.volt := rfl
@[simp] theorem State.settle_chans (s : State) : (s.settle).chans = s.chans := rfl
@[simp] theorem State.settle_sync (s : State) : (s.settle).sync = s.sync := rfl
@[simp] theorem State.settle_pages (s : State) : (s.settle).pages = s.pages := rfl
@[simp] theorem State.settle_freeing (s : State) : (s.settle).freeing = s.freeing := rfl
@[simp] theorem State.settle_cross (s : State) : (s.settle).cross = s.cross := rfl
@[simp] theorem State.settle_repairs (s : State) : (s.settle).repairs = s.repairs := rfl
@[simp] theorem State.settle_ticks (s : State) : (s.settle).ticks = s.ticks := rfl
@[simp] theorem State.settle_nextTick (s : State) : (s.settle).nextTick = s.nextTick := rfl
@[simp] theorem State.settle_arrays (s : State) : (s.settle).arrays = s.arrays := rfl
@[simp] theorem State.settle_hearth (s : State) : (s.settle).hearth = s.hearth := rfl
@[simp] theorem State.settle_learn (s : State) : (s.settle).learn = s.learn := rfl
@[simp] theorem State.settle_panel (s : State) : (s.settle).panel = s.panel := rfl
@[simp] theorem State.settle_flue (s : State) : (s.settle).flue = s.flue := rfl
@[simp] theorem State.settle_router (s : State) : (s.settle).router = s.router := rfl
@[simp] theorem State.settle_ash (s : State) : (s.settle).ash = s.ash := rfl
@[simp] theorem State.settle_vault (s : State) : (s.settle).vault = s.vault := rfl
@[simp] theorem State.settle_smoulder (s : State) : (s.settle).smoulder = s.smoulder := rfl
@[simp] theorem State.settle_lib (s : State) : (s.settle).lib = s.lib := rfl
@[simp] theorem State.settle_flash (s : State) : (s.settle).flash = s.flash := rfl
@[simp] theorem State.settle_ring (s : State) : (s.settle).ring = s.ring := rfl
@[simp] theorem State.settle_fleet (s : State) : (s.settle).fleet = s.fleet := rfl
@[simp] theorem State.settle_tap (s : State) : (s.settle).tap = s.tap := rfl

/-! ### `State.restartWindow` -/

@[simp] theorem State.restartWindow_pending (s : State) : (s.restartWindow).pending = s.pending := rfl
@[simp] theorem State.restartWindow_clock (s : State) : (s.restartWindow).clock = s.clock := rfl
@[simp] theorem State.restartWindow_tsStart (s : State) : (s.restartWindow).tsStart = s.tsStart := rfl
@[simp] theorem State.restartWindow_mode (s : State) : (s.restartWindow).mode = s.mode := rfl
@[simp] theorem State.restartWindow_freeCount (s : State) : (s.restartWindow).freeCount = s.freeCount := rfl
@[simp] theorem State.restartWindow_mem (s : State) : (s.restartWindow).mem = s.mem := rfl
@[simp] theorem State.restartWindow_ecc (s : State) : (s.restartWindow).ecc = s.ecc := rfl
@[simp] theorem State.restartWindow_straps (s : State) : (s.restartWindow).straps = s.straps := rfl
@[simp] theorem State.restartWindow_power (s : State) : (s.restartWindow).power = s.power := rfl
@[simp] theorem State.restartWindow_chans (s : State) : (s.restartWindow).chans = s.chans := rfl
@[simp] theorem State.restartWindow_sync (s : State) : (s.restartWindow).sync = s.sync := rfl
@[simp] theorem State.restartWindow_pages (s : State) : (s.restartWindow).pages = s.pages := rfl
@[simp] theorem State.restartWindow_freeing (s : State) : (s.restartWindow).freeing = s.freeing := rfl
@[simp] theorem State.restartWindow_cross (s : State) : (s.restartWindow).cross = s.cross := rfl
@[simp] theorem State.restartWindow_repairs (s : State) : (s.restartWindow).repairs = s.repairs := rfl
@[simp] theorem State.restartWindow_ticks (s : State) : (s.restartWindow).ticks = s.ticks := rfl
@[simp] theorem State.restartWindow_nextTick (s : State) : (s.restartWindow).nextTick = s.nextTick := rfl
@[simp] theorem State.restartWindow_arrays (s : State) : (s.restartWindow).arrays = s.arrays := rfl
@[simp] theorem State.restartWindow_hearth (s : State) : (s.restartWindow).hearth = s.hearth := rfl
@[simp] theorem State.restartWindow_learn (s : State) : (s.restartWindow).learn = s.learn := rfl
@[simp] theorem State.restartWindow_panel (s : State) : (s.restartWindow).panel = s.panel := rfl
@[simp] theorem State.restartWindow_out (s : State) : (s.restartWindow).out = s.out := rfl
@[simp] theorem State.restartWindow_flue (s : State) : (s.restartWindow).flue = s.flue := rfl
@[simp] theorem State.restartWindow_router (s : State) : (s.restartWindow).router = s.router := rfl
@[simp] theorem State.restartWindow_ash (s : State) : (s.restartWindow).ash = s.ash := rfl
@[simp] theorem State.restartWindow_vault (s : State) : (s.restartWindow).vault = s.vault := rfl
@[simp] theorem State.restartWindow_smoulder (s : State) : (s.restartWindow).smoulder = s.smoulder := rfl
@[simp] theorem State.restartWindow_lib (s : State) : (s.restartWindow).lib = s.lib := rfl
@[simp] theorem State.restartWindow_flash (s : State) : (s.restartWindow).flash = s.flash := rfl
@[simp] theorem State.restartWindow_ring (s : State) : (s.restartWindow).ring = s.ring := rfl
@[simp] theorem State.restartWindow_fleet (s : State) : (s.restartWindow).fleet = s.fleet := rfl
@[simp] theorem State.restartWindow_tap (s : State) : (s.restartWindow).tap = s.tap := rfl

/-! ### `State.driveVset` -/

@[simp] theorem State.driveVset_pending (s : State) (code : Nat) : (s.driveVset code).pending = s.pending := rfl
@[simp] theorem State.driveVset_clock (s : State) (code : Nat) : (s.driveVset code).clock = s.clock := rfl
@[simp] theorem State.driveVset_tsStart (s : State) (code : Nat) : (s.driveVset code).tsStart = s.tsStart := rfl
@[simp] theorem State.driveVset_mode (s : State) (code : Nat) : (s.driveVset code).mode = s.mode := rfl
@[simp] theorem State.driveVset_freeCount (s : State) (code : Nat) : (s.driveVset code).freeCount = s.freeCount := rfl
@[simp] theorem State.driveVset_mem (s : State) (code : Nat) : (s.driveVset code).mem = s.mem := rfl
@[simp] theorem State.driveVset_ecc (s : State) (code : Nat) : (s.driveVset code).ecc = s.ecc := rfl
@[simp] theorem State.driveVset_straps (s : State) (code : Nat) : (s.driveVset code).straps = s.straps := rfl
@[simp] theorem State.driveVset_power (s : State) (code : Nat) :
    (s.driveVset code).power = { s.power with vset := code, vsetAt := s.clock } := rfl
@[simp] theorem State.driveVset_chans (s : State) (code : Nat) : (s.driveVset code).chans = s.chans := rfl
@[simp] theorem State.driveVset_sync (s : State) (code : Nat) : (s.driveVset code).sync = s.sync := rfl
@[simp] theorem State.driveVset_pages (s : State) (code : Nat) : (s.driveVset code).pages = s.pages := rfl
@[simp] theorem State.driveVset_freeing (s : State) (code : Nat) : (s.driveVset code).freeing = s.freeing := rfl
@[simp] theorem State.driveVset_cross (s : State) (code : Nat) : (s.driveVset code).cross = s.cross := rfl
@[simp] theorem State.driveVset_repairs (s : State) (code : Nat) : (s.driveVset code).repairs = s.repairs := rfl
@[simp] theorem State.driveVset_ticks (s : State) (code : Nat) : (s.driveVset code).ticks = s.ticks := rfl
@[simp] theorem State.driveVset_nextTick (s : State) (code : Nat) : (s.driveVset code).nextTick = s.nextTick := rfl
@[simp] theorem State.driveVset_hearth (s : State) (code : Nat) : (s.driveVset code).hearth = s.hearth := rfl
@[simp] theorem State.driveVset_learn (s : State) (code : Nat) : (s.driveVset code).learn = s.learn := rfl
@[simp] theorem State.driveVset_panel (s : State) (code : Nat) : (s.driveVset code).panel = s.panel := rfl
@[simp] theorem State.driveVset_out (s : State) (code : Nat) : (s.driveVset code).out = s.out := rfl
@[simp] theorem State.driveVset_flue (s : State) (code : Nat) : (s.driveVset code).flue = s.flue := rfl
@[simp] theorem State.driveVset_router (s : State) (code : Nat) : (s.driveVset code).router = s.router := rfl
@[simp] theorem State.driveVset_ash (s : State) (code : Nat) : (s.driveVset code).ash = s.ash := rfl
@[simp] theorem State.driveVset_vault (s : State) (code : Nat) : (s.driveVset code).vault = s.vault := rfl
@[simp] theorem State.driveVset_smoulder (s : State) (code : Nat) : (s.driveVset code).smoulder = s.smoulder := rfl
@[simp] theorem State.driveVset_lib (s : State) (code : Nat) : (s.driveVset code).lib = s.lib := rfl
@[simp] theorem State.driveVset_flash (s : State) (code : Nat) : (s.driveVset code).flash = s.flash := rfl
@[simp] theorem State.driveVset_ring (s : State) (code : Nat) : (s.driveVset code).ring = s.ring := rfl
@[simp] theorem State.driveVset_fleet (s : State) (code : Nat) : (s.driveVset code).fleet = s.fleet := rfl
@[simp] theorem State.driveVset_tap (s : State) (code : Nat) : (s.driveVset code).tap = s.tap := rfl

/-! ### `State.setAccum` -/

@[simp] theorem State.setAccum_pending (s : State) (x : Accum) : (s.setAccum x).pending = s.pending := rfl
@[simp] theorem State.setAccum_clock (s : State) (x : Accum) : (s.setAccum x).clock = s.clock := rfl
@[simp] theorem State.setAccum_tsStart (s : State) (x : Accum) : (s.setAccum x).tsStart = s.tsStart := rfl
@[simp] theorem State.setAccum_mode (s : State) (x : Accum) : (s.setAccum x).mode = s.mode := rfl
@[simp] theorem State.setAccum_freeCount (s : State) (x : Accum) : (s.setAccum x).freeCount = s.freeCount := rfl
@[simp] theorem State.setAccum_mem (s : State) (x : Accum) : (s.setAccum x).mem = s.mem := rfl
@[simp] theorem State.setAccum_ecc (s : State) (x : Accum) : (s.setAccum x).ecc = s.ecc := rfl
@[simp] theorem State.setAccum_straps (s : State) (x : Accum) : (s.setAccum x).straps = s.straps := rfl
@[simp] theorem State.setAccum_power (s : State) (x : Accum) : (s.setAccum x).power = s.power := rfl
@[simp] theorem State.setAccum_volt (s : State) (x : Accum) : (s.setAccum x).volt = s.volt := rfl
@[simp] theorem State.setAccum_chans (s : State) (x : Accum) : (s.setAccum x).chans = s.chans := rfl
@[simp] theorem State.setAccum_sync (s : State) (x : Accum) : (s.setAccum x).sync = s.sync := rfl
@[simp] theorem State.setAccum_pages (s : State) (x : Accum) : (s.setAccum x).pages = s.pages := rfl
@[simp] theorem State.setAccum_freeing (s : State) (x : Accum) : (s.setAccum x).freeing = s.freeing := rfl
@[simp] theorem State.setAccum_cross (s : State) (x : Accum) : (s.setAccum x).cross = s.cross := rfl
@[simp] theorem State.setAccum_repairs (s : State) (x : Accum) : (s.setAccum x).repairs = s.repairs := rfl
@[simp] theorem State.setAccum_ticks (s : State) (x : Accum) : (s.setAccum x).ticks = s.ticks := rfl
@[simp] theorem State.setAccum_nextTick (s : State) (x : Accum) : (s.setAccum x).nextTick = s.nextTick := rfl
@[simp] theorem State.setAccum_arrays (s : State) (x : Accum) : (s.setAccum x).arrays = s.arrays := rfl
@[simp] theorem State.setAccum_hearth (s : State) (x : Accum) : (s.setAccum x).hearth = s.hearth := rfl
@[simp] theorem State.setAccum_panel (s : State) (x : Accum) : (s.setAccum x).panel = s.panel := rfl
@[simp] theorem State.setAccum_out (s : State) (x : Accum) : (s.setAccum x).out = s.out := rfl
@[simp] theorem State.setAccum_flue (s : State) (x : Accum) : (s.setAccum x).flue = s.flue := rfl
@[simp] theorem State.setAccum_router (s : State) (x : Accum) : (s.setAccum x).router = s.router := rfl
@[simp] theorem State.setAccum_ash (s : State) (x : Accum) : (s.setAccum x).ash = s.ash := rfl
@[simp] theorem State.setAccum_vault (s : State) (x : Accum) : (s.setAccum x).vault = s.vault := rfl
@[simp] theorem State.setAccum_smoulder (s : State) (x : Accum) : (s.setAccum x).smoulder = s.smoulder := rfl
@[simp] theorem State.setAccum_lib (s : State) (x : Accum) : (s.setAccum x).lib = s.lib := rfl
@[simp] theorem State.setAccum_flash (s : State) (x : Accum) : (s.setAccum x).flash = s.flash := rfl
@[simp] theorem State.setAccum_ring (s : State) (x : Accum) : (s.setAccum x).ring = s.ring := rfl
@[simp] theorem State.setAccum_fleet (s : State) (x : Accum) : (s.setAccum x).fleet = s.fleet := rfl
@[simp] theorem State.setAccum_tap (s : State) (x : Accum) : (s.setAccum x).tap = s.tap := rfl

/-! ### `State.pushWrite` -/

@[simp] theorem State.pushWrite_pending (s : State) (w : RowOp) : (s.pushWrite w).pending = s.pending := rfl
@[simp] theorem State.pushWrite_clock (s : State) (w : RowOp) : (s.pushWrite w).clock = s.clock := rfl
@[simp] theorem State.pushWrite_tsStart (s : State) (w : RowOp) : (s.pushWrite w).tsStart = s.tsStart := rfl
@[simp] theorem State.pushWrite_mode (s : State) (w : RowOp) : (s.pushWrite w).mode = s.mode := rfl
@[simp] theorem State.pushWrite_freeCount (s : State) (w : RowOp) : (s.pushWrite w).freeCount = s.freeCount := rfl
@[simp] theorem State.pushWrite_mem (s : State) (w : RowOp) : (s.pushWrite w).mem = s.mem := rfl
@[simp] theorem State.pushWrite_ecc (s : State) (w : RowOp) : (s.pushWrite w).ecc = s.ecc := rfl
@[simp] theorem State.pushWrite_straps (s : State) (w : RowOp) : (s.pushWrite w).straps = s.straps := rfl
@[simp] theorem State.pushWrite_power (s : State) (w : RowOp) : (s.pushWrite w).power = s.power := rfl
@[simp] theorem State.pushWrite_volt (s : State) (w : RowOp) : (s.pushWrite w).volt = s.volt := rfl
@[simp] theorem State.pushWrite_chans (s : State) (w : RowOp) : (s.pushWrite w).chans = s.chans := rfl
@[simp] theorem State.pushWrite_sync (s : State) (w : RowOp) : (s.pushWrite w).sync = s.sync := rfl
@[simp] theorem State.pushWrite_pages (s : State) (w : RowOp) : (s.pushWrite w).pages = s.pages := rfl
@[simp] theorem State.pushWrite_freeing (s : State) (w : RowOp) : (s.pushWrite w).freeing = s.freeing := rfl
@[simp] theorem State.pushWrite_cross (s : State) (w : RowOp) : (s.pushWrite w).cross = s.cross := rfl
@[simp] theorem State.pushWrite_repairs (s : State) (w : RowOp) : (s.pushWrite w).repairs = s.repairs := rfl
@[simp] theorem State.pushWrite_ticks (s : State) (w : RowOp) : (s.pushWrite w).ticks = s.ticks := rfl
@[simp] theorem State.pushWrite_nextTick (s : State) (w : RowOp) : (s.pushWrite w).nextTick = s.nextTick := rfl
@[simp] theorem State.pushWrite_arrays (s : State) (w : RowOp) : (s.pushWrite w).arrays = s.arrays := rfl
@[simp] theorem State.pushWrite_hearth (s : State) (w : RowOp) : (s.pushWrite w).hearth = s.hearth := rfl
@[simp] theorem State.pushWrite_panel (s : State) (w : RowOp) : (s.pushWrite w).panel = s.panel := rfl
@[simp] theorem State.pushWrite_out (s : State) (w : RowOp) : (s.pushWrite w).out = s.out := rfl
@[simp] theorem State.pushWrite_flue (s : State) (w : RowOp) : (s.pushWrite w).flue = s.flue := rfl
@[simp] theorem State.pushWrite_router (s : State) (w : RowOp) : (s.pushWrite w).router = s.router := rfl
@[simp] theorem State.pushWrite_ash (s : State) (w : RowOp) : (s.pushWrite w).ash = s.ash := rfl
@[simp] theorem State.pushWrite_vault (s : State) (w : RowOp) : (s.pushWrite w).vault = s.vault := rfl
@[simp] theorem State.pushWrite_smoulder (s : State) (w : RowOp) : (s.pushWrite w).smoulder = s.smoulder := rfl
@[simp] theorem State.pushWrite_lib (s : State) (w : RowOp) : (s.pushWrite w).lib = s.lib := rfl
@[simp] theorem State.pushWrite_flash (s : State) (w : RowOp) : (s.pushWrite w).flash = s.flash := rfl
@[simp] theorem State.pushWrite_ring (s : State) (w : RowOp) : (s.pushWrite w).ring = s.ring := rfl
@[simp] theorem State.pushWrite_fleet (s : State) (w : RowOp) : (s.pushWrite w).fleet = s.fleet := rfl
@[simp] theorem State.pushWrite_tap (s : State) (w : RowOp) : (s.pushWrite w).tap = s.tap := rfl

/-! ### `State.freeAccum` -/

@[simp] theorem State.freeAccum_pending (s : State) (row : Nat) : (s.freeAccum row).pending = s.pending := rfl
@[simp] theorem State.freeAccum_clock (s : State) (row : Nat) : (s.freeAccum row).clock = s.clock := rfl
@[simp] theorem State.freeAccum_tsStart (s : State) (row : Nat) : (s.freeAccum row).tsStart = s.tsStart := rfl
@[simp] theorem State.freeAccum_mode (s : State) (row : Nat) : (s.freeAccum row).mode = s.mode := rfl
@[simp] theorem State.freeAccum_freeCount (s : State) (row : Nat) : (s.freeAccum row).freeCount = s.freeCount := rfl
@[simp] theorem State.freeAccum_mem (s : State) (row : Nat) : (s.freeAccum row).mem = s.mem := rfl
@[simp] theorem State.freeAccum_ecc (s : State) (row : Nat) : (s.freeAccum row).ecc = s.ecc := rfl
@[simp] theorem State.freeAccum_straps (s : State) (row : Nat) : (s.freeAccum row).straps = s.straps := rfl
@[simp] theorem State.freeAccum_power (s : State) (row : Nat) : (s.freeAccum row).power = s.power := rfl
@[simp] theorem State.freeAccum_volt (s : State) (row : Nat) : (s.freeAccum row).volt = s.volt := rfl
@[simp] theorem State.freeAccum_chans (s : State) (row : Nat) : (s.freeAccum row).chans = s.chans := rfl
@[simp] theorem State.freeAccum_sync (s : State) (row : Nat) : (s.freeAccum row).sync = s.sync := rfl
@[simp] theorem State.freeAccum_pages (s : State) (row : Nat) : (s.freeAccum row).pages = s.pages := rfl
@[simp] theorem State.freeAccum_freeing (s : State) (row : Nat) : (s.freeAccum row).freeing = s.freeing := rfl
@[simp] theorem State.freeAccum_cross (s : State) (row : Nat) : (s.freeAccum row).cross = s.cross := rfl
@[simp] theorem State.freeAccum_repairs (s : State) (row : Nat) : (s.freeAccum row).repairs = s.repairs := rfl
@[simp] theorem State.freeAccum_ticks (s : State) (row : Nat) : (s.freeAccum row).ticks = s.ticks := rfl
@[simp] theorem State.freeAccum_nextTick (s : State) (row : Nat) : (s.freeAccum row).nextTick = s.nextTick := rfl
@[simp] theorem State.freeAccum_arrays (s : State) (row : Nat) : (s.freeAccum row).arrays = s.arrays := rfl
@[simp] theorem State.freeAccum_hearth (s : State) (row : Nat) : (s.freeAccum row).hearth = s.hearth := rfl
@[simp] theorem State.freeAccum_panel (s : State) (row : Nat) : (s.freeAccum row).panel = s.panel := rfl
@[simp] theorem State.freeAccum_out (s : State) (row : Nat) : (s.freeAccum row).out = s.out := rfl
@[simp] theorem State.freeAccum_flue (s : State) (row : Nat) : (s.freeAccum row).flue = s.flue := rfl
@[simp] theorem State.freeAccum_router (s : State) (row : Nat) : (s.freeAccum row).router = s.router := rfl
@[simp] theorem State.freeAccum_ash (s : State) (row : Nat) : (s.freeAccum row).ash = s.ash := rfl
@[simp] theorem State.freeAccum_vault (s : State) (row : Nat) : (s.freeAccum row).vault = s.vault := rfl
@[simp] theorem State.freeAccum_smoulder (s : State) (row : Nat) : (s.freeAccum row).smoulder = s.smoulder := rfl
@[simp] theorem State.freeAccum_lib (s : State) (row : Nat) : (s.freeAccum row).lib = s.lib := rfl
@[simp] theorem State.freeAccum_flash (s : State) (row : Nat) : (s.freeAccum row).flash = s.flash := rfl
@[simp] theorem State.freeAccum_ring (s : State) (row : Nat) : (s.freeAccum row).ring = s.ring := rfl
@[simp] theorem State.freeAccum_fleet (s : State) (row : Nat) : (s.freeAccum row).fleet = s.fleet := rfl
@[simp] theorem State.freeAccum_tap (s : State) (row : Nat) : (s.freeAccum row).tap = s.tap := rfl

/-! ### `State.discardQueue` -/

@[simp] theorem State.discardQueue_pending (s : State) : (s.discardQueue).pending = s.pending := rfl
@[simp] theorem State.discardQueue_clock (s : State) : (s.discardQueue).clock = s.clock := rfl
@[simp] theorem State.discardQueue_tsStart (s : State) : (s.discardQueue).tsStart = s.tsStart := rfl
@[simp] theorem State.discardQueue_mode (s : State) : (s.discardQueue).mode = s.mode := rfl
@[simp] theorem State.discardQueue_freeCount (s : State) : (s.discardQueue).freeCount = s.freeCount := rfl
@[simp] theorem State.discardQueue_mem (s : State) : (s.discardQueue).mem = s.mem := rfl
@[simp] theorem State.discardQueue_ecc (s : State) : (s.discardQueue).ecc = s.ecc := rfl
@[simp] theorem State.discardQueue_straps (s : State) : (s.discardQueue).straps = s.straps := rfl
@[simp] theorem State.discardQueue_power (s : State) : (s.discardQueue).power = s.power := rfl
@[simp] theorem State.discardQueue_volt (s : State) : (s.discardQueue).volt = s.volt := rfl
@[simp] theorem State.discardQueue_chans (s : State) : (s.discardQueue).chans = s.chans := rfl
@[simp] theorem State.discardQueue_sync (s : State) : (s.discardQueue).sync = s.sync := rfl
@[simp] theorem State.discardQueue_pages (s : State) : (s.discardQueue).pages = s.pages := rfl
@[simp] theorem State.discardQueue_freeing (s : State) : (s.discardQueue).freeing = s.freeing := rfl
@[simp] theorem State.discardQueue_cross (s : State) : (s.discardQueue).cross = s.cross := rfl
@[simp] theorem State.discardQueue_repairs (s : State) : (s.discardQueue).repairs = s.repairs := rfl
@[simp] theorem State.discardQueue_ticks (s : State) : (s.discardQueue).ticks = s.ticks := rfl
@[simp] theorem State.discardQueue_nextTick (s : State) : (s.discardQueue).nextTick = s.nextTick := rfl
@[simp] theorem State.discardQueue_arrays (s : State) : (s.discardQueue).arrays = s.arrays := rfl
@[simp] theorem State.discardQueue_hearth (s : State) : (s.discardQueue).hearth = s.hearth := rfl
@[simp] theorem State.discardQueue_learn (s : State) : (s.discardQueue).learn = s.learn := rfl
@[simp] theorem State.discardQueue_panel (s : State) : (s.discardQueue).panel = s.panel := rfl
@[simp] theorem State.discardQueue_out (s : State) : (s.discardQueue).out = s.out := rfl
@[simp] theorem State.discardQueue_flue (s : State) : (s.discardQueue).flue = { s.flue with queue := [] } := rfl
@[simp] theorem State.discardQueue_router (s : State) : (s.discardQueue).router = s.router := rfl
@[simp] theorem State.discardQueue_ash (s : State) : (s.discardQueue).ash = s.ash := rfl
@[simp] theorem State.discardQueue_vault (s : State) : (s.discardQueue).vault = s.vault := rfl
@[simp] theorem State.discardQueue_smoulder (s : State) : (s.discardQueue).smoulder = s.smoulder := rfl
@[simp] theorem State.discardQueue_lib (s : State) : (s.discardQueue).lib = s.lib := rfl
@[simp] theorem State.discardQueue_flash (s : State) : (s.discardQueue).flash = s.flash := rfl
@[simp] theorem State.discardQueue_ring (s : State) : (s.discardQueue).ring = s.ring := rfl
@[simp] theorem State.discardQueue_fleet (s : State) : (s.discardQueue).fleet = s.fleet := rfl
@[simp] theorem State.discardQueue_tap (s : State) : (s.discardQueue).tap = s.tap := rfl

/-! ### `State.enterReset` -/

@[simp] theorem State.enterReset_pending (s : State) (cause : Nat) : (s.enterReset cause).pending = s.pending := rfl
@[simp] theorem State.enterReset_clock (s : State) (cause : Nat) : (s.enterReset cause).clock = s.clock := rfl
@[simp] theorem State.enterReset_tsStart (s : State) (cause : Nat) : (s.enterReset cause).tsStart = s.clock := rfl
@[simp] theorem State.enterReset_mode (s : State) (cause : Nat) : (s.enterReset cause).mode = .reset := rfl
@[simp] theorem State.enterReset_freeCount (s : State) (cause : Nat) :
    (s.enterReset cause).freeCount = s.freeCount := rfl
@[simp] theorem State.enterReset_mem (s : State) (cause : Nat) : (s.enterReset cause).mem = mramOnly s.mem := rfl
@[simp] theorem State.enterReset_ecc (s : State) (cause : Nat) : (s.enterReset cause).ecc = mramErrors s.ecc := rfl
@[simp] theorem State.enterReset_tap (s : State) (cause : Nat) : (s.enterReset cause).tap = s.tap := rfl

/-! ### Ports -/

@[simp] theorem Ring.port_setPort_same (r : Ring) (p : Port) (x : LinkPort) : (r.setPort p x).port p = x := by
  cases p <;> rfl
@[simp] theorem Ring.port_setPort_other (r : Ring) (p : Port) (x : LinkPort) :
    (r.setPort p x).port (otherPort p) = r.port (otherPort p) := by cases p <;> rfl

/-! ### Settings and derived readings after a lapse of time -/

@[simp] theorem State.elapse_coreRuns (s : State) (dt : Nat) : (s.elapse dt).coreRuns = s.coreRuns := rfl
@[simp] theorem State.elapse_ringRuns (s : State) (dt : Nat) : (s.elapse dt).ringRuns = s.ringRuns := rfl
@[simp] theorem State.elapse_ringId (s : State) (dt : Nat) : (s.elapse dt).ringId = s.ringId := rfl
@[simp] theorem State.elapse_channels (s : State) (dt : Nat) : (s.elapse dt).channels = s.channels := rfl
@[simp] theorem State.elapse_period (s : State) (dt : Nat) : (s.elapse dt).period = s.period := rfl
@[simp] theorem State.elapse_loadOn (s : State) (dt : Nat) : (s.elapse dt).loadOn = s.loadOn := rfl
@[simp] theorem State.elapse_voltageMode (s : State) (dt : Nat) : (s.elapse dt).voltageMode = s.voltageMode := rfl
@[simp] theorem State.elapse_syncMode (s : State) (dt : Nat) : (s.elapse dt).syncMode = s.syncMode := rfl
@[simp] theorem State.elapse_lMax (s : State) (dt : Nat) : (s.elapse dt).lMax = s.lMax := rfl
@[simp] theorem State.elapse_lMin (s : State) (dt : Nat) : (s.elapse dt).lMin = s.lMin := rfl
@[simp] theorem State.elapse_edgesPerBoundary (s : State) (dt : Nat) :
    (s.elapse dt).edgesPerBoundary = s.edgesPerBoundary := rfl
@[simp] theorem State.elapse_edgesPerRev (s : State) (dt : Nat) : (s.elapse dt).edgesPerRev = s.edgesPerRev := rfl
@[simp] theorem State.elapse_kindlingCounts (s : State) (dt : Nat) :
    (s.elapse dt).kindlingCounts = s.kindlingCounts := rfl
@[simp] theorem State.elapse_alertLevel (s : State) (dt : Nat) : (s.elapse dt).alertLevel = s.alertLevel := rfl
@[simp] theorem State.elapse_alarmLevel (s : State) (dt : Nat) : (s.elapse dt).alarmLevel = s.alarmLevel := rfl
@[simp] theorem State.elapse_persistence (s : State) (dt : Nat) : (s.elapse dt).persistence = s.persistence := rfl
@[simp] theorem State.elapse_profile (s : State) (dt : Nat) : (s.elapse dt).profile = s.profile := rfl
@[simp] theorem State.elapse_libDeclared (s : State) (dt : Nat) : (s.elapse dt).libDeclared = s.libDeclared := rfl
@[simp] theorem State.elapse_imageAuth (s : State) (dt : Nat) : (s.elapse dt).imageAuth = s.imageAuth := rfl
@[simp] theorem State.elapse_ringOn (s : State) (dt : Nat) : (s.elapse dt).ringOn = s.ringOn := rfl
@[simp] theorem State.elapse_ringFast (s : State) (dt : Nat) : (s.elapse dt).ringFast = s.ringFast := rfl
@[simp] theorem State.elapse_collector (s : State) (dt : Nat) : (s.elapse dt).collector = s.collector := rfl
@[simp] theorem State.elapse_ringAuth (s : State) (dt : Nat) : (s.elapse dt).ringAuth = s.ringAuth := rfl
@[simp] theorem State.elapse_baud (s : State) (dt : Nat) : (s.elapse dt).baud = s.baud := rfl
@[simp] theorem State.elapse_alarmsOnly (s : State) (dt : Nat) : (s.elapse dt).alarmsOnly = s.alarmsOnly := rfl
@[simp] theorem State.elapse_scaling (s : State) (dt : Nat) : (s.elapse dt).scaling = s.scaling := rfl
@[simp] theorem State.elapse_sleepState (s : State) (dt : Nat) : (s.elapse dt).sleepState = s.sleepState := rfl
@[simp] theorem State.elapse_idleSeconds (s : State) (dt : Nat) : (s.elapse dt).idleSeconds = s.idleSeconds := rfl
@[simp] theorem State.elapse_spotSeconds (s : State) (dt : Nat) : (s.elapse dt).spotSeconds = s.spotSeconds := rfl
@[simp] theorem State.elapse_libraryRows (s : State) (dt : Nat) : (s.elapse dt).libraryRows = s.libraryRows := rfl
@[simp] theorem State.elapse_paused (s : State) (dt : Nat) : (s.elapse dt).paused = s.paused := rfl
@[simp] theorem State.elapse_depth (s : State) (dt : Nat) : (s.elapse dt).depth = s.depth := rfl
@[simp] theorem State.elapse_mclass (s : State) (dt : Nat) : (s.elapse dt).mclass = s.mclass := rfl
@[simp] theorem State.elapse_enabled (s : State) (dt : Nat) : (s.elapse dt).enabled = s.enabled := rfl
@[simp] theorem State.elapse_anyWithdrawn (s : State) (dt : Nat) : (s.elapse dt).anyWithdrawn = s.anyWithdrawn := rfl
@[simp] theorem State.elapse_mayOriginate (s : State) (dt : Nat) : (s.elapse dt).mayOriginate = s.mayOriginate := rfl
@[simp] theorem State.elapse_relayTarget (s : State) (dt : Nat) : (s.elapse dt).relayTarget = s.relayTarget := rfl

end Sys2Proof.Machine
end

