-- ==== Sys2Proof/Laws/Store.lean ====
section
/-! SUPPORT. Sys2Proof/Laws/Store.lean: every shared operation keeps memory and error map in canonical form. -/

namespace Sys2Proof.Machine

/-- Memory and error map in canonical form. -/
def storeOk (m : List Host.Cell) (e : List (Nat × Nat)) : Prop := Memory.wf m ∧ Errors.wf e

theorem ok_foldl {α : Type} (f : State → α → State)
    (hf : ∀ s x, storeOk s.mem s.ecc → storeOk (f s x).mem (f s x).ecc) (l : List α) (s : State)
    (h : storeOk s.mem s.ecc) : storeOk (l.foldl f s).mem (l.foldl f s).ecc := by
  induction l generalizing s with
  | nil => exact h
  | cons x l ih => exact ih (f s x) (hf s x h)

theorem ok_ite (c : Prop) [Decidable c] (a b : State) (ha : storeOk a.mem a.ecc) (hb : storeOk b.mem b.ecc) :
    storeOk (if c then a else b).mem (if c then a else b).ecc := by split <;> assumption

theorem ok_set (m : List Host.Cell) (e : List (Nat × Nat)) (a n : Nat) (h : storeOk m e) :
    storeOk m (setErrors e a n) := ⟨h.1, Errors.wf_set e a n h.2⟩

theorem ok_filter (m : List Host.Cell) (e : List (Nat × Nat)) (p : Nat × Nat → Bool) (h : storeOk m e) :
    storeOk m (e.filter p) := ⟨h.1, Errors.wf_filter _ _ h.2⟩

theorem ok_fold_set (m : List Host.Cell) (e l : List (Nat × Nat)) (h : storeOk m e) :
    storeOk m (l.foldl (fun (l : List (Nat × Nat)) (e : Nat × Nat) => setErrors l e.1 e.2) e) :=
  ⟨h.1, Errors.wf_foldl _ _ _ (fun e x he => Errors.wf_set e x.1 x.2 he) h.2⟩

theorem ok_mram (m : List Host.Cell) (e : List (Nat × Nat)) (h : storeOk m e) :
    storeOk (mramOnly m) (mramErrors e) := ⟨Memory.wf_filter _ _ h.1, Errors.wf_filter _ _ h.2⟩

theorem State.poke_ok (s : State) (a : Nat) (bs : List Byte) (h : storeOk s.mem s.ecc) :
    storeOk (s.poke a bs).mem (s.poke a bs).ecc :=
  ⟨Memory.wf_writeBytes _ _ _ h.1, Errors.wf_filter _ _ h.2⟩

theorem State.wipe_ok (s : State) (a n : Nat) (h : storeOk s.mem s.ecc) :
    storeOk (s.wipe a n).mem (s.wipe a n).ecc :=
  ⟨Memory.wf_clear _ _ _ h.1, Errors.wf_filter _ _ h.2⟩

theorem State.upset_ok (s : State) (us : List Upset) (h : storeOk s.mem s.ecc) :
    storeOk (s.upset us).mem (s.upset us).ecc :=
  ⟨h.1, Errors.wf_foldl _ _ _ (fun e x he => Errors.wf_set e _ _ he) h.2⟩

theorem State.setTag_ok (s : State) (r : Nat) (t : Tag) (hok : storeOk s.mem s.ecc) :
    storeOk (s.setTag r t).mem (s.setTag r t).ecc := by
  unfold State.setTag
  repeat' first | with_reducible assumption | with_reducible apply State.poke_ok

theorem State.setRow_ok (s : State) (r : Nat) (v : HV) (hok : storeOk s.mem s.ecc) :
    storeOk (s.setRow r v).mem (s.setRow r v).ecc := by
  unfold State.setRow
  repeat' first | with_reducible assumption | with_reducible apply State.poke_ok

theorem State.writeRow_ok (s : State) (r : Nat) (v : HV) (t : Tag) (hok : storeOk s.mem s.ecc) :
    storeOk (s.writeRow r v t).mem (s.writeRow r v t).ecc := by
  unfold State.writeRow
  repeat' first
    | with_reducible assumption | with_reducible apply State.setRow_ok | with_reducible apply State.setTag_ok

theorem State.writeAll_ok (s : State) (ws : List (Nat × List Byte)) (hok : storeOk s.mem s.ecc) :
    storeOk (s.writeAll ws).mem (s.writeAll ws).ecc := by
  unfold State.writeAll
  repeat' first
    | with_reducible assumption | with_reducible apply State.poke_ok | with_reducible apply ok_foldl
    | with_reducible apply ok_ite | with_reducible apply ok_set | with_reducible apply ok_mram
    | with_reducible apply ok_fold_set | split | intro _ _ _

theorem State.applyEntry_ok (s : State) (e : Entry) (hok : storeOk s.mem s.ecc) :
    storeOk (s.applyEntry e).mem (s.applyEntry e).ecc := by
  unfold State.applyEntry
  repeat' first
    | with_reducible assumption | with_reducible apply State.poke_ok | with_reducible apply State.wipe_ok
    | with_reducible apply State.writeAll_ok | with_reducible apply ok_foldl | with_reducible apply ok_ite

theorem State.commitEntry_ok (s : State) (e : Entry) (hok : storeOk s.mem s.ecc) :
    storeOk (s.commitEntry e).mem (s.commitEntry e).ecc := by
  unfold State.commitEntry
  repeat' first
    | with_reducible assumption | with_reducible apply State.writeAll_ok | with_reducible apply State.applyEntry_ok

theorem State.writeAsh_ok (s : State) (r : AshRec) (hok : storeOk s.mem s.ecc) :
    storeOk (s.writeAsh r).mem (s.writeAsh r).ecc := by
  unfold State.writeAsh
  repeat' first | with_reducible assumption | with_reducible apply State.writeAll_ok

theorem State.settle_ok (s : State) (hok : storeOk s.mem s.ecc) :
    storeOk (s.settle).mem (s.settle).ecc := by
  exact hok

theorem State.elapse_ok (s : State) (dt : Nat) (hok : storeOk s.mem s.ecc) :
    storeOk (s.elapse dt).mem (s.elapse dt).ecc := by
  exact hok

theorem State.useFree_ok (s : State) (hok : storeOk s.mem s.ecc) :
    storeOk (s.useFree).mem (s.useFree).ecc := by
  exact hok

theorem State.setPort_ok (s : State) (p : Port) (x : LinkPort) (hok : storeOk s.mem s.ecc) :
    storeOk (s.setPort p x).mem (s.setPort p x).ecc := by
  exact hok

theorem State.countDiscard_ok (s : State) (hok : storeOk s.mem s.ecc) :
    storeOk (s.countDiscard).mem (s.countDiscard).ecc := by
  exact hok

theorem State.takeCells_ok (s : State) (k : Nat) (hok : storeOk s.mem s.ecc) :
    storeOk (s.takeCells k).2.mem (s.takeCells k).2.ecc := by
  unfold State.takeCells
  repeat' first
    | with_reducible assumption | with_reducible apply ok_foldl | with_reducible apply ok_ite
    | with_reducible apply ok_set | with_reducible apply ok_mram | with_reducible apply ok_filter
    | with_reducible apply ok_fold_set | split | intro _ _ _ | dsimp only

theorem State.enqueueFrame_ok (s : State) (f : YFrame) (out : Port) (source : Option Port) (since : Nat) (hok :
  storeOk s.mem s.ecc) : storeOk (s.enqueueFrame f out source since).mem (s.enqueueFrame f out source since).ecc := by
  unfold State.enqueueFrame
  repeat' first
    | with_reducible assumption | with_reducible apply State.takeCells_ok | with_reducible apply ok_foldl
    | with_reducible apply ok_ite | with_reducible apply ok_set | with_reducible apply ok_mram
    | with_reducible apply ok_filter | with_reducible apply ok_fold_set | split | intro _ _ _ | dsimp only

theorem State.offerLocal_ok (s : State) (since : Nat) (f : YFrame) (hok : storeOk s.mem s.ecc) :
    storeOk (s.offerLocal since f).mem (s.offerLocal since f).ecc := by
  unfold State.offerLocal
  repeat' first
    | with_reducible assumption | with_reducible apply State.countDiscard_ok
    | with_reducible apply State.enqueueFrame_ok | with_reducible apply ok_foldl | with_reducible apply ok_ite
    | with_reducible apply ok_set | with_reducible apply ok_mram | with_reducible apply ok_fold_set | split

theorem State.offerWaiting_ok (s : State) (hok : storeOk s.mem s.ecc) :
    storeOk (s.offerWaiting).mem (s.offerWaiting).ecc := by
  unfold State.offerWaiting
  repeat' first
    | with_reducible assumption | with_reducible apply State.offerLocal_ok | with_reducible apply ok_foldl
    | with_reducible apply ok_ite | with_reducible apply ok_set | with_reducible apply ok_mram
    | with_reducible apply ok_fold_set | split | intro _ _ _

theorem State.takeE2e_ok (s : State) (hok : storeOk s.mem s.ecc) :
    storeOk (s.takeE2e).2.mem (s.takeE2e).2.ecc := by
  unfold State.takeE2e
  repeat' first
    | with_reducible assumption | with_reducible apply State.poke_ok | with_reducible apply ok_foldl
    | with_reducible apply ok_ite

theorem State.originate_ok (s : State) (type chan dst dir : Nat) (payload : List Byte) (hok : storeOk s.mem s.ecc) :
    storeOk (s.originate type chan dst dir payload).mem (s.originate type chan dst dir payload).ecc := by
  unfold State.originate
  repeat' first
    | with_reducible assumption | with_reducible apply State.takeE2e_ok | with_reducible apply State.offerLocal_ok

theorem State.putFlue_ok (s : State) (f : Flue) (hok : storeOk s.mem s.ecc) :
    storeOk (s.putFlue f).mem (s.putFlue f).ecc := by
  unfold State.putFlue
  repeat' first
    | with_reducible assumption | with_reducible apply ok_foldl | with_reducible apply ok_ite
    | with_reducible apply ok_set | with_reducible apply ok_mram | with_reducible apply ok_filter
    | with_reducible apply ok_fold_set | split | intro _ _ _ | dsimp only

theorem State.report_ok (s : State) (type time : Nat) (payload : List Byte) (tier : Nat) (hok : storeOk s.mem s.ecc) :
    storeOk (s.report type time payload tier).mem (s.report type time payload tier).ecc := by
  unfold State.report
  repeat' first
    | with_reducible assumption | with_reducible apply State.putFlue_ok | with_reducible apply State.originate_ok
    | with_reducible apply ok_foldl | with_reducible apply ok_ite | with_reducible apply ok_set
    | with_reducible apply ok_mram | with_reducible apply ok_filter | with_reducible apply ok_fold_set | split
    | intro _ _ _ | dsimp only

theorem State.ashRecord_ok (s : State) (type time : Nat) (payload : List Byte) (hok : storeOk s.mem s.ecc) :
    storeOk (s.ashRecord type time payload).mem (s.ashRecord type time payload).ecc := by
  exact hok

theorem State.coalesce_ok (s : State) (hok : storeOk s.mem s.ecc) :
    storeOk (s.coalesce).mem (s.coalesce).ecc := by
  unfold State.coalesce
  repeat' first | with_reducible assumption | with_reducible apply ok_foldl | with_reducible apply ok_ite

theorem State.routeAsh_ok (s : State) (e : Event) (hok : storeOk s.mem s.ecc) :
    storeOk (s.routeAsh e).mem (s.routeAsh e).ecc := by
  unfold State.routeAsh
  repeat' first | with_reducible assumption | with_reducible apply ok_foldl | with_reducible apply ok_ite

theorem State.routeFlue_ok (s : State) (e : Event) (hok : storeOk s.mem s.ecc) :
    storeOk (s.routeFlue e).mem (s.routeFlue e).ecc := by
  unfold State.routeFlue
  repeat' first | with_reducible assumption | with_reducible apply ok_foldl | with_reducible apply ok_ite

theorem State.ringEvent_ok (s : State) (code port peer epoch e2e value : Nat) (hok : storeOk s.mem s.ecc) :
    storeOk (s.ringEvent code port peer epoch e2e value).mem (s.ringEvent code port peer epoch e2e value).ecc := by
  unfold State.ringEvent
  repeat' first
    | with_reducible assumption | with_reducible apply State.routeAsh_ok | with_reducible apply State.routeFlue_ok

theorem State.channelRecord_ok (s : State) (c old new detections : Nat) (hok : storeOk s.mem s.ecc) :
    storeOk (s.channelRecord c old new detections).mem (s.channelRecord c old new detections).ecc := by
  unfold State.channelRecord
  repeat' first
    | with_reducible assumption | with_reducible apply State.routeFlue_ok | with_reducible apply State.routeAsh_ok
    | with_reducible apply ok_foldl | with_reducible apply ok_ite

theorem State.syncRecord_ok (s : State) (time old new : Nat) (hok : storeOk s.mem s.ecc) :
    storeOk (s.syncRecord time old new).mem (s.syncRecord time old new).ecc := by
  unfold State.syncRecord
  repeat' first
    | with_reducible assumption | with_reducible apply State.routeFlue_ok | with_reducible apply State.routeAsh_ok

theorem State.senseTemp_ok (s : State) (milli : Int) (hok : storeOk s.mem s.ecc) :
    storeOk (s.senseTemp milli).mem (s.senseTemp milli).ecc := by
  unfold State.senseTemp
  repeat' first
    | with_reducible assumption | with_reducible apply State.routeFlue_ok | with_reducible apply State.routeAsh_ok
    | with_reducible apply ok_foldl | with_reducible apply ok_ite

theorem State.memoryEvent_ok (s : State) (ev : Nat) (m : Master) (addr row seg erased source : Nat) (hok : storeOk
  s.mem s.ecc) : storeOk (s.memoryEvent ev m addr row seg erased source).mem (s.memoryEvent ev m addr row seg erased
  source).ecc := by
  unfold State.memoryEvent
  repeat' first
    | with_reducible assumption | with_reducible apply State.routeFlue_ok | with_reducible apply State.routeAsh_ok
    | with_reducible apply State.report_ok | with_reducible apply State.ashRecord_ok | with_reducible apply ok_foldl
    | with_reducible apply ok_ite | with_reducible apply ok_set | with_reducible apply ok_mram
    | with_reducible apply ok_filter | with_reducible apply ok_fold_set | split | intro _ _ _ | dsimp only

theorem State.tapOff_ok (s : State) (hok : storeOk s.mem s.ecc) :
    storeOk (s.tapOff).mem (s.tapOff).ecc := by
  unfold State.tapOff
  repeat' first
    | with_reducible assumption | with_reducible apply State.useFree_ok | with_reducible apply ok_foldl
    | with_reducible apply ok_ite | with_reducible apply ok_set | with_reducible apply ok_mram
    | with_reducible apply ok_fold_set | split

theorem State.writeCut_ok (s : State) (ws : List (Nat × List Byte)) (supplyLost : Bool) (hok : storeOk s.mem s.ecc) :
    storeOk (s.writeCut ws supplyLost).mem (s.writeCut ws supplyLost).ecc := by
  unfold State.writeCut
  repeat' first
    | with_reducible assumption | with_reducible apply State.writeAll_ok | with_reducible apply State.useFree_ok
    | with_reducible apply State.poke_ok | with_reducible apply ok_foldl | with_reducible apply ok_ite
    | with_reducible apply ok_set | with_reducible apply ok_mram | with_reducible apply ok_fold_set | split

theorem State.finishFail_ok (s : State) (hok : storeOk s.mem s.ecc) : storeOk (s.finishFail).mem (s.finishFail).ecc :=
  by
  unfold State.finishFail
  repeat' first
    | with_reducible assumption | with_reducible apply State.writeAll_ok | with_reducible apply ok_foldl
    | with_reducible apply ok_ite | with_reducible apply ok_set | with_reducible apply ok_mram
    | with_reducible apply ok_filter | with_reducible apply ok_fold_set | split | intro _ _ _ | dsimp only

theorem State.stopFail_ok (s : State) (words : Nat) (supplyLost : Bool) (hok : storeOk s.mem s.ecc) : storeOk
  (s.stopFail words supplyLost).mem (s.stopFail words supplyLost).ecc := by
  unfold State.stopFail
  repeat' first
    | with_reducible assumption | with_reducible apply State.finishFail_ok | with_reducible apply State.writeCut_ok
    | with_reducible apply ok_foldl | with_reducible apply ok_ite | with_reducible apply ok_set
    | with_reducible apply ok_mram | with_reducible apply ok_filter | with_reducible apply ok_fold_set | split
    | intro _ _ _ | dsimp only

theorem State.stopWrites_ok (s : State) (ws : List (Nat × List Byte)) (words : Nat) (supplyLost : Bool) (hok : storeOk
  s.mem s.ecc) : storeOk (s.stopWrites ws words supplyLost).mem (s.stopWrites ws words supplyLost).ecc := by
  unfold State.stopWrites
  repeat' first
    | with_reducible assumption | with_reducible apply State.writeCut_ok | with_reducible apply ok_foldl
    | with_reducible apply ok_ite | with_reducible apply ok_set | with_reducible apply ok_mram
    | with_reducible apply ok_filter | with_reducible apply ok_fold_set | split | intro _ _ _ | dsimp only

theorem State.stopMram_ok (s : State) (p : MramProgress) (supplyLost : Bool) (hok : storeOk s.mem s.ecc) : storeOk
  (s.stopMram p supplyLost).mem (s.stopMram p supplyLost).ecc := by
  unfold State.stopMram
  repeat' first
    | with_reducible assumption | with_reducible apply State.stopFail_ok | with_reducible apply State.stopWrites_ok
    | with_reducible apply ok_foldl | with_reducible apply ok_ite | with_reducible apply ok_set
    | with_reducible apply ok_mram | with_reducible apply ok_filter | with_reducible apply ok_fold_set | split
    | intro _ _ _ | dsimp only

theorem State.unwatch_ok (s : State) (hok : storeOk s.mem s.ecc) :
    storeOk (s.unwatch).mem (s.unwatch).ecc := by
  exact hok

theorem State.releaseCore_ok (s : State) (hok : storeOk s.mem s.ecc) :
    storeOk (s.releaseCore).mem (s.releaseCore).ecc := by
  exact hok

theorem State.enterReset_ok (s : State) (cause : Nat) (hok : storeOk s.mem s.ecc) :
    storeOk (s.enterReset cause).mem (s.enterReset cause).ecc := by
  unfold State.enterReset
  repeat' first
    | with_reducible assumption | with_reducible apply ok_foldl | with_reducible apply ok_ite
    | with_reducible apply ok_set | with_reducible apply ok_mram

theorem State.enterBist_ok (s : State) (hok : storeOk s.mem s.ecc) :
    storeOk (s.enterBist).mem (s.enterBist).ecc := by
  exact hok

theorem State.leaveReset_ok (s : State) (hok : storeOk s.mem s.ecc) :
    storeOk (s.leaveReset).mem (s.leaveReset).ecc := by
  unfold State.leaveReset
  repeat' first | with_reducible assumption | with_reducible apply ok_foldl | with_reducible apply ok_ite

theorem State.teachRecord_ok (s : State) (outcome label row freed bin collected radius : Nat)
    (hok : storeOk s.mem s.ecc) :
    storeOk (s.teachRecord outcome label row freed bin collected radius).mem
      (s.teachRecord outcome label row freed bin collected radius).ecc := by
  unfold State.teachRecord
  repeat' first
    | with_reducible assumption | with_reducible apply State.report_ok | with_reducible apply State.ashRecord_ok

theorem State.abandonTeach_ok (s : State) (outcome : Nat) (hok : storeOk s.mem s.ecc) :
    storeOk (s.abandonTeach outcome).mem (s.abandonTeach outcome).ecc := by
  unfold State.abandonTeach
  repeat' first
    | with_reducible assumption | with_reducible apply State.teachRecord_ok | with_reducible apply ok_foldl
    | with_reducible apply ok_ite | with_reducible apply ok_set | with_reducible apply ok_mram
    | with_reducible apply ok_fold_set | split

theorem State.markDirty_ok (s : State) (row : Nat) (data tag : Bool) (hok : storeOk s.mem s.ecc) :
    storeOk (s.markDirty row data tag).mem (s.markDirty row data tag).ecc := by
  unfold State.markDirty
  repeat' first | with_reducible assumption | with_reducible apply ok_foldl | with_reducible apply ok_ite

theorem State.freeAccum_ok (s : State) (row : Nat) (hok : storeOk s.mem s.ecc) :
    storeOk (s.freeAccum row).mem (s.freeAccum row).ecc := by
  exact hok

theorem State.bumpLife_ok (s : State) (row : Nat) (hok : storeOk s.mem s.ecc) :
    storeOk (s.bumpLife row).mem (s.bumpLife row).ecc := by
  exact hok

theorem State.request_ok (s : State) (r : Refetch) (hok : storeOk s.mem s.ecc) :
    storeOk (s.request r).mem (s.request r).ecc := by
  unfold State.request
  repeat' first | with_reducible assumption | with_reducible apply ok_foldl | with_reducible apply ok_ite

theorem State.requestRow_ok (s : State) (row : Nat) (hok : storeOk s.mem s.ecc) :
    storeOk (s.requestRow row).mem (s.requestRow row).ecc := by
  unfold State.requestRow
  repeat' first | with_reducible assumption | with_reducible apply State.request_ok

theorem State.spendRow_ok (s : State) (row : Nat) (m : Master) (hok : storeOk s.mem s.ecc) :
    storeOk (s.spendRow row m).mem (s.spendRow row m).ecc := by
  unfold State.spendRow
  repeat' first
    | with_reducible assumption | with_reducible apply State.setTag_ok | with_reducible apply State.markDirty_ok
    | with_reducible apply State.memoryEvent_ok | with_reducible apply State.freeAccum_ok
    | with_reducible apply State.bumpLife_ok | with_reducible apply State.requestRow_ok
    | with_reducible apply ok_foldl | with_reducible apply ok_ite

theorem State.startHeal_ok (s : State) (row seg : Nat) (again : Bool) (hok : storeOk s.mem s.ecc) :
    storeOk (s.startHeal row seg again).mem (s.startHeal row seg again).ecc := by
  unfold State.startHeal
  repeat' first
    | with_reducible assumption | with_reducible apply State.request_ok | with_reducible apply ok_foldl
    | with_reducible apply ok_ite | with_reducible apply ok_set | with_reducible apply ok_mram
    | with_reducible apply ok_fold_set | split

theorem State.segmentFound_ok (s : State) (row seg : Nat) (m : Master) (hok : storeOk s.mem s.ecc) :
    storeOk (s.segmentFound row seg m).mem (s.segmentFound row seg m).ecc := by
  unfold State.segmentFound
  repeat' first
    | with_reducible assumption | with_reducible apply State.startHeal_ok | with_reducible apply State.setTag_ok
    | with_reducible apply State.markDirty_ok | with_reducible apply State.memoryEvent_ok
    | with_reducible apply State.spendRow_ok | with_reducible apply ok_foldl | with_reducible apply ok_ite

theorem State.tagFound_ok (s : State) (row : Nat) (m : Master) (hok : storeOk s.mem s.ecc) :
    storeOk (s.tagFound row m).mem (s.tagFound row m).ecc := by
  unfold State.tagFound
  repeat' first
    | with_reducible assumption | with_reducible apply State.setTag_ok | with_reducible apply State.markDirty_ok
    | with_reducible apply State.memoryEvent_ok | with_reducible apply State.freeAccum_ok
    | with_reducible apply State.bumpLife_ok | with_reducible apply State.requestRow_ok
    | with_reducible apply ok_foldl | with_reducible apply ok_ite

theorem State.metErrors_ok (s : State) (met : List Met) (m : Master) (hok : storeOk s.mem s.ecc) :
    storeOk (s.metErrors met m).mem (s.metErrors met m).ecc := by
  unfold State.metErrors
  repeat' first
    | with_reducible assumption | with_reducible apply State.segmentFound_ok | with_reducible apply State.tagFound_ok
    | with_reducible apply ok_foldl | with_reducible apply ok_ite | with_reducible apply ok_set
    | with_reducible apply ok_mram | with_reducible apply ok_fold_set | split | intro _ _ _

theorem State.healSegments_ok (s : State) (row : Nat) (words : List (Nat × List Byte)) (m : Master) (source : Nat)
    (hok : storeOk s.mem s.ecc) :
    storeOk (s.healSegments row words m source).mem (s.healSegments row words m source).ecc := by
  unfold State.healSegments
  repeat' first
    | with_reducible assumption | with_reducible apply State.poke_ok | with_reducible apply State.setTag_ok
    | with_reducible apply State.markDirty_ok | with_reducible apply State.memoryEvent_ok
    | with_reducible apply ok_foldl | with_reducible apply ok_ite | with_reducible apply ok_set
    | with_reducible apply ok_mram | with_reducible apply ok_fold_set | split | intro _ _ _

theorem State.freeRow_ok (s : State) (row : Nat) (hok : storeOk s.mem s.ecc) :
    storeOk (s.freeRow row).mem (s.freeRow row).ecc := by
  unfold State.freeRow
  repeat' first
    | with_reducible assumption | with_reducible apply State.setTag_ok | with_reducible apply State.markDirty_ok
    | with_reducible apply State.freeAccum_ok | with_reducible apply State.bumpLife_ok

theorem State.emptyFleet_ok (s : State) (hok : storeOk s.mem s.ecc) :
    storeOk (s.emptyFleet).mem (s.emptyFleet).ecc := by
  unfold State.emptyFleet
  repeat' first
    | with_reducible assumption | with_reducible apply State.setTag_ok | with_reducible apply ok_foldl
    | with_reducible apply ok_ite | with_reducible apply ok_set | with_reducible apply ok_mram
    | with_reducible apply ok_fold_set | split | intro _ _ _

theorem State.buildItems_ok (s : State) (hok : storeOk s.mem s.ecc) :
    storeOk (s.buildItems).mem (s.buildItems).ecc := by
  unfold State.buildItems
  repeat' first | with_reducible assumption | with_reducible apply State.poke_ok

theorem State.pushHistory_ok (s : State) (m : HV) (hok : storeOk s.mem s.ecc) :
    storeOk (s.pushHistory m).mem (s.pushHistory m).ecc := by
  unfold State.pushHistory
  repeat' first | with_reducible assumption | with_reducible apply State.poke_ok

theorem State.clearHistory_ok (s : State) (hok : storeOk s.mem s.ecc) :
    storeOk (s.clearHistory).mem (s.clearHistory).ecc := by
  unfold State.clearHistory
  repeat' first | with_reducible assumption | with_reducible apply State.wipe_ok

theorem State.setAccum_ok (s : State) (x : Accum) (hok : storeOk s.mem s.ecc) :
    storeOk (s.setAccum x).mem (s.setAccum x).ecc := by
  exact hok

theorem State.seedCounters_ok (s : State) (a row : Nat) (hok : storeOk s.mem s.ecc) :
    storeOk (s.seedCounters a row).mem (s.seedCounters a row).ecc := by
  unfold State.seedCounters
  repeat' first
    | with_reducible assumption | with_reducible apply State.poke_ok | with_reducible apply State.metErrors_ok

theorem State.reseedAccum_ok (s : State) (a addr : Nat) (m : Master) (hok : storeOk s.mem s.ecc) :
    storeOk (s.reseedAccum a addr m).mem (s.reseedAccum a addr m).ecc := by
  unfold State.reseedAccum
  repeat' first
    | with_reducible assumption | with_reducible apply State.poke_ok | with_reducible apply State.memoryEvent_ok
    | with_reducible apply State.setAccum_ok | with_reducible apply State.seedCounters_ok
    | with_reducible apply ok_foldl | with_reducible apply ok_ite | with_reducible apply ok_set
    | with_reducible apply ok_mram | with_reducible apply ok_fold_set | split

theorem State.commitRow_ok (s : State) (x : Accum) (hok : storeOk s.mem s.ecc) :
    storeOk (s.commitRow x).mem (s.commitRow x).ecc := by
  unfold State.commitRow
  repeat' first
    | with_reducible assumption | with_reducible apply State.writeRow_ok | with_reducible apply State.markDirty_ok
    | with_reducible apply State.setAccum_ok | with_reducible apply State.memoryEvent_ok
    | with_reducible apply State.spendRow_ok | with_reducible apply ok_foldl | with_reducible apply ok_ite
    | with_reducible apply ok_set | with_reducible apply ok_mram | with_reducible apply ok_fold_set | split
    | intro _ _ _

theorem State.commitAccum_ok (s : State) (x : Accum) (hok : storeOk s.mem s.ecc) :
    storeOk (s.commitAccum x).mem (s.commitAccum x).ecc := by
  unfold State.commitAccum
  repeat' first
    | with_reducible assumption | with_reducible apply State.reseedAccum_ok | with_reducible apply State.tagFound_ok
    | with_reducible apply State.commitRow_ok | with_reducible apply ok_foldl | with_reducible apply ok_ite
    | with_reducible apply ok_set | with_reducible apply ok_mram | with_reducible apply ok_filter
    | with_reducible apply ok_fold_set | split | intro _ _ _ | dsimp only

theorem State.takeAccum_ok (s : State) (x : Accum) (hok : storeOk s.mem s.ecc) :
    storeOk (s.takeAccum x).mem (s.takeAccum x).ecc := by
  unfold State.takeAccum
  repeat' first
    | with_reducible assumption | with_reducible apply State.commitAccum_ok | with_reducible apply ok_foldl
    | with_reducible apply ok_ite

theorem State.openAccum_ok (s : State) (row : Nat) (hok : storeOk s.mem s.ecc) :
    storeOk (s.openAccum row).mem (s.openAccum row).ecc := by
  unfold State.openAccum
  repeat' first
    | with_reducible assumption | with_reducible apply State.takeAccum_ok | with_reducible apply State.seedCounters_ok
    | with_reducible apply ok_foldl | with_reducible apply ok_ite | with_reducible apply ok_set
    | with_reducible apply ok_mram | with_reducible apply ok_fold_set | split | intro _ _ _ | dsimp only

theorem State.admitCounters_ok (s : State) (row : Nat) (v : HV) (hok : storeOk s.mem s.ecc) :
    storeOk (s.admitCounters row v).mem (s.admitCounters row v).ecc := by
  unfold State.admitCounters
  repeat' first
    | with_reducible assumption | with_reducible apply State.reseedAccum_ok | with_reducible apply State.poke_ok
    | with_reducible apply State.setAccum_ok | with_reducible apply ok_foldl | with_reducible apply ok_ite
    | with_reducible apply ok_set | with_reducible apply ok_mram | with_reducible apply ok_fold_set | split
    | intro _ _ _ | dsimp only

theorem State.clearPage_ok (s : State) (page : Nat) (hok : storeOk s.mem s.ecc) :
    storeOk (s.clearPage page).mem (s.clearPage page).ecc := by
  exact hok

theorem State.endFilling_ok (s : State) (at_ c : Nat) (hok : storeOk s.mem s.ecc) :
    storeOk (s.endFilling at_ c).1.mem (s.endFilling at_ c).1.ecc := by
  unfold State.endFilling
  repeat' first
    | with_reducible assumption | with_reducible apply State.clearPage_ok | with_reducible apply ok_foldl
    | with_reducible apply ok_ite | with_reducible apply ok_set | with_reducible apply ok_mram
    | with_reducible apply ok_filter | with_reducible apply ok_fold_set | split | intro _ _ _ | dsimp only

theorem State.allocate_ok (s : State) (at_ c : Nat) (closed : Option ChanFrame) (tick : List ChanFrame × List Nat)
  (hok : storeOk s.mem s.ecc) : storeOk (s.allocate at_ c closed tick).1.mem (s.allocate at_ c closed tick).1.ecc :=
  by
  unfold State.allocate
  repeat' first
    | with_reducible assumption | with_reducible apply ok_foldl | with_reducible apply ok_ite
    | with_reducible apply ok_set | with_reducible apply ok_mram | with_reducible apply ok_filter
    | with_reducible apply ok_fold_set | split | intro _ _ _ | dsimp only

theorem State.releasePage_ok (s : State) (page : Nat) (hok : storeOk s.mem s.ecc) :
    storeOk (s.releasePage page).mem (s.releasePage page).ecc := by
  unfold State.releasePage
  repeat' first
    | with_reducible assumption | with_reducible apply State.clearPage_ok | with_reducible apply ok_foldl
    | with_reducible apply ok_ite | with_reducible apply ok_set | with_reducible apply ok_mram
    | with_reducible apply ok_filter | with_reducible apply ok_fold_set | split | intro _ _ _ | dsimp only

theorem State.turnPages_ok (s : State) (at_ : Nat) (hok : storeOk s.mem s.ecc) :
    storeOk (s.turnPages at_).1.mem (s.turnPages at_).1.ecc := by
  have h1 : ∀ (l : List Nat) (a : State × List (Option ChanFrame)), storeOk a.1.mem a.1.ecc →
      storeOk (l.foldl (fun a c => ((a.1.endFilling at_ c).1, a.2 ++ [(a.1.endFilling at_ c).2])) a).1.mem
        (l.foldl (fun a c => ((a.1.endFilling at_ c).1, a.2 ++ [(a.1.endFilling at_ c).2])) a).1.ecc := by
    intro l
    induction l with
    | nil => intro a h; exact h
    | cons c l ih => intro a h; exact ih _ (State.endFilling_ok _ _ _ h)
  have h2 : ∀ (g : Nat → Option ChanFrame) (l : List Nat) (a : State × (List ChanFrame × List Nat)),
      storeOk a.1.mem a.1.ecc →
      storeOk (l.foldl (fun a c => a.1.allocate at_ c (g c) a.2) a).1.mem
        (l.foldl (fun a c => a.1.allocate at_ c (g c) a.2) a).1.ecc := by
    intro g l
    induction l with
    | nil => intro a h; exact h
    | cons c l ih => intro a h; exact ih _ (State.allocate_ok _ _ _ _ _ h)
  unfold State.turnPages
  refine ok_foldl _ (fun u f hu => State.releasePage_ok _ _ hu) _ _ ?_
  exact h2 _ _ _ (h1 _ _ hok)

theorem State.crossWord_ok (s : State) (addr word : Nat) (hok : storeOk s.mem s.ecc) :
    storeOk (s.crossWord addr word).mem (s.crossWord addr word).ecc := by
  unfold State.crossWord
  repeat' first
    | with_reducible assumption | with_reducible apply State.poke_ok | with_reducible apply ok_foldl
    | with_reducible apply ok_ite | with_reducible apply ok_set | with_reducible apply ok_mram
    | with_reducible apply ok_filter | with_reducible apply ok_fold_set | split | intro _ _ _ | dsimp only

theorem State.drainSamples_ok (s : State) (hok : storeOk s.mem s.ecc) :
    storeOk (s.drainSamples).mem (s.drainSamples).ecc := by
  unfold State.drainSamples
  repeat' first
    | with_reducible assumption | with_reducible apply State.poke_ok | with_reducible apply ok_foldl
    | with_reducible apply ok_ite | with_reducible apply ok_set | with_reducible apply ok_mram
    | with_reducible apply ok_filter | with_reducible apply ok_fold_set | split | intro _ _ _ | dsimp only

theorem State.storeWord_ok (s : State) (j c word : Nat) (hok : storeOk s.mem s.ecc) :
    storeOk (s.storeWord j c word).mem (s.storeWord j c word).ecc := by
  unfold State.storeWord
  repeat' first
    | with_reducible assumption | with_reducible apply State.crossWord_ok | with_reducible apply ok_foldl
    | with_reducible apply ok_ite | with_reducible apply ok_set | with_reducible apply ok_mram
    | with_reducible apply ok_filter | with_reducible apply ok_fold_set | split | intro _ _ _ | dsimp only

theorem State.storeWords_ok (s : State) (j : Nat) (words : List Nat) (hok : storeOk s.mem s.ecc) : storeOk
  (s.storeWords j words).mem (s.storeWords j words).ecc := by
  unfold State.storeWords
  repeat' first
    | with_reducible assumption | with_reducible apply State.storeWord_ok | with_reducible apply ok_foldl
    | with_reducible apply ok_ite | with_reducible apply ok_set | with_reducible apply ok_mram
    | with_reducible apply ok_filter | with_reducible apply ok_fold_set | split | intro _ _ _ | dsimp only

theorem State.redoTurn_ok (s : State) (hok : storeOk s.mem s.ecc) :
    storeOk (s.redoTurn).mem (s.redoTurn).ecc := by
  unfold State.redoTurn
  repeat' first
    | with_reducible assumption | with_reducible apply State.poke_ok | with_reducible apply State.turnPages_ok
    | with_reducible apply State.storeWords_ok | with_reducible apply ok_foldl | with_reducible apply ok_ite
    | with_reducible apply ok_set | with_reducible apply ok_mram | with_reducible apply ok_filter
    | with_reducible apply ok_fold_set | split | intro _ _ _ | dsimp only

theorem State.freePage_ok (s : State) (page : Nat) (hok : storeOk s.mem s.ecc) :
    storeOk (s.freePage page).mem (s.freePage page).ecc := by
  unfold State.freePage
  repeat' first
    | with_reducible assumption | with_reducible apply State.releasePage_ok | with_reducible apply State.redoTurn_ok
    | with_reducible apply ok_foldl | with_reducible apply ok_ite | with_reducible apply ok_set
    | with_reducible apply ok_mram | with_reducible apply ok_filter | with_reducible apply ok_fold_set | split
    | intro _ _ _ | dsimp only

theorem State.closeFrame_ok (s : State) (close len : Nat) (by_ : Closer) (hok : storeOk s.mem s.ecc) :
    storeOk (s.closeFrame close len by_).mem (s.closeFrame close len by_).ecc := by
  have hp := State.turnPages_ok s (s.clockOf close) hok
  unfold State.closeFrame
  extract_lets y span fault load speed at_
  revert hp
  generalize s.turnPages (s.clockOf close) = x
  obtain ⟨u, f, d⟩ := x
  generalize s.frameStatus by_ = y
  obtain ⟨a, b, c⟩ := y
  intro hp
  dsimp only at hp ⊢
  repeat' first | with_reducible assumption | with_reducible apply State.syncRecord_ok | split

theorem State.decideCandidate_ok (s : State) (hok : storeOk s.mem s.ecc) :
    storeOk (s.decideCandidate).mem (s.decideCandidate).ecc := by
  unfold State.decideCandidate
  repeat' first
    | with_reducible assumption | with_reducible apply State.closeFrame_ok | with_reducible apply ok_foldl
    | with_reducible apply ok_ite | with_reducible apply ok_set | with_reducible apply ok_mram
    | with_reducible apply ok_fold_set | split

theorem State.decideAll_ok (s : State) (n : Nat) (hok : storeOk s.mem s.ecc) :
    storeOk (s.decideAll n).mem (s.decideAll n).ecc := by
  induction n generalizing s with
  | zero => exact hok
  | succ n ih =>
    rw [State.decideAll]
    split
    · exact ih _ (State.decideCandidate_ok _ hok)
    · exact hok

theorem State.noteWords_ok (s : State) (words : List Nat) (hok : storeOk s.mem s.ecc) :
    storeOk (s.noteWords words).mem (s.noteWords words).ecc := by
  unfold State.noteWords
  repeat' first
    | with_reducible assumption | with_reducible apply ok_foldl | with_reducible apply ok_ite
    | with_reducible apply ok_set | with_reducible apply ok_mram | with_reducible apply ok_filter
    | with_reducible apply ok_fold_set | split | intro _ _ _ | dsimp only

theorem State.placeSample_ok (s : State) (t : Nat) (words : List Nat) (hok : storeOk s.mem s.ecc) : storeOk
  (s.placeSample t words).mem (s.placeSample t words).ecc := by
  unfold State.placeSample
  repeat' first
    | with_reducible assumption | with_reducible apply State.closeFrame_ok | with_reducible apply State.noteWords_ok
    | with_reducible apply State.storeWords_ok | with_reducible apply ok_foldl | with_reducible apply ok_ite
    | with_reducible apply ok_set | with_reducible apply ok_mram | with_reducible apply ok_filter
    | with_reducible apply ok_fold_set | split | intro _ _ _ | dsimp only

theorem State.placeHeld_ok (s : State) (hok : storeOk s.mem s.ecc) :
    storeOk (s.placeHeld).mem (s.placeHeld).ecc := by
  unfold State.placeHeld
  repeat' first
    | with_reducible assumption | with_reducible apply State.placeSample_ok | with_reducible apply ok_foldl
    | with_reducible apply ok_ite | with_reducible apply ok_set | with_reducible apply ok_mram
    | with_reducible apply ok_fold_set | split

theorem State.requestWake_ok (s : State) (mask : Nat) (hok : storeOk s.mem s.ecc) :
    storeOk (s.requestWake mask).mem (s.requestWake mask).ecc := by
  unfold State.requestWake
  repeat' first | with_reducible assumption | with_reducible apply ok_foldl | with_reducible apply ok_ite

theorem State.wakeCapture_ok (s : State) (hok : storeOk s.mem s.ecc) :
    storeOk (s.wakeCapture).mem (s.wakeCapture).ecc := by
  unfold State.wakeCapture
  repeat' first
    | with_reducible assumption | with_reducible apply State.requestWake_ok | with_reducible apply ok_foldl
    | with_reducible apply ok_ite | with_reducible apply ok_set | with_reducible apply ok_mram
    | with_reducible apply ok_fold_set | split | intro _ _ _ | dsimp only

theorem State.takeCapture_ok (s : State) (i : Nat) (hok : storeOk s.mem s.ecc) :
    storeOk (s.takeCapture i).mem (s.takeCapture i).ecc := by
  unfold State.takeCapture
  repeat' first | with_reducible assumption | with_reducible apply ok_foldl | with_reducible apply ok_ite

theorem State.senseTach_ok (s : State) (i uv : Nat) (hok : storeOk s.mem s.ecc) :
    storeOk (s.senseTach i uv).mem (s.senseTach i uv).ecc := by
  unfold State.senseTach
  repeat' first
    | with_reducible assumption | with_reducible apply State.takeCapture_ok
    | with_reducible apply State.wakeCapture_ok | with_reducible apply ok_foldl | with_reducible apply ok_ite
    | with_reducible apply ok_set | with_reducible apply ok_mram | with_reducible apply ok_filter
    | with_reducible apply ok_fold_set | split | intro _ _ _ | dsimp only

theorem State.setAside_ok (s : State) (p : Port) (cls : Nat) (hok : storeOk s.mem s.ecc) :
    storeOk (s.setAside p cls).mem (s.setAside p cls).ecc := by
  exact hok

theorem State.creditFreed_ok (s : State) (p : Port) (cls k : Nat) (hok : storeOk s.mem s.ecc) :
    storeOk (s.creditFreed p cls k).mem (s.creditFreed p cls k).ecc := by
  exact hok

theorem State.freeCells_ok (s : State) (source : Option Port) (cls : Nat) (cells : List Nat)
    (hok : storeOk s.mem s.ecc) :
    storeOk (s.freeCells source cls cells).mem (s.freeCells source cls cells).ecc := by
  unfold State.freeCells
  repeat' first
    | with_reducible assumption | with_reducible apply State.offerWaiting_ok
    | with_reducible apply State.creditFreed_ok | with_reducible apply ok_foldl | with_reducible apply ok_ite
    | with_reducible apply ok_set | with_reducible apply ok_mram | with_reducible apply ok_fold_set | split

theorem State.dropQueued_ok (s : State) (q : QFrame) (hok : storeOk s.mem s.ecc) :
    storeOk (s.dropQueued q).mem (s.dropQueued q).ecc := by
  unfold State.dropQueued
  repeat' first
    | with_reducible assumption | with_reducible apply State.countDiscard_ok | with_reducible apply State.freeCells_ok

theorem State.dropJob_ok (s : State) (j : Job) (hok : storeOk s.mem s.ecc) :
    storeOk (s.dropJob j).mem (s.dropJob j).ecc := by
  unfold State.dropJob
  repeat' first
    | with_reducible assumption | with_reducible apply State.countDiscard_ok | with_reducible apply State.freeCells_ok
      | with_reducible apply ok_foldl | with_reducible apply ok_ite | with_reducible apply ok_set | with_reducible
      apply ok_mram | with_reducible apply ok_filter | with_reducible apply ok_fold_set | split | intro _ _ _ | dsimp
      only

theorem State.turnQueue_ok (s : State) (p : Port) (hok : storeOk s.mem s.ecc) :
    storeOk (s.turnQueue p).mem (s.turnQueue p).ecc := by
  unfold State.turnQueue
  repeat' first
    | with_reducible assumption | with_reducible apply State.dropQueued_ok | with_reducible apply ok_foldl
    | with_reducible apply ok_ite | with_reducible apply ok_set | with_reducible apply ok_mram
    | with_reducible apply ok_fold_set | split | intro _ _ _

theorem State.sendFrame_ok (s : State) (p : Port) (u : Sent) (hok : storeOk s.mem s.ecc) :
    storeOk (s.sendFrame p u).mem (s.sendFrame p u).ecc := by
  unfold State.sendFrame
  repeat' first | with_reducible assumption | with_reducible apply State.setPort_ok

theorem State.finishCut_ok (s : State) (p : Port) (f : YFrame) (torn : Option (List Byte)) (cells : List Nat) (hok :
  storeOk s.mem s.ecc) : storeOk (s.finishCut p f torn cells).mem (s.finishCut p f torn cells).ecc := by
  unfold State.finishCut
  repeat' first
    | with_reducible assumption | with_reducible apply State.setPort_ok | with_reducible apply State.sendFrame_ok
    | with_reducible apply State.countDiscard_ok | with_reducible apply State.freeCells_ok
    | with_reducible apply ok_foldl | with_reducible apply ok_ite | with_reducible apply ok_set
    | with_reducible apply ok_mram | with_reducible apply ok_filter | with_reducible apply ok_fold_set | split
    | intro _ _ _ | dsimp only

theorem State.breakCuts_ok (s : State) (p : Port) (hok : storeOk s.mem s.ecc) :
    storeOk (s.breakCuts p).mem (s.breakCuts p).ecc := by
  unfold State.breakCuts
  repeat' first
    | with_reducible assumption | with_reducible apply State.finishCut_ok | with_reducible apply State.useFree_ok
    | with_reducible apply State.setPort_ok | with_reducible apply ok_foldl | with_reducible apply ok_ite
    | with_reducible apply ok_set | with_reducible apply ok_mram | with_reducible apply ok_filter
    | with_reducible apply ok_fold_set | split | intro _ _ _ | dsimp only

theorem State.linkDown_ok (s : State) (p : Port) (value : Nat) (hok : storeOk s.mem s.ecc) :
    storeOk (s.linkDown p value).mem (s.linkDown p value).ecc := by
  unfold State.linkDown
  repeat' first
    | with_reducible assumption | with_reducible apply State.breakCuts_ok | with_reducible apply State.setPort_ok
    | with_reducible apply State.ringEvent_ok | with_reducible apply State.turnQueue_ok
    | with_reducible apply ok_foldl | with_reducible apply ok_ite

theorem State.linkUp_ok (s : State) (p : Port) (hok : storeOk s.mem s.ecc) :
    storeOk (s.linkUp p).mem (s.linkUp p).ecc := by
  unfold State.linkUp
  repeat' first
    | with_reducible assumption | with_reducible apply State.setPort_ok | with_reducible apply State.ringEvent_ok
    | with_reducible apply ok_foldl | with_reducible apply ok_ite

theorem State.proposeReset_ok (s : State) (p : Port) (cause : Nat) (hok : storeOk s.mem s.ecc) :
    storeOk (s.proposeReset p cause).mem (s.proposeReset p cause).ecc := by
  unfold State.proposeReset
  repeat' first | with_reducible assumption | with_reducible apply State.setPort_ok

theorem State.countReset_ok (s : State) (p : Port) (epoch cause : Nat) (hok : storeOk s.mem s.ecc) :
    storeOk (s.countReset p epoch cause).2.mem (s.countReset p epoch cause).2.ecc := by
  unfold State.countReset
  repeat' first
    | with_reducible assumption | with_reducible apply State.setPort_ok | with_reducible apply State.ringEvent_ok
    | with_reducible apply State.linkDown_ok | with_reducible apply ok_foldl | with_reducible apply ok_ite
    | with_reducible apply ok_set | with_reducible apply ok_mram | with_reducible apply ok_fold_set | split
    | intro _ _ _ | dsimp only

theorem State.exhausted_ok (s : State) (p : Port) (hok : storeOk s.mem s.ecc) :
    storeOk (s.exhausted p).mem (s.exhausted p).ecc := by
  unfold State.exhausted
  repeat' first
    | with_reducible assumption | with_reducible apply State.countReset_ok
    | with_reducible apply State.proposeReset_ok | with_reducible apply ok_foldl | with_reducible apply ok_ite

theorem State.completeReset_ok (s : State) (p : Port) (epoch : Nat) (hok : storeOk s.mem s.ecc) :
    storeOk (s.completeReset p epoch).mem (s.completeReset p epoch).ecc := by
  unfold State.completeReset
  repeat' first
    | with_reducible assumption | with_reducible apply State.breakCuts_ok | with_reducible apply State.setPort_ok
    | with_reducible apply State.freeCells_ok | with_reducible apply State.linkUp_ok | with_reducible apply ok_foldl
    | with_reducible apply ok_ite | with_reducible apply ok_set | with_reducible apply ok_mram
    | with_reducible apply ok_fold_set | split | intro _ _ _

theorem State.sampleLink_ok (s : State) (p : Port) (high : Bool) (hok : storeOk s.mem s.ecc) :
    storeOk (s.sampleLink p high).mem (s.sampleLink p high).ecc := by
  unfold State.sampleLink
  repeat' first
    | with_reducible assumption | with_reducible apply State.setPort_ok | with_reducible apply State.linkDown_ok
    | with_reducible apply ok_foldl | with_reducible apply ok_ite

theorem State.ageLimiters_ok (s : State) (l : List RawSample) (hok : storeOk s.mem s.ecc) :
    storeOk (s.ageLimiters l).mem (s.ageLimiters l).ecc := by
  exact hok

theorem State.followIdle_ok (s : State) (hok : storeOk s.mem s.ecc) :
    storeOk (s.followIdle).mem (s.followIdle).ecc := by
  unfold State.followIdle
  repeat' first | with_reducible assumption | with_reducible apply ok_foldl | with_reducible apply ok_ite

theorem State.setStatus_ok (s : State) (c : Nat) (x : Chan) (new : Nat) (hok : storeOk s.mem s.ecc) :
    storeOk (s.setStatus c x new).mem (s.setStatus c x new).ecc := by
  unfold State.setStatus
  repeat' first
    | with_reducible assumption | with_reducible apply State.channelRecord_ok
    | with_reducible apply State.followIdle_ok | with_reducible apply ok_foldl | with_reducible apply ok_ite

theorem State.discardHeld_ok (s : State) (c : Nat) (hok : storeOk s.mem s.ecc) :
    storeOk (s.discardHeld c).mem (s.discardHeld c).ecc := by
  unfold State.discardHeld
  repeat' first
    | with_reducible assumption | with_reducible apply State.releasePage_ok | with_reducible apply ok_foldl
    | with_reducible apply ok_ite | with_reducible apply ok_set | with_reducible apply ok_mram
    | with_reducible apply ok_filter | with_reducible apply ok_fold_set | split | intro _ _ _ | dsimp only

theorem State.withdraw_ok (s : State) (c : Nat) (x : Chan) (b : Bias) (hok : storeOk s.mem s.ecc) : storeOk
  (s.withdraw c x b).mem (s.withdraw c x b).ecc := by
  unfold State.withdraw
  repeat' first
    | with_reducible assumption | with_reducible apply State.setStatus_ok | with_reducible apply State.redoTurn_ok
    | with_reducible apply State.discardHeld_ok | with_reducible apply ok_foldl | with_reducible apply ok_ite
    | with_reducible apply ok_set | with_reducible apply ok_mram | with_reducible apply ok_filter
    | with_reducible apply ok_fold_set | split | intro _ _ _ | dsimp only

theorem State.evaluateBias_ok (s : State) (c uv : Nat) (hok : storeOk s.mem s.ecc) :
    storeOk (s.evaluateBias c uv).mem (s.evaluateBias c uv).ecc := by
  unfold State.evaluateBias
  repeat' first
    | with_reducible assumption | with_reducible apply State.setStatus_ok | with_reducible apply State.withdraw_ok
    | with_reducible apply ok_foldl | with_reducible apply ok_ite

theorem State.evaluateBiases_ok (s : State) (l : List Nat) (hok : storeOk s.mem s.ecc) :
    storeOk (s.evaluateBiases l).mem (s.evaluateBiases l).ecc := by
  unfold State.evaluateBiases
  repeat' first
    | with_reducible assumption | with_reducible apply State.evaluateBias_ok | with_reducible apply ok_foldl
    | with_reducible apply ok_ite | with_reducible apply ok_set | with_reducible apply ok_mram
    | with_reducible apply ok_fold_set | split | intro _ _ _

theorem State.evaluateShock_ok (s : State) (l : List Nat) (hok : storeOk s.mem s.ecc) :
    storeOk (s.evaluateShock l).mem (s.evaluateShock l).ecc := by
  exact hok

theorem State.wakeTick_ok (s : State) (wakeNLow : Bool) (hok : storeOk s.mem s.ecc) :
    storeOk (s.wakeTick wakeNLow).mem (s.wakeTick wakeNLow).ecc := by
  unfold State.wakeTick
  repeat' first
    | with_reducible assumption | with_reducible apply State.requestWake_ok | with_reducible apply ok_foldl
    | with_reducible apply ok_ite

theorem State.askFleet_ok (s : State) (kind bin : Nat) (vec : HV) (row : Nat) (gen : Option Nat) (reissue : Bool) (hok
  : storeOk s.mem s.ecc) : storeOk (s.askFleet kind bin vec row gen reissue).mem (s.askFleet kind bin vec row gen
  reissue).ecc := by
  unfold State.askFleet
  repeat' first
    | with_reducible assumption | with_reducible apply State.originate_ok | with_reducible apply ok_foldl
    | with_reducible apply ok_ite | with_reducible apply ok_set | with_reducible apply ok_mram
    | with_reducible apply ok_filter | with_reducible apply ok_fold_set | split | intro _ _ _ | dsimp only

theorem State.setSlotSeq_ok (s : State) (slot q : Nat) (hok : storeOk s.mem s.ecc) :
    storeOk (s.setSlotSeq slot q).mem (s.setSlotSeq slot q).ecc := by
  unfold State.setSlotSeq
  repeat' first | with_reducible assumption | with_reducible apply State.poke_ok

theorem State.forget_ok (s : State) (label : Nat) (hok : storeOk s.mem s.ecc) :
    storeOk (s.forget label).mem (s.forget label).ecc := by
  unfold State.forget
  repeat' first
    | with_reducible assumption | with_reducible apply State.freeRow_ok | with_reducible apply State.setSlotSeq_ok
    | with_reducible apply State.originate_ok | with_reducible apply State.teachRecord_ok
    | with_reducible apply ok_foldl | with_reducible apply ok_ite | with_reducible apply ok_set
    | with_reducible apply ok_mram | with_reducible apply ok_fold_set | split | intro _ _ _

theorem State.evict_ok (s : State) (row : Nat) (hok : storeOk s.mem s.ecc) :
    storeOk (s.evict row).mem (s.evict row).ecc := by
  unfold State.evict
  repeat' first
    | with_reducible assumption | with_reducible apply State.freeAccum_ok | with_reducible apply State.bumpLife_ok

theorem State.pushWrite_ok (s : State) (w : RowOp) (hok : storeOk s.mem s.ecc) :
    storeOk (s.pushWrite w).mem (s.pushWrite w).ecc := by
  exact hok

theorem State.spawn_ok (s : State) (vec : HV) (scope bin radius mu delta : Nat) (hok : storeOk s.mem s.ecc) :
    storeOk (s.spawn vec scope bin radius mu delta).1.mem (s.spawn vec scope bin radius mu delta).1.ecc := by
  unfold State.spawn
  repeat' first
    | with_reducible assumption | with_reducible apply State.pushWrite_ok | with_reducible apply State.evict_ok
    | with_reducible apply ok_foldl | with_reducible apply ok_ite | with_reducible apply ok_set
    | with_reducible apply ok_mram | with_reducible apply ok_fold_set | split

theorem State.admission_ok (s : State) (vec : HV) (row dist : Nat) (hok : storeOk s.mem s.ecc) :
    storeOk (s.admission vec row dist).mem (s.admission vec row dist).ecc := by
  unfold State.admission
  repeat' first
    | with_reducible assumption | with_reducible apply State.openAccum_ok
    | with_reducible apply State.admitCounters_ok | with_reducible apply State.pushWrite_ok

theorem State.addKindling_ok (s : State) (cell tRef : Nat) (hok : storeOk s.mem s.ecc) :
    storeOk (s.addKindling cell tRef).mem (s.addKindling cell tRef).ecc := by
  exact hok

theorem State.learnQuery_ok (fleet : List Diag) (t : Tick) (a : State × Option Nat) (q : Query)
    (hok : storeOk a.1.mem a.1.ecc) :
    storeOk (State.learnQuery fleet t a q).1.mem (State.learnQuery fleet t a q).1.ecc := by
  unfold State.learnQuery
  repeat' first
    | with_reducible assumption | with_reducible apply State.addKindling_ok | with_reducible apply State.admission_ok
    | with_reducible apply State.spawn_ok | with_reducible apply ok_foldl | with_reducible apply ok_ite
    | with_reducible apply ok_set | with_reducible apply ok_mram | with_reducible apply ok_fold_set | split
    | intro _ _ _ | dsimp only

theorem State.teachTimeoutAt_ok (s : State) (t : Tick) (hok : storeOk s.mem s.ecc) :
    storeOk (s.teachTimeoutAt t).mem (s.teachTimeoutAt t).ecc := by
  unfold State.teachTimeoutAt
  repeat' first
    | with_reducible assumption | with_reducible apply State.report_ok | with_reducible apply State.ashRecord_ok
    | with_reducible apply ok_foldl | with_reducible apply ok_ite | with_reducible apply ok_set
    | with_reducible apply ok_mram | with_reducible apply ok_fold_set | split

theorem State.announceTeach_ok (s : State) (slot : Nat) (tag : Tag) (data : HV) (hok : storeOk s.mem s.ecc) :
    storeOk (s.announceTeach slot tag data).mem (s.announceTeach slot tag data).ecc := by
  unfold State.announceTeach
  repeat' first
    | with_reducible assumption | with_reducible apply State.setSlotSeq_ok | with_reducible apply State.originate_ok
    | with_reducible apply ok_foldl | with_reducible apply ok_ite

theorem State.finishTeach_ok (s : State) (x : Teach) (bin : Nat) (hok : storeOk s.mem s.ecc) :
    storeOk (s.finishTeach x bin).mem (s.finishTeach x bin).ecc := by
  unfold State.finishTeach
  repeat' first
    | with_reducible assumption | with_reducible apply State.teachRecord_ok | with_reducible apply State.spawn_ok
    | with_reducible apply State.pushWrite_ok | with_reducible apply State.announceTeach_ok
    | with_reducible apply ok_foldl | with_reducible apply ok_ite | with_reducible apply ok_set
    | with_reducible apply ok_mram | with_reducible apply ok_fold_set | split | intro _ _ _ | dsimp only

theorem State.collectTeach_ok (s : State) (t : Tick) (hok : storeOk s.mem s.ecc) :
    storeOk (s.collectTeach t).mem (s.collectTeach t).ecc := by
  unfold State.collectTeach
  repeat' first
    | with_reducible assumption | with_reducible apply State.finishTeach_ok | with_reducible apply ok_foldl
    | with_reducible apply ok_ite | with_reducible apply ok_set | with_reducible apply ok_mram
    | with_reducible apply ok_fold_set | split

theorem State.markDue_ok (s : State) (hok : storeOk s.mem s.ecc) :
    storeOk (s.markDue).mem (s.markDue).ecc := by
  unfold State.markDue
  repeat' first | with_reducible assumption | with_reducible apply ok_foldl | with_reducible apply ok_ite

theorem State.seasonCells_ok (s : State) (hok : storeOk s.mem s.ecc) :
    storeOk (s.seasonCells).mem (s.seasonCells).ecc := by
  exact hok

theorem State.fleetQuestion_ok (s : State) (t : Tick) (seasoned : List Nat) (spawned : Option Nat) (hits : Nat)
    (hok : storeOk s.mem s.ecc) :
    storeOk (s.fleetQuestion t seasoned spawned hits).mem (s.fleetQuestion t seasoned spawned hits).ecc := by
  unfold State.fleetQuestion
  repeat' first
    | with_reducible assumption | with_reducible apply State.askFleet_ok | with_reducible apply ok_foldl
    | with_reducible apply ok_ite | with_reducible apply ok_set | with_reducible apply ok_mram
    | with_reducible apply ok_fold_set | split

theorem State.learnStage_ok (s : State) (t : Tick) (hok : storeOk s.mem s.ecc) :
    storeOk (s.learnStage t).mem (s.learnStage t).ecc := by
  have hq : ∀ (t : Tick) (fleet : List Diag) (l : List Query) (a : State × Option Nat), storeOk a.1.mem a.1.ecc →
      storeOk (l.foldl (State.learnQuery fleet t) a).1.mem (l.foldl (State.learnQuery fleet t) a).1.ecc := by
    intro t fleet l
    induction l with
    | nil => intro a h; exact h
    | cons q l ih => intro a h; exact ih _ (State.learnQuery_ok _ _ _ _ h)
  exact State.fleetQuestion_ok _ _ _ _ _ (State.seasonCells_ok _ (State.markDue_ok _ (State.collectTeach_ok _ _
    (State.teachTimeoutAt_ok _ _ (hq _ _ _ _ hok)))))

theorem State.frameEvent_ok (s : State) (code : Nat) (p : Port) (e2e value : Nat) (hok : storeOk s.mem s.ecc) :
    storeOk (s.frameEvent code p e2e value).mem (s.frameEvent code p e2e value).ecc := by
  unfold State.frameEvent
  repeat' first | with_reducible assumption | with_reducible apply State.ringEvent_ok

theorem State.unitEvent_ok (s : State) (code e2e value : Nat) (hok : storeOk s.mem s.ecc) :
    storeOk (s.unitEvent code e2e value).mem (s.unitEvent code e2e value).ecc := by
  unfold State.unitEvent
  repeat' first | with_reducible assumption | with_reducible apply State.ringEvent_ok

theorem State.ownCensus_ok (s : State) (p : Port) (f : YFrame) (hok : storeOk s.mem s.ecc) :
    storeOk (s.ownCensus p f).mem (s.ownCensus p f).ecc := by
  unfold State.ownCensus
  repeat' first
    | with_reducible assumption | with_reducible apply State.frameEvent_ok | with_reducible apply ok_foldl
    | with_reducible apply ok_ite

theorem State.census_ok (s : State) (p : Port) (f : YFrame) (hok : storeOk s.mem s.ecc) :
    storeOk (s.census p f).mem (s.census p f).ecc := by
  unfold State.census
  repeat' first
    | with_reducible assumption | with_reducible apply State.frameEvent_ok | with_reducible apply ok_foldl
    | with_reducible apply ok_ite

theorem State.refusePlace_ok (s : State) (p : Port) (e2e : Nat) (hok : storeOk s.mem s.ecc) :
    storeOk (s.refusePlace p e2e).mem (s.refusePlace p e2e).ecc := by
  unfold State.refusePlace
  repeat' first | with_reducible assumption | with_reducible apply State.frameEvent_ok

theorem State.place_ok (s : State) (p : Port) (e2e o i seq : Nat) (sent : Tag) (data : HV) (lost : Nat)
    (hok : storeOk s.mem s.ecc) :
    storeOk (s.place p e2e o i seq sent data lost).mem (s.place p e2e o i seq sent data lost).ecc := by
  unfold State.place
  repeat' first
    | with_reducible assumption | with_reducible apply State.refusePlace_ok | with_reducible apply State.writeRow_ok
    | with_reducible apply State.memoryEvent_ok | with_reducible apply State.frameEvent_ok
    | with_reducible apply ok_foldl | with_reducible apply ok_ite | with_reducible apply ok_set
    | with_reducible apply ok_mram | with_reducible apply ok_fold_set | split | intro _ _ _

theorem State.freeSlot_ok (s : State) (o i : Nat) (hok : storeOk s.mem s.ecc) :
    storeOk (s.freeSlot o i).mem (s.freeSlot o i).ecc := by
  unfold State.freeSlot
  repeat' first
    | with_reducible assumption | with_reducible apply State.setTag_ok | with_reducible apply ok_foldl
    | with_reducible apply ok_ite | with_reducible apply ok_set | with_reducible apply ok_mram
    | with_reducible apply ok_fold_set | split | intro _ _ _

theorem State.setFleetSeq_ok (s : State) (o w : Nat) (hok : storeOk s.mem s.ecc) :
    storeOk (s.setFleetSeq o w).mem (s.setFleetSeq o w).ecc := by
  unfold State.setFleetSeq
  repeat' first | with_reducible assumption | with_reducible apply State.poke_ok

theorem State.teachFrame_ok (s : State) (p : Port) (f : YFrame) (lost : Nat) (hok : storeOk s.mem s.ecc) :
    storeOk (s.teachFrame p f lost).mem (s.teachFrame p f lost).ecc := by
  unfold State.teachFrame
  repeat' first
    | with_reducible assumption | with_reducible apply State.setFleetSeq_ok | with_reducible apply State.place_ok
    | with_reducible apply State.freeSlot_ok | with_reducible apply ok_foldl | with_reducible apply ok_ite
    | with_reducible apply ok_set | with_reducible apply ok_mram | with_reducible apply ok_fold_set | split
    | intro _ _ _

theorem State.sweepFrame_ok (s : State) (p : Port) (f : YFrame) (lost : Nat) (hok : storeOk s.mem s.ecc) :
    storeOk (s.sweepFrame p f lost).mem (s.sweepFrame p f lost).ecc := by
  unfold State.sweepFrame
  repeat' first
    | with_reducible assumption | with_reducible apply State.freeSlot_ok | with_reducible apply State.place_ok
    | with_reducible apply ok_foldl | with_reducible apply ok_ite

theorem State.holdQuery_ok (s : State) (p : Port) (f : YFrame) (cells : List Nat) (hok : storeOk s.mem s.ecc) :
    storeOk (s.holdQuery p f cells).mem (s.holdQuery p f cells).ecc := by
  exact hok

theorem State.useResult_ok (s : State) (q : OwnQuery) (b : List Byte) (hok : storeOk s.mem s.ecc) :
    storeOk (s.useResult q b).mem (s.useResult q b).ecc := by
  unfold State.useResult
  repeat' first
    | with_reducible assumption | with_reducible apply State.pushWrite_ok | with_reducible apply ok_foldl
    | with_reducible apply ok_ite | with_reducible apply ok_set | with_reducible apply ok_mram
    | with_reducible apply ok_fold_set | split

theorem State.queryReturn_ok (s : State) (p : Port) (f : YFrame) (hok : storeOk s.mem s.ecc) :
    storeOk (s.queryReturn p f).mem (s.queryReturn p f).ecc := by
  unfold State.queryReturn
  repeat' first
    | with_reducible assumption | with_reducible apply State.frameEvent_ok | with_reducible apply State.useResult_ok
    | with_reducible apply ok_foldl | with_reducible apply ok_ite | with_reducible apply ok_set
    | with_reducible apply ok_mram | with_reducible apply ok_fold_set | split | intro _ _ _ | dsimp only

theorem State.relayedRecord_ok (s : State) (b : List Byte) (hok : storeOk s.mem s.ecc) :
    storeOk (s.relayedRecord b).mem (s.relayedRecord b).ecc := by
  unfold State.relayedRecord
  repeat' first
    | with_reducible assumption | with_reducible apply State.putFlue_ok | with_reducible apply ok_foldl
    | with_reducible apply ok_ite | with_reducible apply ok_set | with_reducible apply ok_mram
    | with_reducible apply ok_filter | with_reducible apply ok_fold_set | split | intro _ _ _ | dsimp only

theorem State.ownFrame_ok (s : State) (p : Port) (f : YFrame) (hok : storeOk s.mem s.ecc) :
    storeOk (s.ownFrame p f).mem (s.ownFrame p f).ecc := by
  unfold State.ownFrame
  repeat' first
    | with_reducible assumption | with_reducible apply State.frameEvent_ok | with_reducible apply State.ownCensus_ok
    | with_reducible apply State.queryReturn_ok | with_reducible apply ok_foldl | with_reducible apply ok_ite
    | with_reducible apply ok_set | with_reducible apply ok_mram | with_reducible apply ok_fold_set | split

theorem State.applyFrame_ok (s : State) (p : Port) (f : YFrame) (lost : Nat) (hok : storeOk s.mem s.ecc) : storeOk
  (s.applyFrame p f lost).mem (s.applyFrame p f lost).ecc := by
  unfold State.applyFrame
  repeat' first
    | with_reducible assumption | with_reducible apply State.teachFrame_ok | with_reducible apply State.sweepFrame_ok
      | with_reducible apply ok_foldl | with_reducible apply ok_ite | with_reducible apply ok_set | with_reducible
      apply ok_mram | with_reducible apply ok_filter | with_reducible apply ok_fold_set | split | intro _ _ _ | dsimp
      only

theorem State.placeFrame_ok (s : State) (p : Port) (f : YFrame) (lost : Nat) (hok : storeOk s.mem s.ecc) : storeOk
  (s.placeFrame p f lost).mem (s.placeFrame p f lost).ecc := by
  unfold State.placeFrame
  repeat' first
    | with_reducible assumption | with_reducible apply State.applyFrame_ok | with_reducible apply ok_foldl
    | with_reducible apply ok_ite | with_reducible apply ok_set | with_reducible apply ok_mram
    | with_reducible apply ok_filter | with_reducible apply ok_fold_set | split | intro _ _ _ | dsimp only

theorem State.landHeld_ok (s : State) (lost : Nat) (hok : storeOk s.mem s.ecc) :
    storeOk (s.landHeld lost).mem (s.landHeld lost).ecc := by
  unfold State.landHeld
  repeat' first
    | with_reducible assumption | with_reducible apply State.applyFrame_ok | with_reducible apply ok_foldl
    | with_reducible apply ok_ite | with_reducible apply ok_set | with_reducible apply ok_mram
    | with_reducible apply ok_filter | with_reducible apply ok_fold_set | split | intro _ _ _ | dsimp only

theorem State.processFrame_ok (s : State) (p : Port) (f : YFrame) (lost : Nat) (hok : storeOk s.mem s.ecc) : storeOk
  (s.processFrame p f lost).mem (s.processFrame p f lost).ecc := by
  unfold State.processFrame
  repeat' first
    | with_reducible assumption | with_reducible apply State.census_ok | with_reducible apply State.placeFrame_ok
    | with_reducible apply ok_foldl | with_reducible apply ok_ite | with_reducible apply ok_set
    | with_reducible apply ok_mram | with_reducible apply ok_filter | with_reducible apply ok_fold_set | split
    | intro _ _ _ | dsimp only

theorem State.deliverFrame_ok (s : State) (f : YFrame) (hok : storeOk s.mem s.ecc) :
    storeOk (s.deliverFrame f).mem (s.deliverFrame f).ecc := by
  unfold State.deliverFrame
  repeat' first
    | with_reducible assumption | with_reducible apply State.relayedRecord_ok | with_reducible apply ok_foldl
    | with_reducible apply ok_ite | with_reducible apply ok_set | with_reducible apply ok_mram
    | with_reducible apply ok_filter | with_reducible apply ok_fold_set | split | intro _ _ _ | dsimp only

theorem State.mirrorFinds_ok (s : State) (row : Nat) (hok : storeOk s.mem s.ecc) :
    storeOk (s.mirrorFinds row).mem (s.mirrorFinds row).ecc := by
  unfold State.mirrorFinds
  repeat' first
    | with_reducible assumption | with_reducible apply State.tagFound_ok | with_reducible apply State.metErrors_ok
    | with_reducible apply ok_foldl | with_reducible apply ok_ite

theorem State.mirrorRow_ok (s : State) (row : Nat) (hok : storeOk s.mem s.ecc) :
    storeOk (s.mirrorRow row).mem (s.mirrorRow row).ecc := by
  unfold State.mirrorRow
  repeat' first
    | with_reducible assumption | with_reducible apply State.mirrorFinds_ok | with_reducible apply ok_foldl
    | with_reducible apply ok_ite | with_reducible apply ok_set | with_reducible apply ok_mram
    | with_reducible apply ok_fold_set | split | intro _ _ _ | dsimp only

theorem State.commitAll_ok (s : State) (n : Nat) (hok : storeOk s.mem s.ecc) :
    storeOk (s.commitAll n).mem (s.commitAll n).ecc := by
  induction n generalizing s with
  | zero => exact hok
  | succ n ih =>
    rw [State.commitAll]
    split
    · exact hok
    · exact ih _ (State.commitEntry_ok _ _ hok)

theorem State.persistCounters_ok (s : State) (hok : storeOk s.mem s.ecc) :
    storeOk (s.persistCounters).mem (s.persistCounters).ecc := by
  unfold State.persistCounters
  repeat' first
    | with_reducible assumption | with_reducible apply State.poke_ok | with_reducible apply State.wipe_ok
    | with_reducible apply ok_foldl | with_reducible apply ok_ite | with_reducible apply ok_set
    | with_reducible apply ok_mram | with_reducible apply ok_fold_set | split | intro _ _ _

theorem State.storeParams_ok (s : State) (hok : storeOk s.mem s.ecc) :
    storeOk (s.storeParams).mem (s.storeParams).ecc := by
  unfold State.storeParams
  repeat' first | with_reducible assumption | with_reducible apply State.poke_ok

theorem State.builtInPlan_ok (s : State) (hok : storeOk s.mem s.ecc) :
    storeOk (s.builtInPlan).mem (s.builtInPlan).ecc := by
  unfold State.builtInPlan
  repeat' first
    | with_reducible assumption | with_reducible apply State.wipe_ok | with_reducible apply State.storeParams_ok

theorem State.withoutImage_ok (s : State) (hok : storeOk s.mem s.ecc) :
    storeOk (s.withoutImage).mem (s.withoutImage).ecc := by
  unfold State.withoutImage
  repeat' first
    | with_reducible assumption | with_reducible apply State.builtInPlan_ok
    | with_reducible apply State.storeParams_ok | with_reducible apply State.buildItems_ok

theorem State.refusalEvent_ok (s : State) (cause addr : Nat) (hok : storeOk s.mem s.ecc) :
    storeOk (s.refusalEvent cause addr).mem (s.refusalEvent cause addr).ecc := by
  unfold State.refusalEvent
  repeat' first | with_reducible assumption | with_reducible apply State.memoryEvent_ok

theorem State.refuse_ok (s : State) (cause addr : Nat) (hok : storeOk s.mem s.ecc) :
    storeOk (s.refuse cause addr).mem (s.refuse cause addr).ecc := by
  unfold State.refuse
  repeat' first
    | with_reducible assumption | with_reducible apply State.withoutImage_ok
    | with_reducible apply State.refusalEvent_ok

theorem State.startLibrary_ok (s : State) (hok : storeOk s.mem s.ecc) :
    storeOk (s.startLibrary).mem (s.startLibrary).ecc := by
  unfold State.startLibrary
  repeat' first
    | with_reducible assumption | with_reducible apply State.withoutImage_ok | with_reducible apply ok_foldl
    | with_reducible apply ok_ite

theorem State.planArrives_ok (s : State) (item : List Byte) (hok : storeOk s.mem s.ecc) :
    storeOk (s.planArrives item).mem (s.planArrives item).ecc := by
  unfold State.planArrives
  repeat' first
    | with_reducible assumption | with_reducible apply State.refuse_ok | with_reducible apply ok_foldl
    | with_reducible apply ok_ite | with_reducible apply ok_set | with_reducible apply ok_mram
    | with_reducible apply ok_fold_set | split

theorem State.loadRow_ok (s : State) (i : Nat) (item : List Byte) (hok : storeOk s.mem s.ecc) :
    storeOk (s.loadRow i item).mem (s.loadRow i item).ecc := by
  unfold State.loadRow
  repeat' first
    | with_reducible assumption | with_reducible apply State.writeRow_ok | with_reducible apply ok_foldl
    | with_reducible apply ok_ite | with_reducible apply ok_set | with_reducible apply ok_mram
    | with_reducible apply ok_filter | with_reducible apply ok_fold_set | split | intro _ _ _ | dsimp only

theorem State.recordArrives_ok (s : State) (i : Nat) (item : List Byte) (hok : storeOk s.mem s.ecc) : storeOk
  (s.recordArrives i item).mem (s.recordArrives i item).ecc := by
  unfold State.recordArrives
  repeat' first
    | with_reducible assumption | with_reducible apply State.refuse_ok | with_reducible apply State.loadRow_ok
    | with_reducible apply ok_foldl | with_reducible apply ok_ite | with_reducible apply ok_set
    | with_reducible apply ok_mram | with_reducible apply ok_filter | with_reducible apply ok_fold_set | split
    | intro _ _ _ | dsimp only

theorem State.acceptImage_ok (s : State) (hok : storeOk s.mem s.ecc) :
    storeOk (s.acceptImage).mem (s.acceptImage).ecc := by
  unfold State.acceptImage
  repeat' first
    | with_reducible assumption | with_reducible apply State.setTag_ok | with_reducible apply State.poke_ok
    | with_reducible apply State.storeParams_ok | with_reducible apply State.buildItems_ok
    | with_reducible apply ok_foldl | with_reducible apply ok_ite | with_reducible apply ok_set
    | with_reducible apply ok_mram | with_reducible apply ok_fold_set | split | intro _ _ _

theorem State.served_ok (s : State) (hok : storeOk s.mem s.ecc) :
    storeOk (s.served).mem (s.served).ecc := by
  exact hok

theorem State.invalidateLibrary_ok (s : State) (hok : storeOk s.mem s.ecc) :
    storeOk (s.invalidateLibrary).mem (s.invalidateLibrary).ecc := by
  unfold State.invalidateLibrary
  repeat' first
    | with_reducible assumption | with_reducible apply State.setTag_ok | with_reducible apply ok_foldl
    | with_reducible apply ok_ite | with_reducible apply ok_set | with_reducible apply ok_mram
    | with_reducible apply ok_fold_set | split | intro _ _ _

theorem State.planAttempt_ok (s : State) (item : List Byte) (hok : storeOk s.mem s.ecc) :
    storeOk (s.planAttempt item).mem (s.planAttempt item).ecc := by
  unfold State.planAttempt
  repeat' first
    | with_reducible assumption | with_reducible apply State.wipe_ok | with_reducible apply State.poke_ok
    | with_reducible apply State.storeParams_ok | with_reducible apply State.served_ok
    | with_reducible apply State.builtInPlan_ok | with_reducible apply State.invalidateLibrary_ok
    | with_reducible apply State.refusalEvent_ok | with_reducible apply ok_foldl | with_reducible apply ok_ite

theorem State.applySegments_ok (s : State) (item : List Byte) (row gen lost : Nat) (again : Bool)
    (hok : storeOk s.mem s.ecc) :
    storeOk (s.applySegments item row gen lost again).mem (s.applySegments item row gen lost again).ecc := by
  unfold State.applySegments
  repeat' first
    | with_reducible assumption | with_reducible apply State.served_ok | with_reducible apply State.tagFound_ok
    | with_reducible apply State.request_ok | with_reducible apply State.healSegments_ok
    | with_reducible apply ok_foldl | with_reducible apply ok_ite | with_reducible apply ok_set
    | with_reducible apply ok_mram | with_reducible apply ok_filter | with_reducible apply ok_fold_set | split
    | intro _ _ _ | dsimp only

theorem State.applyFull_ok (s : State) (item : List Byte) (row gen lost : Nat) (again : Bool)
    (hok : storeOk s.mem s.ecc) :
    storeOk (s.applyFull item row gen lost again).mem (s.applyFull item row gen lost again).ecc := by
  unfold State.applyFull
  repeat' first
    | with_reducible assumption | with_reducible apply State.served_ok | with_reducible apply State.tagFound_ok
    | with_reducible apply State.request_ok | with_reducible apply State.writeRow_ok
    | with_reducible apply State.bumpLife_ok | with_reducible apply ok_foldl | with_reducible apply ok_ite
    | with_reducible apply ok_set | with_reducible apply ok_mram | with_reducible apply ok_filter
    | with_reducible apply ok_fold_set | split | intro _ _ _ | dsimp only

theorem State.fillFlash_ok (s : State) (item : List Byte) (hok : storeOk s.mem s.ecc) :
    storeOk (s.fillFlash item).mem (s.fillFlash item).ecc := by
  exact hok

theorem State.applyItem_ok (s : State) (item : List Byte) (lost : Nat) (hok : storeOk s.mem s.ecc) : storeOk
  (s.applyItem item lost).mem (s.applyItem item lost).ecc := by
  unfold State.applyItem
  repeat' first
    | with_reducible assumption | with_reducible apply State.planAttempt_ok
    | with_reducible apply State.applySegments_ok | with_reducible apply State.applyFull_ok
    | with_reducible apply ok_foldl | with_reducible apply ok_ite | with_reducible apply ok_set
    | with_reducible apply ok_mram | with_reducible apply ok_filter | with_reducible apply ok_fold_set | split
    | intro _ _ _ | dsimp only

theorem State.editFrame_ok (s : State) (tick chan : Nat) (f : ChanFrame → ChanFrame) (hok : storeOk s.mem s.ecc) :
    storeOk (s.editFrame tick chan f).mem (s.editFrame tick chan f).ecc := by
  exact hok

theorem State.wordEvent_ok (s : State) (ev : Nat) (m : Master) (addr : Nat) (hok : storeOk s.mem s.ecc) :
    storeOk (s.wordEvent ev m addr).mem (s.wordEvent ev m addr).ecc := by
  unfold State.wordEvent
  repeat' first | with_reducible assumption | with_reducible apply State.memoryEvent_ok

theorem State.planBad_ok (s : State) (m : Master) (addr : Nat) (hok : storeOk s.mem s.ecc) :
    storeOk (s.planBad m addr).mem (s.planBad m addr).ecc := by
  unfold State.planBad
  repeat' first
    | with_reducible assumption | with_reducible apply State.wordEvent_ok | with_reducible apply State.request_ok
    | with_reducible apply State.builtInPlan_ok | with_reducible apply ok_foldl | with_reducible apply ok_ite

theorem State.extract_ok (s : State) (array : Nat) (job : ArrayJob) (t : Tick) (f : ChanFrame)
    (hok : storeOk s.mem s.ecc) :
    storeOk (s.extract array job t f).mem (s.extract array job t f).ecc := by
  unfold State.extract
  repeat' first
    | with_reducible assumption | with_reducible apply State.useFree_ok | with_reducible apply State.editFrame_ok
    | with_reducible apply State.freePage_ok | with_reducible apply ok_foldl | with_reducible apply ok_ite

theorem State.restartJob_ok (s : State) (array : Nat) (hok : storeOk s.mem s.ecc) :
    storeOk (s.restartJob array).mem (s.restartJob array).ecc := by
  exact hok

theorem State.startRebuild_ok (s : State) (m : Master) (addr : Nat) (hok : storeOk s.mem s.ecc) :
    storeOk (s.startRebuild m addr).mem (s.startRebuild m addr).ecc := by
  unfold State.startRebuild
  repeat' first | with_reducible assumption | with_reducible apply State.wordEvent_ok

theorem State.encode_ok (s : State) (t : Tick) (hok : storeOk s.mem s.ecc) :
    storeOk (s.encode t).mem (s.encode t).ecc := by
  unfold State.encode
  repeat' first
    | with_reducible assumption | with_reducible apply State.clearHistory_ok
    | with_reducible apply State.pushHistory_ok | with_reducible apply ok_foldl | with_reducible apply ok_ite

theorem State.startQuery_ok (s : State) (scan : Nat) (origin : Origin) (v : HV) (q : Filter)
    (hok : storeOk s.mem s.ecc) :
    storeOk (s.startQuery scan origin v q).mem (s.startQuery scan origin v q).ecc := by
  exact hok

theorem State.startLocal_ok (s : State) (scan : Nat) (t : Tick) (i : Nat) (q : Query) (hok : storeOk s.mem s.ecc) :
    storeOk (s.startLocal scan t i q).mem (s.startLocal scan t i q).ecc := by
  exact hok

theorem State.startFleet_ok (s : State) (scan : Nat) (j : Job) (hok : storeOk s.mem s.ecc) :
    storeOk (s.startFleet scan j).mem (s.startFleet scan j).ecc := by
  unfold State.startFleet
  repeat' first
    | with_reducible assumption | with_reducible apply State.dropJob_ok | with_reducible apply State.wordEvent_ok
    | with_reducible apply State.startQuery_ok | with_reducible apply ok_foldl | with_reducible apply ok_ite
    | with_reducible apply ok_set | with_reducible apply ok_mram | with_reducible apply ok_filter
    | with_reducible apply ok_fold_set | split | intro _ _ _ | dsimp only

theorem State.deliverRecall_ok (s : State) (q : InFlight) (r : Recall) (hok : storeOk s.mem s.ecc) :
    storeOk (s.deliverRecall q r).mem (s.deliverRecall q r).ecc := by
  unfold State.deliverRecall
  repeat' first
    | with_reducible assumption | with_reducible apply ok_foldl | with_reducible apply ok_ite
    | with_reducible apply ok_set | with_reducible apply ok_mram | with_reducible apply ok_fold_set | split

theorem State.notePeer_ok (s : State) (p : Port) (b : List Byte) (hok : storeOk s.mem s.ecc) :
    storeOk (s.notePeer p b).mem (s.notePeer p b).ecc := by
  unfold State.notePeer
  repeat' first | with_reducible assumption | with_reducible apply State.setPort_ok

theorem State.answerReset_ok (s : State) (p : Port) (e cause : Nat) (hok : storeOk s.mem s.ecc) : storeOk
  (s.answerReset p e cause).mem (s.answerReset p e cause).ecc := by
  exact hok

theorem State.adoptReset_ok (s : State) (p : Port) (e cause : Nat) (hok : storeOk s.mem s.ecc) :
    storeOk (s.adoptReset p e cause).mem (s.adoptReset p e cause).ecc := by
  unfold State.adoptReset
  repeat' first
    | with_reducible assumption | with_reducible apply State.answerReset_ok | with_reducible apply State.countReset_ok
    | with_reducible apply State.completeReset_ok | with_reducible apply ok_foldl | with_reducible apply ok_ite
    | with_reducible apply ok_set | with_reducible apply ok_mram | with_reducible apply ok_filter
    | with_reducible apply ok_fold_set | split | intro _ _ _ | dsimp only

theorem State.resendReset_ok (s : State) (p : Port) (hok : storeOk s.mem s.ecc) :
    storeOk (s.resendReset p).mem (s.resendReset p).ecc := by
  unfold State.resendReset
  repeat' first
    | with_reducible assumption | with_reducible apply State.setPort_ok | with_reducible apply ok_foldl
    | with_reducible apply ok_ite | with_reducible apply ok_set | with_reducible apply ok_mram
    | with_reducible apply ok_fold_set | split | intro _ _ _ | dsimp only

theorem State.goBack_ok (s : State) (p : Port) (hok : storeOk s.mem s.ecc) :
    storeOk (s.goBack p).mem (s.goBack p).ecc := by
  unfold State.goBack
  repeat' first
    | with_reducible assumption | with_reducible apply State.exhausted_ok | with_reducible apply State.setPort_ok
    | with_reducible apply ok_foldl | with_reducible apply ok_ite | with_reducible apply ok_set
    | with_reducible apply ok_mram | with_reducible apply ok_fold_set | split | intro _ _ _ | dsimp only

theorem State.takeAck_ok (s : State) (p : Port) (h : Header) (hok : storeOk s.mem s.ecc) :
    storeOk (s.takeAck p h).mem (s.takeAck p h).ecc := by
  unfold State.takeAck
  repeat' first
    | with_reducible assumption | with_reducible apply State.setPort_ok | with_reducible apply State.freeCells_ok
    | with_reducible apply State.goBack_ok | with_reducible apply ok_foldl | with_reducible apply ok_ite
    | with_reducible apply ok_set | with_reducible apply ok_mram | with_reducible apply ok_fold_set | split
    | intro _ _ _

theorem State.forward_ok (s : State) (p : Port) (f : YFrame) (cells : List Nat) (since : Nat)
    (hok : storeOk s.mem s.ecc) :
    storeOk (s.forward p f cells since).mem (s.forward p f cells since).ecc := by
  unfold State.forward
  repeat' first
    | with_reducible assumption | with_reducible apply State.countDiscard_ok | with_reducible apply State.freeCells_ok
    | with_reducible apply ok_foldl | with_reducible apply ok_ite | with_reducible apply ok_set
    | with_reducible apply ok_mram | with_reducible apply ok_fold_set | split

theorem State.acceptFrame_ok (s : State) (p : Port) (f : YFrame) (cells : List Nat) (lost : Nat)
    (hok : storeOk s.mem s.ecc) :
    storeOk (s.acceptFrame p f cells lost).mem (s.acceptFrame p f cells lost).ecc := by
  unfold State.acceptFrame
  repeat' first
    | with_reducible assumption | with_reducible apply State.finishCut_ok | with_reducible apply State.forward_ok
    | with_reducible apply State.freeCells_ok | with_reducible apply State.ownFrame_ok
    | with_reducible apply State.frameEvent_ok | with_reducible apply State.holdQuery_ok
    | with_reducible apply State.processFrame_ok | with_reducible apply State.deliverFrame_ok
    | with_reducible apply ok_foldl | with_reducible apply ok_ite

theorem State.rejectFrame_ok (s : State) (p : Port) (b : List Byte) (hok : storeOk s.mem s.ecc) : storeOk
  (s.rejectFrame p b).mem (s.rejectFrame p b).ecc := by
  unfold State.rejectFrame
  repeat' first
    | with_reducible assumption | with_reducible apply State.finishCut_ok | with_reducible apply State.setPort_ok
    | with_reducible apply ok_foldl | with_reducible apply ok_ite | with_reducible apply ok_set
    | with_reducible apply ok_mram | with_reducible apply ok_filter | with_reducible apply ok_fold_set | split
    | intro _ _ _ | dsimp only

theorem State.acceptHop_ok (s : State) (p : Port) (hok : storeOk s.mem s.ecc) :
    storeOk (s.acceptHop p).mem (s.acceptHop p).ecc := by
  unfold State.acceptHop
  repeat' first | with_reducible assumption | with_reducible apply State.setPort_ok

theorem State.discardContent_ok (s : State) (p : Port) (h : Header) (b : List Byte) (hok : storeOk s.mem s.ecc) :
    storeOk (s.discardContent p h b).mem (s.discardContent p h b).ecc := by
  unfold State.discardContent
  repeat' first
    | with_reducible assumption | with_reducible apply State.finishCut_ok | with_reducible apply State.countDiscard_ok
    | with_reducible apply State.creditFreed_ok | with_reducible apply ok_foldl | with_reducible apply ok_ite
    | with_reducible apply ok_set | with_reducible apply ok_mram | with_reducible apply ok_filter
    | with_reducible apply ok_fold_set | split | intro _ _ _ | dsimp only

theorem State.takeContent_ok (s : State) (p : Port) (b : List Byte) (lost : Nat) (hok : storeOk s.mem s.ecc) : storeOk
  (s.takeContent p b lost).mem (s.takeContent p b lost).ecc := by
  unfold State.takeContent
  repeat' first
    | with_reducible assumption | with_reducible apply State.discardContent_ok
    | with_reducible apply State.takeCells_ok | with_reducible apply State.acceptFrame_ok
    | with_reducible apply ok_foldl | with_reducible apply ok_ite | with_reducible apply ok_set
    | with_reducible apply ok_mram | with_reducible apply ok_filter | with_reducible apply ok_fold_set | split
    | intro _ _ _ | dsimp only

theorem State.receiveData_ok (s : State) (p : Port) (b : List Byte) (lost : Nat) (hok : storeOk s.mem s.ecc) : storeOk
  (s.receiveData p b lost).mem (s.receiveData p b lost).ecc := by
  unfold State.receiveData
  repeat' first
    | with_reducible assumption | with_reducible apply State.rejectFrame_ok | with_reducible apply State.takeAck_ok
    | with_reducible apply State.acceptHop_ok | with_reducible apply State.takeContent_ok
    | with_reducible apply ok_foldl | with_reducible apply ok_ite | with_reducible apply ok_set
    | with_reducible apply ok_mram | with_reducible apply ok_filter | with_reducible apply ok_fold_set | split
    | intro _ _ _ | dsimp only

theorem State.drainPort_ok (s : State) (p : Port) (hok : storeOk s.mem s.ecc) :
    storeOk (s.drainPort p).mem (s.drainPort p).ecc := by
  unfold State.drainPort
  repeat' first
    | with_reducible assumption | with_reducible apply State.takeContent_ok | with_reducible apply ok_foldl
    | with_reducible apply ok_ite | with_reducible apply ok_set | with_reducible apply ok_mram
    | with_reducible apply ok_filter | with_reducible apply ok_fold_set | split | intro _ _ _ | dsimp only

theorem State.startCut_ok (s : State) (p : Port) (h : Header) (hok : storeOk s.mem s.ecc) :
    storeOk (s.startCut p h).mem (s.startCut p h).ecc := by
  unfold State.startCut
  repeat' first | with_reducible assumption | with_reducible apply State.setPort_ok

theorem State.sendLink_ok (s : State) (p : Port) (l : LinkFrame) (hok : storeOk s.mem s.ecc) :
    storeOk (s.sendLink p l).mem (s.sendLink p l).ecc := by
  unfold State.sendLink
  repeat' first
    | with_reducible assumption | with_reducible apply State.setPort_ok | with_reducible apply ok_foldl
    | with_reducible apply ok_ite | with_reducible apply ok_set | with_reducible apply ok_mram
    | with_reducible apply ok_fold_set | split

theorem State.sendAgain_ok (s : State) (p : Port) (u : Sent) (hok : storeOk s.mem s.ecc) :
    storeOk (s.sendAgain p u).mem (s.sendAgain p u).ecc := by
  unfold State.sendAgain
  repeat' first
    | with_reducible assumption | with_reducible apply State.setPort_ok | with_reducible apply State.sendFrame_ok

theorem State.sendData_ok (s : State) (p : Port) (q : QFrame) (hok : storeOk s.mem s.ecc) :
    storeOk (s.sendData p q).mem (s.sendData p q).ecc := by
  unfold State.sendData
  repeat' first
    | with_reducible assumption | with_reducible apply State.setPort_ok | with_reducible apply State.served_ok
    | with_reducible apply State.sendFrame_ok

theorem State.ageOut_ok (s : State) (hok : storeOk s.mem s.ecc) :
    storeOk (s.ageOut).mem (s.ageOut).ecc := by
  unfold State.ageOut
  repeat' first | with_reducible assumption | with_reducible apply State.dropQueued_ok | with_reducible apply ok_foldl

theorem State.foldJob_ok (s : State) (j : Job) (hok : storeOk s.mem s.ecc) :
    storeOk (s.foldJob j).mem (s.foldJob j).ecc := by
  unfold State.foldJob
  repeat' first
    | with_reducible assumption | with_reducible apply State.dropJob_ok | with_reducible apply State.wordEvent_ok
    | with_reducible apply State.forward_ok | with_reducible apply ok_foldl | with_reducible apply ok_ite
    | with_reducible apply ok_set | with_reducible apply ok_mram | with_reducible apply ok_filter
    | with_reducible apply ok_fold_set | split | intro _ _ _ | dsimp only

theorem State.queryFired_ok (s : State) (q : OwnQuery) (hok : storeOk s.mem s.ecc) :
    storeOk (s.queryFired q).mem (s.queryFired q).ecc := by
  unfold State.queryFired
  repeat' first
    | with_reducible assumption | with_reducible apply State.askFleet_ok | with_reducible apply State.unitEvent_ok
    | with_reducible apply ok_foldl | with_reducible apply ok_ite

theorem State.sweepNext_ok (s : State) (hok : storeOk s.mem s.ecc) :
    storeOk (s.sweepNext).mem (s.sweepNext).ecc := by
  unfold State.sweepNext
  repeat' first
    | with_reducible assumption | with_reducible apply State.originate_ok | with_reducible apply ok_foldl
    | with_reducible apply ok_ite

theorem State.resume_ok (s : State) (began : Nat) (hok : storeOk s.mem s.ecc) :
    storeOk (s.resume began).mem (s.resume began).ecc := by
  exact hok

theorem State.freePages_ok (s : State) (hok : storeOk s.mem s.ecc) :
    storeOk (s.freePages).mem (s.freePages).ecc := by
  unfold State.freePages
  repeat' first
    | with_reducible assumption | with_reducible apply State.releasePage_ok | with_reducible apply State.redoTurn_ok
    | with_reducible apply ok_foldl | with_reducible apply ok_ite | with_reducible apply ok_set
    | with_reducible apply ok_mram | with_reducible apply ok_filter | with_reducible apply ok_fold_set | split
    | intro _ _ _ | dsimp only

theorem State.drainCrossing_ok (s : State) (hok : storeOk s.mem s.ecc) :
    storeOk (s.drainCrossing).mem (s.drainCrossing).ecc := by
  unfold State.drainCrossing
  repeat' first
    | with_reducible assumption | with_reducible apply State.drainSamples_ok | with_reducible apply State.drainPort_ok
      | with_reducible apply ok_foldl | with_reducible apply ok_ite | with_reducible apply ok_set | with_reducible
      apply ok_mram | with_reducible apply ok_filter | with_reducible apply ok_fold_set | split | intro _ _ _ | dsimp
      only

theorem State.railFalls_ok (s : State) (rail : Rail) (progress : MramProgress) (hok : storeOk s.mem s.ecc) : storeOk
  (s.railFalls rail progress).mem (s.railFalls rail progress).ecc := by
  unfold State.railFalls
  repeat' first
    | with_reducible assumption | with_reducible apply State.stopMram_ok | with_reducible apply State.enterReset_ok
    | with_reducible apply State.tapOff_ok | with_reducible apply ok_foldl | with_reducible apply ok_ite
    | with_reducible apply ok_set | with_reducible apply ok_mram | with_reducible apply ok_filter
    | with_reducible apply ok_fold_set | split | intro _ _ _ | dsimp only

theorem State.railRises_ok (s : State) (rail : Rail) (hok : storeOk s.mem s.ecc) :
    storeOk (s.railRises rail).mem (s.railRises rail).ecc := by
  unfold State.railRises
  repeat' first
    | with_reducible assumption | with_reducible apply ok_foldl | with_reducible apply ok_ite
    | with_reducible apply ok_set | with_reducible apply ok_mram | with_reducible apply ok_filter
    | with_reducible apply ok_fold_set | split | intro _ _ _ | dsimp only

theorem State.oscillatorSettles_ok (s : State) (hok : storeOk s.mem s.ecc) :
    storeOk (s.oscillatorSettles).mem (s.oscillatorSettles).ecc := by
  unfold State.oscillatorSettles
  repeat' first
    | with_reducible assumption | with_reducible apply ok_foldl | with_reducible apply ok_ite
    | with_reducible apply ok_set | with_reducible apply ok_mram | with_reducible apply ok_filter
    | with_reducible apply ok_fold_set | split | intro _ _ _ | dsimp only

theorem State.findHead_ok (s : State) (hok : storeOk s.mem s.ecc) :
    storeOk (s.findHead).mem (s.findHead).ecc := by
  exact hok

theorem State.startFail_ok (s : State) (p : MramProgress) (own : Option (List Byte)) (hok : storeOk s.mem s.ecc) :
    storeOk (s.startFail p own).mem (s.startFail p own).ecc := by
  unfold State.startFail
  repeat' first
    | with_reducible assumption | with_reducible apply State.stopMram_ok | with_reducible apply ok_foldl
    | with_reducible apply ok_ite | with_reducible apply ok_set | with_reducible apply ok_mram
    | with_reducible apply ok_filter | with_reducible apply ok_fold_set | split | intro _ _ _ | dsimp only

theorem State.discardQueue_ok (s : State) (hok : storeOk s.mem s.ecc) :
    storeOk (s.discardQueue).mem (s.discardQueue).ecc := by
  exact hok

theorem State.failHeartbeat_ok (s : State) (hok : storeOk s.mem s.ecc) :
    storeOk (s.failHeartbeat).mem (s.failHeartbeat).ecc := by
  unfold State.failHeartbeat
  repeat' first
    | with_reducible assumption | with_reducible apply State.putFlue_ok | with_reducible apply ok_foldl
    | with_reducible apply ok_ite | with_reducible apply ok_set | with_reducible apply ok_mram
    | with_reducible apply ok_filter | with_reducible apply ok_fold_set | split | intro _ _ _ | dsimp only

theorem State.failSequence_ok (s : State) (p : MramProgress) (hok : storeOk s.mem s.ecc) :
    storeOk (s.failSequence p).mem (s.failSequence p).ecc := by
  unfold State.failSequence
  repeat' first
    | with_reducible assumption | with_reducible apply State.startFail_ok
    | with_reducible apply State.failHeartbeat_ok | with_reducible apply State.discardQueue_ok
    | with_reducible apply ok_foldl | with_reducible apply ok_ite | with_reducible apply ok_set
    | with_reducible apply ok_mram | with_reducible apply ok_filter | with_reducible apply ok_fold_set | split
    | intro _ _ _ | dsimp only

theorem State.enterPowerFail_ok (s : State) (p : MramProgress) (hok : storeOk s.mem s.ecc) :
    storeOk (s.enterPowerFail p).mem (s.enterPowerFail p).ecc := by
  unfold State.enterPowerFail
  repeat' first
    | with_reducible assumption | with_reducible apply State.failSequence_ok | with_reducible apply State.unwatch_ok
    | with_reducible apply ok_foldl | with_reducible apply ok_ite | with_reducible apply ok_set
    | with_reducible apply ok_mram | with_reducible apply ok_filter | with_reducible apply ok_fold_set | split
    | intro _ _ _ | dsimp only

theorem State.watchSupply_ok (s : State) (vsys : Nat) (hok : storeOk s.mem s.ecc) :
    storeOk (s.watchSupply vsys).mem (s.watchSupply vsys).ecc := by
  exact hok

theorem State.countBoot_ok (s : State) (hok : storeOk s.mem s.ecc) :
    storeOk (s.countBoot).mem (s.countBoot).ecc := by
  unfold State.countBoot
  repeat' first | with_reducible assumption | with_reducible apply State.poke_ok

theorem State.bootRecords_ok (s : State) (failed : Option Nat) (hok : storeOk s.mem s.ecc) :
    storeOk (s.bootRecords failed).mem (s.bootRecords failed).ecc := by
  unfold State.bootRecords
  repeat' first
    | with_reducible assumption | with_reducible apply State.report_ok | with_reducible apply State.ashRecord_ok

theorem State.enterConfigFault_ok (s : State) (hok : storeOk s.mem s.ecc) :
    storeOk (s.enterConfigFault).mem (s.enterConfigFault).ecc := by
  exact hok

theorem State.feedDump_ok (s : State) (hok : storeOk s.mem s.ecc) :
    storeOk (s.feedDump).mem (s.feedDump).ecc := by
  unfold State.feedDump
  repeat' first
    | with_reducible assumption | with_reducible apply State.report_ok | with_reducible apply ok_foldl
    | with_reducible apply ok_ite

theorem State.writeHead_ok (s : State) (hok : storeOk s.mem s.ecc) :
    storeOk (s.writeHead).mem (s.writeHead).ecc := by
  unfold State.writeHead
  repeat' first
    | with_reducible assumption | with_reducible apply State.writeAsh_ok | with_reducible apply State.originate_ok
    | with_reducible apply ok_foldl | with_reducible apply ok_ite | with_reducible apply ok_set
    | with_reducible apply ok_mram | with_reducible apply ok_fold_set | split | intro _ _ _ | dsimp only

theorem State.deliver_ok (s : State) (sink : Sink) (hok : storeOk s.mem s.ecc) :
    storeOk (s.deliver sink).mem (s.deliver sink).ecc := by
  unfold State.deliver
  repeat' first
    | with_reducible assumption | with_reducible apply State.ashRecord_ok | with_reducible apply State.report_ok
    | with_reducible apply ok_foldl | with_reducible apply ok_ite | with_reducible apply ok_set
    | with_reducible apply ok_mram | with_reducible apply ok_fold_set | split

theorem State.spoilHead_ok (s : State) (r : FlueRec) (rest : List FlueRec) (hok : storeOk s.mem s.ecc) :
    storeOk (s.spoilHead r rest).mem (s.spoilHead r rest).ecc := by
  unfold State.spoilHead
  repeat' first
    | with_reducible assumption | with_reducible apply State.routeFlue_ok | with_reducible apply State.routeAsh_ok
    | with_reducible apply State.memoryEvent_ok | with_reducible apply ok_foldl | with_reducible apply ok_ite

theorem State.sendHead_ok (s : State) (r : FlueRec) (rest : List FlueRec) (hok : storeOk s.mem s.ecc) :
    storeOk (s.sendHead r rest).mem (s.sendHead r rest).ecc := by
  exact hok

theorem State.retireBanks_ok (s : State) (left : List ArrayFault) (hok : storeOk s.mem s.ecc) :
    storeOk (s.retireBanks left).mem (s.retireBanks left).ecc := by
  unfold State.retireBanks
  repeat' first
    | with_reducible assumption | with_reducible apply State.memoryEvent_ok | with_reducible apply ok_foldl
    | with_reducible apply ok_ite | with_reducible apply ok_set | with_reducible apply ok_mram
    | with_reducible apply ok_filter | with_reducible apply ok_fold_set | split | intro _ _ _ | dsimp only

theorem State.enterFault_ok (s : State) (cause addr : Nat) (hok : storeOk s.mem s.ecc) :
    storeOk (s.enterFault cause addr).mem (s.enterFault cause addr).ecc := by
  unfold State.enterFault
  repeat' first
    | with_reducible assumption | with_reducible apply State.report_ok | with_reducible apply State.ashRecord_ok

theorem State.recoverJournal_ok (s : State) (hok : storeOk s.mem s.ecc) :
    storeOk (s.recoverJournal).mem (s.recoverJournal).ecc := by
  unfold State.recoverJournal
  repeat' first
    | with_reducible assumption | with_reducible apply State.applyEntry_ok | with_reducible apply State.memoryEvent_ok
    | with_reducible apply ok_foldl | with_reducible apply ok_ite | with_reducible apply ok_set
    | with_reducible apply ok_mram | with_reducible apply ok_fold_set | split | intro _ _ _ | dsimp only

theorem State.fillRow_ok (s : State) (r : Nat) (lost : List Nat) (t : Tag) (hok : storeOk s.mem s.ecc) :
    storeOk (s.fillRow r lost t).mem (s.fillRow r lost t).ecc := by
  unfold State.fillRow
  repeat' first
    | with_reducible assumption | with_reducible apply State.writeRow_ok | with_reducible apply State.markDirty_ok
    | with_reducible apply State.spendRow_ok | with_reducible apply ok_foldl | with_reducible apply ok_ite

theorem State.restoreRow_ok (s : State) (r : Nat) (hok : storeOk s.mem s.ecc) :
    storeOk (s.restoreRow r).mem (s.restoreRow r).ecc := by
  unfold State.restoreRow
  apply ok_ite _ _ _ hok
  apply ok_ite
  · exact State.memoryEvent_ok _ _ _ _ _ _ _ _ (State.markDirty_ok _ _ _ _ hok)
  · exact ok_ite _ _ _ hok (State.fillRow_ok _ _ _ _ hok)

theorem State.loadPersistent_ok (s : State) (hok : storeOk s.mem s.ecc) :
    storeOk (s.loadPersistent).mem (s.loadPersistent).ecc := by
  exact hok

theorem State.enterLoad_ok (s : State) (hok : storeOk s.mem s.ecc) :
    storeOk (s.enterLoad).mem (s.enterLoad).ecc := by
  unfold State.enterLoad
  repeat' first
    | with_reducible assumption | with_reducible apply State.recoverJournal_ok
    | with_reducible apply State.restoreRow_ok | with_reducible apply State.loadPersistent_ok
    | with_reducible apply State.startLibrary_ok | with_reducible apply ok_foldl

theorem State.startE2e_ok (s : State) (hok : storeOk s.mem s.ecc) :
    storeOk (s.startE2e).mem (s.startE2e).ecc := by
  unfold State.startE2e
  repeat' first | with_reducible assumption | with_reducible apply State.poke_ok

theorem State.enterRun_ok (s : State) (wake : Option Nat) (hok : storeOk s.mem s.ecc) :
    storeOk (s.enterRun wake).mem (s.enterRun wake).ecc := by
  unfold State.enterRun
  repeat' first | with_reducible assumption | with_reducible apply State.clearHistory_ok

theorem State.noteSpawn_ok (s : State) (row gen : Nat) (hok : storeOk s.mem s.ecc) :
    storeOk (s.noteSpawn row gen).mem (s.noteSpawn row gen).ecc := by
  exact hok

theorem State.newRow_ok (s : State) (row : Nat) (v : HV) (t : Tag) (hok : storeOk s.mem s.ecc) :
    storeOk (s.newRow row v t).mem (s.newRow row v t).ecc := by
  unfold State.newRow
  repeat' first
    | with_reducible assumption | with_reducible apply State.freeAccum_ok | with_reducible apply State.writeRow_ok
    | with_reducible apply State.markDirty_ok | with_reducible apply State.bumpLife_ok

theorem State.land_ok (s : State) (w : RowOp) (hok : storeOk s.mem s.ecc) : storeOk (s.land w).mem (s.land w).ecc :=
  by
  unfold State.land
  repeat' first
    | with_reducible assumption | with_reducible apply State.spawn_ok | with_reducible apply State.newRow_ok
    | with_reducible apply State.noteSpawn_ok | with_reducible apply State.admission_ok
    | with_reducible apply State.tagFound_ok | with_reducible apply State.setTag_ok | with_reducible apply ok_foldl
    | with_reducible apply ok_ite | with_reducible apply ok_set | with_reducible apply ok_mram
    | with_reducible apply ok_filter | with_reducible apply ok_fold_set | split | intro _ _ _ | dsimp only

theorem State.scrubStep_ok (s : State) (r : Region) (hok : storeOk s.mem s.ecc) :
    storeOk (s.scrubStep r).2.mem (s.scrubStep r).2.ecc := by
  exact hok

theorem State.zeroWord_ok (s : State) (m : Master) (a : Nat) (hok : storeOk s.mem s.ecc) :
    storeOk (s.zeroWord m a).mem (s.zeroWord m a).ecc := by
  unfold State.zeroWord
  repeat' first
    | with_reducible assumption | with_reducible apply State.wipe_ok | with_reducible apply State.wordEvent_ok
    | with_reducible apply ok_foldl | with_reducible apply ok_ite | with_reducible apply ok_set
    | with_reducible apply ok_mram | with_reducible apply ok_filter | with_reducible apply ok_fold_set | split
    | intro _ _ _ | dsimp only

theorem State.discardPage_ok (s : State) (page : Nat) (hok : storeOk s.mem s.ecc) :
    storeOk (s.discardPage page).mem (s.discardPage page).ecc := by
  unfold State.discardPage
  repeat' first
    | with_reducible assumption | with_reducible apply State.editFrame_ok | with_reducible apply State.freePage_ok
    | with_reducible apply ok_foldl | with_reducible apply ok_ite | with_reducible apply ok_set
    | with_reducible apply ok_mram | with_reducible apply ok_fold_set | split

theorem State.poolFound_ok (s : State) (m : Master) (a : Nat) (hok : storeOk s.mem s.ecc) :
    storeOk (s.poolFound m a).mem (s.poolFound m a).ecc := by
  unfold State.poolFound
  repeat' first
    | with_reducible assumption | with_reducible apply State.discardPage_ok | with_reducible apply State.zeroWord_ok
    | with_reducible apply ok_foldl | with_reducible apply ok_ite | with_reducible apply ok_set
    | with_reducible apply ok_mram | with_reducible apply ok_filter | with_reducible apply ok_fold_set | split
    | intro _ _ _ | dsimp only

theorem State.cellFound_ok (s : State) (m : Master) (a : Nat) (hok : storeOk s.mem s.ecc) :
    storeOk (s.cellFound m a).mem (s.cellFound m a).ecc := by
  unfold State.cellFound
  repeat' first
    | with_reducible assumption | with_reducible apply State.dropQueued_ok | with_reducible apply State.dropJob_ok
    | with_reducible apply State.zeroWord_ok | with_reducible apply ok_foldl | with_reducible apply ok_ite
    | with_reducible apply ok_set | with_reducible apply ok_mram | with_reducible apply ok_filter
    | with_reducible apply ok_fold_set | split | intro _ _ _ | dsimp only

theorem State.encoderFound_ok (s : State) (m : Master) (a : Nat) (hok : storeOk s.mem s.ecc) :
    storeOk (s.encoderFound m a).mem (s.encoderFound m a).ecc := by
  unfold State.encoderFound
  repeat' first
    | with_reducible assumption | with_reducible apply State.startRebuild_ok
    | with_reducible apply State.clearHistory_ok | with_reducible apply State.wordEvent_ok
    | with_reducible apply State.zeroWord_ok | with_reducible apply ok_foldl | with_reducible apply ok_ite
    | with_reducible apply ok_set | with_reducible apply ok_mram | with_reducible apply ok_filter
    | with_reducible apply ok_fold_set | split | intro _ _ _ | dsimp only

theorem State.queueFound_ok (s : State) (m : Master) (a : Nat) (hok : storeOk s.mem s.ecc) :
    storeOk (s.queueFound m a).mem (s.queueFound m a).ecc := by
  unfold State.queueFound
  repeat' first
    | with_reducible assumption | with_reducible apply State.zeroWord_ok | with_reducible apply ok_foldl
    | with_reducible apply ok_ite | with_reducible apply ok_set | with_reducible apply ok_mram
    | with_reducible apply ok_filter | with_reducible apply ok_fold_set | split | intro _ _ _ | dsimp only

theorem State.signalFound_ok (s : State) (m : Master) (a : Nat) (hok : storeOk s.mem s.ecc) :
    storeOk (s.signalFound m a).mem (s.signalFound m a).ecc := by
  unfold State.signalFound
  repeat' first
    | with_reducible assumption | with_reducible apply State.planBad_ok | with_reducible apply State.restartJob_ok
    | with_reducible apply State.zeroWord_ok | with_reducible apply ok_foldl | with_reducible apply ok_ite
    | with_reducible apply ok_set | with_reducible apply ok_mram | with_reducible apply ok_filter
    | with_reducible apply ok_fold_set | split | intro _ _ _ | dsimp only

theorem State.vaultDataFound_ok (s : State) (m : Master) (a : Nat) (hok : storeOk s.mem s.ecc) : storeOk
  (s.vaultDataFound m a).mem (s.vaultDataFound m a).ecc := by
  unfold State.vaultDataFound
  repeat' first
    | with_reducible assumption | with_reducible apply State.poke_ok | with_reducible apply State.memoryEvent_ok
    | with_reducible apply ok_foldl | with_reducible apply ok_ite | with_reducible apply ok_set
    | with_reducible apply ok_mram | with_reducible apply ok_filter | with_reducible apply ok_fold_set | split
    | intro _ _ _ | dsimp only

theorem State.vaultTagFound_ok (s : State) (m : Master) (a : Nat) (hok : storeOk s.mem s.ecc) : storeOk
  (s.vaultTagFound m a).mem (s.vaultTagFound m a).ecc := by
  unfold State.vaultTagFound
  repeat' first
    | with_reducible assumption | with_reducible apply State.poke_ok | with_reducible apply State.memoryEvent_ok
    | with_reducible apply ok_foldl | with_reducible apply ok_ite | with_reducible apply ok_set
    | with_reducible apply ok_mram | with_reducible apply ok_filter | with_reducible apply ok_fold_set | split
    | intro _ _ _ | dsimp only

theorem State.persistentFound_ok (s : State) (m : Master) (a : Nat) (hok : storeOk s.mem s.ecc) : storeOk
  (s.persistentFound m a).mem (s.persistentFound m a).ecc := by
  unfold State.persistentFound
  repeat' first
    | with_reducible assumption | with_reducible apply State.poke_ok | with_reducible apply State.wordEvent_ok
    | with_reducible apply ok_foldl | with_reducible apply ok_ite | with_reducible apply ok_set
    | with_reducible apply ok_mram | with_reducible apply ok_filter | with_reducible apply ok_fold_set | split
    | intro _ _ _ | dsimp only

theorem State.scrubFound_ok (s : State) (m : Master) (r : Region) (a : Nat) (hok : storeOk s.mem s.ecc) : storeOk
  (s.scrubFound m r a).mem (s.scrubFound m r a).ecc := by
  unfold State.scrubFound
  repeat' first
    | with_reducible assumption | with_reducible apply State.segmentFound_ok | with_reducible apply State.tagFound_ok
    | with_reducible apply State.reseedAccum_ok | with_reducible apply State.poolFound_ok
    | with_reducible apply State.cellFound_ok | with_reducible apply State.signalFound_ok
    | with_reducible apply State.encoderFound_ok | with_reducible apply State.queueFound_ok
    | with_reducible apply State.vaultDataFound_ok | with_reducible apply State.vaultTagFound_ok
    | with_reducible apply State.persistentFound_ok | with_reducible apply ok_foldl | with_reducible apply ok_ite
    | with_reducible apply ok_set | with_reducible apply ok_mram | with_reducible apply ok_filter
    | with_reducible apply ok_fold_set | split | intro _ _ _ | dsimp only

theorem State.scrubWord_ok (s : State) (r : Region) (lost : Bool) (a : Nat) (hok : storeOk s.mem s.ecc) :
    storeOk (s.scrubWord r lost a).mem (s.scrubWord r lost a).ecc := by
  unfold State.scrubWord
  repeat' first
    | with_reducible assumption | with_reducible apply State.scrubFound_ok | with_reducible apply ok_foldl
    | with_reducible apply ok_ite | with_reducible apply ok_set

theorem State.retrySpent_ok (s : State) (r : Region) (unit : Nat) (hok : storeOk s.mem s.ecc) :
    storeOk (s.retrySpent r unit).mem (s.retrySpent r unit).ecc := by
  unfold State.retrySpent
  repeat' first
    | with_reducible assumption | with_reducible apply State.requestRow_ok | with_reducible apply ok_foldl
    | with_reducible apply ok_ite

theorem State.healVault_ok (s : State) (h : Heal) (lost : Nat) (hok : storeOk s.mem s.ecc) :
    storeOk (s.healVault h lost).mem (s.healVault h lost).ecc := by
  unfold State.healVault
  repeat' first
    | with_reducible assumption | with_reducible apply State.startHeal_ok | with_reducible apply State.markDirty_ok
    | with_reducible apply State.memoryEvent_ok | with_reducible apply State.healSegments_ok
    | with_reducible apply ok_foldl | with_reducible apply ok_ite | with_reducible apply ok_set
    | with_reducible apply ok_mram | with_reducible apply ok_filter | with_reducible apply ok_fold_set | split
    | intro _ _ _ | dsimp only

theorem State.violate_ok (s : State) (x : Access) (hok : storeOk s.mem s.ecc) :
    storeOk (s.violate x).mem (s.violate x).ecc := by
  unfold State.violate
  repeat' first
    | with_reducible assumption | with_reducible apply State.wordEvent_ok | with_reducible apply State.scrubFound_ok
    | with_reducible apply ok_foldl | with_reducible apply ok_ite | with_reducible apply ok_set
    | with_reducible apply ok_mram | with_reducible apply ok_filter | with_reducible apply ok_fold_set | split
    | intro _ _ _ | dsimp only

theorem State.landWrite_ok (s : State) (bank : Nat) (hok : storeOk s.mem s.ecc) :
    storeOk (s.landWrite bank).mem (s.landWrite bank).ecc := by
  unfold State.landWrite
  repeat' first
    | with_reducible assumption | with_reducible apply State.land_ok | with_reducible apply ok_foldl
    | with_reducible apply ok_ite | with_reducible apply ok_set | with_reducible apply ok_mram
    | with_reducible apply ok_filter | with_reducible apply ok_fold_set | split | intro _ _ _ | dsimp only

theorem State.restartWindow_ok (s : State) (hok : storeOk s.mem s.ecc) :
    storeOk (s.restartWindow).mem (s.restartWindow).ecc := by
  exact hok

theorem State.askStepUp_ok (s : State) (hok : storeOk s.mem s.ecc) :
    storeOk (s.askStepUp).mem (s.askStepUp).ecc := by
  unfold State.askStepUp
  repeat' first | with_reducible assumption | with_reducible apply ok_foldl | with_reducible apply ok_ite

theorem State.driveVset_ok (s : State) (code : Nat) (hok : storeOk s.mem s.ecc) :
    storeOk (s.driveVset code).mem (s.driveVset code).ecc := by
  exact hok

theorem State.startPause_ok (s : State) (hok : storeOk s.mem s.ecc) :
    storeOk (s.startPause).mem (s.startPause).ecc := by
  exact hok

theorem State.stepUpNow_ok (s : State) (hok : storeOk s.mem s.ecc) :
    storeOk (s.stepUpNow).mem (s.stepUpNow).ecc := by
  unfold State.stepUpNow
  repeat' first
    | with_reducible assumption | with_reducible apply State.driveVset_ok | with_reducible apply State.startPause_ok
    | with_reducible apply State.restartWindow_ok

theorem State.approachVset_ok (s : State) (hok : storeOk s.mem s.ecc) :
    storeOk (s.approachVset).mem (s.approachVset).ecc := by
  unfold State.approachVset
  repeat' first
    | with_reducible assumption | with_reducible apply State.driveVset_ok | with_reducible apply ok_foldl
    | with_reducible apply ok_ite | with_reducible apply ok_set | with_reducible apply ok_mram
    | with_reducible apply ok_filter | with_reducible apply ok_fold_set | split | intro _ _ _ | dsimp only

theorem State.canaryRecord_ok (s : State) (code cause : Nat) (hok : storeOk s.mem s.ecc) :
    storeOk (s.canaryRecord code cause).mem (s.canaryRecord code cause).ecc := by
  unfold State.canaryRecord
  repeat' first | with_reducible assumption | with_reducible apply State.ashRecord_ok

theorem State.failMonitor_ok (s : State) (t : Tick) (hok : storeOk s.mem s.ecc) :
    storeOk (s.failMonitor t).mem (s.failMonitor t).ecc := by
  unfold State.failMonitor
  repeat' first
    | with_reducible assumption | with_reducible apply State.restartWindow_ok
    | with_reducible apply State.askStepUp_ok | with_reducible apply State.canaryRecord_ok
    | with_reducible apply ok_foldl | with_reducible apply ok_ite

theorem State.drivePins_ok (s : State) (t : Tick) (hok : storeOk s.mem s.ecc) :
    storeOk (s.drivePins t).mem (s.drivePins t).ecc := by
  exact hok

theorem State.reportPins_ok (s : State) (t : Tick) (hok : storeOk s.mem s.ecc) :
    storeOk (s.reportPins t).mem (s.reportPins t).ecc := by
  unfold State.reportPins
  repeat' first
    | with_reducible assumption | with_reducible apply State.routeFlue_ok | with_reducible apply State.routeAsh_ok
    | with_reducible apply ok_foldl | with_reducible apply ok_ite | with_reducible apply ok_set
    | with_reducible apply ok_mram | with_reducible apply ok_filter | with_reducible apply ok_fold_set | split
    | intro _ _ _ | dsimp only

theorem State.judgeDeadline_ok (s : State) (t : Tick) (hok : storeOk s.mem s.ecc) :
    storeOk (s.judgeDeadline t).mem (s.judgeDeadline t).ecc := by
  unfold State.judgeDeadline
  repeat' first
    | with_reducible assumption | with_reducible apply State.failMonitor_ok
    | with_reducible apply State.restartWindow_ok | with_reducible apply ok_foldl | with_reducible apply ok_ite

theorem State.judgeIdle_ok (s : State) (t : Tick) (hok : storeOk s.mem s.ecc) :
    storeOk (s.judgeIdle t).mem (s.judgeIdle t).ecc := by
  exact hok

theorem State.reportTick_ok (s : State) (t : Tick) (hok : storeOk s.mem s.ecc) :
    storeOk (s.reportTick t).mem (s.reportTick t).ecc := by
  unfold State.reportTick
  repeat' first
    | with_reducible assumption | with_reducible apply State.report_ok | with_reducible apply ok_foldl
    | with_reducible apply ok_ite | with_reducible apply ok_set | with_reducible apply ok_mram
    | with_reducible apply ok_fold_set | split

theorem State.abandonRecovery_ok (s : State) (hok : storeOk s.mem s.ecc) :
    storeOk (s.abandonRecovery).mem (s.abandonRecovery).ecc := by
  unfold State.abandonRecovery
  repeat' first
    | with_reducible assumption | with_reducible apply State.channelRecord_ok | with_reducible apply ok_foldl
    | with_reducible apply ok_ite | with_reducible apply ok_set | with_reducible apply ok_mram
    | with_reducible apply ok_fold_set | split | intro _ _ _

theorem State.stopWork_ok (s : State) (hok : storeOk s.mem s.ecc) :
    storeOk (s.stopWork).mem (s.stopWork).ecc := by
  exact hok

theorem State.enterBanked_ok (s : State) (hok : storeOk s.mem s.ecc) :
    storeOk (s.enterBanked).mem (s.enterBanked).ecc := by
  exact hok

theorem State.commitOpen_ok (s : State) (hok : storeOk s.mem s.ecc) :
    storeOk (s.commitOpen).mem (s.commitOpen).ecc := by
  unfold State.commitOpen
  repeat' first
    | with_reducible assumption | with_reducible apply State.commitAccum_ok | with_reducible apply ok_foldl
    | with_reducible apply ok_ite | with_reducible apply ok_set | with_reducible apply ok_mram
    | with_reducible apply ok_fold_set | split | intro _ _ _

theorem State.mirrorAll_ok (s : State) (hok : storeOk s.mem s.ecc) :
    storeOk (s.mirrorAll).mem (s.mirrorAll).ecc := by
  exact State.commitAll_ok _ _ (ok_foldl (fun s (d : Dirty) => s.mirrorRow d.row)
    (fun s d h => State.mirrorRow_ok s d.row h) _ _ hok)

theorem State.loseCore_ok (s : State) (hok : storeOk s.mem s.ecc) :
    storeOk (s.loseCore).mem (s.loseCore).ecc := by
  unfold State.loseCore
  repeat' first
    | with_reducible assumption | with_reducible apply ok_foldl | with_reducible apply ok_ite
    | with_reducible apply ok_set | with_reducible apply ok_mram

theorem State.saveCore_ok (s : State) (hok : storeOk s.mem s.ecc) :
    storeOk (s.saveCore).mem (s.saveCore).ecc := by
  unfold State.saveCore
  repeat' first
    | with_reducible assumption | with_reducible apply State.commitOpen_ok | with_reducible apply State.mirrorAll_ok
    | with_reducible apply State.persistCounters_ok | with_reducible apply ok_foldl | with_reducible apply ok_ite
    | with_reducible apply ok_set | with_reducible apply ok_mram | with_reducible apply ok_filter
    | with_reducible apply ok_fold_set | split | intro _ _ _ | dsimp only

theorem State.dropCore_ok (s : State) (hok : storeOk s.mem s.ecc) :
    storeOk (s.dropCore).mem (s.dropCore).ecc := by
  unfold State.dropCore
  repeat' first
    | with_reducible assumption | with_reducible apply State.releaseCore_ok | with_reducible apply ok_foldl
    | with_reducible apply ok_ite | with_reducible apply ok_set | with_reducible apply ok_mram
    | with_reducible apply ok_filter | with_reducible apply ok_fold_set | split | intro _ _ _ | dsimp only

theorem State.enterEmber_ok (s : State) (hok : storeOk s.mem s.ecc) : storeOk (s.enterEmber).mem (s.enterEmber).ecc :=
  by
  unfold State.enterEmber
  repeat' first
    | with_reducible assumption | with_reducible apply State.saveCore_ok | with_reducible apply State.loseCore_ok
    | with_reducible apply State.dropCore_ok | with_reducible apply ok_foldl | with_reducible apply ok_ite
    | with_reducible apply ok_set | with_reducible apply ok_mram | with_reducible apply ok_filter
    | with_reducible apply ok_fold_set | split | intro _ _ _ | dsimp only

theorem State.boundaryScan_ok (s : State) (code : BitVec 6) (board shifted : BitVec 52) (hok : storeOk s.mem s.ecc) :
    storeOk (s.boundaryScan code board shifted).mem (s.boundaryScan code board shifted).ecc := by
  exact hok

end Sys2Proof.Machine
end

