-- ==== Sys2Proof/Laws/Steps.lean ====
section
/-! SUPPORT. Sys2Proof/Laws/Steps.lean: what an event does, said once,
and for each command that it leaves the queue, the
device state, the straps and the test port as they are, moves the clock by its own time,
and keeps memory and error map in
canonical form. -/

namespace Sys2Proof.Machine

/-- Everything an event does: time passes, and, when its conditions hold, its effect. -/
theorem event_cases (dt : Nat) (cond : State → Bool) (effect : State → State) (s t : State)
    (h : event dt cond effect s = .next t) :
    (cond (s.elapse dt) = false ∧ t = s.elapse dt) ∨
    (cond (s.elapse dt) = true ∧ t = (effect (s.elapse dt)).settle) := by
  unfold event at h
  dsimp only at h
  split at h <;> cases h
  · exact .inr ⟨by assumption, rfl⟩
  · exact .inl ⟨by simp_all, rfl⟩

/-- An event with an operand form does nothing else, and only for an operand of that form. -/
theorem eventOf_cases (form : State → Bool) (dt : Nat) (cond : State → Bool) (effect : State → State) (s t : State)
    (h : eventOf form dt cond effect s = .next t) :
    form s = true ∧ ((cond (s.elapse dt) = false ∧ t = s.elapse dt) ∨
    (cond (s.elapse dt) = true ∧ t = (effect (s.elapse dt)).settle)) := by
  unfold eventOf at h
  split at h
  · exact ⟨by assumption, event_cases dt cond effect s t h⟩
  · cases h

/-- An event whose conditions hold has its effect. -/
theorem event_next (dt : Nat) (cond : State → Bool) (effect : State → State) (s : State)
    (hc : cond (s.elapse dt) = true) : event dt cond effect s = .next (effect (s.elapse dt)).settle := by
  unfold event
  dsimp only
  rw [if_pos hc]

/-- An event whose conditions do not hold only lets time pass. -/
theorem event_idle (dt : Nat) (cond : State → Bool) (effect : State → State) (s : State)
    (hc : cond (s.elapse dt) = false) : event dt cond effect s = .next (s.elapse dt) := by
  unfold event
  dsimp only
  rw [if_neg (by simp [hc])]

theorem eventOf_next (form : State → Bool) (dt : Nat) (cond : State → Bool) (effect : State → State) (s : State)
    (hf : form s = true) (hc : cond (s.elapse dt) = true) :
    eventOf form dt cond effect s = .next (effect (s.elapse dt)).settle := by
  unfold eventOf
  rw [if_pos hf]
  exact event_next dt cond effect s hc

theorem eventOf_idle (form : State → Bool) (dt : Nat) (cond : State → Bool) (effect : State → State) (s : State)
    (hf : form s = true) (hc : cond (s.elapse dt) = false) :
    eventOf form dt cond effect s = .next (s.elapse dt) := by
  unfold eventOf
  rw [if_pos hf]
  exact event_idle dt cond effect s hc

/-- Any other operand is a fault. -/
theorem eventOf_fault (form : State → Bool) (dt : Nat) (cond : State → Bool) (effect : State → State) (s : State)
    (hf : form s = false) : eventOf form dt cond effect s = .fault .malformed := by
  unfold eventOf
  rw [if_neg (by simp [hf])]

theorem event_spine (dt : Nat) (cond : State → Bool) (effect : State → State) (s : State)
    (he : ∀ u, (effect u).spine = u.spine) (t : State) (h : event dt cond effect s = .next t) :
    t.spine = (s.elapse dt).spine := by
  unfold event at h
  dsimp only at h
  split at h <;> cases h
  · rw [State.settle_spine, he]
  · rfl

theorem eventOf_spine (form : State → Bool) (dt : Nat) (cond : State → Bool) (effect : State → State) (s : State)
    (he : ∀ u, (effect u).spine = u.spine) (t : State) (h : eventOf form dt cond effect s = .next t) :
    t.spine = (s.elapse dt).spine := by
  unfold eventOf at h
  split at h
  · exact event_spine dt cond effect s he t h
  · cases h

theorem event_ok (dt : Nat) (cond : State → Bool) (effect : State → State) (s : State)
    (he : ∀ u, storeOk u.mem u.ecc → storeOk (effect u).mem (effect u).ecc) (t : State) (hok : storeOk s.mem s.ecc)
    (h : event dt cond effect s = .next t) : storeOk t.mem t.ecc := by
  unfold event at h
  dsimp only at h
  split at h <;> cases h
  · exact State.settle_ok _ (he _ hok)
  · exact hok

theorem eventOf_ok (form : State → Bool) (dt : Nat) (cond : State → Bool) (effect : State → State) (s : State)
    (he : ∀ u, storeOk u.mem u.ecc → storeOk (effect u).mem (effect u).ecc) (t : State) (hok : storeOk s.mem s.ecc)
    (h : eventOf form dt cond effect s = .next t) : storeOk t.mem t.ecc := by
  unfold eventOf at h
  split at h
  · exact event_ok dt cond effect s he t hok h
  · cases h

theorem execCandidateDecision_spine (dt : Nat) (s : State) (t : State) (h : execCandidateDecision dt s = .next t) :
    t.spine = (s.elapse dt).spine := by
  refine event_spine _ _ _ _ (fun u => ?_) t h
  try dsimp only
  simp only [State.decideCandidate_spine, State.placeHeld_spine]

theorem execTachCapture_spine (dt : Nat) (input : Fin 4) (uv : Nat) (s t : State)
    (h : execTachCapture dt input uv s = .next t) :
    t.spine = (s.elapse dt).spine := by
  refine event_spine _ _ _ _ (fun u => ?_) t h
  try dsimp only
  simp only [State.senseTach_spine, spine_mk, apply_ite State.spine, ite_self]

theorem execDecimatorOutput_spine (dt : Nat) (samples : List RawSample) (s : State) (t : State)
    (h : execDecimatorOutput dt samples s = .next t) :
    t.spine = (s.elapse dt).spine := by
  refine eventOf_spine _ _ _ _ _ (fun u => ?_) t h
  try dsimp only
  simp only [State.decideAll_spine, State.placeHeld_spine, State.ageLimiters_spine, State.placeSample_spine,
    spine_mk, apply_ite State.spine, ite_self]

theorem execSlowTick_spine (dt : Nat) (inputs : SlowInputs) (s : State) (t : State)
    (h : execSlowTick dt inputs s = .next t) :
    t.spine = (s.elapse dt).spine := by
  refine eventOf_spine _ _ _ _ _ (fun u => ?_) t h
  try dsimp only
  simp only [State.senseTemp_spine, State.evaluateBiases_spine, State.evaluateShock_spine, State.sampleLink_spine,
    State.wakeTick_spine, apply_ite State.spine, ite_self]

theorem execChannelRecovery_spine (dt : Nat) (channel : Fin 32) (s t : State)
    (h : execChannelRecovery dt channel s = .next t) :
    t.spine = (s.elapse dt).spine := by
  refine event_spine _ _ _ _ (fun u => ?_) t h
  try dsimp only
  simp only [State.setStatus_spine, State.redoTurn_spine, spine_mk, apply_ite State.spine, ite_self]

theorem execHoldbackRelease_spine (dt : Nat) (channel : Fin 32) (s : State) (t : State)
    (h : execHoldbackRelease dt channel s = .next t) :
    t.spine = (s.elapse dt).spine := by
  refine event_spine _ _ _ _ (fun u => ?_) t h
  try dsimp only
  (repeat' split) <;> first | rfl | simp only [spine_mk, spine_foldl, apply_ite State.spine, ite_self, implies_true]

theorem execAuxConversion_spine (dt : Nat) (input : Fin 8) (code : BitVec 12) (s : State) (t : State)
    (h : execAuxConversion dt input code s = .next t) :
    t.spine = (s.elapse dt).spine := by
  refine event_spine _ _ _ _ (fun u => ?_) t h
  try dsimp only
  simp only [spine_mk]

theorem execLabelReading_spine (dt : Nat) (zero ref pin : Codes) (teachN forgetN holdN : Bool) (s t : State)
    (h : execLabelReading dt zero ref pin teachN forgetN holdN s = .next t) :
    t.spine = (s.elapse dt).spine := by
  refine event_spine _ _ _ _ (fun u => ?_) t h
  try dsimp only
  simp only [spine_mk, apply_ite State.spine, ite_self]

theorem execLabelAccepted_spine (dt : Nat) (s : State) (t : State) (h : execLabelAccepted dt s = .next t) :
    t.spine = (s.elapse dt).spine := by
  refine event_spine _ _ _ _ (fun u => ?_) t h
  try dsimp only
  simp only [State.abandonTeach_spine, spine_mk]

theorem execTeachPress_spine (dt : Nat) (s : State) (t : State) (h : execTeachPress dt s = .next t) :
    t.spine = (s.elapse dt).spine := by
  refine event_spine _ _ _ _ (fun u => ?_) t h
  try dsimp only
  simp only [State.teachRecord_spine, spine_mk, apply_ite State.spine, ite_self]

theorem execForgetPress_spine (dt : Nat) (s : State) (t : State) (h : execForgetPress dt s = .next t) :
    t.spine = (s.elapse dt).spine := by
  refine event_spine _ _ _ _ (fun u => ?_) t h
  try dsimp only
  simp only [State.abandonTeach_spine, State.forget_spine, State.teachRecord_spine, spine_mk,
    apply_ite State.spine, ite_self]

theorem execHoldChange_spine (dt : Nat) (s : State) (t : State) (h : execHoldChange dt s = .next t) :
    t.spine = (s.elapse dt).spine := by
  refine event_spine _ _ _ _ (fun u => ?_) t h
  try dsimp only
  simp only [spine_mk]

theorem execRekindle_spine (dt : Nat) (s : State) (t : State) (h : execRekindle dt s = .next t) :
    t.spine = (s.elapse dt).spine := by
  refine event_spine _ _ _ _ (fun u => ?_) t h
  try dsimp only
  simp only [State.freeRow_spine, State.teachRecord_spine, spine_mk, spine_foldl, implies_true]

theorem execLearningStage_spine (dt : Nat) (upsets : List Upset) (s : State) (t : State)
    (h : execLearningStage dt upsets s = .next t) :
    t.spine = (s.elapse dt).spine := by
  refine eventOf_spine _ _ _ _ _ (fun u => ?_) t h
  try dsimp only
  (repeat' split) <;> first | rfl | simp only [State.upset_spine, State.learnStage_spine]

theorem execTeachTimeout_spine (dt : Nat) (s : State) (t : State) (h : execTeachTimeout dt s = .next t) :
    t.spine = (s.elapse dt).spine := by
  refine event_spine _ _ _ _ (fun u => ?_) t h
  try dsimp only
  (repeat' split) <;> first | rfl | simp only [State.teachTimeoutAt_spine]

theorem execCommit_spine (dt : Nat) (acc : Fin 512) (upsets : List Upset) (s : State) (t : State)
    (h : execCommit dt acc upsets s = .next t) :
    t.spine = (s.elapse dt).spine := by
  refine eventOf_spine _ _ _ _ _ (fun u => ?_) t h
  try dsimp only
  (repeat' split) <;> first | rfl | simp only [State.upset_spine, State.commitAccum_spine]

theorem execVaultMirror_spine (dt : Nat) (upsets : List Upset) (s : State) (t : State)
    (h : execVaultMirror dt upsets s = .next t) :
    t.spine = (s.elapse dt).spine := by
  refine eventOf_spine _ _ _ _ _ (fun u => ?_) t h
  try dsimp only
  (repeat' split) <;> first | rfl | simp only [State.upset_spine, State.mirrorRow_spine, spine_mk]

theorem execJournalCommit_spine (dt : Nat) (s : State) (t : State) (h : execJournalCommit dt s = .next t) :
    t.spine = (s.elapse dt).spine := by
  refine event_spine _ _ _ _ (fun u => ?_) t h
  try dsimp only
  (repeat' split) <;> first | rfl | simp only [State.commitEntry_spine]

theorem execKindlingCounterPersist_spine (dt : Nat) (s : State) (t : State)
    (h : execKindlingCounterPersist dt s = .next t) :
    t.spine = (s.elapse dt).spine := by
  refine event_spine _ _ _ _ (fun u => ?_) t h
  try dsimp only
  simp only [State.persistCounters_spine, spine_mk]

theorem execLibraryHeaderReadComplete_spine (dt : Nat) (header : List Byte) (s : State) (t : State)
    (h : execLibraryHeaderReadComplete dt header s = .next t) :
    t.spine = (s.elapse dt).spine := by
  refine eventOf_spine _ _ _ _ _ (fun u => ?_) t h
  try dsimp only
  (repeat' split) <;> first | rfl | simp only [State.refuse_spine]

theorem execLibraryItemReceived_spine (dt : Nat) (item : List Byte) (s : State) (t : State)
    (h : execLibraryItemReceived dt item s = .next t) :
    t.spine = (s.elapse dt).spine := by
  refine eventOf_spine _ _ _ _ _ (fun u => ?_) t h
  try dsimp only
  (repeat' split) <;> first | rfl | simp only [State.planArrives_spine, State.recordArrives_spine]

theorem execLibraryBodyComplete_spine (dt : Nat) (s : State) (t : State)
    (h : execLibraryBodyComplete dt s = .next t) :
    t.spine = (s.elapse dt).spine := by
  refine event_spine _ _ _ _ (fun u => ?_) t h
  try dsimp only
  simp only [State.acceptImage_spine, State.refuse_spine, apply_ite State.spine, ite_self]

theorem execRefetch_spine (dt : Nat) (s : State) (t : State) (h : execRefetch dt s = .next t) :
    t.spine = (s.elapse dt).spine := by
  refine event_spine _ _ _ _ (fun u => ?_) t h
  try dsimp only
  (repeat' split) <;> first | rfl | simp only [spine_mk, spine_foldl, apply_ite State.spine, ite_self, implies_true]

theorem execRefetchComplete_spine (dt : Nat) (item : List Byte) (lost : Nat) (s t : State)
    (h : execRefetchComplete dt item lost s = .next t) :
    t.spine = (s.elapse dt).spine := by
  refine eventOf_spine _ _ _ _ _ (fun u => ?_) t h
  try dsimp only
  simp only [State.fillFlash_spine, State.applyItem_spine, spine_mk, apply_ite State.spine, ite_self]

theorem execBandPlanRetry_spine (dt : Nat) (item : List Byte) (s t : State)
    (h : execBandPlanRetry dt item s = .next t) :
    t.spine = (s.elapse dt).spine := by
  refine eventOf_spine _ _ _ _ _ (fun u => ?_) t h
  try dsimp only
  simp only [State.fillFlash_spine, State.planAttempt_spine, spine_mk, apply_ite State.spine, ite_self]

theorem execFeatureExtractionStart_spine (dt : Nat) (array : Fin 4) (s : State) (t : State)
    (h : execFeatureExtractionStart dt array s = .next t) :
    t.spine = (s.elapse dt).spine := by
  refine event_spine _ _ _ _ (fun u => ?_) t h
  try dsimp only
  (repeat' split) <;> first | rfl | simp only [State.editFrame_spine, spine_mk, spine_foldl, apply_ite State.spine,
    ite_self, implies_true]

theorem execFeatureExtractionDone_spine (dt : Nat) (array : Fin 4) (upsets : List Upset) (s t : State)
    (h : execFeatureExtractionDone dt array upsets s = .next t) :
    t.spine = (s.elapse dt).spine := by
  refine eventOf_spine _ _ _ _ _ (fun u => ?_) t h
  try dsimp only
  (repeat' split) <;> first | rfl | simp only [State.upset_spine, State.editFrame_spine, State.freePage_spine,
    State.wordEvent_spine, State.planBad_spine, State.extract_spine, State.wipe_spine, State.restartJob_spine,
    spine_mk, apply_ite State.spine, ite_self]

theorem execTickEncoding_spine (dt : Nat) (upsets : List Upset) (s : State) (t : State)
    (h : execTickEncoding dt upsets s = .next t) :
    t.spine = (s.elapse dt).spine := by
  refine eventOf_spine _ _ _ _ _ (fun u => ?_) t h
  try dsimp only
  (repeat' split) <;> first | rfl | simp only [State.upset_spine, State.encode_spine, State.startRebuild_spine,
    State.clearHistory_spine, State.wordEvent_spine]

theorem execItemMemoryRebuildEnd_spine (dt : Nat) (s : State) (t : State)
    (h : execItemMemoryRebuildEnd dt s = .next t) :
    t.spine = (s.elapse dt).spine := by
  refine event_spine _ _ _ _ (fun u => ?_) t h
  try dsimp only
  simp only [State.buildItems_spine]

theorem execQueryStart_spine (dt scan : Nat) (upsets : List Upset) (s t : State)
    (h : execQueryStart dt scan upsets s = .next t) :
    t.spine = (s.elapse dt).spine := by
  refine eventOf_spine _ _ _ _ _ (fun u => ?_) t h
  try dsimp only
  (repeat' split) <;> first | rfl | simp only [State.upset_spine, State.startFleet_spine, State.startLocal_spine,
    spine_mk, apply_ite State.spine, ite_self]

theorem execRecallResult_spine (dt : Nat) (replays : Nat) (s : State) (t : State)
    (h : execRecallResult dt replays s = .next t) :
    t.spine = (s.elapse dt).spine := by
  refine event_spine _ _ _ _ (fun u => ?_) t h
  try dsimp only
  (repeat' split) <;> first | rfl | simp only [State.deliverRecall_spine, State.metErrors_spine, spine_mk]

theorem execPhyLinkUp_spine (dt : Nat) (port : Port) (s : State) (t : State) (h : execPhyLinkUp dt port s = .next t) :
    t.spine = (s.elapse dt).spine := by
  refine event_spine _ _ _ _ (fun u => ?_) t h
  try dsimp only
  simp only [State.proposeReset_spine]

theorem execLinkResetReceived_spine (dt : Nat) (port : Port) (frame : List Byte) (s : State) (t : State)
    (h : execLinkResetReceived dt port frame s = .next t) :
    t.spine = (s.elapse dt).spine := by
  refine event_spine _ _ _ _ (fun u => ?_) t h
  try dsimp only
  (repeat' split) <;> first | rfl | simp only [State.notePeer_spine, State.linkDown_spine,
    State.completeReset_spine, State.adoptReset_spine]

theorem execResetAckReceived_spine (dt : Nat) (port : Port) (frame : List Byte) (s : State) (t : State)
    (h : execResetAckReceived dt port frame s = .next t) :
    t.spine = (s.elapse dt).spine := by
  refine event_spine _ _ _ _ (fun u => ?_) t h
  try dsimp only
  (repeat' split) <;> first | rfl | simp only [State.notePeer_spine, State.linkDown_spine, State.completeReset_spine]

theorem execLinkResetResend_spine (dt : Nat) (port : Port) (s : State) (t : State)
    (h : execLinkResetResend dt port s = .next t) :
    t.spine = (s.elapse dt).spine := by
  refine event_spine _ _ _ _ (fun u => ?_) t h
  try dsimp only
  simp only [State.resendReset_spine]

theorem execLinkRecoveryAttempt_spine (dt : Nat) (port : Port) (s : State) (t : State)
    (h : execLinkRecoveryAttempt dt port s = .next t) :
    t.spine = (s.elapse dt).spine := by
  refine event_spine _ _ _ _ (fun u => ?_) t h
  try dsimp only
  simp only [State.setPort_spine, State.resendReset_spine, State.proposeReset_spine, apply_ite State.spine, ite_self]

theorem execAckFrameReceived_spine (dt : Nat) (port : Port) (frame : List Byte) (s : State) (t : State)
    (h : execAckFrameReceived dt port frame s = .next t) :
    t.spine = (s.elapse dt).spine := by
  refine event_spine _ _ _ _ (fun u => ?_) t h
  try dsimp only
  simp only [State.notePeer_spine, State.setPort_spine, State.takeAck_spine, apply_ite State.spine, ite_self]

theorem execAckTimerExpiry_spine (dt : Nat) (port : Port) (s : State) (t : State)
    (h : execAckTimerExpiry dt port s = .next t) :
    t.spine = (s.elapse dt).spine := by
  refine event_spine _ _ _ _ (fun u => ?_) t h
  try dsimp only
  simp only [State.goBack_spine]

theorem execDataFrameReceived_spine (dt : Nat) (port : Port) (frame : List Byte) (lost : Nat) (s t : State)
    (h : execDataFrameReceived dt port frame lost s = .next t) :
    t.spine = (s.elapse dt).spine := by
  refine event_spine _ _ _ _ (fun u => ?_) t h
  try dsimp only
  simp only [State.receiveData_spine, spine_mk, apply_ite State.spine, ite_self]

theorem execFrameHeaderReceived_spine (dt : Nat) (port : Port) (header : List Byte) (s t : State)
    (h : execFrameHeaderReceived dt port header s = .next t) :
    t.spine = (s.elapse dt).spine := by
  refine eventOf_spine _ _ _ _ _ (fun u => ?_) t h
  try dsimp only
  simp only [State.startCut_spine, spine_mk, apply_ite State.spine, ite_self]

theorem execPortTransmit_spine (dt : Nat) (port : Port) (badCell : Bool) (s : State) (t : State)
    (h : execPortTransmit dt port badCell s = .next t) :
    t.spine = (s.elapse dt).spine := by
  refine event_spine _ _ _ _ (fun u => ?_) t h
  try dsimp only
  (repeat' split) <;> first | rfl | simp only [State.sendLink_spine, State.dropQueued_spine, State.wordEvent_spine]

theorem execCreditTableTimer_spine (dt : Nat) (port : Port) (s t : State)
    (h : execCreditTableTimer dt port s = .next t) :
    t.spine = (s.elapse dt).spine := by
  refine event_spine _ _ _ _ (fun u => ?_) t h
  try dsimp only
  simp only [State.setAside_spine, State.setPort_spine, spine_mk, spine_foldl, implies_true, apply_ite State.spine,
    ite_self]

theorem execQueueAgeDiscard_spine (dt : Nat) (s : State) (t : State) (h : execQueueAgeDiscard dt s = .next t) :
    t.spine = (s.elapse dt).spine := by
  refine event_spine _ _ _ _ (fun u => ?_) t h
  try dsimp only
  simp only [State.ageOut_spine]

theorem execCensusOriginate_spine (dt : Nat) (s : State) (t : State) (h : execCensusOriginate dt s = .next t) :
    t.spine = (s.elapse dt).spine := by
  refine event_spine _ _ _ _ (fun u => ?_) t h
  try dsimp only
  simp only [State.originate_spine, spine_mk]

theorem execRingMapEntryExpiry_spine (dt : Nat) (id : BitVec 8) (s : State) (t : State)
    (h : execRingMapEntryExpiry dt id s = .next t) :
    t.spine = (s.elapse dt).spine := by
  refine event_spine _ _ _ _ (fun u => ?_) t h
  try dsimp only
  simp only [State.setFleetSeq_spine, State.unitEvent_spine, spine_mk]

theorem execIdClashEnd_spine (dt : Nat) (s : State) (t : State) (h : execIdClashEnd dt s = .next t) :
    t.spine = (s.elapse dt).spine := by
  refine event_spine _ _ _ _ (fun u => ?_) t h
  try dsimp only
  simp only [spine_mk]

theorem execFleetFold_spine (dt : Nat) (s : State) (t : State) (h : execFleetFold dt s = .next t) :
    t.spine = (s.elapse dt).spine := by
  refine event_spine _ _ _ _ (fun u => ?_) t h
  try dsimp only
  (repeat' split) <;> first | rfl | simp only [State.foldJob_spine]

theorem execVisitedCacheExpiry_spine (dt : Nat) (s : State) (t : State) (h : execVisitedCacheExpiry dt s = .next t) :
    t.spine = (s.elapse dt).spine := by
  refine event_spine _ _ _ _ (fun u => ?_) t h
  try dsimp only
  simp only [spine_mk]

theorem execFleetQueryTimeout_spine (dt : Nat) (s : State) (t : State) (h : execFleetQueryTimeout dt s = .next t) :
    t.spine = (s.elapse dt).spine := by
  refine event_spine _ _ _ _ (fun u => ?_) t h
  try dsimp only
  (repeat' split) <;> first | rfl | simp only [State.queryFired_spine]

theorem execSweepOriginate_spine (dt : Nat) (s : State) (t : State) (h : execSweepOriginate dt s = .next t) :
    t.spine = (s.elapse dt).spine := by
  refine event_spine _ _ _ _ (fun u => ?_) t h
  try dsimp only
  simp only [State.sweepNext_spine]

theorem execStepUpPauseEnd_spine (dt : Nat) (s t : State) (h : execStepUpPauseEnd dt s = .next t) :
    t.spine = (s.elapse dt).spine := by
  refine event_spine _ _ _ _ (fun u => ?_) t h
  try dsimp only
  simp only [State.resume_spine, State.freePages_spine, State.drainCrossing_spine, spine_mk, apply_ite State.spine,
    ite_self]

theorem execPowerOnResetEnd_spine (dt : Nat) (s : State) (t : State) (h : execPowerOnResetEnd dt s = .next t) :
    t.spine = (s.elapse dt).spine := by
  refine event_spine _ _ _ _ (fun u => ?_) t h
  try dsimp only
  simp only [State.leaveReset_spine, spine_mk]

theorem execCoreEnReleaseWaitEnd_spine (dt : Nat) (s : State) (t : State)
    (h : execCoreEnReleaseWaitEnd dt s = .next t) :
    t.spine = (s.elapse dt).spine := by
  refine event_spine _ _ _ _ (fun u => ?_) t h
  try dsimp only
  simp only [State.leaveReset_spine, spine_mk]

theorem execPowerFailRearm_spine (dt : Nat) (vsys : Nat) (temp : Int) (s : State) (t : State)
    (h : execPowerFailRearm dt vsys temp s = .next t) :
    t.spine = (s.elapse dt).spine := by
  refine event_spine _ _ _ _ (fun u => ?_) t h
  try dsimp only
  simp only [State.senseTemp_spine, State.watchSupply_spine, State.ashRecord_spine, State.routeAsh_spine, spine_mk,
    apply_ite State.spine, ite_self]

theorem execAshRecordWrite_spine (dt : Nat) (s t : State) (h : execAshRecordWrite dt s = .next t) :
    t.spine = (s.elapse dt).spine := by
  refine event_spine _ _ _ _ (fun u => ?_) t h
  try dsimp only
  simp only [State.coalesce_spine, State.finishFail_spine, State.writeHead_spine, spine_mk, apply_ite State.spine,
    ite_self]

theorem execAshTokenAdd_spine (dt : Nat) (s : State) (t : State) (h : execAshTokenAdd dt s = .next t) :
    t.spine = (s.elapse dt).spine := by
  refine event_spine _ _ _ _ (fun u => ?_) t h
  try dsimp only
  simp only [State.coalesce_spine, spine_mk, apply_ite State.spine, ite_self]

theorem execRouterDelivery_spine (dt : Nat) (sink : Sink) (s : State) (t : State)
    (h : execRouterDelivery dt sink s = .next t) :
    t.spine = (s.elapse dt).spine := by
  refine event_spine _ _ _ _ (fun u => ?_) t h
  try dsimp only
  simp only [State.deliver_spine]

theorem execSmoulderRead_spine (dt : Nat) (region : Region) (upsets : List Upset) (lost : Bool) (s t : State)
    (h : execSmoulderRead dt region upsets lost s = .next t) :
    t.spine = (s.elapse dt).spine := by
  refine eventOf_spine _ _ _ _ _ (fun u => ?_) t h
  try dsimp only
  simp only [State.upset_spine, State.scrubStep_spine, State.scrubWord_spine, State.retrySpent_spine, spine_mk,
    spine_foldl, implies_true, apply_ite State.spine, ite_self]

theorem execVaultHeal_spine (dt : Nat) (upsets : List Upset) (lost : Nat) (s : State) (t : State)
    (h : execVaultHeal dt upsets lost s = .next t) :
    t.spine = (s.elapse dt).spine := by
  refine eventOf_spine _ _ _ _ _ (fun u => ?_) t h
  try dsimp only
  (repeat' split) <;> first | rfl | simp only [State.upset_spine, State.healVault_spine, spine_mk]

theorem execRowWrite_spine (dt : Nat) (bank : Fin 256) (lost : Nat) (stray : Option Access) (s t : State)
    (h : execRowWrite dt bank lost stray s = .next t) :
    t.spine = (s.elapse dt).spine := by
  refine event_spine _ _ _ _ (fun u => ?_) t h
  try dsimp only
  (repeat' split) <;> first | rfl | simp only [State.violate_spine, State.landWrite_spine, State.landHeld_spine,
    spine_mk, apply_ite State.spine, ite_self]

theorem execVsetStep_spine (dt : Nat) (s t : State) (h : execVsetStep dt s = .next t) :
    t.spine = (s.elapse dt).spine := by
  refine event_spine _ _ _ _ (fun u => ?_) t h
  try dsimp only
  simp only [State.stepUpNow_spine, State.approachVset_spine, State.releaseCore_spine, spine_mk, apply_ite
    State.spine, ite_self]

theorem execCanaryEvaluationStart_spine (dt : Nat) (s : State) (t : State)
    (h : execCanaryEvaluationStart dt s = .next t) :
    t.spine = (s.elapse dt).spine := by
  refine event_spine _ _ _ _ (fun u => ?_) t h
  try dsimp only
  simp only [spine_mk]

theorem execCanaryEvaluationEnd_spine (dt : Nat) (count : Nat) (s : State) (t : State)
    (h : execCanaryEvaluationEnd dt count s = .next t) :
    t.spine = (s.elapse dt).spine := by
  refine event_spine _ _ _ _ (fun u => ?_) t h
  try dsimp only
  (repeat' split) <;> first | rfl | simp only [State.restartWindow_spine, State.askStepUp_spine,
    State.canaryRecord_spine, spine_mk]

theorem execFrameDeadlineMonitorFail_spine (dt : Nat) (s : State) (t : State)
    (h : execFrameDeadlineMonitorFail dt s = .next t) :
    t.spine = (s.elapse dt).spine := by
  refine event_spine _ _ _ _ (fun u => ?_) t h
  try dsimp only
  (repeat' split) <;> first | rfl | simp only [State.failMonitor_spine]

theorem execReplayBlockEnd_spine (dt : Nat) (s : State) (t : State) (h : execReplayBlockEnd dt s = .next t) :
    t.spine = (s.elapse dt).spine := by
  refine event_spine _ _ _ _ (fun u => ?_) t h
  try dsimp only
  simp only [State.askStepUp_spine, spine_mk, apply_ite State.spine, ite_self]

theorem execReplayWindowEnd_spine (dt : Nat) (s : State) (t : State) (h : execReplayWindowEnd dt s = .next t) :
    t.spine = (s.elapse dt).spine := by
  refine event_spine _ _ _ _ (fun u => ?_) t h
  try dsimp only
  simp only [spine_mk]

theorem execShadowReplay_spine (dt : Nat) (pipeline after : Nat) (main shadow : BitVec 64) (s t : State)
    (h : execShadowReplay dt pipeline after main shadow s = .next t) :
    t.spine = (s.elapse dt).spine := by
  refine event_spine _ _ _ _ (fun u => ?_) t h
  try dsimp only
  simp only [spine_mk, apply_ite State.spine, ite_self]

theorem execDelayTapRaise_spine (dt : Nat) (pipeline : Nat) (s : State) (t : State)
    (h : execDelayTapRaise dt pipeline s = .next t) :
    t.spine = (s.elapse dt).spine := by
  refine event_spine _ _ _ _ (fun u => ?_) t h
  try dsimp only
  simp only [spine_mk]

theorem execDelayTapLower_spine (dt : Nat) (pipeline handshakes : Nat) (s : State) (t : State)
    (h : execDelayTapLower dt pipeline handshakes s = .next t) :
    t.spine = (s.elapse dt).spine := by
  refine event_spine _ _ _ _ (fun u => ?_) t h
  try dsimp only
  simp only [spine_mk]

theorem execStepDown_spine (dt : Nat) (handshakes : Nat) (s : State) (t : State)
    (h : execStepDown dt handshakes s = .next t) :
    t.spine = (s.elapse dt).spine := by
  refine event_spine _ _ _ _ (fun u => ?_) t h
  try dsimp only
  simp only [State.driveVset_spine, State.restartWindow_spine, spine_mk, apply_ite State.spine, ite_self]

theorem execStepUp_spine (dt : Nat) (s : State) (t : State) (h : execStepUp dt s = .next t) :
    t.spine = (s.elapse dt).spine := by
  refine event_spine _ _ _ _ (fun u => ?_) t h
  try dsimp only
  simp only [State.stepUpNow_spine, spine_mk, apply_ite State.spine, ite_self]

theorem execHoldoffExpiry_spine (dt : Nat) (s : State) (t : State) (h : execHoldoffExpiry dt s = .next t) :
    t.spine = (s.elapse dt).spine := by
  refine event_spine _ _ _ _ (fun u => ?_) t h
  try dsimp only
  simp only [State.restartWindow_spine, spine_mk]

theorem execTickOutputs_spine (dt : Nat) (s : State) (t : State) (h : execTickOutputs dt s = .next t) :
    t.spine = (s.elapse dt).spine := by
  refine event_spine _ _ _ _ (fun u => ?_) t h
  try dsimp only
  (repeat' split) <;> first | rfl | simp only [State.drivePins_spine, State.reportTick_spine,
    State.reportPins_spine, State.judgeDeadline_spine, State.judgeIdle_spine, spine_mk]

theorem execHeartbeat_spine (dt : Nat) (s : State) (t : State) (h : execHeartbeat dt s = .next t) :
    t.spine = (s.elapse dt).spine := by
  refine event_spine _ _ _ _ (fun u => ?_) t h
  try dsimp only
  simp only [State.report_spine, spine_mk]

theorem execLedFlash_spine (dt : Nat) (led : Bool) (s : State) (t : State) (h : execLedFlash dt led s = .next t) :
    t.spine = (s.elapse dt).spine := by
  refine event_spine _ _ _ _ (fun u => ?_) t h
  try dsimp only
  simp only [spine_mk]

theorem execIdleTimerExpiry_spine (dt : Nat) (s : State) (t : State) (h : execIdleTimerExpiry dt s = .next t) :
    t.spine = (s.elapse dt).spine := by
  refine event_spine _ _ _ _ (fun u => ?_) t h
  try dsimp only
  simp only [spine_mk]

theorem execSpotWakeTimerExpiry_spine (dt : Nat) (s t : State) (h : execSpotWakeTimerExpiry dt s = .next t) :
    t.spine = (s.elapse dt).spine := by
  refine event_spine _ _ _ _ (fun u => ?_) t h
  try dsimp only
  simp only [State.requestWake_spine, spine_mk, apply_ite State.spine, ite_self]

theorem execBankedWake_spine (dt : Nat) (s : State) (t : State) (h : execBankedWake dt s = .next t) :
    t.spine = (s.elapse dt).spine := by
  refine event_spine _ _ _ _ (fun u => ?_) t h
  try dsimp only
  simp only [spine_mk]

theorem execEmberWake_spine (dt : Nat) (s : State) (t : State) (h : execEmberWake dt s = .next t) :
    t.spine = (s.elapse dt).spine := by
  refine event_spine _ _ _ _ (fun u => ?_) t h
  try dsimp only
  simp only [spine_mk]

theorem execSpotWakeResleep_spine (dt : Nat) (s : State) (t : State) (h : execSpotWakeResleep dt s = .next t) :
    t.spine = (s.elapse dt).spine := by
  refine event_spine _ _ _ _ (fun u => ?_) t h
  try dsimp only
  simp only [spine_mk]

theorem execCandidateDecision_ok (dt : Nat) (s : State) (t : State) (hok : storeOk s.mem s.ecc)
    (h : execCandidateDecision dt s = .next t) :
    storeOk t.mem t.ecc := by
  refine event_ok _ _ _ _ (fun u hok => ?_) t hok h
  repeat' first
    | with_reducible assumption | with_reducible apply State.decideCandidate_ok
    | with_reducible apply State.placeHeld_ok

theorem execTachCapture_ok (dt : Nat) (input : Fin 4) (uv : Nat) (s t : State) (hok : storeOk s.mem s.ecc)
    (h : execTachCapture dt input uv s = .next t) :
    storeOk t.mem t.ecc := by
  refine event_ok _ _ _ _ (fun u hok => ?_) t hok h
  repeat' first
    | with_reducible assumption | with_reducible apply State.senseTach_ok

theorem execDecimatorOutput_ok (dt : Nat) (samples : List RawSample) (s : State) (t : State)
    (hok : storeOk s.mem s.ecc) (h : execDecimatorOutput dt samples s = .next t) :
    storeOk t.mem t.ecc := by
  refine eventOf_ok _ _ _ _ _ (fun u hok => ?_) t hok h
  repeat' first
    | with_reducible assumption | with_reducible apply State.decideAll_ok | with_reducible apply State.placeHeld_ok
    | with_reducible apply State.ageLimiters_ok | with_reducible apply State.placeSample_ok
    | with_reducible apply ok_foldl | with_reducible apply ok_ite

theorem execSlowTick_ok (dt : Nat) (inputs : SlowInputs) (s : State) (t : State) (hok : storeOk s.mem s.ecc)
    (h : execSlowTick dt inputs s = .next t) :
    storeOk t.mem t.ecc := by
  refine eventOf_ok _ _ _ _ _ (fun u hok => ?_) t hok h
  repeat' first
    | with_reducible assumption | with_reducible apply State.senseTemp_ok
    | with_reducible apply State.evaluateBiases_ok | with_reducible apply State.evaluateShock_ok
    | with_reducible apply State.sampleLink_ok | with_reducible apply State.wakeTick_ok
    | with_reducible apply ok_foldl | with_reducible apply ok_ite

theorem execChannelRecovery_ok (dt : Nat) (channel : Fin 32) (s t : State) (hok : storeOk s.mem s.ecc)
    (h : execChannelRecovery dt channel s = .next t) :
    storeOk t.mem t.ecc := by
  refine event_ok _ _ _ _ (fun u hok => ?_) t hok h
  repeat' first
    | with_reducible assumption | with_reducible apply State.setStatus_ok | with_reducible apply State.redoTurn_ok

theorem execHoldbackRelease_ok (dt : Nat) (channel : Fin 32) (s : State) (t : State) (hok : storeOk s.mem s.ecc)
    (h : execHoldbackRelease dt channel s = .next t) :
    storeOk t.mem t.ecc := by
  refine event_ok _ _ _ _ (fun u hok => ?_) t hok h
  repeat' first
    | with_reducible assumption | with_reducible apply ok_foldl | with_reducible apply ok_ite
    | with_reducible apply ok_set | with_reducible apply ok_mram | with_reducible apply ok_fold_set | split

theorem execAuxConversion_ok (dt : Nat) (input : Fin 8) (code : BitVec 12) (s : State) (t : State)
    (hok : storeOk s.mem s.ecc) (h : execAuxConversion dt input code s = .next t) :
    storeOk t.mem t.ecc := by
  refine event_ok _ _ _ _ (fun u hok => ?_) t hok h
  repeat' first | with_reducible assumption

theorem execLabelReading_ok (dt : Nat) (zero ref pin : Codes) (teachN forgetN holdN : Bool) (s t : State) (hok : storeOk s.mem s.ecc)
    (h : execLabelReading dt zero ref pin teachN forgetN holdN s = .next t) :
    storeOk t.mem t.ecc := by
  refine event_ok _ _ _ _ (fun u hok => ?_) t hok h
  repeat' first
    | with_reducible assumption

theorem execLabelAccepted_ok (dt : Nat) (s : State) (t : State) (hok : storeOk s.mem s.ecc)
    (h : execLabelAccepted dt s = .next t) :
    storeOk t.mem t.ecc := by
  refine event_ok _ _ _ _ (fun u hok => ?_) t hok h
  repeat' first | with_reducible assumption | with_reducible apply State.abandonTeach_ok

theorem execTeachPress_ok (dt : Nat) (s : State) (t : State) (hok : storeOk s.mem s.ecc)
    (h : execTeachPress dt s = .next t) :
    storeOk t.mem t.ecc := by
  refine event_ok _ _ _ _ (fun u hok => ?_) t hok h
  repeat' first
    | with_reducible assumption | with_reducible apply State.teachRecord_ok | with_reducible apply ok_foldl
    | with_reducible apply ok_ite

theorem execForgetPress_ok (dt : Nat) (s : State) (t : State) (hok : storeOk s.mem s.ecc)
    (h : execForgetPress dt s = .next t) :
    storeOk t.mem t.ecc := by
  refine event_ok _ _ _ _ (fun u hok => ?_) t hok h
  repeat' first
    | with_reducible assumption | with_reducible apply State.abandonTeach_ok | with_reducible apply State.forget_ok
    | with_reducible apply State.teachRecord_ok | with_reducible apply ok_foldl | with_reducible apply ok_ite

theorem execHoldChange_ok (dt : Nat) (s : State) (t : State) (hok : storeOk s.mem s.ecc)
    (h : execHoldChange dt s = .next t) :
    storeOk t.mem t.ecc := by
  refine event_ok _ _ _ _ (fun u hok => ?_) t hok h
  repeat' first | with_reducible assumption

theorem execRekindle_ok (dt : Nat) (s : State) (t : State) (hok : storeOk s.mem s.ecc)
    (h : execRekindle dt s = .next t) :
    storeOk t.mem t.ecc := by
  refine event_ok _ _ _ _ (fun u hok => ?_) t hok h
  repeat' first
    | with_reducible assumption | with_reducible apply State.freeRow_ok | with_reducible apply State.teachRecord_ok
    | with_reducible apply ok_foldl

theorem execLearningStage_ok (dt : Nat) (upsets : List Upset) (s : State) (t : State) (hok : storeOk s.mem s.ecc)
    (h : execLearningStage dt upsets s = .next t) :
    storeOk t.mem t.ecc := by
  refine eventOf_ok _ _ _ _ _ (fun u hok => ?_) t hok h
  repeat' first
    | with_reducible assumption | with_reducible apply State.upset_ok | with_reducible apply State.learnStage_ok
    | with_reducible apply ok_foldl | with_reducible apply ok_ite | with_reducible apply ok_set
    | with_reducible apply ok_mram | with_reducible apply ok_fold_set | split | intro _ _ _ | dsimp only

theorem execTeachTimeout_ok (dt : Nat) (s : State) (t : State) (hok : storeOk s.mem s.ecc)
    (h : execTeachTimeout dt s = .next t) :
    storeOk t.mem t.ecc := by
  refine event_ok _ _ _ _ (fun u hok => ?_) t hok h
  repeat' first
    | with_reducible assumption | with_reducible apply State.teachTimeoutAt_ok | with_reducible apply ok_foldl
    | with_reducible apply ok_ite | with_reducible apply ok_set | with_reducible apply ok_mram
    | with_reducible apply ok_fold_set | split

theorem execCommit_ok (dt : Nat) (acc : Fin 512) (upsets : List Upset) (s : State) (t : State)
    (hok : storeOk s.mem s.ecc) (h : execCommit dt acc upsets s = .next t) :
    storeOk t.mem t.ecc := by
  refine eventOf_ok _ _ _ _ _ (fun u hok => ?_) t hok h
  repeat' first
    | with_reducible assumption | with_reducible apply State.upset_ok | with_reducible apply State.commitAccum_ok
    | with_reducible apply ok_foldl | with_reducible apply ok_ite | with_reducible apply ok_set
    | with_reducible apply ok_mram | with_reducible apply ok_fold_set | split | intro _ _ _ | dsimp only

theorem execVaultMirror_ok (dt : Nat) (upsets : List Upset) (s : State) (t : State) (hok : storeOk s.mem s.ecc)
    (h : execVaultMirror dt upsets s = .next t) :
    storeOk t.mem t.ecc := by
  refine eventOf_ok _ _ _ _ _ (fun u hok => ?_) t hok h
  repeat' first
    | with_reducible assumption | with_reducible apply State.upset_ok | with_reducible apply State.mirrorRow_ok
    | with_reducible apply ok_foldl | with_reducible apply ok_ite | with_reducible apply ok_set
    | with_reducible apply ok_mram | with_reducible apply ok_fold_set | split | intro _ _ _ | dsimp only

theorem execJournalCommit_ok (dt : Nat) (s : State) (t : State) (hok : storeOk s.mem s.ecc)
    (h : execJournalCommit dt s = .next t) :
    storeOk t.mem t.ecc := by
  refine event_ok _ _ _ _ (fun u hok => ?_) t hok h
  repeat' first
    | with_reducible assumption | with_reducible apply State.commitEntry_ok | with_reducible apply ok_foldl
    | with_reducible apply ok_ite | with_reducible apply ok_set | with_reducible apply ok_mram
    | with_reducible apply ok_fold_set | split

theorem execKindlingCounterPersist_ok (dt : Nat) (s : State) (t : State) (hok : storeOk s.mem s.ecc)
    (h : execKindlingCounterPersist dt s = .next t) :
    storeOk t.mem t.ecc := by
  refine event_ok _ _ _ _ (fun u hok => ?_) t hok h
  repeat' first | with_reducible assumption | with_reducible apply State.persistCounters_ok

theorem execLibraryHeaderReadComplete_ok (dt : Nat) (header : List Byte) (s : State) (t : State)
    (hok : storeOk s.mem s.ecc) (h : execLibraryHeaderReadComplete dt header s = .next t) :
    storeOk t.mem t.ecc := by
  refine eventOf_ok _ _ _ _ _ (fun u hok => ?_) t hok h
  repeat' first
    | with_reducible assumption | with_reducible apply State.refuse_ok | with_reducible apply ok_foldl
    | with_reducible apply ok_ite | with_reducible apply ok_set | with_reducible apply ok_mram
    | with_reducible apply ok_fold_set | split

theorem execLibraryItemReceived_ok (dt : Nat) (item : List Byte) (s : State) (t : State)
    (hok : storeOk s.mem s.ecc) (h : execLibraryItemReceived dt item s = .next t) :
    storeOk t.mem t.ecc := by
  refine eventOf_ok _ _ _ _ _ (fun u hok => ?_) t hok h
  repeat' first
    | with_reducible assumption | with_reducible apply State.planArrives_ok
    | with_reducible apply State.recordArrives_ok | with_reducible apply ok_foldl | with_reducible apply ok_ite
    | with_reducible apply ok_set | with_reducible apply ok_mram | with_reducible apply ok_fold_set | split

theorem execLibraryBodyComplete_ok (dt : Nat) (s : State) (t : State) (hok : storeOk s.mem s.ecc)
    (h : execLibraryBodyComplete dt s = .next t) :
    storeOk t.mem t.ecc := by
  refine event_ok _ _ _ _ (fun u hok => ?_) t hok h
  repeat' first
    | with_reducible assumption | with_reducible apply State.acceptImage_ok | with_reducible apply State.refuse_ok
    | with_reducible apply ok_foldl | with_reducible apply ok_ite

theorem execRefetch_ok (dt : Nat) (s : State) (t : State) (hok : storeOk s.mem s.ecc)
    (h : execRefetch dt s = .next t) :
    storeOk t.mem t.ecc := by
  refine event_ok _ _ _ _ (fun u hok => ?_) t hok h
  repeat' first
    | with_reducible assumption | with_reducible apply ok_foldl | with_reducible apply ok_ite
    | with_reducible apply ok_set | with_reducible apply ok_mram | with_reducible apply ok_fold_set | split
    | intro _ _ _ | dsimp only

theorem execRefetchComplete_ok (dt : Nat) (item : List Byte) (lost : Nat) (s t : State) (hok : storeOk s.mem s.ecc)
    (h : execRefetchComplete dt item lost s = .next t) :
    storeOk t.mem t.ecc := by
  refine eventOf_ok _ _ _ _ _ (fun u hok => ?_) t hok h
  repeat' first
    | with_reducible assumption | with_reducible apply State.fillFlash_ok | with_reducible apply State.applyItem_ok
    | with_reducible apply ok_ite

theorem execBandPlanRetry_ok (dt : Nat) (item : List Byte) (s t : State) (hok : storeOk s.mem s.ecc)
    (h : execBandPlanRetry dt item s = .next t) :
    storeOk t.mem t.ecc := by
  refine eventOf_ok _ _ _ _ _ (fun u hok => ?_) t hok h
  repeat' first
    | with_reducible assumption | with_reducible apply State.fillFlash_ok | with_reducible apply State.planAttempt_ok
    | with_reducible apply ok_ite

theorem execFeatureExtractionStart_ok (dt : Nat) (array : Fin 4) (s : State) (t : State)
    (hok : storeOk s.mem s.ecc) (h : execFeatureExtractionStart dt array s = .next t) :
    storeOk t.mem t.ecc := by
  refine event_ok _ _ _ _ (fun u hok => ?_) t hok h
  repeat' first
    | with_reducible assumption | with_reducible apply State.editFrame_ok | with_reducible apply ok_foldl
    | with_reducible apply ok_ite | with_reducible apply ok_set | with_reducible apply ok_mram
    | with_reducible apply ok_fold_set | split

theorem execFeatureExtractionDone_ok (dt : Nat) (array : Fin 4) (upsets : List Upset) (s t : State) (hok : storeOk s.mem s.ecc)
    (h : execFeatureExtractionDone dt array upsets s = .next t) :
    storeOk t.mem t.ecc := by
  refine eventOf_ok _ _ _ _ _ (fun u hok => ?_) t hok h
  repeat' first
    | with_reducible assumption | with_reducible apply State.upset_ok | with_reducible apply State.editFrame_ok
    | with_reducible apply State.freePage_ok | with_reducible apply State.wordEvent_ok
    | with_reducible apply State.planBad_ok | with_reducible apply State.extract_ok
    | with_reducible apply State.wipe_ok | with_reducible apply State.restartJob_ok | with_reducible apply ok_foldl
    | with_reducible apply ok_ite | with_reducible apply ok_set | with_reducible apply ok_mram
    | with_reducible apply ok_filter | with_reducible apply ok_fold_set | split | intro _ _ _ | dsimp only

theorem execTickEncoding_ok (dt : Nat) (upsets : List Upset) (s : State) (t : State) (hok : storeOk s.mem s.ecc)
    (h : execTickEncoding dt upsets s = .next t) :
    storeOk t.mem t.ecc := by
  refine eventOf_ok _ _ _ _ _ (fun u hok => ?_) t hok h
  repeat' first
    | with_reducible assumption | with_reducible apply State.upset_ok | with_reducible apply State.encode_ok
    | with_reducible apply State.startRebuild_ok | with_reducible apply State.clearHistory_ok
    | with_reducible apply State.wordEvent_ok | with_reducible apply ok_foldl | with_reducible apply ok_ite
    | with_reducible apply ok_set | with_reducible apply ok_mram | with_reducible apply ok_fold_set | split
    | intro _ _ _ | dsimp only

theorem execItemMemoryRebuildEnd_ok (dt : Nat) (s : State) (t : State) (hok : storeOk s.mem s.ecc)
    (h : execItemMemoryRebuildEnd dt s = .next t) :
    storeOk t.mem t.ecc := by
  refine event_ok _ _ _ _ (fun u hok => ?_) t hok h
  repeat' first | with_reducible assumption | with_reducible apply State.buildItems_ok

theorem execQueryStart_ok (dt scan : Nat) (upsets : List Upset) (s t : State) (hok : storeOk s.mem s.ecc)
    (h : execQueryStart dt scan upsets s = .next t) :
    storeOk t.mem t.ecc := by
  refine eventOf_ok _ _ _ _ _ (fun u hok => ?_) t hok h
  repeat' first
    | with_reducible assumption | with_reducible apply State.upset_ok | with_reducible apply State.startFleet_ok
    | with_reducible apply State.startLocal_ok | with_reducible apply ok_foldl | with_reducible apply ok_ite
    | with_reducible apply ok_set | with_reducible apply ok_mram | with_reducible apply ok_filter
    | with_reducible apply ok_fold_set | split | intro _ _ _ | dsimp only

theorem execRecallResult_ok (dt : Nat) (replays : Nat) (s : State) (t : State) (hok : storeOk s.mem s.ecc)
    (h : execRecallResult dt replays s = .next t) :
    storeOk t.mem t.ecc := by
  refine event_ok _ _ _ _ (fun u hok => ?_) t hok h
  repeat' first
    | with_reducible assumption | with_reducible apply State.deliverRecall_ok
    | with_reducible apply State.metErrors_ok | with_reducible apply ok_foldl | with_reducible apply ok_ite
    | with_reducible apply ok_set | with_reducible apply ok_mram | with_reducible apply ok_fold_set | split

theorem execPhyLinkUp_ok (dt : Nat) (port : Port) (s : State) (t : State) (hok : storeOk s.mem s.ecc)
    (h : execPhyLinkUp dt port s = .next t) :
    storeOk t.mem t.ecc := by
  refine event_ok _ _ _ _ (fun u hok => ?_) t hok h
  repeat' first | with_reducible assumption | with_reducible apply State.proposeReset_ok

theorem execLinkResetReceived_ok (dt : Nat) (port : Port) (frame : List Byte) (s : State) (t : State)
    (hok : storeOk s.mem s.ecc) (h : execLinkResetReceived dt port frame s = .next t) :
    storeOk t.mem t.ecc := by
  refine event_ok _ _ _ _ (fun u hok => ?_) t hok h
  repeat' first
    | with_reducible assumption | with_reducible apply State.notePeer_ok | with_reducible apply State.linkDown_ok
    | with_reducible apply State.completeReset_ok | with_reducible apply State.adoptReset_ok
    | with_reducible apply ok_foldl | with_reducible apply ok_ite | with_reducible apply ok_set
    | with_reducible apply ok_mram | with_reducible apply ok_fold_set | split | intro _ _ _ | dsimp only

theorem execResetAckReceived_ok (dt : Nat) (port : Port) (frame : List Byte) (s : State) (t : State)
    (hok : storeOk s.mem s.ecc) (h : execResetAckReceived dt port frame s = .next t) :
    storeOk t.mem t.ecc := by
  refine event_ok _ _ _ _ (fun u hok => ?_) t hok h
  repeat' first
    | with_reducible assumption | with_reducible apply State.notePeer_ok | with_reducible apply State.linkDown_ok
    | with_reducible apply State.completeReset_ok | with_reducible apply ok_foldl | with_reducible apply ok_ite
    | with_reducible apply ok_set | with_reducible apply ok_mram | with_reducible apply ok_fold_set | split
    | intro _ _ _ | dsimp only

theorem execLinkResetResend_ok (dt : Nat) (port : Port) (s : State) (t : State) (hok : storeOk s.mem s.ecc)
    (h : execLinkResetResend dt port s = .next t) :
    storeOk t.mem t.ecc := by
  refine event_ok _ _ _ _ (fun u hok => ?_) t hok h
  repeat' first | with_reducible assumption | with_reducible apply State.resendReset_ok

theorem execLinkRecoveryAttempt_ok (dt : Nat) (port : Port) (s : State) (t : State) (hok : storeOk s.mem s.ecc)
    (h : execLinkRecoveryAttempt dt port s = .next t) :
    storeOk t.mem t.ecc := by
  refine event_ok _ _ _ _ (fun u hok => ?_) t hok h
  repeat' first
    | with_reducible assumption | with_reducible apply State.setPort_ok | with_reducible apply State.resendReset_ok
    | with_reducible apply State.proposeReset_ok | with_reducible apply ok_foldl | with_reducible apply ok_ite

theorem execAckFrameReceived_ok (dt : Nat) (port : Port) (frame : List Byte) (s : State) (t : State)
    (hok : storeOk s.mem s.ecc) (h : execAckFrameReceived dt port frame s = .next t) :
    storeOk t.mem t.ecc := by
  refine event_ok _ _ _ _ (fun u hok => ?_) t hok h
  repeat' first
    | with_reducible assumption | with_reducible apply State.notePeer_ok | with_reducible apply State.setPort_ok
    | with_reducible apply State.takeAck_ok | with_reducible apply ok_foldl | with_reducible apply ok_ite

theorem execAckTimerExpiry_ok (dt : Nat) (port : Port) (s : State) (t : State) (hok : storeOk s.mem s.ecc)
    (h : execAckTimerExpiry dt port s = .next t) :
    storeOk t.mem t.ecc := by
  refine event_ok _ _ _ _ (fun u hok => ?_) t hok h
  repeat' first | with_reducible assumption | with_reducible apply State.goBack_ok

theorem execDataFrameReceived_ok (dt : Nat) (port : Port) (frame : List Byte) (lost : Nat) (s t : State) (hok : storeOk s.mem s.ecc)
    (h : execDataFrameReceived dt port frame lost s = .next t) :
    storeOk t.mem t.ecc := by
  refine event_ok _ _ _ _ (fun u hok => ?_) t hok h
  repeat' first
    | with_reducible assumption | with_reducible apply State.receiveData_ok

theorem execFrameHeaderReceived_ok (dt : Nat) (port : Port) (header : List Byte) (s t : State) (hok : storeOk s.mem s.ecc)
    (h : execFrameHeaderReceived dt port header s = .next t) :
    storeOk t.mem t.ecc := by
  refine eventOf_ok _ _ _ _ _ (fun u hok => ?_) t hok h
  repeat' first
    | with_reducible assumption | with_reducible apply State.startCut_ok

theorem execPortTransmit_ok (dt : Nat) (port : Port) (badCell : Bool) (s : State) (t : State)
    (hok : storeOk s.mem s.ecc) (h : execPortTransmit dt port badCell s = .next t) :
    storeOk t.mem t.ecc := by
  refine event_ok _ _ _ _ (fun u hok => ?_) t hok h
  repeat' first
    | with_reducible assumption | with_reducible apply State.sendLink_ok | with_reducible apply State.sendAgain_ok
    | with_reducible apply State.dropQueued_ok | with_reducible apply State.wordEvent_ok
    | with_reducible apply State.sendData_ok | with_reducible apply ok_foldl | with_reducible apply ok_ite
    | with_reducible apply ok_set | with_reducible apply ok_mram | with_reducible apply ok_fold_set | split

theorem execCreditTableTimer_ok (dt : Nat) (port : Port) (s t : State) (hok : storeOk s.mem s.ecc)
    (h : execCreditTableTimer dt port s = .next t) :
    storeOk t.mem t.ecc := by
  refine event_ok _ _ _ _ (fun u hok => ?_) t hok h
  repeat' first
    | with_reducible assumption | with_reducible apply State.setAside_ok | with_reducible apply State.setPort_ok
    | with_reducible apply ok_foldl | with_reducible apply ok_ite | with_reducible apply ok_set
    | with_reducible apply ok_mram | with_reducible apply ok_filter | with_reducible apply ok_fold_set | split
    | intro _ _ _ | dsimp only

theorem execQueueAgeDiscard_ok (dt : Nat) (s : State) (t : State) (hok : storeOk s.mem s.ecc)
    (h : execQueueAgeDiscard dt s = .next t) :
    storeOk t.mem t.ecc := by
  refine event_ok _ _ _ _ (fun u hok => ?_) t hok h
  repeat' first | with_reducible assumption | with_reducible apply State.ageOut_ok

theorem execCensusOriginate_ok (dt : Nat) (s : State) (t : State) (hok : storeOk s.mem s.ecc)
    (h : execCensusOriginate dt s = .next t) :
    storeOk t.mem t.ecc := by
  refine event_ok _ _ _ _ (fun u hok => ?_) t hok h
  repeat' first | with_reducible assumption | with_reducible apply State.originate_ok

theorem execRingMapEntryExpiry_ok (dt : Nat) (id : BitVec 8) (s : State) (t : State) (hok : storeOk s.mem s.ecc)
    (h : execRingMapEntryExpiry dt id s = .next t) :
    storeOk t.mem t.ecc := by
  refine event_ok _ _ _ _ (fun u hok => ?_) t hok h
  repeat' first
    | with_reducible assumption | with_reducible apply State.setFleetSeq_ok | with_reducible apply State.unitEvent_ok

theorem execIdClashEnd_ok (dt : Nat) (s : State) (t : State) (hok : storeOk s.mem s.ecc)
    (h : execIdClashEnd dt s = .next t) :
    storeOk t.mem t.ecc := by
  refine event_ok _ _ _ _ (fun u hok => ?_) t hok h
  repeat' first | with_reducible assumption

theorem execFleetFold_ok (dt : Nat) (s : State) (t : State) (hok : storeOk s.mem s.ecc)
    (h : execFleetFold dt s = .next t) :
    storeOk t.mem t.ecc := by
  refine event_ok _ _ _ _ (fun u hok => ?_) t hok h
  repeat' first
    | with_reducible assumption | with_reducible apply State.foldJob_ok | with_reducible apply ok_foldl
    | with_reducible apply ok_ite | with_reducible apply ok_set | with_reducible apply ok_mram
    | with_reducible apply ok_fold_set | split

theorem execVisitedCacheExpiry_ok (dt : Nat) (s : State) (t : State) (hok : storeOk s.mem s.ecc)
    (h : execVisitedCacheExpiry dt s = .next t) :
    storeOk t.mem t.ecc := by
  refine event_ok _ _ _ _ (fun u hok => ?_) t hok h
  repeat' first | with_reducible assumption

theorem execFleetQueryTimeout_ok (dt : Nat) (s : State) (t : State) (hok : storeOk s.mem s.ecc)
    (h : execFleetQueryTimeout dt s = .next t) :
    storeOk t.mem t.ecc := by
  refine event_ok _ _ _ _ (fun u hok => ?_) t hok h
  repeat' first
    | with_reducible assumption | with_reducible apply State.queryFired_ok | with_reducible apply ok_foldl
    | with_reducible apply ok_ite | with_reducible apply ok_set | with_reducible apply ok_mram
    | with_reducible apply ok_fold_set | split

theorem execSweepOriginate_ok (dt : Nat) (s : State) (t : State) (hok : storeOk s.mem s.ecc)
    (h : execSweepOriginate dt s = .next t) :
    storeOk t.mem t.ecc := by
  refine event_ok _ _ _ _ (fun u hok => ?_) t hok h
  repeat' first | with_reducible assumption | with_reducible apply State.sweepNext_ok

theorem execStepUpPauseEnd_ok (dt : Nat) (s t : State) (hok : storeOk s.mem s.ecc)
    (h : execStepUpPauseEnd dt s = .next t) :
    storeOk t.mem t.ecc := by
  refine event_ok _ _ _ _ (fun u hok => ?_) t hok h
  repeat' first
    | with_reducible assumption | with_reducible apply State.resume_ok | with_reducible apply State.freePages_ok
    | with_reducible apply State.drainCrossing_ok

theorem execPowerOnResetEnd_ok (dt : Nat) (s : State) (t : State) (hok : storeOk s.mem s.ecc)
    (h : execPowerOnResetEnd dt s = .next t) :
    storeOk t.mem t.ecc := by
  refine event_ok _ _ _ _ (fun u hok => ?_) t hok h
  repeat' first | with_reducible assumption | with_reducible apply State.leaveReset_ok

theorem execPorThresholdCrossed_ok (dt : Nat) (what : PorEvent) (s t : State) (hok : storeOk s.mem s.ecc)
    (h : execPorThresholdCrossed dt what s = .next t) :
    storeOk t.mem t.ecc := by
  refine event_ok _ _ _ _ (fun u hok => ?_) t hok h
  repeat' first
    | with_reducible assumption | with_reducible apply State.railFalls_ok | with_reducible apply State.railRises_ok
    | with_reducible apply State.oscillatorSettles_ok | with_reducible apply ok_foldl | with_reducible apply ok_ite
    | with_reducible apply ok_set | with_reducible apply ok_mram | with_reducible apply ok_filter
    | with_reducible apply ok_fold_set | split | intro _ _ _ | dsimp only

theorem execResetNAsserted_ok (dt lowSamples : Nat) (progress : MramProgress) (s t : State) (hok : storeOk s.mem s.ecc)
    (h : execResetNAsserted dt lowSamples progress s = .next t) :
    storeOk t.mem t.ecc := by
  refine event_ok _ _ _ _ (fun u hok => ?_) t hok h
  repeat' first
    | with_reducible assumption | with_reducible apply State.stopMram_ok | with_reducible apply State.enterReset_ok
    | with_reducible apply ok_ite

theorem execResetNReleased_ok (dt : Nat) (s : State) (t : State) (hok : storeOk s.mem s.ecc)
    (h : execResetNReleased dt s = .next t) :
    storeOk t.mem t.ecc := by
  refine event_ok _ _ _ _ (fun u hok => ?_) t hok h
  repeat' first
    | with_reducible assumption | with_reducible apply State.leaveReset_ok | with_reducible apply State.tapOff_ok

theorem execCoreEnReleaseWaitEnd_ok (dt : Nat) (s : State) (t : State) (hok : storeOk s.mem s.ecc)
    (h : execCoreEnReleaseWaitEnd dt s = .next t) :
    storeOk t.mem t.ecc := by
  refine event_ok _ _ _ _ (fun u hok => ?_) t hok h
  repeat' first | with_reducible assumption | with_reducible apply State.leaveReset_ok

theorem execCorePowerWaitEnd_ok (dt : Nat) (s t : State) (hok : storeOk s.mem s.ecc)
    (h : execCorePowerWaitEnd dt s = .next t) :
    storeOk t.mem t.ecc := by
  refine event_ok _ _ _ _ (fun u hok => ?_) t hok h
  repeat' first
    | with_reducible assumption | with_reducible apply State.findHead_ok
    | with_reducible apply State.enterPowerFail_ok | with_reducible apply State.enterBist_ok
    | with_reducible apply ok_ite

theorem execPowerFailTrip_ok (dt : Nat) (vsys : Nat) (temp : Int) (progress : MramProgress) (s t : State) (hok : storeOk s.mem s.ecc)
    (h : execPowerFailTrip dt vsys temp progress s = .next t) :
    storeOk t.mem t.ecc := by
  refine event_ok _ _ _ _ (fun u hok => ?_) t hok h
  repeat' first
    | with_reducible assumption | with_reducible apply State.senseTemp_ok | with_reducible apply State.watchSupply_ok
    | with_reducible apply State.enterPowerFail_ok | with_reducible apply ok_ite

theorem execPowerFailRearm_ok (dt : Nat) (vsys : Nat) (temp : Int) (s : State) (t : State)
    (hok : storeOk s.mem s.ecc) (h : execPowerFailRearm dt vsys temp s = .next t) :
    storeOk t.mem t.ecc := by
  refine event_ok _ _ _ _ (fun u hok => ?_) t hok h
  repeat' first
    | with_reducible assumption | with_reducible apply State.senseTemp_ok | with_reducible apply State.watchSupply_ok
    | with_reducible apply State.ashRecord_ok | with_reducible apply State.routeAsh_ok | with_reducible apply ok_foldl
    | with_reducible apply ok_ite

theorem execPowerFailRecovery_ok (dt : Nat) (s t : State) (hok : storeOk s.mem s.ecc)
    (h : execPowerFailRecovery dt s = .next t) :
    storeOk t.mem t.ecc := by
  refine event_ok _ _ _ _ (fun u hok => ?_) t hok h
  repeat' first
    | with_reducible assumption | with_reducible apply State.finishFail_ok | with_reducible apply State.enterReset_ok

theorem execStrapMeasurement_ok (dt : Nat) (codes : Codes) (testN ashdumpN : Bool) (s t : State) (hok : storeOk s.mem s.ecc)
    (h : execStrapMeasurement dt codes testN ashdumpN s = .next t) :
    storeOk t.mem t.ecc := by
  refine event_ok _ _ _ _ (fun u hok => ?_) t hok h
  repeat' first
    | with_reducible assumption | with_reducible apply ok_ite

theorem execStrapReadEnd_ok (dt : Nat) (s t : State) (hok : storeOk s.mem s.ecc)
    (h : execStrapReadEnd dt s = .next t) :
    storeOk t.mem t.ecc := by
  refine event_ok _ _ _ _ (fun u hok => ?_) t hok h
  repeat' first
    | with_reducible assumption | with_reducible apply State.countBoot_ok | with_reducible apply State.bootRecords_ok
    | with_reducible apply State.enterConfigFault_ok | with_reducible apply State.enterBist_ok
    | with_reducible apply ok_ite

theorem execAshDumpStart_ok (dt : Nat) (s : State) (t : State) (hok : storeOk s.mem s.ecc)
    (h : execAshDumpStart dt s = .next t) :
    storeOk t.mem t.ecc := by
  refine event_ok _ _ _ _ (fun u hok => ?_) t hok h
  repeat' first | with_reducible assumption

theorem execAshDumpEnd_ok (dt : Nat) (s t : State) (hok : storeOk s.mem s.ecc) (h : execAshDumpEnd dt s = .next t) :
    storeOk t.mem t.ecc := by
  refine event_ok _ _ _ _ (fun u hok => ?_) t hok h
  repeat' first
    | with_reducible assumption | with_reducible apply State.enterBist_ok | with_reducible apply ok_ite

theorem execAshRecordWrite_ok (dt : Nat) (s t : State) (hok : storeOk s.mem s.ecc)
    (h : execAshRecordWrite dt s = .next t) :
    storeOk t.mem t.ecc := by
  refine event_ok _ _ _ _ (fun u hok => ?_) t hok h
  repeat' first
    | with_reducible assumption | with_reducible apply State.coalesce_ok | with_reducible apply State.finishFail_ok
    | with_reducible apply State.writeHead_ok

theorem execAshTokenAdd_ok (dt : Nat) (s : State) (t : State) (hok : storeOk s.mem s.ecc)
    (h : execAshTokenAdd dt s = .next t) :
    storeOk t.mem t.ecc := by
  refine event_ok _ _ _ _ (fun u hok => ?_) t hok h
  repeat' first
    | with_reducible assumption | with_reducible apply State.coalesce_ok | with_reducible apply ok_foldl
    | with_reducible apply ok_ite

theorem execRouterDelivery_ok (dt : Nat) (sink : Sink) (s : State) (t : State) (hok : storeOk s.mem s.ecc)
    (h : execRouterDelivery dt sink s = .next t) :
    storeOk t.mem t.ecc := by
  refine event_ok _ _ _ _ (fun u hok => ?_) t hok h
  repeat' first | with_reducible assumption | with_reducible apply State.deliver_ok

theorem execFlueRecordSend_ok (dt : Nat) (badWord : Bool) (s : State) (t : State) (hok : storeOk s.mem s.ecc)
    (h : execFlueRecordSend dt badWord s = .next t) :
    storeOk t.mem t.ecc := by
  refine event_ok _ _ _ _ (fun u hok => ?_) t hok h
  repeat' first
    | with_reducible assumption | with_reducible apply State.feedDump_ok | with_reducible apply State.spoilHead_ok
    | with_reducible apply State.sendHead_ok | with_reducible apply ok_foldl | with_reducible apply ok_ite
    | with_reducible apply ok_set | with_reducible apply ok_mram | with_reducible apply ok_fold_set | split
    | intro _ _ _ | dsimp only

theorem execBistComplete_ok (dt : Nat) (found : BistFindings) (s : State) (t : State) (hok : storeOk s.mem s.ecc)
    (h : execBistComplete dt found s = .next t) :
    storeOk t.mem t.ecc := by
  refine eventOf_ok _ _ _ _ _ (fun u hok => ?_) t hok h
  repeat' first
    | with_reducible assumption | with_reducible apply State.upset_ok | with_reducible apply State.retireBanks_ok
    | with_reducible apply State.enterFault_ok | with_reducible apply State.enterLoad_ok
    | with_reducible apply ok_foldl | with_reducible apply ok_ite | with_reducible apply ok_set
    | with_reducible apply ok_mram | with_reducible apply ok_fold_set | split | intro _ _ _ | dsimp only

theorem execLoadComplete_ok (dt : Nat) (s : State) (t : State) (hok : storeOk s.mem s.ecc)
    (h : execLoadComplete dt s = .next t) :
    storeOk t.mem t.ecc := by
  refine event_ok _ _ _ _ (fun u hok => ?_) t hok h
  repeat' first
    | with_reducible assumption | with_reducible apply State.startE2e_ok | with_reducible apply State.enterRun_ok

theorem execSmoulderRead_ok (dt : Nat) (region : Region) (upsets : List Upset) (lost : Bool) (s t : State) (hok : storeOk s.mem s.ecc)
    (h : execSmoulderRead dt region upsets lost s = .next t) :
    storeOk t.mem t.ecc := by
  refine eventOf_ok _ _ _ _ _ (fun u hok => ?_) t hok h
  repeat' first
    | with_reducible assumption | with_reducible apply State.upset_ok | with_reducible apply State.scrubStep_ok
    | with_reducible apply State.scrubWord_ok | with_reducible apply State.retrySpent_ok
    | with_reducible apply ok_foldl | with_reducible apply ok_ite | with_reducible apply ok_set
    | with_reducible apply ok_mram | with_reducible apply ok_filter | with_reducible apply ok_fold_set | split
    | intro _ _ _ | dsimp only

theorem execVaultHeal_ok (dt : Nat) (upsets : List Upset) (lost : Nat) (s : State) (t : State)
    (hok : storeOk s.mem s.ecc) (h : execVaultHeal dt upsets lost s = .next t) :
    storeOk t.mem t.ecc := by
  refine eventOf_ok _ _ _ _ _ (fun u hok => ?_) t hok h
  repeat' first
    | with_reducible assumption | with_reducible apply State.upset_ok | with_reducible apply State.healVault_ok
    | with_reducible apply ok_foldl | with_reducible apply ok_ite | with_reducible apply ok_set
    | with_reducible apply ok_mram | with_reducible apply ok_fold_set | split | intro _ _ _ | dsimp only

theorem execRowWrite_ok (dt : Nat) (bank : Fin 256) (lost : Nat) (stray : Option Access) (s t : State) (hok : storeOk s.mem s.ecc)
    (h : execRowWrite dt bank lost stray s = .next t) :
    storeOk t.mem t.ecc := by
  refine event_ok _ _ _ _ (fun u hok => ?_) t hok h
  repeat' first
    | with_reducible assumption | with_reducible apply State.violate_ok | with_reducible apply State.landWrite_ok
    | with_reducible apply State.landHeld_ok | with_reducible apply ok_foldl | with_reducible apply ok_ite
    | with_reducible apply ok_set | with_reducible apply ok_mram | with_reducible apply ok_filter
    | with_reducible apply ok_fold_set | split | intro _ _ _ | dsimp only

theorem execVsetStep_ok (dt : Nat) (s t : State) (hok : storeOk s.mem s.ecc) (h : execVsetStep dt s = .next t) :
    storeOk t.mem t.ecc := by
  refine event_ok _ _ _ _ (fun u hok => ?_) t hok h
  repeat' first
    | with_reducible assumption | with_reducible apply State.stepUpNow_ok | with_reducible apply State.approachVset_ok
    | with_reducible apply State.releaseCore_ok | with_reducible apply ok_ite

theorem execCanaryEvaluationStart_ok (dt : Nat) (s : State) (t : State) (hok : storeOk s.mem s.ecc)
    (h : execCanaryEvaluationStart dt s = .next t) :
    storeOk t.mem t.ecc := by
  refine event_ok _ _ _ _ (fun u hok => ?_) t hok h
  repeat' first | with_reducible assumption

theorem execCanaryEvaluationEnd_ok (dt : Nat) (count : Nat) (s : State) (t : State) (hok : storeOk s.mem s.ecc)
    (h : execCanaryEvaluationEnd dt count s = .next t) :
    storeOk t.mem t.ecc := by
  refine event_ok _ _ _ _ (fun u hok => ?_) t hok h
  repeat' first
    | with_reducible assumption | with_reducible apply State.restartWindow_ok
    | with_reducible apply State.askStepUp_ok | with_reducible apply State.canaryRecord_ok
    | with_reducible apply ok_foldl | with_reducible apply ok_ite | with_reducible apply ok_set
    | with_reducible apply ok_mram | with_reducible apply ok_fold_set | split

theorem execFrameDeadlineMonitorFail_ok (dt : Nat) (s : State) (t : State) (hok : storeOk s.mem s.ecc)
    (h : execFrameDeadlineMonitorFail dt s = .next t) :
    storeOk t.mem t.ecc := by
  refine event_ok _ _ _ _ (fun u hok => ?_) t hok h
  repeat' first
    | with_reducible assumption | with_reducible apply State.failMonitor_ok | with_reducible apply ok_foldl
    | with_reducible apply ok_ite | with_reducible apply ok_set | with_reducible apply ok_mram
    | with_reducible apply ok_fold_set | split

theorem execReplayBlockEnd_ok (dt : Nat) (s : State) (t : State) (hok : storeOk s.mem s.ecc)
    (h : execReplayBlockEnd dt s = .next t) :
    storeOk t.mem t.ecc := by
  refine event_ok _ _ _ _ (fun u hok => ?_) t hok h
  repeat' first
    | with_reducible assumption | with_reducible apply State.askStepUp_ok | with_reducible apply ok_foldl
    | with_reducible apply ok_ite

theorem execReplayWindowEnd_ok (dt : Nat) (s : State) (t : State) (hok : storeOk s.mem s.ecc)
    (h : execReplayWindowEnd dt s = .next t) :
    storeOk t.mem t.ecc := by
  refine event_ok _ _ _ _ (fun u hok => ?_) t hok h
  repeat' first | with_reducible assumption

theorem execShadowReplay_ok (dt : Nat) (pipeline after : Nat) (main shadow : BitVec 64) (s t : State) (hok : storeOk s.mem s.ecc)
    (h : execShadowReplay dt pipeline after main shadow s = .next t) :
    storeOk t.mem t.ecc := by
  refine event_ok _ _ _ _ (fun u hok => ?_) t hok h
  repeat' first
    | with_reducible assumption | with_reducible apply ok_ite

theorem execDelayTapRaise_ok (dt : Nat) (pipeline : Nat) (s : State) (t : State) (hok : storeOk s.mem s.ecc)
    (h : execDelayTapRaise dt pipeline s = .next t) :
    storeOk t.mem t.ecc := by
  refine event_ok _ _ _ _ (fun u hok => ?_) t hok h
  repeat' first | with_reducible assumption

theorem execDelayTapLower_ok (dt : Nat) (pipeline handshakes : Nat) (s : State) (t : State)
    (hok : storeOk s.mem s.ecc) (h : execDelayTapLower dt pipeline handshakes s = .next t) :
    storeOk t.mem t.ecc := by
  refine event_ok _ _ _ _ (fun u hok => ?_) t hok h
  repeat' first | with_reducible assumption

theorem execStepDown_ok (dt : Nat) (handshakes : Nat) (s : State) (t : State) (hok : storeOk s.mem s.ecc)
    (h : execStepDown dt handshakes s = .next t) :
    storeOk t.mem t.ecc := by
  refine event_ok _ _ _ _ (fun u hok => ?_) t hok h
  repeat' first
    | with_reducible assumption | with_reducible apply State.driveVset_ok
    | with_reducible apply State.restartWindow_ok | with_reducible apply ok_foldl | with_reducible apply ok_ite

theorem execStepUp_ok (dt : Nat) (s : State) (t : State) (hok : storeOk s.mem s.ecc) (h : execStepUp dt s = .next t) :
    storeOk t.mem t.ecc := by
  refine event_ok _ _ _ _ (fun u hok => ?_) t hok h
  repeat' first
    | with_reducible assumption | with_reducible apply State.stepUpNow_ok | with_reducible apply ok_foldl
    | with_reducible apply ok_ite

theorem execHoldoffExpiry_ok (dt : Nat) (s : State) (t : State) (hok : storeOk s.mem s.ecc)
    (h : execHoldoffExpiry dt s = .next t) :
    storeOk t.mem t.ecc := by
  refine event_ok _ _ _ _ (fun u hok => ?_) t hok h
  repeat' first | with_reducible assumption | with_reducible apply State.restartWindow_ok

theorem execTickOutputs_ok (dt : Nat) (s : State) (t : State) (hok : storeOk s.mem s.ecc)
    (h : execTickOutputs dt s = .next t) :
    storeOk t.mem t.ecc := by
  refine event_ok _ _ _ _ (fun u hok => ?_) t hok h
  repeat' first
    | with_reducible assumption | with_reducible apply State.drivePins_ok | with_reducible apply State.reportTick_ok
    | with_reducible apply State.reportPins_ok | with_reducible apply State.judgeDeadline_ok
    | with_reducible apply State.judgeIdle_ok | with_reducible apply ok_foldl | with_reducible apply ok_ite
    | with_reducible apply ok_set | with_reducible apply ok_mram | with_reducible apply ok_fold_set | split

theorem execHeartbeat_ok (dt : Nat) (s : State) (t : State) (hok : storeOk s.mem s.ecc)
    (h : execHeartbeat dt s = .next t) :
    storeOk t.mem t.ecc := by
  refine event_ok _ _ _ _ (fun u hok => ?_) t hok h
  repeat' first | with_reducible assumption | with_reducible apply State.report_ok

theorem execLedFlash_ok (dt : Nat) (led : Bool) (s : State) (t : State) (hok : storeOk s.mem s.ecc)
    (h : execLedFlash dt led s = .next t) :
    storeOk t.mem t.ecc := by
  refine event_ok _ _ _ _ (fun u hok => ?_) t hok h
  repeat' first | with_reducible assumption

theorem execIdleTimerExpiry_ok (dt : Nat) (s : State) (t : State) (hok : storeOk s.mem s.ecc)
    (h : execIdleTimerExpiry dt s = .next t) :
    storeOk t.mem t.ecc := by
  refine event_ok _ _ _ _ (fun u hok => ?_) t hok h
  repeat' first | with_reducible assumption

theorem execSleepEntry_ok (dt : Nat) (upsets : List Upset) (s : State) (t : State) (hok : storeOk s.mem s.ecc)
    (h : execSleepEntry dt upsets s = .next t) :
    storeOk t.mem t.ecc := by
  refine eventOf_ok _ _ _ _ _ (fun u hok => ?_) t hok h
  repeat' first
    | with_reducible assumption | with_reducible apply State.upset_ok | with_reducible apply State.abandonTeach_ok
    | with_reducible apply State.abandonRecovery_ok | with_reducible apply State.stopWork_ok
    | with_reducible apply State.enterEmber_ok | with_reducible apply State.enterBanked_ok
    | with_reducible apply ok_foldl | with_reducible apply ok_ite

theorem execSpotWakeTimerExpiry_ok (dt : Nat) (s t : State) (hok : storeOk s.mem s.ecc)
    (h : execSpotWakeTimerExpiry dt s = .next t) :
    storeOk t.mem t.ecc := by
  refine event_ok _ _ _ _ (fun u hok => ?_) t hok h
  repeat' first
    | with_reducible assumption | with_reducible apply State.requestWake_ok

theorem execBankedWake_ok (dt : Nat) (s : State) (t : State) (hok : storeOk s.mem s.ecc)
    (h : execBankedWake dt s = .next t) :
    storeOk t.mem t.ecc := by
  refine event_ok _ _ _ _ (fun u hok => ?_) t hok h
  repeat' first | with_reducible assumption

theorem execBankedWakeComplete_ok (dt : Nat) (s : State) (t : State) (hok : storeOk s.mem s.ecc)
    (h : execBankedWakeComplete dt s = .next t) :
    storeOk t.mem t.ecc := by
  refine event_ok _ _ _ _ (fun u hok => ?_) t hok h
  repeat' first
    | with_reducible assumption | with_reducible apply State.emptyFleet_ok | with_reducible apply State.enterRun_ok

theorem execEmberWake_ok (dt : Nat) (s : State) (t : State) (hok : storeOk s.mem s.ecc)
    (h : execEmberWake dt s = .next t) :
    storeOk t.mem t.ecc := by
  refine event_ok _ _ _ _ (fun u hok => ?_) t hok h
  repeat' first | with_reducible assumption

theorem execSpotWakeResleep_ok (dt : Nat) (s : State) (t : State) (hok : storeOk s.mem s.ecc)
    (h : execSpotWakeResleep dt s = .next t) :
    storeOk t.mem t.ecc := by
  refine event_ok _ _ _ _ (fun u hok => ?_) t hok h
  repeat' first | with_reducible assumption

theorem execTestLogicReset_ok (dt : Nat) (s : State) (t : State) (hok : storeOk s.mem s.ecc)
    (h : execTestLogicReset dt s = .next t) :
    storeOk t.mem t.ecc := by
  refine event_ok _ _ _ _ (fun u hok => ?_) t hok h
  repeat' first | with_reducible assumption

theorem execExtest_ok (dt : Nat) (pins shifted : BitVec 52) (s t : State) (hok : storeOk s.mem s.ecc)
    (h : execExtest dt pins shifted s = .next t) :
    storeOk t.mem t.ecc := by
  refine event_ok _ _ _ _ (fun u hok => ?_) t hok h
  repeat' first
    | with_reducible assumption | with_reducible apply State.boundaryScan_ok

theorem execSamplePreload_ok (dt : Nat) (pins shifted : BitVec 52) (s t : State) (hok : storeOk s.mem s.ecc)
    (h : execSamplePreload dt pins shifted s = .next t) :
    storeOk t.mem t.ecc := by
  refine event_ok _ _ _ _ (fun u hok => ?_) t hok h
  repeat' first
    | with_reducible assumption | with_reducible apply State.boundaryScan_ok

theorem execIdcode_ok (dt : Nat) (s : State) (t : State) (hok : storeOk s.mem s.ecc) (h : execIdcode dt s = .next t) :
    storeOk t.mem t.ecc := by
  refine event_ok _ _ _ _ (fun u hok => ?_) t hok h
  repeat' first | with_reducible assumption

theorem execKeyStatus_ok (dt : Nat) (s : State) (t : State) (hok : storeOk s.mem s.ecc)
    (h : execKeyStatus dt s = .next t) :
    storeOk t.mem t.ecc := by
  refine event_ok _ _ _ _ (fun u hok => ?_) t hok h
  repeat' first | with_reducible assumption

theorem execKeyLoad_ok (dt : Nat) (key : BitVec 256) (selector : BitVec 8) (s : State) (t : State)
    (hok : storeOk s.mem s.ecc) (h : execKeyLoad dt key selector s = .next t) :
    storeOk t.mem t.ecc := by
  refine event_ok _ _ _ _ (fun u hok => ?_) t hok h
  repeat' first | with_reducible assumption

theorem execKeyBurn_ok (dt : Nat) (word : BitVec 32) (s : State) (t : State) (hok : storeOk s.mem s.ecc)
    (h : execKeyBurn dt word s = .next t) :
    storeOk t.mem t.ecc := by
  refine event_ok _ _ _ _ (fun u hok => ?_) t hok h
  repeat' first | with_reducible assumption | with_reducible apply ok_foldl | with_reducible apply ok_ite

theorem execKeyBurnComplete_ok (dt : Nat) (readBack : ReadBack) (s t : State) (hok : storeOk s.mem s.ecc)
    (h : execKeyBurnComplete dt readBack s = .next t) :
    storeOk t.mem t.ecc := by
  refine event_ok _ _ _ _ (fun u hok => ?_) t hok h
  repeat' first
    | with_reducible assumption | with_reducible apply ok_foldl | with_reducible apply ok_ite
    | with_reducible apply ok_set | with_reducible apply ok_mram | with_reducible apply ok_filter
    | with_reducible apply ok_fold_set | split | intro _ _ _ | dsimp only

theorem execBypass_ok (dt : Nat) (code : BitVec 6) (bits : List Bool) (s : State) (t : State)
    (hok : storeOk s.mem s.ecc) (h : execBypass dt code bits s = .next t) :
    storeOk t.mem t.ecc := by
  refine event_ok _ _ _ _ (fun u hok => ?_) t hok h
  repeat' first | with_reducible assumption

end Sys2Proof.Machine
end

