-- ==== Sys2Proof/Laws/Modes.lean ====
section
/-! SUPPORT. Sys2Proof/Laws/Modes.lean: what the few operations that change the device state, the straps or
the test port leave as it is, and what every command does to the queue, the clock, the device state, the strap codes and the fuses. -/

namespace Sys2Proof.Machine

theorem spine_pending {s t : State} (h : s.spine = t.spine) : s.pending = t.pending := congrArg Prod.fst h
theorem spine_clock {s t : State} (h : s.spine = t.spine) : s.clock = t.clock := congrArg (fun x => x.2.1) h
theorem spine_tsStart {s t : State} (h : s.spine = t.spine) : s.tsStart = t.tsStart := congrArg (fun x => x.2.2.1) h
theorem spine_mode {s t : State} (h : s.spine = t.spine) : s.mode = t.mode := congrArg (fun x => x.2.2.2.1) h
theorem spine_straps {s t : State} (h : s.spine = t.spine) : s.straps = t.straps := congrArg (fun x => x.2.2.2.2.1) h
theorem spine_tap {s t : State} (h : s.spine = t.spine) : s.tap = t.tap := congrArg (fun x => x.2.2.2.2.2) h

/-- Queue, clock and test port, of the spine. -/
def coreOf (x : List Instr × Nat × Nat × DevState × Straps × Tap) : List Instr × Nat × Tap := (x.1, x.2.1, x.2.2.2.2.2)

/-- Queue, clock and test port. -/
def State.core (s : State) : List Instr × Nat × Tap := coreOf s.spine

theorem core_pending {s t : State} (h : s.core = t.core) : s.pending = t.pending := congrArg Prod.fst h
theorem core_clock {s t : State} (h : s.core = t.core) : s.clock = t.clock := congrArg (fun x => x.2.1) h
theorem core_tap {s t : State} (h : s.core = t.core) : s.tap = t.tap := congrArg (fun x => x.2.2) h

/-- A record update that touches neither queue, clock nor test port. -/
theorem core_mk (u : State) (tsStart') (mode') (freeCount') (mem') (ecc') (straps') (power') (volt') (chans')
    (sync') (pages') (freeing') (cross') (repairs') (ticks') (nextTick') (arrays') (hearth') (learn') (panel') (out') (flue')
    (router') (ash') (vault') (smoulder') (lib') (flash') (ring') (fleet') :
    State.core ⟨u.pending, u.clock, tsStart', mode', freeCount', mem', ecc', straps', power', volt', chans', sync',
      pages', freeing', cross', repairs', ticks', nextTick', arrays', hearth', learn', panel', out', flue', router', ash', vault',
      smoulder', lib', flash', ring', fleet', u.tap⟩ = u.core := (rfl)

theorem core_of {s t : State} (h : s.spine = t.spine) : s.core = t.core := congrArg coreOf h

/-! ### Operations that change the device state -/

theorem State.enterPowerFail_core (s : State) (p : MramProgress) : (s.enterPowerFail p).core = s.core := by
  unfold State.enterPowerFail
  dsimp only
  rw [core_mk]
  simp only [State.core, State.unwatch_spine, State.failSequence_spine]

theorem State.enterConfigFault_core (s : State) : s.enterConfigFault.core = s.core := (rfl)

theorem State.enterFault_core (s : State) (cause addr : Nat) : (s.enterFault cause addr).core = s.core := by
  unfold State.enterFault
  dsimp only
  rw [core_mk]
  simp only [State.core, State.ashRecord_spine, State.report_spine]

theorem State.enterLoad_core (s : State) : s.enterLoad.core = s.core := by
  unfold State.enterLoad
  simp only [State.core, State.startLibrary_spine, State.loadPersistent_spine, State.recoverJournal_spine,
    State.restoreRow_spine, spine_foldl, implies_true]
  rfl

theorem State.enterRun_core (s : State) (wake : Option Nat) : (s.enterRun wake).core = s.core := by
  unfold State.enterRun
  dsimp only
  rw [core_mk]
  simp only [State.core, State.clearHistory_spine]

theorem State.dropCore_core (s : State) : s.dropCore.core = s.core := by
  unfold State.dropCore
  dsimp only
  split
  · exact (core_of (State.releaseCore_spine _)).trans (core_mk ..)
  · exact core_mk ..

theorem State.enterEmber_core (s : State) : s.enterEmber.core = s.core := by
  unfold State.enterEmber
  rw [State.dropCore_core]
  simp only [State.core, State.loseCore_spine, State.saveCore_spine]

theorem State.feedDump_core (s : State) : s.feedDump.core = s.core := by
  unfold State.feedDump
  split
  · dsimp only
    split <;> rw [core_mk] <;> simp only [State.core, State.report_spine]
  · rfl

@[simp] theorem State.enterPowerFail_mode (s : State) (p : MramProgress) :
    (s.enterPowerFail p).mode = .powerFail := (rfl)
@[simp] theorem State.enterFault_mode (s : State) (c a : Nat) : (s.enterFault c a).mode = .fault := (rfl)
@[simp] theorem State.enterRun_mode (s : State) (w : Option Nat) : (s.enterRun w).mode = .run := (rfl)
@[simp] theorem State.enterBanked_mode (s : State) : s.enterBanked.mode = .banked := (rfl)
@[simp] theorem State.enterConfigFault_mode (s : State) : s.enterConfigFault.mode = .configFault := (rfl)

theorem State.enterLoad_mode (s : State) : s.enterLoad.mode = .load := by
  unfold State.enterLoad
  dsimp only
  refine (spine_mode (t := State.recoverJournal { s with mode := .load }) ?_).trans
    (spine_mode (State.recoverJournal_spine _))
  simp only [State.startLibrary_spine, State.loadPersistent_spine, State.restoreRow_spine, spine_foldl, implies_true]

theorem State.dropCore_mode (s : State) : s.dropCore.mode = .ember := by
  unfold State.dropCore
  dsimp only
  split <;> rfl

theorem State.enterEmber_mode (s : State) : s.enterEmber.mode = .ember := State.dropCore_mode _

theorem State.feedDump_mode (s : State) : s.feedDump.mode = s.mode := by
  unfold State.feedDump
  split
  · dsimp only
    split <;> dsimp only <;> exact spine_mode (State.report_spine _ _ _ _ _)
  · rfl

/-! ### Strap codes -/

theorem State.enterPowerFail_codes (s : State) (p : MramProgress) :
    (s.enterPowerFail p).straps.codes = s.straps.codes := by
  unfold State.enterPowerFail
  dsimp only
  exact congrArg Straps.codes (spine_straps (by simp only [State.unwatch_spine, State.failSequence_spine]))

theorem State.enterFault_codes (s : State) (c a : Nat) : (s.enterFault c a).straps.codes = s.straps.codes := by
  unfold State.enterFault
  dsimp only
  exact congrArg Straps.codes (spine_straps (by simp only [State.ashRecord_spine, State.report_spine]))

theorem State.enterLoad_codes (s : State) : s.enterLoad.straps.codes = s.straps.codes := by
  have h : s.enterLoad.spine = State.spine { s with mode := .load } := by
    unfold State.enterLoad
    simp only [State.startLibrary_spine, State.loadPersistent_spine, State.recoverJournal_spine,
      State.restoreRow_spine, spine_foldl, implies_true]
  rw [spine_straps h]

theorem State.enterRun_codes (s : State) (w : Option Nat) : (s.enterRun w).straps.codes = s.straps.codes := by
  unfold State.enterRun
  dsimp only
  rw [spine_straps (State.clearHistory_spine s)]

theorem State.feedDump_codes (s : State) : s.feedDump.straps.codes = s.straps.codes := by
  unfold State.feedDump
  split
  · dsimp only
    split <;> dsimp only <;> rw [spine_straps (State.report_spine _ _ _ _ _)]
  · rfl

theorem State.dropCore_codes (s : State) : s.dropCore.straps.codes = s.straps.codes := by
  unfold State.dropCore
  dsimp only
  split <;> rfl

theorem State.enterEmber_codes (s : State) : s.enterEmber.straps.codes = s.straps.codes := by
  unfold State.enterEmber
  rw [State.dropCore_codes]
  exact congrArg Straps.codes (spine_straps (by simp only [State.loseCore_spine, State.saveCore_spine]))

end Sys2Proof.Machine
end

