-- ==== Sys2Proof/Laws/Mram.lean ====
section
/-! SUPPORT. Sys2Proof/Laws/Mram.lean: reads after the operations that write words one by one,
  and what RESET keeps of memory
and error map. -/

namespace Sys2Proof.Machine

theorem read_mramOnly (m : List Host.Cell) (a : Nat) :
    Memory.read (mramOnly m) a = if mramBase ≤ a then Memory.read m a else 0 := by
  unfold mramOnly
  rw [Memory.read_filter m (fun x => decide (mramBase ≤ x)) a]
  simp

theorem errorsAt_filter (l : List (Nat × Nat)) (p : Nat → Bool) (w : Nat) :
    errorsAt (l.filter (fun e => p e.1)) w = if p w then errorsAt l w else 0 := by
  unfold errorsAt
  rw [List.find?_filter]
  split
  · rename_i h
    congr 3
    funext e
    by_cases he : e.1 = w
    · subst he; simp [h]
    · simp [he]
  · rename_i h
    have : l.find? (fun a => decide (p a.1 = true ∧ decide (a.1 = w) = true)) = none := by
      rw [List.find?_eq_none]; intro x _; simp; intro h1 h2; subst h2; exact h h1
    rw [this]; rfl

theorem errorsAt_mramErrors (l : List (Nat × Nat)) (w : Nat) :
    errorsAt (mramErrors l) w = if mramBase ≤ w then errorsAt l w else 0 := by
  simpa [mramErrors] using errorsAt_filter l (fun x => decide (mramBase ≤ x)) w

/-- The error count of a word that a write does not touch. -/
theorem errorsAt_poke (s : State) (a : Nat) (bs : List Byte) (w : Nat) (h : w + 8 ≤ a ∨ a + bs.length ≤ w) :
    errorsAt (s.poke a bs).ecc w = errorsAt s.ecc w := by
  rw [State.poke]
  rw [errorsAt_filter s.ecc (fun x => !(decide (a < x + 8) && decide (x < a + bs.length))) w, if_pos]
  simp
  omega

/-- A list of word writes changes memory and error map alone. -/
theorem State.writeAll_fields (s : State) (ws : List (Nat × List Byte)) :
    s.writeAll ws = { s with mem := (s.writeAll ws).mem, ecc := (s.writeAll ws).ecc } := by
  unfold State.writeAll
  induction ws generalizing s with
  | nil => rfl
  | cons w ws ih => simp only [List.foldl_cons]; rw [ih]; rfl

/-- A byte that no word of the list covers reads as before. -/
theorem State.read_writeAll (s : State) (ws : List (Nat × List Byte)) (a : Nat)
    (h : ∀ w ∈ ws, a < w.1 ∨ w.1 + w.2.length ≤ a) : Memory.read (s.writeAll ws).mem a = Memory.read s.mem a := by
  unfold State.writeAll
  induction ws generalizing s with
  | nil => rfl
  | cons w ws ih =>
    simp only [List.foldl_cons]
    rw [ih _ (fun x hx => h x (List.mem_cons_of_mem _ hx)), State.poke_mem, Memory.read_writeBytes]
    have := h w List.mem_cons_self
    split
    · omega
    · rfl

/-- A list of word writes that is cut changes memory, error map and the free value counter alone. -/
theorem State.writeCut_fields (s : State) (ws : List (Nat × List Byte)) (b : Bool) :
    ∃ m e f, s.writeCut ws b = { s with mem := m, ecc := e, freeCount := f } := by
  unfold State.writeCut
  split
  · dsimp only
    split
    · rw [State.writeAll_fields]; exact ⟨_, _, _, rfl⟩
    · split
      · rw [State.writeAll_fields]; exact ⟨_, _, _, rfl⟩
      · rw [State.writeAll_fields]; exact ⟨_, _, _, rfl⟩
  · rw [State.writeAll_fields]; exact ⟨_, _, _, rfl⟩

@[simp] theorem State.writeCut_false (s : State) (ws : List (Nat × List Byte)) :
    s.writeCut ws false = s.writeAll ws := by
  unfold State.writeCut; simp

/-- A byte that no word of the cut list covers reads as before. -/
theorem State.read_writeCut (s : State) (ws : List (Nat × List Byte)) (b : Bool) (a : Nat)
    (h : ∀ w ∈ ws, a < w.1 ∨ w.1 + w.2.length ≤ a) :
    Memory.read (s.writeCut ws b).mem a = Memory.read s.mem a := by
  unfold State.writeCut
  have hd : ∀ w ∈ ws.dropLast, a < w.1 ∨ w.1 + w.2.length ≤ a := fun w hw => h w (List.dropLast_subset _ hw)
  split
  · rename_i w hw
    have hl := h w (List.mem_of_getLast? hw)
    dsimp only
    split
    · exact State.read_writeAll s _ a hd
    · split
      · rw [State.poke_mem, Memory.read_writeBytes]
        split
        · omega
        · exact State.read_writeAll s _ a hd
      · exact State.read_writeAll s _ a hd
  · exact State.read_writeAll s _ a h

/-- Stopped writes change memory, error map and the free value counter alone. -/
theorem State.stopWrites_fields (s : State) (ws : List (Nat × List Byte)) (n : Nat) (b : Bool) :
    ∃ m e f, s.stopWrites ws n b = { s with mem := m, ecc := e, freeCount := f } := by
  unfold State.stopWrites
  split
  · exact ⟨_, _, _, rfl⟩
  · exact State.writeCut_fields s _ b

theorem State.stopWrites_false (s : State) (ws : List (Nat × List Byte)) (n : Nat) :
    s.stopWrites ws n false = s.writeAll (ws.take n) := by
  unfold State.stopWrites
  split
  · rename_i h; subst h; rfl
  · exact State.writeCut_false s _

theorem State.read_stopWrites (s : State) (ws : List (Nat × List Byte)) (n : Nat) (b : Bool) (a : Nat)
    (h : ∀ w ∈ ws.take n, a < w.1 ∨ w.1 + w.2.length ≤ a) :
    Memory.read (s.stopWrites ws n b).mem a = Memory.read s.mem a := by
  unfold State.stopWrites
  split
  · rfl
  · exact State.read_writeCut s _ b a h

/-- A power-fail sequence in progress is over once it is stopped; nothing else changes but memory, error map and the free
value counter. -/
theorem State.stopFail_fields (s : State) (n : Nat) (b : Bool) :
    ∃ m e f, s.stopFail n b =
      { s with mem := m, ecc := e, freeCount := f, vault := { s.vault with failWrites := [] } } := by
  unfold State.stopFail
  split
  · rename_i h
    refine ⟨s.mem, s.ecc, s.freeCount, ?_⟩
    rw [← h]
  · split
    · unfold State.finishFail
      rw [State.writeAll_fields]
      exact ⟨_, _, _, rfl⟩
    · obtain ⟨m, e, f, h⟩ := State.writeCut_fields s (s.vault.failWrites.take n) b
      rw [h]
      exact ⟨m, e, f, rfl⟩

theorem State.stopFail_false (s : State) (n : Nat) :
    s.stopFail n false = { s.writeAll (if s.failEnded then s.vault.failWrites else s.vault.failWrites.take n) with
      vault := { s.vault with failWrites := [] } } := by
  unfold State.stopFail
  split
  · rename_i h
    rw [h, List.take_nil, ite_self]
    exact (by rw [← h] : s = { s with vault := { s.vault with failWrites := [] } })
  · split
    · unfold State.finishFail
      rw [State.writeAll_fields]
    · rw [State.writeCut_false, State.writeAll_fields]

theorem State.read_stopFail (s : State) (n : Nat) (b : Bool) (a : Nat)
    (h : ∀ w ∈ (if s.failEnded then s.vault.failWrites else s.vault.failWrites.take n), a < w.1 ∨ w.1 + w.2.length ≤ a) :
    Memory.read (s.stopFail n b).mem a = Memory.read s.mem a := by
  unfold State.stopFail
  split
  · rfl
  · split
    · rename_i he
      rw [if_pos he] at h
      exact State.read_writeAll s _ a h
    · rename_i he
      rw [if_neg he] at h
      exact State.read_writeCut s _ b a h

/-- Words that are stopped without a loss of supply join the words that were written before them. -/
theorem State.stopWrites_after (s : State) (v : Vault) (l : List (Nat × List Byte)) (n : Nat)
    (f : State → List (Nat × List Byte))
    (hf : ∀ m e, f { s with mem := m, ecc := e, vault := v } = f s) :
    ({ s.writeAll l with vault := v } : State).stopWrites (f { s.writeAll l with vault := v }) n false
      = { s.writeAll (l ++ (f s).take n) with vault := v } := by
  have hv : ∀ (u : State) (ws : List (Nat × List Byte)),
      State.writeAll { u with vault := v } ws = { u.writeAll ws with vault := v } := by
    intro u ws
    unfold State.writeAll
    induction ws generalizing u with
    | nil => rfl
    | cons w ws ih => exact ih (u.poke w.1 w.2)
  have hw : f { s.writeAll l with vault := v } = f s := by
    rw [State.writeAll_fields]
    exact hf _ _
  rw [State.stopWrites_false, hw, hv]
  simp only [State.writeAll, List.foldl_append]

/-- Stopped without a loss of supply, the words in progress are written whole. -/
theorem State.stopMram_false (s : State) (p : MramProgress) :
    s.stopMram p false = { s.writeAll (s.cutWords p) with vault := { s.vault with failWrites := [] } } := by
  unfold State.stopMram State.cutWords
  rw [State.stopFail_false]
  refine (congrArg (fun u : State => State.stopWrites (u.stopWrites u.ashWrites p.ashWords false)
    (u.stopWrites u.ashWrites p.ashWords false).dueWrites p.persistWords false)
    (State.stopWrites_after s { s.vault with failWrites := [] } _ p.commitWords State.entryWrites (fun _ _ => rfl))).trans ?_
  refine (congrArg (fun u : State => State.stopWrites u u.dueWrites p.persistWords false)
    (State.stopWrites_after s { s.vault with failWrites := [] } _ p.ashWords State.ashWrites (fun _ _ => rfl))).trans ?_
  refine (State.stopWrites_after s { s.vault with failWrites := [] } _ p.persistWords State.dueWrites (fun _ _ => rfl)).trans ?_
  rw [List.append_assoc, List.append_assoc]

/-- Stopping the MRAM controller changes memory, error map and the free value counter alone, and ends a power-fail
sequence. -/
theorem State.stopMram_fields (s : State) (p : MramProgress) (b : Bool) :
    ∃ m e f, s.stopMram p b =
      { s with mem := m, ecc := e, freeCount := f, vault := { s.vault with failWrites := [] } } := by
  unfold State.stopMram
  obtain ⟨m, e, f, h⟩ := State.stopFail_fields s p.failWords b
  dsimp only
  generalize s.stopFail p.failWords b = s0 at h ⊢
  obtain ⟨m1, e1, f1, h1⟩ := State.stopWrites_fields s0 s0.entryWrites p.commitWords b
  generalize s0.stopWrites s0.entryWrites p.commitWords b = s1 at h1 ⊢
  obtain ⟨m2, e2, f2, h2⟩ := State.stopWrites_fields s1 s1.ashWrites p.ashWords b
  generalize s1.stopWrites s1.ashWrites p.ashWords b = s2 at h2 ⊢
  obtain ⟨m3, e3, f3, h3⟩ := State.stopWrites_fields s2 s2.dueWrites p.persistWords b
  exact ⟨m3, e3, f3, by rw [h3, h2, h1, h]⟩

/-- A byte outside the words in progress reads as before. -/
theorem State.read_stopMram (s : State) (p : MramProgress) (b : Bool) (a : Nat)
    (h : ∀ w ∈ s.cutWords p, a < w.1 ∨ w.1 + w.2.length ≤ a) :
    Memory.read (s.stopMram p b).mem a = Memory.read s.mem a := by
  unfold State.cutWords at h
  simp only [List.mem_append] at h
  unfold State.stopMram
  have r0 := State.read_stopFail s p.failWords b a (fun w hw => h w (.inl hw))
  obtain ⟨m, e, f, h0⟩ := State.stopFail_fields s p.failWords b
  dsimp only
  generalize s.stopFail p.failWords b = s0 at h0 r0 ⊢
  have e0 : s0.entryWrites = s.entryWrites := by rw [h0]; rfl
  have r1 := State.read_stopWrites s0 s0.entryWrites p.commitWords b a (fun w hw => h w (.inr (.inl (e0 ▸ hw))))
  obtain ⟨m1, e1, f1, h1⟩ := State.stopWrites_fields s0 s0.entryWrites p.commitWords b
  generalize s0.stopWrites s0.entryWrites p.commitWords b = s1 at h1 r1 ⊢
  have a1 : s1.ashWrites = s.ashWrites := by rw [h1, h0]; rfl
  have r2 := State.read_stopWrites s1 s1.ashWrites p.ashWords b a (fun w hw => h w (.inr (.inr (.inl (a1 ▸ hw)))))
  obtain ⟨m2, e2, f2, h2⟩ := State.stopWrites_fields s1 s1.ashWrites p.ashWords b
  generalize s1.stopWrites s1.ashWrites p.ashWords b = s2 at h2 r2 ⊢
  have d2 : s2.dueWrites = s.dueWrites := by rw [h2, h1, h0]; rfl
  exact (State.read_stopWrites s2 s2.dueWrites p.persistWords b a
    (fun w hw => h w (.inr (.inr (.inr (d2 ▸ hw)))))).trans (r2.trans (r1.trans r0))

end Sys2Proof.Machine
end

