-- ==== Sys2Proof/Laws/PerInstr.lean ====
section
/-! SUPPORT. Sys2Proof/Laws/PerInstr.lean: what holds of every command as syntax. -/

namespace Sys2Proof.Laws.Timed

/-- A command carries one elapsed time, and its well-formedness does not depend on it. -/
def Statement (i : Instr) : Prop := ∀ dt : Nat, (i.retime dt).dt = dt ∧ (i.retime dt).wf = i.wf

theorem powerOnResetEnd (dt : Nat) : Statement (.powerOnResetEnd dt) := fun _ => ⟨rfl, rfl⟩
theorem porThresholdCrossed (dt : Nat) (what : PorEvent) : Statement (.porThresholdCrossed dt what) := fun _ => ⟨rfl, rfl⟩
theorem resetNAsserted (dt lowSamples : Nat) (progress : MramProgress) : Statement (.resetNAsserted dt lowSamples progress) := fun _ => ⟨rfl, rfl⟩
theorem resetNReleased (dt : Nat) : Statement (.resetNReleased dt) := fun _ => ⟨rfl, rfl⟩
theorem coreEnReleaseWaitEnd (dt : Nat) : Statement (.coreEnReleaseWaitEnd dt) := fun _ => ⟨rfl, rfl⟩
theorem corePowerWaitEnd (dt : Nat) : Statement (.corePowerWaitEnd dt) := fun _ => ⟨rfl, rfl⟩
theorem strapMeasurement (dt : Nat) (codes : Codes) (testN ashdumpN : Bool) : Statement (.strapMeasurement dt codes testN ashdumpN) := fun _ => ⟨rfl, rfl⟩
theorem strapReadEnd (dt : Nat) : Statement (.strapReadEnd dt) := fun _ => ⟨rfl, rfl⟩
theorem ashDumpStart (dt : Nat) : Statement (.ashDumpStart dt) := fun _ => ⟨rfl, rfl⟩
theorem ashDumpEnd (dt : Nat) : Statement (.ashDumpEnd dt) := fun _ => ⟨rfl, rfl⟩
theorem bistComplete (dt : Nat) (found : BistFindings) : Statement (.bistComplete dt found) := fun _ => ⟨rfl, rfl⟩
theorem libraryHeaderReadComplete (dt : Nat) (header : List Byte) : Statement (.libraryHeaderReadComplete dt header) := fun _ => ⟨rfl, rfl⟩
theorem libraryItemReceived (dt : Nat) (item : List Byte) : Statement (.libraryItemReceived dt item) := fun _ => ⟨rfl, rfl⟩
theorem libraryBodyComplete (dt : Nat) : Statement (.libraryBodyComplete dt) := fun _ => ⟨rfl, rfl⟩
theorem loadComplete (dt : Nat) : Statement (.loadComplete dt) := fun _ => ⟨rfl, rfl⟩
theorem powerFailTrip (dt : Nat) (vsys : Nat) (temp : Int) (progress : MramProgress) : Statement (.powerFailTrip dt vsys temp progress) := fun _ => ⟨rfl, rfl⟩
theorem powerFailRearm (dt : Nat) (vsys : Nat) (temp : Int) : Statement (.powerFailRearm dt vsys temp) := fun _ => ⟨rfl, rfl⟩
theorem powerFailRecovery (dt : Nat) : Statement (.powerFailRecovery dt) := fun _ => ⟨rfl, rfl⟩
theorem idleTimerExpiry (dt : Nat) : Statement (.idleTimerExpiry dt) := fun _ => ⟨rfl, rfl⟩
theorem sleepEntry (dt : Nat) (upsets : List Upset) : Statement (.sleepEntry dt upsets) := fun _ => ⟨rfl, rfl⟩
theorem spotWakeTimerExpiry (dt : Nat) : Statement (.spotWakeTimerExpiry dt) := fun _ => ⟨rfl, rfl⟩
theorem bankedWake (dt : Nat) : Statement (.bankedWake dt) := fun _ => ⟨rfl, rfl⟩
theorem bankedWakeComplete (dt : Nat) : Statement (.bankedWakeComplete dt) := fun _ => ⟨rfl, rfl⟩
theorem emberWake (dt : Nat) : Statement (.emberWake dt) := fun _ => ⟨rfl, rfl⟩
theorem spotWakeResleep (dt : Nat) : Statement (.spotWakeResleep dt) := fun _ => ⟨rfl, rfl⟩
theorem vsetStep (dt : Nat) : Statement (.vsetStep dt) := fun _ => ⟨rfl, rfl⟩
theorem canaryEvaluationStart (dt : Nat) : Statement (.canaryEvaluationStart dt) := fun _ => ⟨rfl, rfl⟩
theorem canaryEvaluationEnd (dt : Nat) (count : Nat) : Statement (.canaryEvaluationEnd dt count) := fun _ => ⟨rfl, rfl⟩
theorem frameDeadlineMonitorFail (dt : Nat) : Statement (.frameDeadlineMonitorFail dt) := fun _ => ⟨rfl, rfl⟩
theorem replayBlockEnd (dt : Nat) : Statement (.replayBlockEnd dt) := fun _ => ⟨rfl, rfl⟩
theorem replayWindowEnd (dt : Nat) : Statement (.replayWindowEnd dt) := fun _ => ⟨rfl, rfl⟩
theorem shadowReplay (dt : Nat) (pipeline after : Nat) (main shadow : BitVec 64) : Statement (.shadowReplay dt pipeline after main shadow) := fun _ => ⟨rfl, rfl⟩
theorem delayTapRaise (dt : Nat) (pipeline : Nat) : Statement (.delayTapRaise dt pipeline) := fun _ => ⟨rfl, rfl⟩
theorem delayTapLower (dt : Nat) (pipeline handshakes : Nat) : Statement (.delayTapLower dt pipeline handshakes) := fun _ => ⟨rfl, rfl⟩
theorem stepDown (dt : Nat) (handshakes : Nat) : Statement (.stepDown dt handshakes) := fun _ => ⟨rfl, rfl⟩
theorem stepUp (dt : Nat) : Statement (.stepUp dt) := fun _ => ⟨rfl, rfl⟩
theorem stepUpPauseEnd (dt : Nat) : Statement (.stepUpPauseEnd dt) := fun _ => ⟨rfl, rfl⟩
theorem holdoffExpiry (dt : Nat) : Statement (.holdoffExpiry dt) := fun _ => ⟨rfl, rfl⟩
theorem decimatorOutput (dt : Nat) (samples : List RawSample) : Statement (.decimatorOutput dt samples) := fun _ => ⟨rfl, rfl⟩
theorem tachCapture (dt : Nat) (input : Fin 4) (microvolts : Nat) : Statement (.tachCapture dt input microvolts) := fun _ => ⟨rfl, rfl⟩
theorem candidateDecision (dt : Nat) : Statement (.candidateDecision dt) := fun _ => ⟨rfl, rfl⟩
theorem slowTick (dt : Nat) (inputs : SlowInputs) : Statement (.slowTick dt inputs) := fun _ => ⟨rfl, rfl⟩
theorem channelRecovery (dt : Nat) (channel : Fin 32) : Statement (.channelRecovery dt channel) := fun _ => ⟨rfl, rfl⟩
theorem holdbackRelease (dt : Nat) (channel : Fin 32) : Statement (.holdbackRelease dt channel) := fun _ => ⟨rfl, rfl⟩
theorem auxConversion (dt : Nat) (input : Fin 8) (code : BitVec 12) : Statement (.auxConversion dt input code) := fun _ => ⟨rfl, rfl⟩
theorem labelReading (dt : Nat) (zero ref pin : Codes) (teachN forgetN holdN : Bool) : Statement (.labelReading dt zero ref pin teachN forgetN holdN) := fun _ => ⟨rfl, rfl⟩
theorem labelAccepted (dt : Nat) : Statement (.labelAccepted dt) := fun _ => ⟨rfl, rfl⟩
theorem teachPress (dt : Nat) : Statement (.teachPress dt) := fun _ => ⟨rfl, rfl⟩
theorem forgetPress (dt : Nat) : Statement (.forgetPress dt) := fun _ => ⟨rfl, rfl⟩
theorem holdChange (dt : Nat) : Statement (.holdChange dt) := fun _ => ⟨rfl, rfl⟩
theorem rekindle (dt : Nat) : Statement (.rekindle dt) := fun _ => ⟨rfl, rfl⟩
theorem featureExtractionStart (dt : Nat) (array : Fin 4) : Statement (.featureExtractionStart dt array) := fun _ => ⟨rfl, rfl⟩
theorem featureExtractionDone (dt : Nat) (array : Fin 4) (upsets : List Upset) : Statement (.featureExtractionDone dt array upsets) := fun _ => ⟨rfl, rfl⟩
theorem tickEncoding (dt : Nat) (upsets : List Upset) : Statement (.tickEncoding dt upsets) := fun _ => ⟨rfl, rfl⟩
theorem itemMemoryRebuildEnd (dt : Nat) : Statement (.itemMemoryRebuildEnd dt) := fun _ => ⟨rfl, rfl⟩
theorem queryStart (dt scan : Nat) (upsets : List Upset) : Statement (.queryStart dt scan upsets) := fun _ => ⟨rfl, rfl⟩
theorem recallResult (dt : Nat) (replays : Nat) : Statement (.recallResult dt replays) := fun _ => ⟨rfl, rfl⟩
theorem learningStage (dt : Nat) (upsets : List Upset) : Statement (.learningStage dt upsets) := fun _ => ⟨rfl, rfl⟩
theorem teachTimeout (dt : Nat) : Statement (.teachTimeout dt) := fun _ => ⟨rfl, rfl⟩
theorem commit (dt : Nat) (acc : Fin 512) (upsets : List Upset) : Statement (.commit dt acc upsets) := fun _ => ⟨rfl, rfl⟩
theorem tickOutputs (dt : Nat) : Statement (.tickOutputs dt) := fun _ => ⟨rfl, rfl⟩
theorem kindlingCounterPersist (dt : Nat) : Statement (.kindlingCounterPersist dt) := fun _ => ⟨rfl, rfl⟩
theorem heartbeat (dt : Nat) : Statement (.heartbeat dt) := fun _ => ⟨rfl, rfl⟩
theorem rowWrite (dt : Nat) (bank : Fin 256) (lost : Nat) (stray : Option Access) : Statement (.rowWrite dt bank lost stray) := fun _ => ⟨rfl, rfl⟩
theorem smoulderRead (dt : Nat) (region : Region) (upsets : List Upset) (lost : Bool) : Statement (.smoulderRead dt region upsets lost) := fun _ => ⟨rfl, rfl⟩
theorem vaultHeal (dt : Nat) (upsets : List Upset) (lost : Nat) : Statement (.vaultHeal dt upsets lost) := fun _ => ⟨rfl, rfl⟩
theorem refetch (dt : Nat) : Statement (.refetch dt) := fun _ => ⟨rfl, rfl⟩
theorem refetchComplete (dt : Nat) (item : List Byte) (lost : Nat) : Statement (.refetchComplete dt item lost) := fun _ => ⟨rfl, rfl⟩
theorem bandPlanRetry (dt : Nat) (item : List Byte) : Statement (.bandPlanRetry dt item) := fun _ => ⟨rfl, rfl⟩
theorem vaultMirror (dt : Nat) (upsets : List Upset) : Statement (.vaultMirror dt upsets) := fun _ => ⟨rfl, rfl⟩
theorem journalCommit (dt : Nat) : Statement (.journalCommit dt) := fun _ => ⟨rfl, rfl⟩
theorem ashRecordWrite (dt : Nat) : Statement (.ashRecordWrite dt) := fun _ => ⟨rfl, rfl⟩
theorem ashTokenAdd (dt : Nat) : Statement (.ashTokenAdd dt) := fun _ => ⟨rfl, rfl⟩
theorem routerDelivery (dt : Nat) (sink : Sink) : Statement (.routerDelivery dt sink) := fun _ => ⟨rfl, rfl⟩
theorem flueRecordSend (dt : Nat) (badWord : Bool) : Statement (.flueRecordSend dt badWord) := fun _ => ⟨rfl, rfl⟩
theorem phyLinkUp (dt : Nat) (port : Port) : Statement (.phyLinkUp dt port) := fun _ => ⟨rfl, rfl⟩
theorem frameHeaderReceived (dt : Nat) (port : Port) (header : List Byte) : Statement (.frameHeaderReceived dt port header) := fun _ => ⟨rfl, rfl⟩
theorem dataFrameReceived (dt : Nat) (port : Port) (frame : List Byte) (lost : Nat) : Statement (.dataFrameReceived dt port frame lost) := fun _ => ⟨rfl, rfl⟩
theorem ackFrameReceived (dt : Nat) (port : Port) (frame : List Byte) : Statement (.ackFrameReceived dt port frame) := fun _ => ⟨rfl, rfl⟩
theorem linkResetReceived (dt : Nat) (port : Port) (frame : List Byte) : Statement (.linkResetReceived dt port frame) := fun _ => ⟨rfl, rfl⟩
theorem resetAckReceived (dt : Nat) (port : Port) (frame : List Byte) : Statement (.resetAckReceived dt port frame) := fun _ => ⟨rfl, rfl⟩
theorem ackTimerExpiry (dt : Nat) (port : Port) : Statement (.ackTimerExpiry dt port) := fun _ => ⟨rfl, rfl⟩
theorem linkResetResend (dt : Nat) (port : Port) : Statement (.linkResetResend dt port) := fun _ => ⟨rfl, rfl⟩
theorem linkRecoveryAttempt (dt : Nat) (port : Port) : Statement (.linkRecoveryAttempt dt port) := fun _ => ⟨rfl, rfl⟩
theorem portTransmit (dt : Nat) (port : Port) (badCell : Bool) : Statement (.portTransmit dt port badCell) := fun _ => ⟨rfl, rfl⟩
theorem creditTableTimer (dt : Nat) (port : Port) : Statement (.creditTableTimer dt port) := fun _ => ⟨rfl, rfl⟩
theorem queueAgeDiscard (dt : Nat) : Statement (.queueAgeDiscard dt) := fun _ => ⟨rfl, rfl⟩
theorem censusOriginate (dt : Nat) : Statement (.censusOriginate dt) := fun _ => ⟨rfl, rfl⟩
theorem ringMapEntryExpiry (dt : Nat) (id : BitVec 8) : Statement (.ringMapEntryExpiry dt id) := fun _ => ⟨rfl, rfl⟩
theorem idClashEnd (dt : Nat) : Statement (.idClashEnd dt) := fun _ => ⟨rfl, rfl⟩
theorem fleetFold (dt : Nat) : Statement (.fleetFold dt) := fun _ => ⟨rfl, rfl⟩
theorem visitedCacheExpiry (dt : Nat) : Statement (.visitedCacheExpiry dt) := fun _ => ⟨rfl, rfl⟩
theorem fleetQueryTimeout (dt : Nat) : Statement (.fleetQueryTimeout dt) := fun _ => ⟨rfl, rfl⟩
theorem sweepOriginate (dt : Nat) : Statement (.sweepOriginate dt) := fun _ => ⟨rfl, rfl⟩
theorem testLogicReset (dt : Nat) : Statement (.testLogicReset dt) := fun _ => ⟨rfl, rfl⟩
theorem extest (dt : Nat) (pins shifted : BitVec 52) : Statement (.extest dt pins shifted) := fun _ => ⟨rfl, rfl⟩
theorem samplePreload (dt : Nat) (pins shifted : BitVec 52) : Statement (.samplePreload dt pins shifted) := fun _ => ⟨rfl, rfl⟩
theorem idcode (dt : Nat) : Statement (.idcode dt) := fun _ => ⟨rfl, rfl⟩
theorem keyStatus (dt : Nat) : Statement (.keyStatus dt) := fun _ => ⟨rfl, rfl⟩
theorem keyLoad (dt : Nat) (key : BitVec 256) (selector : BitVec 8) : Statement (.keyLoad dt key selector) := fun _ => ⟨rfl, rfl⟩
theorem keyBurn (dt : Nat) (word : BitVec 32) : Statement (.keyBurn dt word) := fun _ => ⟨rfl, rfl⟩
theorem keyBurnComplete (dt : Nat) (readBack : ReadBack) : Statement (.keyBurnComplete dt readBack) := fun _ => ⟨rfl, rfl⟩
theorem bypass (dt : Nat) (code : BitVec 6) (bits : List Bool) : Statement (.bypass dt code bits) := fun _ => ⟨rfl, rfl⟩
theorem ledFlash (dt : Nat) (led : Bool) : Statement (.ledFlash dt led) := fun _ => ⟨rfl, rfl⟩

end Sys2Proof.Laws.Timed
end

