-- ==== Sys2Proof/Laws/Records.lean ====
section
/-! SUPPORT. Sys2Proof/Laws/Records.lean: what the operations that write records do, said once: to the flue, to the ash writer,
and to nothing else but what a relayed copy touches. -/

namespace Sys2Proof.Machine

/-- An operation that touches neither memory, error map nor cells, and only what a record can change. -/
theorem State.agreesButRecords_of {t u : State} (h : t = { u with
      out := { u.out with led0 := t.out.led0, led1 := t.out.led1 }
      flue := t.flue
      router := t.router
      ash := t.ash
      ring := { u.ring with waiting := t.ring.waiting, discards := t.ring.discards } }) : t.agreesButRecords u := by
  have hm : t.mem = u.mem := by rw [h]
  have he : t.ecc = u.ecc := by rw [h]
  have hf : t.ring.free = u.ring.free := by rw [h]
  exact ⟨by rw [h], ⟨0, hf⟩, fun x _ => by rw [hm], fun w _ => .inl (by rw [he])⟩

/-- An operation that only writes a record leaves the state as it is but for the records. -/
theorem State.agreesButRecords_refl (s : State) : s.agreesButRecords s := State.agreesButRecords_of rfl

theorem State.recordSpace_drop {t u : State} (n : Nat) (h : t.ring.free = u.ring.free.drop n) (w : Nat)
    (hw : t.recordSpace w = true) : u.recordSpace w = true := by
  unfold State.recordSpace at hw ⊢
  rw [Bool.or_eq_true, h] at hw
  rw [Bool.or_eq_true]
  refine hw.imp id (fun k => ?_)
  rw [List.any_eq_true] at k ⊢
  obtain ⟨c, hc, kc⟩ := k
  exact ⟨c, List.mem_of_mem_drop hc, kc⟩

theorem State.agreesButRecords_trans {t u v : State} (h : t.agreesButRecords u) (k : u.agreesButRecords v) :
    t.agreesButRecords v := by
  obtain ⟨h1, ⟨n, h2⟩, h3, h4⟩ := h
  obtain ⟨k1, ⟨m, k2⟩, k3, k4⟩ := k
  refine ⟨?_, ⟨m + n, ?_⟩, fun x hx => (h3 x hx).trans (k3 x hx), fun w hw => ?_⟩
  · rw [h1, k1]
  · rw [h2, k2, List.drop_drop]
  · rcases h4 w hw with e | ⟨e, z⟩
    · rw [e]
      exact k4 w hw
    · exact .inr ⟨State.recordSpace_drop m k2 w e, z⟩

/-- The LEDs settle last: they are outside the comparison. -/
theorem State.settle_agrees (s : State) : s.settle.agrees s := rfl

theorem State.settle_records (s : State) : s.settle.agreesButRecords s := State.agreesButRecords_of rfl

theorem State.ashRecord_records (s : State) (type time : Nat) (payload : List Byte) :
    (s.ashRecord type time payload).agreesButRecords s := State.agreesButRecords_of rfl

theorem State.routeAsh_records (s : State) (e : Event) : (s.routeAsh e).agreesButRecords s := by
  unfold State.routeAsh; split <;> exact State.agreesButRecords_of rfl

theorem State.routeFlue_records (s : State) (e : Event) : (s.routeFlue e).agreesButRecords s := by
  unfold State.routeFlue; split <;> exact State.agreesButRecords_of rfl

theorem State.coalesce_records (s : State) : s.coalesce.agreesButRecords s := by
  unfold State.coalesce; split <;> exact State.agreesButRecords_of rfl

theorem State.putFlue_records (s : State) (f : Flue) : (s.putFlue f).agreesButRecords s := by
  refine ⟨rfl, ⟨0, rfl⟩, fun _ _ => rfl, fun w _ => ?_⟩
  unfold State.putFlue
  dsimp only
  rw [errorsAt_filter s.ecc (fun x => !((List.range 8).any (fun i => inRing s.flue.tail
      ((f.tail + 65536 - s.flue.tail) % 65536) (x + i - regionBase .reportQueue)) &&
      decide (regionBase .reportQueue ≤ x) && decide (x < regionBase .reportQueue + 65536))) w]
  split
  · exact .inl rfl
  · rename_i h
    rw [Bool.not_eq_true, Bool.not_eq_false', Bool.and_eq_true, Bool.and_eq_true] at h
    refine .inr ⟨?_, rfl⟩
    unfold State.recordSpace
    rw [Bool.or_eq_true, Bool.and_eq_true]
    exact .inl ⟨h.1.2, h.2⟩

theorem State.takeCells_records (s : State) (k : Nat) : (s.takeCells k).2.agreesButRecords s := by
  refine ⟨rfl, ⟨k, rfl⟩, fun _ _ => rfl, fun w _ => ?_⟩
  unfold State.takeCells
  dsimp only
  rw [errorsAt_filter s.ecc (fun x => !(s.ring.free.take k).any (fun c => inCell c x)) w]
  split
  · exact .inl rfl
  · rename_i h
    rw [Bool.not_eq_true, Bool.not_eq_false', List.any_eq_true] at h
    obtain ⟨c, hc, kc⟩ := h
    refine .inr ⟨?_, rfl⟩
    unfold State.recordSpace
    rw [Bool.or_eq_true, List.any_eq_true]
    exact .inr ⟨c, List.mem_of_mem_take hc, kc⟩

theorem State.enqueueFrame_records (s : State) (f : YFrame) (out : Port) (source : Option Port) (since : Nat) :
    (s.enqueueFrame f out source since).agreesButRecords s := by
  refine State.agreesButRecords_trans ?_ (s.takeCells_records f.cellCount)
  exact ⟨rfl, ⟨0, rfl⟩, fun _ _ => rfl, fun _ _ => .inl rfl⟩

theorem State.takeE2e_records (s : State) : s.takeE2e.2.agreesButRecords s := by
  unfold State.takeE2e
  dsimp only
  split
  · refine ⟨rfl, ⟨0, rfl⟩, fun x hx => ?_, fun w hw => .inl ?_⟩
    · dsimp only
      rw [State.poke_mem, Memory.read_writeBytes, leBytes_length, if_neg (by omega)]
    · dsimp only
      exact errorsAt_poke s e2eMarkAddr _ w (by rw [leBytes_length]; exact hw)
  · exact ⟨rfl, ⟨0, rfl⟩, fun _ _ => rfl, fun _ _ => .inl rfl⟩

theorem State.offerLocal_records (s : State) (since : Nat) (f : YFrame) :
    (s.offerLocal since f).agreesButRecords s := by
  unfold State.offerLocal
  repeat' split
  all_goals first | exact State.agreesButRecords_of rfl | exact State.enqueueFrame_records ..

theorem State.originate_records (s : State) (type chan dst dir : Nat) (payload : List Byte) :
    (s.originate type chan dst dir payload).agreesButRecords s :=
  State.agreesButRecords_trans (State.offerLocal_records _ _ _) s.takeE2e_records

theorem State.foldl_records {α : Type} (f : State → α → State) (hf : ∀ s x, (f s x).agreesButRecords s) (l : List α)
    (s : State) : (l.foldl f s).agreesButRecords s := by
  induction l generalizing s with
  | nil => exact s.agreesButRecords_refl
  | cons x l ih => exact State.agreesButRecords_trans (ih _) (hf s x)

theorem State.report_records (s : State) (type time : Nat) (payload : List Byte) (tier : Nat) :
    (s.report type time payload tier).agreesButRecords s := by
  unfold State.report
  split
  · exact s.agreesButRecords_refl
  · dsimp only
    split
    · exact State.agreesButRecords_trans
        (State.foldl_records _ (fun s r => State.originate_records s _ _ _ _ _) _ _) (State.putFlue_records _ _)
    · exact State.putFlue_records _ _

theorem State.memoryEvent_records (s : State) (ev : Nat) (m : Master) (addr row seg erased source : Nat) :
    (s.memoryEvent ev m addr row seg erased source).agreesButRecords s := by
  unfold State.memoryEvent
  dsimp only
  split
  · exact State.agreesButRecords_trans (State.routeAsh_records _ _) (State.routeFlue_records _ _)
  · exact State.agreesButRecords_trans (State.ashRecord_records _ _ _ _) (State.report_records _ _ _ _ _)

/-! ### The record itself -/

@[simp] theorem State.takeE2e_flue (s : State) : s.takeE2e.2.flue = s.flue := by
  unfold State.takeE2e; dsimp only; split <;> rfl

@[simp] theorem State.takeE2e_ash (s : State) : s.takeE2e.2.ash = s.ash := by
  unfold State.takeE2e; dsimp only; split <;> rfl

@[simp] theorem State.offerLocal_flue (s : State) (since : Nat) (f : YFrame) : (s.offerLocal since f).flue = s.flue := by
  unfold State.offerLocal
  split
  · rfl
  · split
    · rfl
    · split <;> rfl

@[simp] theorem State.offerLocal_ash (s : State) (since : Nat) (f : YFrame) : (s.offerLocal since f).ash = s.ash := by
  unfold State.offerLocal
  split
  · rfl
  · split
    · rfl
    · split <;> rfl

@[simp] theorem State.originate_flue (s : State) (type chan dst dir : Nat) (payload : List Byte) :
    (s.originate type chan dst dir payload).flue = s.flue := by
  simp [State.originate]

@[simp] theorem State.originate_ash (s : State) (type chan dst dir : Nat) (payload : List Byte) :
    (s.originate type chan dst dir payload).ash = s.ash := by
  simp [State.originate]

theorem State.foldl_kept {α β : Type} (g : State → β) (f : State → α → State) (hf : ∀ s x, g (f s x) = g s) (l : List α)
    (s : State) : g (l.foldl f s) = g s := by
  induction l generalizing s with
  | nil => rfl
  | cons x l ih => exact (ih _).trans (hf s x)

/-- What a record does to the flue: it enters the report queue, unless the record set leaves its type out (R248, R251). -/
theorem State.report_flue (s : State) (type time : Nat) (payload : List Byte) (tier : Nat) :
    (s.report type time payload tier).flue =
      if s.alarmsOnly && suppressed type then s.flue else s.flue.enter s.ts type time payload tier := by
  unfold State.report
  split
  · rfl
  · dsimp only
    split
    · rw [State.foldl_kept State.flue _ (fun _ _ => by simp)]
      rfl
    · rfl

@[simp] theorem State.report_ash (s : State) (type time : Nat) (payload : List Byte) (tier : Nat) :
    (s.report type time payload tier).ash = s.ash := by
  unfold State.report
  split
  · rfl
  · dsimp only
    split
    · rw [State.foldl_kept State.ash _ (fun _ _ => by simp)]
      rfl
    · rfl

theorem State.records_clock {t u : State} (h : t.agreesButRecords u) : t.clock = u.clock := by rw [h.1]

theorem State.records_ts {t u : State} (h : t.agreesButRecords u) : t.ts = u.ts := by
  rw [State.ts, State.ts, h.1]

/-- A memory event goes to the flue at tier 1 and to the ash writer, with one payload, unless a dump holds it back (R265,
R269, log 22). -/
theorem State.memoryEvent_recordedBoth (s : State) (ev : Nat) (m : Master) (addr row seg erased source : Nat)
    (hd : s.dumpHolds = false) : s.recordedBoth (s.memoryEvent ev m addr row seg erased source) 0x0A
      (memoryPayload ev m addr row seg erased source) := by
  have hr := State.report_records s 0x0A s.ts (memoryPayload ev m addr row seg erased source) 1
  have hm := s.memoryEvent_records ev m addr row seg erased source
  have e : s.memoryEvent ev m addr row seg erased source =
      (s.report 0x0A s.ts (memoryPayload ev m addr row seg erased source) 1).ashRecord 0x0A s.ts
        (memoryPayload ev m addr row seg erased source) := by
    unfold State.memoryEvent
    dsimp only
    rw [hd]
    exact if_neg (by decide)
  refine ⟨?_, ?_⟩
  · rw [State.records_ts hm, e]
    show (s.report 0x0A s.ts (memoryPayload ev m addr row seg erased source) 1).flue = _
    rw [State.report_flue]
    simp [suppressed]
  · rw [State.records_ts hm, State.records_clock hm, e]
    show (s.report 0x0A s.ts (memoryPayload ev m addr row seg erased source) 1).ash.offer
      (s.report 0x0A s.ts (memoryPayload ev m addr row seg erased source) 1).clock 0x0A s.ts
      (memoryPayload ev m addr row seg erased source) = _
    rw [State.report_ash, State.records_clock hr]

/-- No dump is in progress outside STRAP_READ and CONFIG_FAULT. -/
theorem State.dumpHolds_run (s : State) (h : s.mode = .run) : s.dumpHolds = false := by
  unfold State.dumpHolds
  rw [h]
  simp

end Sys2Proof.Machine
end

