-- ==== Sys2Proof/Tests/Slice0.lean ====
section
/-! SUPPORT. Sys2Proof/Tests/Slice0.lean: the model's own tests: ill-formed operands that are refused, a state and operands
that meet the hypotheses of each statement, clause by clause, and small tests of single steps. -/

namespace Sys2Proof.Tests

open Sys2Proof.Machine

/-! ### Ill-formed operands -/

theorem test_malformed_header : exec (.libraryHeaderReadComplete 0 [0#8]) State.reset = .fault .malformed := by rfl

theorem test_malformed_item : exec (.libraryItemReceived 0 [0#8]) State.reset = .fault .malformed := by rfl

theorem test_malformed_slow : exec (.slowTick 0 ⟨[], [], 0, false, true, true⟩) State.reset = .fault .malformed := by rfl

theorem test_malformed_frame_header : exec (.frameHeaderReceived 0 .a []) State.reset = .fault .malformed := by rfl

theorem test_malformed_upset : exec (.sleepEntry 0 [⟨3, 1⟩]) State.reset = .fault .malformed := by rfl

theorem test_malformed_samples :
    exec (.decimatorOutput 0 (List.replicate 33 ⟨0, false⟩)) State.reset = .fault .malformed := by rfl

theorem test_malformed_bist : exec (.bistComplete 0 ⟨[⟨.hearth 256 0, none, 0⟩], []⟩) State.reset = .fault .malformed := by rfl

theorem test_wf_refuses :
    Instr.wf (.libraryHeaderReadComplete 0 [0#8]) = false ∧ Instr.wf (.refetchComplete 0 [0#8] 0) = false ∧
    Instr.wf (.slowTick 0 ⟨[], [], 0, false, true, true⟩) = false ∧ Instr.wf (.frameHeaderReceived 0 .b []) = false ∧
    Instr.wf (.commit 0 0 [⟨4, 1⟩]) = false ∧ Instr.wf (.decimatorOutput 0 (List.replicate 33 ⟨0, false⟩)) = false ∧
    Instr.wf (.bistComplete 0 ⟨[], [⟨1, 1⟩]⟩) = false := by decide

/-! ### Small states -/

/-- A unit in RUN with ring ID 5, two IEPE channels, profile P1 and the ring on at 100 Mb/s. -/
def atRun : State := { State.reset with
  clock := 1000000
  mode := .run
  straps := { codes := [0, 5, 1, 0, 0, 0, 0, 0, 4, 8, 0, 0], ended := true }
  power := { por := false, railsLow := [], oscStable := true, coreEn := true }
  lib := { stage := .over, built := true, seed := 1 } }

/-- The same unit with another code of a strap. -/
def setCfg (s : State) (i code : Nat) : State := { s with straps := { s.straps with codes := s.straps.codes.set i code } }

/-- The same unit with other power registers. -/
def setPower (s : State) (f : Power → Power) : State := { s with power := f s.power }

/-- The device in another state. -/
def inMode (s : State) (m : DevState) : State := { s with mode := m }

/-- A STRAP_READ whose 45 sums all lie in the middle of code 0, and whose reference is right. -/
def strapsDone : State := { inMode State.reset .strapRead with
  power := atRun.power
  straps := { sums := List.replicate 45 0, testLow := [false, false, false], dumpLow := [false, false, false] } }

/-! ### Statements about every command -/

theorem witness_IdleStep : State.reset.pending = [] := rfl

theorem witness_CompletesWhenFormed :
    formed (.heartbeat 0) atRun = true ∧ formed (.decimatorOutput 0 [⟨0, false⟩]) atRun = false := by decide

theorem witness_QueueAndClock : ∃ t, exec (.testLogicReset 5) State.reset = .next t := ⟨_, rfl⟩

theorem witness_LawfulMoves : ∃ t, exec (.strapReadEnd 5) strapsDone = .next t := ⟨_, rfl⟩

theorem witness_SoundKept : State.reset.sound ∧ ∃ t, step State.reset = .next t :=
  ⟨⟨by decide, by decide, rfl⟩, _, rfl⟩

theorem witness_LedsFollow : State.reset.ledsRight ∧ ∃ t, step State.reset = .next t := ⟨⟨rfl, rfl⟩, _, rfl⟩

theorem witness_StrapsFixed : ∃ t, exec (.strapReadEnd 5) strapsDone = .next t := ⟨_, rfl⟩

theorem witness_FusesStay :
    (let t : Tap := { image := { key := 1 }, ring := { programmed := true } };
      t.burnSound = true ∧ t.image.touched = true ∧ t.ring.touched = true) ∧
    ∃ t, exec (.keyStatus 5) State.reset = .next t := ⟨by decide, _, rfl⟩

theorem witness_OnlyInRun :
    runOnly (.heartbeat 1) = true ∧ formed (.heartbeat 1) State.reset = true ∧ State.reset.mode ≠ .run := by decide

/-! ### Layouts and codes -/

theorem witness_TagLayout : Memory.wf State.reset.mem ∧ (255 : Nat) < 256 := by decide

theorem witness_HypervectorBytes :
    Memory.wf State.reset.mem ∧ (1023 : Nat) < 1024 ∧ (7 : Nat) < 8 ∧ (127 : Nat) < 128 ∧
    ({ kind := 1, row := 8192, spawn := 0, tag := {}, data := 0 } : Entry).kind = 1 := by decide

theorem witness_NormalisedDistance : ({} : Tag).erasures = 0 := by decide +kernel

theorem witness_LaneResult :
    (let l : List (Nat × Nat × Tag) := [(3, 100, { radius := 200 }), (9, 100, {}), (12, 0x3FFE, {})];
      l.Pairwise (fun a b => a.1 < b.1) ∧ (∀ x ∈ l, x.2.1 < 0x3FFF) ∧ l ≠ []) := by decide

theorem witness_FrameReadsBack :
    (let h : Header := { dst := 255, src := 5, hseq := 4095, aseq := 0, e2e := 65535, hops := 511, len := 2, auth := true };
      h.sized = true ∧ h.len = [1#8, 2#8].length ∧ (List.replicate 8 0#8).length = (if h.auth then 8 else 0)) := by decide

/-! ### Resets, core power and power failure -/

/-- RUN while the MRAM controller writes the journal entry of a freed row. -/
def cutting : State := { atRun with vault := { entries := [⟨3, 8192, 5, {}, 0⟩] } }

theorem witness_ResetEntered :
    Memory.wf cutting.mem ∧ cutting.power.resetNLow = false ∧ 32 ≤ 32 ∧ 31 < 32 ∧ mramBase ≤ mramBase ∧
    cutting.cutWords ⟨1, 0, 0, 0⟩ ≠ [] ∧
    ∀ w ∈ cutting.cutWords ⟨1, 0, 0, 0⟩, mramBase < w.1 ∨ w.1 + w.2.length ≤ mramBase := by decide

/-- RESET while holds last, with other power registers. -/
def held (f : Power → Power) : State := { inMode State.reset .reset with
  clock := 300000
  power := f { State.reset.power with resetNLow := true, releaseWait := true, coreEnAt := 54247, validAt := 250855 } }

/-- The same with every rail valid and the oscillator stable. -/
def settled (at_ : Nat) : State := held (fun p => { p with railsLow := [], oscStable := true, validAt := at_ })

theorem witness_ResetHoldsEnd :
    (.vdda ∈ (held id).power.railsLow ∧ .vddAon ∈ (held id).power.railsLow.erase .vdda) ∧
    (let s := held (fun p => { p with railsLow := [.vdda] });
      .vdda ∈ s.power.railsLow ∧ s.power.railsLow.erase .vdda = []) ∧
    (let s := held (fun p => { p with railsLow := [.vddRg] });
      s.power.oscStable = false ∧ .vdda ∉ s.power.railsLow) ∧
    (let s := settled 250855;
      s.power.por = true ∧ s.power.railsLow = [] ∧ s.power.oscStable = true ∧ s.power.validAt + 49152 ≤ s.clock + 7) ∧
    (let s := settled 250856; s.clock + 7 < s.power.validAt + 49152) ∧
    ((held id).power.resetNLow = true ∧ (held id).tap.burning = none) ∧
    ((held id).power.releaseWait = true ∧ (held id).power.coreEn = false ∧
      (held id).power.coreEnAt + 245760 ≤ (held id).clock + 7) := by decide

/-- A key burn in progress. -/
def burning : State := { State.reset with
  power := { atRun.power with resetNLow := true }
  tap := { ({} : Tap) with burning := some (2, 5) } }

theorem witness_BurnCutShort :
    burning.tap.burning = some (2, 5) ∧ (5 : BitVec 256) ≠ 0 ∧ burning.power.resetNLow = true := by decide

/-- `CORE_EN` has been asserted for 2.0 ms. -/
def coreGood (m : DevState) (pfail waking : Bool) : State := { inMode atRun m with
  clock := 50152
  power := { atRun.power with coreEnAt := 1000, pfail := pfail, waking := waking } }

theorem witness_CorePowerGood :
    (let s := coreGood .reset false false;
      s.power.coreEn = true ∧ s.power.coreEnAt + 49152 ≤ s.clock + 0 ∧ s.mode = .reset ∧ s.power.pfail = false) ∧
    ((coreGood .reset true false).mode = .reset ∧ (coreGood .reset true false).power.pfail = true) ∧
    ((coreGood .ember false true).mode = .ember ∧ (coreGood .ember false true).power.waking = true) ∧
    Memory.wf (coreGood .reset true false).mem := by decide

/-- A unit in RUN with an ash record that waits. -/
def ashWaits : State := { atRun with ash := { waiting := [⟨6, 9, [1#8, 2#8, 3#8]⟩] } }

theorem witness_PowerFailTrips :
    (atRun.power.por = false ∧ atRun.power.pfail = false ∧ 1000000 ≤ 1000000) ∧
    ((inMode atRun .reset).mode = .reset ∧ (inMode atRun .powerFail).mode = .powerFail) ∧
    (atRun.mode ≠ .reset ∧ atRun.mode ≠ .powerFail ∧ atRun.mode = .run ∧ atRun.ash.waiting = []) ∧
    (cutting.mode = .run ∧ cutting.power.pfail = false ∧ cutting.vault.entries ≠ []) ∧
    ((inMode atRun .banked).mode ≠ .run ∧ (inMode atRun .banked).power.pfail = false ∧
      ¬((inMode atRun .banked).mode = .strapRead ∨ (inMode atRun .banked).mode = .bist ∨
        (inMode atRun .banked).mode = .load)) ∧
    ashWaits.ash.waiting = ⟨6, 9, [1#8, 2#8, 3#8]⟩ :: [] := by decide

/-- A trip that has not re-armed, with so many events on their way to the ash. -/
def tripped (n : Nat) : State := { inMode atRun .powerFail with
  power := { atRun.power with pfail := true, pfailTime := 77 }, router := { ash := List.replicate n ⟨5, 5, 7, []⟩ } }

theorem witness_PowerFailRearms :
    (tripped 30).power.por = false ∧ (tripped 30).power.pfail = true ∧ 1050000 ≤ 1050000 ∧
    (tripped 30).router.ash.length < 31 ∧ 32 ≤ (tripped 32).router.ash.length := by decide

/-- POWER_FAIL, re-armed. -/
def rearmed : State := { inMode atRun .powerFail with
  power := { atRun.power with pfailOkSince := some 754247 } }

theorem witness_PowerFailLeft :
    (∃ t, rearmed.mode = .powerFail ∧ exec (.testLogicReset 5) rearmed = .next t) ∧
    (rearmed.mode = .powerFail ∧ rearmed.power.por = false ∧ rearmed.power.pfail = false ∧ 1000000 < 1000001) ∧
    (rearmed.power.pfailOkSince = some 754247 ∧ 754247 + 245760 ≤ rearmed.clock + 7) :=
  ⟨⟨_, rfl, rfl⟩, by decide⟩

/-! ### Straps and the ash dump -/

theorem witness_StrapsRead :
    (let s := { strapsDone with straps := { strapsDone.straps with sums := List.replicate 44 0 } };
      s.mode = .strapRead ∧ s.straps.ended = false ∧ s.straps.sums.length < 45 ∧
      s.straps.startedAt + (344064 * (s.straps.sums.length + 1) + 99) / 100 ≤ s.clock + 154829 ∧
      s.clock + 154828 < s.straps.startedAt + (344064 * (s.straps.sums.length + 1) + 99) / 100) ∧
    (strapsDone.mode = .strapRead ∧ strapsDone.straps.ended = false ∧ strapsDone.straps.sums.length = 45) ∧
    (strapsDone.flue.queue = [] ∧ strapsDone.flue.gapOwed = false ∧ strapsDone.flue.nextSeq = 0) ∧
    Memory.wf strapsDone.mem := by decide

/-- A STRAP_READ whose three passes agree: the sums of `RREF` and the thirteen inputs, after a zero of 0. -/
def strapped (pins : List Nat) : State := { strapsDone with straps := { strapsDone.straps with
  sums := (List.replicate 3 (0 :: 13080 :: pins)).flatten.reverse } }

/-- Sums of the codes 0, but for code 8 of `CFG9`. -/
def goodPins : List Nat := [0, 0, 0, 0, 0, 0, 0, 0, 0, 7000, 0, 0, 0]

theorem witness_StrapSettings :
    ((strapped goodPins).mode = .strapRead ∧ (strapped goodPins).straps.ended = false ∧
      (strapped goodPins).straps.sums.length = 45 ∧
      (List.range 12).map (fun i => ((strapped goodPins).straps.level 2 (i + 1)).getD 0) =
        [0, 0, 0, 0, 0, 0, 0, 0, 0, 8, 0, 0] ∧
      (strapped goodPins).straps.status 11 = 0) ∧
    ((strapped (goodPins.set 2 15000)).straps.level 2 3 = some 15 ∧
      (strapped (goodPins.set 9 0)).straps.level 2 10 = some 0) ∧
    strapsDone.straps.status 11 ≠ 0 := by decide

/-- A dump in STRAP_READ or CONFIG_FAULT. -/
def dumping (m : DevState) (on queued : Bool) : State := { inMode atRun m with
  flue := { busyUntil := 1000007 }
  straps := { atRun.straps with dumpRequested := true, dumping := on, dumpEndQueued := queued } }

theorem witness_AshDump :
    (let s := dumping .configFault false false;
      s.mode = .configFault ∧ s.straps.ended = true ∧ s.straps.dumpRequested = true ∧ s.straps.dumping = false ∧
      s.straps.dumpEndQueued = false ∧ s.ash.waiting = []) ∧
    (let s := dumping .strapRead true true;
      s.mode = .strapRead ∧ s.straps.dumping = true ∧ s.straps.dumpEndQueued = true ∧
      (∀ r ∈ s.flue.queue, r.type ≠ 0x0C) ∧ s.flue.busyUntil ≤ s.clock + 7) ∧
    (dumping .configFault true true).straps.dumpEndQueued = true := by decide

/-! ### BIST and LOAD -/

/-- BIST findings: so many banks with a faulty row line, five faulty columns of one sub-array, and other faults. -/
def faulty (n : Nat) (others : List ArrayFault) (us : List Upset) : BistFindings :=
  ⟨(List.range n).map (fun b => ⟨.hearth b 0, none, 1024 * b⟩) ++
    (List.range 4).map (fun c => ⟨.hearth 200 3, some c, 0x00320000⟩) ++ others, us⟩

/-- What the findings come to: the banks that are retired, and the faults left in other regions. -/
def outcome (x : BistFindings) : Nat × Nat :=
  let left := ((inMode atRun .bist).repairFaults x.faults).2
  ((left.filterMap faultBank).dedup.length, (left.filter (fun f => (faultBank f).isNone)).length)

theorem witness_BistEnds :
    ((inMode atRun .bist).mode = .bist ∧ bistForm (faulty 9 [] []) = true ∧ outcome (faulty 9 [] []) = (9, 0)) ∧
    (bistForm (faulty 8 [⟨.other .framePool 0, none, 0x03000000⟩] []) = true ∧
      outcome (faulty 8 [⟨.other .framePool 0, none, 0x03000000⟩] []) = (8, 1)) ∧
    (bistForm (faulty 7 [⟨.hearth 200 3, some 4, 0x00320000⟩] []) = true ∧
      outcome (faulty 7 [⟨.hearth 200 3, some 4, 0x00320000⟩] []) = (8, 0) ∧
      State.persistFailure (State.upset { inMode atRun .bist with ecc := mramErrors atRun.ecc } []) = none) ∧
    (bistForm (faulty 0 [] [⟨bootCountAddr, 3⟩]) = true ∧ outcome (faulty 0 [] [⟨bootCountAddr, 3⟩]) = (0, 0) ∧
      (State.persistFailure (State.upset { inMode atRun .bist with ecc := mramErrors atRun.ecc }
        [⟨bootCountAddr, 3⟩])).isSome = true) ∧
    (Memory.wf atRun.mem ∧ Errors.wf atRun.ecc ∧
      State.laterSlot { inMode atRun .bist with mem := mramOnly atRun.mem, ecc := mramErrors atRun.ecc } = none) := by
  decide


/-! ### The library -/

/-- So many equal bytes. -/
def fill (n : Nat) (b : Byte) : List Byte := List.replicate n b

theorem fill_length (n : Nat) (b : Byte) : (fill n b).length = n := List.length_replicate

/-- An item of so many bytes: a body, its CRC-32, and zeros to the end. -/
def sealed (body : List Byte) (pad : Nat) : List Byte := body ++ leBytes 4 (crc32 body).toNat ++ fill pad 0#8

/-- A header of an image of so many rows, with a seed of 0 and no authentication, without its seal. -/
def headerBody (rows : Nat) : List Byte :=
  [0x53#8, 0x4C#8, 0x36#8, 0x34#8] ++ leBytes 2 1 ++ [0x03#8, 0#8, 0#8, 5#8, 1#8, 7#8] ++ leBytes 4 9 ++
    leBytes 8 0 ++ leBytes 2 rows ++ leBytes 2 0 ++ leBytes 4 (2048 + 1064 * rows) ++ fill 188 0#8

/-- The whole header. -/
def headerOf (rows : Nat) : List Byte := sealed (headerBody rows) 32

/-- A band plan of zeros whose quantisation pairs are 0 and 1, without its seal. -/
def planBody : List Byte :=
  fill 912 0#8 ++ (List.replicate 128 (leBytes 4 0 ++ leBytes 4 1)).flatten ++ fill 108 0#8

/-- The whole band plan. -/
def planOf : List Byte := sealed planBody 0

/-- A row record with a tag. -/
def recordOf (t : Tag) : List Byte := sealed (fill 1024 0x5A#8 ++ t.bytes) 4

/-- LOAD at a stage of the library. -/
def loading (st : LibStage) (rows : Nat) : State := { inMode atRun .load with
  lib := { stage := st, header := { nrows := rows, digest := Sha.start.digest } } }

/-- The check of a seal passes for what `sealed` makes. -/
theorem sealed_crc (body : List Byte) (pad n : Nat) (h : body.length = n) :
    leNat (((sealed body pad).drop n).take 4) = (crc32 ((sealed body pad).take n)).toNat := by
  subst h
  have h1 : (sealed body pad).take body.length = body := by
    rw [sealed, List.append_assoc, List.take_left' rfl]
  have h2 : ((sealed body pad).drop body.length).take 4 = leBytes 4 (crc32 body).toNat := by
    rw [sealed, List.append_assoc, List.drop_left' rfl, List.take_left' (leBytes_length 4 _)]
  rw [h1, h2, leNat_leBytes]
  exact Nat.mod_eq_of_lt (crc32 body).isLt

/-- The checks of a header, as the statement lists them, with the outcome of its CRC and no authentication. -/
def headerChecks (h : List Byte) (crc : Bool) : List (Bool × Nat × Nat) :=
  let field (a n : Nat) := leNat ((h.drop a).take n)
  [(decide (h.take 4 = [0x53#8, 0x4C#8, 0x36#8, 0x34#8]), 1, 0), (crc, 2, 220), (decide (field 4 2 = 1), 3, 4),
   (decide (field 6 1 ∈ [0x03, 0x0B, 0x6B]), 3, 6), (decide (field 7 1 ≤ 2), 3, 7),
   (decide (1 ≤ field 9 1) && decide (field 9 1 ≤ 100), 3, 9),
   (decide (1 ≤ field 10 1) && decide (field 10 1 ≤ 4), 3, 10), (decide (field 24 2 ≤ 8192), 3, 24),
   (decide (field 28 4 = 2048 + 1064 * field 24 2), 3, 28)]

theorem witness_LibraryHeader :
    ((loading .header 0).mode = .load ∧ (loading .header 0).lib.stage = .header ∧ (loading .header 0).imageAuth = false) ∧
    (∀ n, (headerBody n).length = 220 →
      leNat (((headerOf n).drop 220).take 4) = (crc32 ((headerOf n).take 220)).toNat) ∧
    ((headerBody 8192).length = 220 ∧ firstFailed (headerChecks (headerOf 8192) true) = none ∧
      (headerBody 8193).length = 220 ∧ firstFailed (headerChecks (headerOf 8193) true) = some (3, 24)) ∧
    (∀ crc, firstFailed (headerChecks (fill 256 0#8) crc) = some (1, 0)) ∧
    ((setCfg (loading .header 0) 8 3).imageAuth = true ∧ byteAt (headerOf 3) 8 / 2 % 2 ≠ 1) :=
  ⟨by decide, fun _ h => sealed_crc _ _ _ h, by decide +kernel, fun _ => rfl, by decide +kernel⟩

/-- The checks of a band plan, as the statement lists them, with the outcome of its CRC. -/
def planChecks (it : List Byte) (crc : Bool) : List (Bool × Nat × Nat) :=
  let field (a n : Nat) := leNat ((it.drop a).take n)
  let int (a : Nat) : Int := (BitVec.ofNat 32 (field a 4)).toInt
  [(crc, 6, 0x8FC), (decide (field 0 1 ≤ 1), 5, 0x100), (decide (field 1 1 ≤ 2), 5, 0x101)] ++
   (List.range 224).map (fun i => (decide (field (16 + 4 * i) 4 ≤ 65536), 5, 0x110 + 4 * i)) ++
   (List.range 128).map (fun f => (decide (int (912 + 8 * f) < int (916 + 8 * f)), 5, 0x494 + 8 * f))

theorem planBody_length : planBody.length = 2044 := by decide +kernel

theorem witness_LibraryItem_plan :
    (loading (.body 0) 1).lib.stage = .body 0 ∧
    (leNat ((planOf.drop 2044).take 4) = (crc32 (planOf.take 2044)).toNat ∧
      firstFailed (planChecks planOf true) = none) ∧
    (leNat (((sealed (fill 2044 0#8) 0).drop 2044).take 4) = (crc32 ((sealed (fill 2044 0#8) 0).take 2044)).toNat ∧
      firstFailed (planChecks (sealed (fill 2044 0#8) 0) true) = some (5, 0x494)) :=
  ⟨rfl, ⟨sealed_crc _ _ _ planBody_length, by decide +kernel⟩, sealed_crc _ _ _ (fill_length _ _), by decide +kernel⟩

theorem tagBytes_length (t : Tag) : t.bytes.length = 32 := leBytes_length _ _

/-- The checks of record `k`, as the statement lists them, with the outcome of its CRC. -/
def recordChecks (it : List Byte) (k : Nat) (crc : Bool) : List (Bool × Nat × Nat) :=
  let tag := Tag.ofNat (leNat ((it.drop 1024).take 32))
  [(crc, 6, 0x900 + 1064 * k + 1056),
   (!tag.valid || decide (tag.scope.toNat ≤ 32) || decide (tag.scope.toNat = 63), 5, 0x900 + 1064 * k + 1040),
   (!tag.valid || decide (tag.severity ≠ 3), 5, 0x900 + 1064 * k + 1042)]

theorem recordOf_good (t : Tag) : (recordOf t).length = 1064 ∧ recordCrcGood (recordOf t) = true ∧
    leNat (((recordOf t).drop 1056).take 4) = (crc32 ((recordOf t).take 1056)).toNat := by
  have hl : (fill 1024 0x5A#8 ++ t.bytes).length = 1056 := by
    simp only [List.length_append, fill_length, tagBytes_length]
  refine ⟨?_, decide_eq_true (sealed_crc _ _ _ hl), sealed_crc _ _ _ hl⟩
  simp only [recordOf, sealed, List.length_append, leBytes_length, fill_length, tagBytes_length]

theorem witness_LibraryItem_record :
    (let s := loading (.body 1) 1;
      s.lib.stage = .body (0 + 1) ∧ 0 + 1 ≤ s.lib.header.nrows ∧ 0 < s.libraryRows ∧ 0 / 64 ∉ s.hearth.retired ∧
      Memory.wf s.mem) ∧
    (firstFailed (recordChecks (recordOf { valid := true, scope := 32 }) 0 true) = none ∧
      firstFailed (recordChecks (recordOf { scope := 33 }) 0 true) = none ∧
      firstFailed (recordChecks (recordOf { valid := true, scope := 33 }) 0 true) = some (5, 0x900 + 1040)) ∧
    (setCfg (loading (.body 1) 1) 8 12).libraryRows ≤ 0 := by decide +kernel

theorem witness_LibraryBody :
    ((loading (.body 1) 0).mode = .load ∧ (loading (.body 1) 0).lib.stage = .body ((loading (.body 1) 0).lib.header.nrows + 1) ∧
      (loading (.body 1) 0).lib.sha.digest = (loading (.body 1) 0).lib.header.digest ∧ Memory.wf (loading (.body 1) 0).mem) ∧
    (loading (.body 1) 0).lib.sha.digest ≠ ({ (loading (.body 1) 0).lib.header with digest := [] } : LibHeader).digest := by
  decide +kernel

/-! ### RUN, sleep and voltage -/

/-- BANKED, woken by the spot-wake interval, at code 2 for 100 µs. -/
def banked : State := { inMode atRun .banked with
  power := { atRun.power with waking := true, wakeMask := 8, vsetAt := 997542 } }

theorem witness_RunEntered :
    (let s := { inMode atRun .load with lib := { atRun.lib with stage := .over } };
      s.mode = .load ∧ s.lib.stage = .over ∧ s.lib.built = true ∧ s.power.waking = false ∧ 1 < s.channels) ∧
    (setPower (inMode atRun .load) (fun p => { p with waking := true })).power.waking = true ∧
    (banked.mode = .banked ∧ banked.power.waking = true ∧ banked.power.vset = 2 ∧
      banked.power.vsetAt + 2458 ≤ banked.clock + 0 ∧ Memory.wf banked.mem ∧ banked.partition 4096 = 3) := by decide

/-- A sleep row: 2 is BANKED with 60 s and a spot wake each 900 s, 5 is EMBER with 600 s and a spot wake each hour. -/
def sleeper (row : Nat) (m : DevState) : State := { inMode (setCfg atRun 11 row) m with
  power := { atRun.power with idle := { acc := 600 * 24576000 }, spotRun := true, spotTicks := 16 } }

/-- A latched wake request, raised at a clock. -/
def woken (row : Nat) (m : DevState) (mask at_ : Nat) : State := setPower (sleeper row m) (fun p =>
  { p with wakeMask := mask, wakeAt := at_, coreEn := decide (m = .banked) })

theorem witness_SleepTimers :
    ((sleeper 2 .run).mode = .run ∧ (sleeper 2 .run).sleepState ≠ none ∧ (sleeper 2 .run).power.sleepDue = false ∧
      (sleeper 2 .run).idleSeconds * 24576000 ≤ (sleeper 2 .run).power.idle.read ((sleeper 2 .run).clock + 0)) ∧
    ((sleeper 2 .run).power.spotRun = true ∧ 16 ≤ (sleeper 2 .run).power.spotTicks) ∧
    ((sleeper 2 .banked).mode = .banked ∧ (sleeper 2 .banked).power.wakeMask = 0 ∧
      (sleeper 2 .banked).spotSeconds = some 900 ∧
      (sleeper 2 .banked).power.waking = false ∧
      (sleeper 2 .banked).power.sleepAt + 900 * 24576000 ≤ (sleeper 2 .banked).clock + 22117400000) ∧
    (let s := woken 2 .banked 4 22118400000;
      s.mode = .banked ∧ s.spotSeconds = some 900 ∧ s.power.wakeMask ≠ 0 ∧ s.power.waking = false ∧
      s.power.wakeAt = s.clock + 22117400000 ∧ s.power.wakeAt ≠ s.clock + 22117400001) ∧
    (let s := woken 5 .ember 4 7;
      s.mode = .ember ∧ s.power.wakeMask ≠ 0 ∧ s.power.waking = false ∧ s.power.coreEn = false ∧
      s.power.releaseWait = false) := by decide

/-- Sleep entry is due, at a code; under hold a commit is due that does not wait, and a row is dirty. -/
def drowsy (row code : Nat) : State := { setPower (setCfg atRun 11 row) (fun p => { p with sleepDue := true, vset := code }) with
  learn := { accums := [{ idx := 511, row := 8193, k := 0, due := some 3 }] }
  vault := { dirty := [⟨8192, true, true⟩] } }

theorem witness_SleepEntered :
    (let s := drowsy 3 2;
      upsetForm [] = true ∧ s.mode = .run ∧ s.power.sleepDue = true ∧ s.volt.pauseAt = none ∧
      s.ticks.all Tick.inHoldback = true ∧ s.learn.writes = [] ∧ s.commitWaits = none ∧ s.panel.rekindleDue = false ∧
      s.vault.entries = [] ∧ s.fleet.queries = [] ∧ s.sleepState = some .banked ∧ s.learn.teach = none) ∧
    (let s := drowsy 4 2;
      s.sleepState = some .ember ∧ s.power.vset = 2 ∧ s.commitWaits = none ∧ Memory.wf s.mem ∧
      Errors.wf s.learn.kindling ∧ s.vault.nextSlot ≤ 1 ∧
      (let u := (((((s.elapse 0).upset []).abandonTeach 6).abandonRecovery).stopWork).commitOpen;
        (∀ e ∈ u.ecc, e.1 < mramBase → e.2 < 2) ∧
        u.vault.dirty.find? (fun d => decide (d.row = 8192)) = some ⟨8192, true, true⟩)) ∧
    ((drowsy 4 6).sleepState = some .ember ∧ (drowsy 4 6).power.vset ≠ 2) := by decide +kernel

/-- RUN with voltage scaling, at a code since clock 0, with other fields of the controller. -/
def scaled (code : Nat) (v : Volt) : State := { setCfg atRun 11 8 with
  clock := 24576000
  power := { atRun.power with vset := code, vsetTarget := code }
  volt := v }

theorem witness_VoltageSteps :
    (let s := setPower (scaled 4 {}) (fun p => { p with vsetTarget := 3 });
      s.mode = .run ∧ s.power.vsetTarget < s.power.vset ∧ s.power.vsetAt + 2458 ≤ s.clock + 0) ∧
    (let s := setPower (inMode (scaled 2 {}) .banked) (fun p => { p with vsetTarget := 7 });
      s.mode = .banked ∧ s.power.vset ≠ s.power.vsetTarget ∧ s.power.vsetAt + 2458 ≤ s.clock + 0) ∧
    (let s := setPower (inMode (scaled 3 {}) .ember) (fun p => { p with vsetTarget := 2, vsetAt := 24573542 });
      s.mode = .ember ∧ s.power.vset - 1 = s.power.vsetTarget ∧ s.power.vsetAt + 2458 ≤ s.clock + 0) ∧
    (let s := setPower (scaled 3 {}) (fun p => { p with vsetAt := 24573543 }); s.clock + 0 < s.power.vsetAt + 2458) ∧
    atRun.scaling = false ∧
    (let s := scaled 1 { stepUpDue := true };
      s.scaling = true ∧ s.volt.stepUpDue = true ∧ 0 < s.power.vset ∧ s.power.vsetTarget = s.power.vset) ∧
    (let s := scaled 5 {};
      s.scaling = true ∧ s.volt.pauseAt = none ∧ s.volt.holdoffAt = none ∧ s.volt.stepUpDue = false ∧ s.power.vset < 6 ∧
      s.power.vsetTarget = s.power.vset ∧ s.volt.windowAt + 24576000 ≤ s.clock + 0 ∧ s.power.vsetAt + 2458 ≤ s.clock + 0) ∧
    ((scaled 2 { pauseAt := some 24573542 }).volt.pauseAt = some 24573542 ∧
      24573542 + 2458 ≤ (scaled 2 { pauseAt := some 24573542 }).clock + 0 ∧
      (scaled 2 { pauseAt := some 24573542 }).clock + 0 < 24573543 + 2458 ∧
      (scaled 2 {}).cross.rxA = [] ∧ (scaled 2 {}).cross.rxB = [] ∧ (scaled 2 {}).sync.turn = none) ∧
    ((scaled 2 { holdoffAt := some 0 }).volt.holdoffAt = some 0 ∧
      0 + 60 * 24576000 ≤ (scaled 2 { holdoffAt := some 0 }).clock + 1449984000) := by decide

/-- A tick whose features wait. -/
def tickOf (id : Nat) (fs : List ChanFrame) : Tick :=
  { id := id, close := 200000, tRef := 1024, len := 1024, status := 0, bin := 0, frames := fs }

theorem witness_CanaryAndMonitor :
    (atRun.mode = .run ∧ atRun.volt.canaryAt = none ∧ atRun.volt.canaryNext ≤ atRun.clock + 0) ∧
    ((scaled 2 { canaryAt := some (2457, 2) }).volt.canaryAt = some (2457, 2) ∧
      2457 < (scaled 2 { canaryAt := some (2457, 2) }).power.vsetAt + 2458) ∧
    ((scaled 2 { canaryAt := some (2458, 2) }).power.vsetAt + 2458 ≤ 2458 ∧ 1572 ≤ 1572 ∧ 1572 < 1573 ∧
      (scaled 2 { canaryAt := some (2458, 2), windowAt := 2458 }).volt.windowAt ≤ 2458 ∧
      ¬(scaled 2 { canaryAt := some (2458, 2), windowAt := 2459 }).volt.windowAt ≤ 2458) ∧
    (let s := { atRun with ticks := [{ tickOf 1 [] with deadlineFailed := true }, tickOf 2 []] };
      s.ticks = [{ tickOf 1 [] with deadlineFailed := true }] ++ tickOf 2 [] :: [] ∧
      (∀ y ∈ [{ tickOf 1 [] with deadlineFailed := true }], y.deadlineFailed = true) ∧
      (tickOf 2 []).deadlineFailed = false ∧ s.tsStart + 4 * (tickOf 2 []).close + 3 * (tickOf 2 []).tRef ≤ s.clock + 0) ∧
    (∃ y ∈ [tickOf 1 [], tickOf 2 []], (tickOf 1 []).id < y.id) := by decide

/-- RUN with replays counted in a pipeline. -/
def replaying (held : Nat) : State := scaled 2
  { pipelines := [{ id := 3, tap := 15, handshakes := 4095, blockReplays := held, raiseDue := true }], blockReplays := 66,
    secondReplays := 9 }

theorem witness_Replays :
    ((replaying 7).mode = .run ∧ (1 : BitVec 64) ≠ 2) ∧ (inMode (replaying 7) .bist).mode = .bist ∧
    (inMode (replaying 7) .load).mode = .load ∧
    ¬((inMode (replaying 7) .banked).mode = .run ∨ (inMode (replaying 7) .banked).mode = .load ∨
      (inMode (replaying 7) .banked).mode = .bist) ∧
    ((replaying 7).volt.pipeline 3).raiseDue = true ∧ 1048576 ≤ 1048576 ∧
    (replaying 7).volt.secondAt + 24576000 ≤ (replaying 7).clock + 0 := by decide

/-! ### Acquisition -/

/-- Two enabled channels with a page each; the filter has settled. -/
def sampling (y : Sync) : State := { atRun with
  chans := [{ status := 1, page := some 0 }, { status := 2, page := some 3 }] ++ List.replicate 30 {}, sync := y }

/-- One output of two channels, the second beyond the range of a sample. -/
def rawPair : List RawSample := [⟨-1, false⟩, ⟨8388608, true⟩]

/-- The same at a full free-run frame: channel 0 withdrawn in the period of the close, channel 1 without a free page. -/
def closing : State := { sampling { settling := 0, count := 1024, freed := [(3, 1000000)] } with
  pages := [(0, 0), (3, 1), (4, 1), (5, 1)]
  chans := [{ status := 4, page := some 0, withdrawnAt := 1000000 },
    { status := 2, page := some 3, recoveredAt := 1000000 }] ++ List.replicate 30 {} }

theorem witness_OutputSample :
    ((sampling {}).mode = .run ∧ rawPair.length ≤ 32 ∧ rawPair.length = (sampling {}).channels) ∧
    (((sampling {}).clock + 0 - (sampling {}).tsStart) % 4 = 0 ∧ ((sampling {}).clock + 1 - (sampling {}).tsStart) % 4 ≠ 0 ∧
      (sampling {}).sync.nextOut = none) ∧
    ((sampling {}).sync.held = none ∧ (sampling {}).sync.candidates = [] ∧ 0 < (sampling {}).sync.settling) ∧
    (let s := sampling { settling := 0, count := 1023, nextOut := some 249744 };
      s.sync.settling = 0 ∧ rawPair ≠ [] ∧ s.sync.count < s.lMax ∧ Memory.wf s.mem ∧ s.volt.pauseAt = none ∧
      s.cross.samples = [] ∧ 249744 ≤ 250000 ∧ (250000 - 249744) % s.period = 0 ∧
      (∀ d < rawPair.length, 0 < d → (s.chans.getD d {}).page ≠ some 0)) ∧
    (let s := { sampling { settling := 0 } with cross := { samples := List.replicate 2047 (0x03000000, 5) } };
      s.cross.samples ≠ [] ∧ s.cross.samples.length < 2048) ∧
    (let s := closing;
      s.syncMode = .free ∧ s.lMax ≤ s.sync.count ∧ (∀ c ∈ s.chans, c.withdrawnAt ≤ 1000000 ∧ c.recoveredAt ≤ 1000000) ∧
      ∀ f ∈ s.sync.freed, f.2 ≤ 1000000) ∧
    (let s := setCfg (sampling { candidates := [246928] }) 4 4;
      s.syncMode = .boundary ∧ s.sync.held = none ∧ 246928 + 12 * s.period ≤ (s.clock + 0 - s.tsStart) / 4 % 2 ^ 56) ∧
    (let s := setCfg (sampling { candidates := [246929] }) 4 4;
      s.syncMode = .boundary ∧ (s.clock + 0 - s.tsStart) / 4 % 2 ^ 56 < 246929 + 12 * s.period) := by decide +kernel

/-- Hard-align acquisition with a candidate at 300,000 and so many samples before it. -/
def aligned (n : Nat) (o : Opener) : State := setCfg (sampling
  { candidates := [300000], settling := 0, count := n, first := some 1000, opener := o, prevClose := 900,
    captures := [⟨300000, false⟩] }) 4 8

/-- A latch of `CMP_TACH0`, and three captures in sleep, the oldest 8 s back. -/
def latched (m : DevState) (latch : Option Bool) (at_ : Nat) : State := { inMode atRun m with
  clock := 196608000
  power := { atRun.power with wakeEdges := [2, 1, at_] }
  sync := { tach := latch :: List.replicate 3 none } }

theorem witness_Captures_latch :
    (let s := latched .run (some false) 0;
      s.mode = .run ∧ (s.clock + 0 - s.tsStart) % 4 = 0 ∧ s.sync.tach.getD (0 : Fin 4).val none = some false ∧
      1600000 ≤ 1600000 ∧ ¬1600000 ≤ 1599999) ∧
    ((latched .run (some true) 0).sync.tach.getD (0 : Fin 4).val none = some true ∧ 800000 ≤ 800000) ∧
    (latched .run none 0).sync.tach.getD (0 : Fin 4).val none = none ∧
    ((latched .run none 0).clock + 1 - (latched .run none 0).tsStart) % 4 ≠ 0 ∧
    (let s := latched .ember (some false) 0;
      s.mode = .ember ∧ (0 : Fin 4).val = 0 ∧ s.clock + 0 ≤ 0 + 8 * 24576000 ∧ s.power.wakeMask = 0 ∧ s.power.waking = false) ∧
    ((inMode atRun .load).mode ≠ .run ∧ (inMode atRun .load).mode ≠ .banked ∧ (inMode atRun .load).mode ≠ .ember) := by
  decide

theorem witness_Captures_candidate :
    (let s := aligned 256 (.edge 900);
      s.mode = .run ∧ s.sync.candidates = 300000 :: [] ∧ s.syncMode = .hardAlign ∧ s.lMin ≤ 256 ∧
      min s.sync.count ((300000 - 1000 + s.period - 1) / s.period) = 256) ∧
    (let s := aligned 1024 .late; (∀ e, s.sync.opener ≠ .edge e) ∧ s.lMax = 1024 ∧
      min s.sync.count ((300000 - 1000 + s.period - 1) / s.period) = 1024) ∧
    (let s := aligned 255 .late; 255 < s.lMin ∧ s.sync.held = none ∧
      min s.sync.count ((300000 - 1000 + s.period - 1) / s.period) = 255) ∧
    (let s := setCfg (sampling { candidates := [246928], held := some (250000, []) }) 4 4;
      s.syncMode = .boundary ∧ s.sync.held = some (250000, []) ∧ 246928 + 12 * s.period ≤ 250000) :=
  ⟨by decide, ⟨(fun _ h => nomatch h), by decide, by decide⟩, by decide, by decide⟩

/-- The inputs of a slow tick: bias of channel 0 and of the others, and shock of channel 0. -/
def slowOf (b0 b shock : Nat) : SlowInputs :=
  ⟨b0 :: List.replicate 31 b, [shock, 0, 0, 0], 20000, true, true, true⟩

/-- Channels of each kind: valid and once outside, withdrawn and outside, recovering. -/
def faulted (m : DevState) : State := { setCfg (inMode atRun m) 2 2 with
  sync := { shockCounts := [65535, 2, 3, 4] }
  chans := [{ status := 1, bias := some .short, page := some 0 }, { status := 4, bias := some .short },
    { status := 5, bias := some .inWindow, recovery := 100311 }] ++ List.replicate 29 {} }

theorem witness_SlowTicks :
    ((slowOf 0 0 400000).bias.length = 32 ∧ (slowOf 0 0 400000).shock.length = 4 ∧ (faulted .run).power.por = false) ∧
    ((faulted .fault).mode ≠ .run ∧ (faulted .fault).mode ≠ .banked ∧ (faulted .fault).mode ≠ .ember) ∧
    (faulted .run).sync.shockCounts.length = 4 ∧ (setCfg (faulted .run) 3 1).voltageMode = true ∧
    ((faulted .run).voltageMode = false ∧ 2 < (faulted .run).channels ∧ 2 < (faulted .run).chans.length) ∧
    ((faulted .run).sync.turn = none ∧ (faulted .run).router.ash.length < 32 ∧ (faulted .run).router.flue.length < 32) ∧
    ((faulted .banked).mode = .banked ∧ (faulted .banked).power.wakeMask = 0 ∧ (faulted .banked).power.waking = false) ∧
    (((faulted .run).chans.getD 2 {}).status = 5 ∧ 100311 ≤ ((faulted .run).chans.getD 2 {}).recovery) := by decide

/-- A tick whose only frame is in the holdback, behind one that has left it. -/
def holding (close : Nat) : Tick := { tickOf 2 [{ chan := 3, page := 6 }] with close := close }

/-- RUN with that tick. -/
def heldBack (close : Nat) : State := { atRun with ticks := [tickOf 1 [{ chan := 3, page := 7, stage := .done }], holding close] }

theorem witness_HoldbackAndAux :
    ((heldBack 248771).mode = .run ∧ (heldBack 248771).volt.pauseAt = none ∧
      (heldBack 248771).ticks = [tickOf 1 [{ chan := 3, page := 7, stage := .done }]] ++ holding 248771 :: [] ∧
      (∀ y ∈ [tickOf 1 [{ chan := 3, page := 7, stage := .done }]], ∀ f ∈ y.frames, f.stage ≠ .holdback) ∧
      (∃ f ∈ (holding 248771).frames, f.chan = (3 : Fin 32).val ∧ f.stage = .holdback)) ∧
    (heldBack 248771).tsStart + 4 * 248771 + 4915 ≤ (heldBack 248771).clock + 0 ∧
    (heldBack 248772).clock + 0 < (heldBack 248772).tsStart + 4 * 248772 + 4915 := by decide

/-! ### The panel -/

/-- The panel of a unit in RUN, with an accepted label, and a teach that collects or none. -/
def panelled (p : Panel) (t : Option Teach) : State := { atRun with panel := p, learn := { teach := t } }

/-- A teach of label 3 that collects. -/
def collecting : Teach := { label := 3, acceptedAt := 7, bin := some 2, mask := 1, vecs := [0] }

theorem witness_PanelReadings :
    (let s := panelled { readAt := 508480 } none; s.mode = .run ∧ s.panel.readAt + 491520 ≤ s.clock + 0) ∧
    (let s := panelled { readAt := 508481 } none; s.clock + 0 < s.panel.readAt + 491520) ∧
    (let s := panelled { labelRun := (4, 3) } none; s.volt.pauseAt = none) ∧
    (let s := panelled { labelRun := (4, 3) } none;
      3 ≤ s.panel.labelRun.2 ∧ s.panel.labelRun.1 ≠ s.panel.label ∧ s.learn.teach = none) ∧
    (panelled { labelRun := (4, 3) } (some collecting)).learn.teach = some collecting ∧
    (let s := panelled { holdRun := (true, 3) } none;
      3 ≤ s.panel.holdRun.2 ∧ s.panel.hold ≠ some s.panel.holdRun.1) :=
  ⟨by decide, by decide, rfl, by decide, rfl, by decide⟩

/-- A press of `TEACH_N` and a long press of `FORGET_N` are due. -/
def pressing (label : Nat) (hold : Option Bool) (t : Option Teach) : State := panelled
  { label := label, hold := hold, teachArmed := true, teachLow := 3, forgetArmed := true, forgetLow := 151 } t

theorem witness_Presses :
    ((pressing 3 none none).mode = .run ∧ (pressing 3 none none).panel.teachArmed = true ∧
      3 ≤ (pressing 3 none none).panel.teachLow ∧ (pressing 3 none none).panel.forgetArmed = true ∧
      151 ≤ (pressing 3 none none).panel.forgetLow) ∧
    ((pressing 3 none (some collecting)).learn.teach.isSome = true) ∧
    ((pressing 15 none none).learn.teach = none ∧ (pressing 15 none none).panel.rekindleDue = false ∧
      (pressing 15 none none).panel.label = 15 ∧ 15 ≤ (pressing 15 none none).panel.label) ∧
    ((pressing 14 none none).panel.label ≠ 15 ∧ 1 ≤ (pressing 14 none none).panel.label ∧
      (pressing 14 none none).panel.label ≤ 14 ∧ Memory.wf (pressing 14 none none).mem) ∧
    ((pressing 0 (some true) none).panel.label = 0 ∧ (pressing 0 (some true) none).panel.hold = some true) ∧
    (pressing 0 (some true) (some collecting)).learn.teach = some collecting ∧
    (pressing 0 none none).panel.hold ≠ some true :=
  ⟨by decide, rfl, by decide, by decide, by decide, rfl, by decide⟩

theorem witness_Rekindled :
    (let s := panelled { rekindleDue := true } none;
      s.mode = .run ∧ s.panel.rekindleDue = true ∧ s.volt.pauseAt = none ∧ Memory.wf s.mem ∧
      (¬∃ x ∈ s.ticks, x.stage = .recall ∧ ∃ q ∈ x.queries, q.started = true) ∧ s.hearth.scanEnd ≤ s.clock + 0) ∧
    (let s := { panelled { rekindleDue := true } none with hearth := { scanEnd := 1000001 } };
      s.clock + 0 < s.hearth.scanEnd) := by decide


/-! ### The pipeline of ticks -/

/-- A tick with one frame of channel 3 in page 6, at a stage. -/
def oneFrame (st : FrameStage) : Tick := tickOf 1 [{ chan := 3, page := 6, stage := st, levels := List.replicate 128 7 }]

/-- The frame is being extracted by array 0. -/
def extracting (lib : Library) : State := { setCfg atRun 8 6 with
  ticks := [oneFrame .extracting], arrays := [some ⟨1, 3, false⟩, none, none, none], pages := [(6, 3)], lib := lib }

theorem witness_FeatureStage :
    (let s := { atRun with ticks := [oneFrame .waiting] };
      s.mode = .run ∧ s.volt.pauseAt = none ∧ s.lib.serving ≠ some .plan ∧ Refetch.plan ∉ s.lib.queue ∧
      s.arrays.getD (0 : Fin 4).val none = none ∧ s.ticks = [] ++ oneFrame .waiting :: []) ∧
    ((extracting {}).arrays.getD (0 : Fin 4).val none = some ⟨1, 3, false⟩ ∧ (extracting {}).sync.turn = none ∧ upsetForm [⟨0x03030000, 2⟩] = true ∧
      (extracting {}).ticks.find? (fun y => decide (y.id = 1)) = some (oneFrame .extracting)) ∧
    ((extracting {}).badIn 0x03030000 4096 = none ∧ (extracting {}).badIn 0x05070000 2048 = none ∧
      (extracting {}).badIn 0x05000000 0x70000 = none) ∧
    ((State.upset (extracting {}) [⟨0x03030000, 2⟩]).badIn 0x03030000 4096 = some 0x03030000) ∧
    ((State.upset (extracting {}) [⟨0x0506FFF8, 2⟩]).badIn 0x05000000 0x70000 = some 0x0506FFF8) ∧
    ((State.upset (extracting {}) [⟨0x050707F8, 2⟩]).badIn 0x05070000 2048 = some 0x050707F8) ∧
    ((extracting { accepted := true }).libDeclared = true ∧ (extracting { accepted := true }).lib.closed = false ∧
      (extracting { accepted := true }).lib.queue.length < 16) := by decide +kernel

/-- RUN with one tick whose features are complete, of an image with n-gram depth 2. -/
def complete (fs : List ChanFrame) : State := { atRun with
  ticks := [{ tickOf 1 fs with bin := 5 }]
  lib := { atRun.lib with accepted := true, header := { depth := 2 } }
  learn := { history := 1 } }

/-- A frame with its levels. -/
def doneFrame : ChanFrame := { chan := 3, page := 6, stage := .done, levels := List.replicate 128 7 }

theorem witness_EncodingStage :
    ((complete []).mode = .run ∧ (complete []).volt.pauseAt = none ∧ (complete []).lib.rebuilding = false ∧
      (complete []).ticks = [] ++ { tickOf 1 [] with bin := 5 } :: []) ∧
    ((complete [doneFrame]).badAmong (encodeReads [doneFrame]) = none ∧ (complete [doneFrame]).depth = 2 ∧
      (complete [doneFrame]).badIn 0x050AE800 (1024 * min (2 - 1) 1) = none ∧ Memory.wf (complete [doneFrame]).mem) ∧
    ((State.upset (complete [doneFrame]) [⟨0x050AEBF8, 2⟩]).badAmong (encodeReads [doneFrame]) = none ∧
      (State.upset (complete [doneFrame]) [⟨0x050AEBF8, 2⟩]).badIn 0x050AE800 (1024 * min (2 - 1) 1) = some 0x050AEBF8) ∧
    ((State.upset (complete [doneFrame]) [⟨0x05080C00, 2⟩]).badAmong (encodeReads [doneFrame]) = some 0x05080C00) ∧
    ({ atRun with lib := { atRun.lib with rebuilding := true } } : State).lib.rebuilding = true := by decide +kernel

/-- A tick with one query of channel 3. -/
def asked (r : Option Recall) : Tick := { tickOf 1 [] with
  stage := .recall, bin := 5, queries := [{ scope := 3, vec := 0, started := r.isSome, result := r }] }

/-- The same, with its query started and no result yet. -/
def bursting : Tick := { asked none with queries := [{ scope := 3, vec := 0, started := true }] }

theorem witness_Rekindled_waits :
    (let s := { panelled { rekindleDue := true } none with ticks := [bursting] };
      s.mode = .run ∧ s.panel.rekindleDue = true ∧ s.volt.pauseAt = none ∧
      ∃ x ∈ s.ticks, x.stage = .recall ∧ ∃ q ∈ x.queries, q.started = true) := by decide

/-- An instant at which the issue clock has an opportunity, with ticks and jobs. -/
def issuing (ts : List Tick) (js : List Job) (h : Hearth) : State := { atRun with
  clock := 1001472, ticks := ts, fleet := { jobs := js }, hearth := h }

/-- A fleet query frame that is held. -/
def heldJob (started : Bool) (r : Option (Lane × Lane)) : Job :=
  { frame := { cls := 12, dst := 9, src := 9, e2e := 4, payload := fill 1072 0#8 }, source := .a, cells := [0], at_ := 999
    started := started, result := r }

theorem witness_RecallStage_start :
    (let s := issuing [asked none] [] {};
      s.mode = .run ∧ s.volt.pauseAt = none ∧ upsetForm [] = true ∧ 0 < 125 ∧ (s.clock + 0 - s.tsStart) % 2048 = 2048 * 0 / 125 ∧
      s.hearth.scanEnd ≤ s.clock + 0 ∧ s.hearth.startedAt = none ∧ (∀ j ∈ s.fleet.jobs, j.started = true) ∧ s.ecc = [] ∧
      Memory.wf s.mem) ∧
    (issuing [asked none] [] {}).ticks = [] ++ asked none :: [] ∧
    (let s := issuing [asked none] [heldJob false none] { lastLocal := true, startedAt := some 1001455, scanEnd := 1001472 };
      s.hearth.scanEnd ≤ s.clock + 0 ∧ 1001455 < s.clock + 0 ∧ s.clock + 0 ≤ 1001455 + 17) ∧
    (issuing [] [heldJob false none] {}).fleet.jobs = [] ++ heldJob false none :: [] ∧
    (heldJob false none).started = false ∧ (issuing [] [heldJob false none] {}).ticks = [] ∧
    ((issuing [] [heldJob false none] {}).ring.clashAt = none ∧
      (issuing [] [heldJob false none] {}).cellsBad (heldJob false none).cells = none ∧
      (State.upset (issuing [] [heldJob false none] {}) [⟨0x040000F8, 2⟩]).cellsBad (heldJob false none).cells =
        some 0x040000F8) ∧
    (let s := issuing [asked none] [] { scanEnd := 1001473 }; s.clock + 0 < s.hearth.scanEnd) :=
  ⟨by decide, rfl, by decide, rfl, rfl, rfl, by decide, by decide⟩

/-- A query of job 0 in the hearth. -/
def flying (o : Origin) : InFlight := { origin := o, result := {}, life := 0 }

theorem witness_RecallStage_result :
    (issuing [asked none] [] { inFlight := [flying (.local 1 0)] }).hearth.inFlight = flying (.local 1 0) :: [] ∧
    (flying (.local 1 0)).met = [] ∧
    (let s := issuing [] [heldJob true none] { inFlight := [flying (.fleet 0)] };
      s.hearth.inFlight = flying (.fleet 0) :: [] ∧
      s.fleet.jobs.find? (fun y => decide (y.id = 0)) = some (heldJob true none) ∧ s.fleet.visited.length < 64 ∧
      ∀ y ∈ s.fleet.jobs, y.id ≠ 1) :=
  ⟨rfl, rfl, rfl, by decide +kernel, by decide, by decide⟩

/-- A learnable tick whose one query has a normal lane. -/
def learnt (l : Lane) (m : State → State) (t : Option Teach) : State := m { atRun with
  ticks := [{ asked (some { normal := l }) with close := 3686400007 }], panel := { hold := some false }
  learn := { teach := t } }

theorem witness_LearningStage_spawn :
    (learnt {} id none).ticks = [] ++ { asked (some {}) with close := 3686400007 } :: [] ∧
    (learnt {} id none).mode = .run ∧ (learnt {} id none).panel.hold = some false ∧
    (learnt {} id none).learn.seasoned.contains (128 * 3 + 5) = false ∧ (learnt {} id none).isFree 8192 = true ∧
    (learnt {} id none).learn.writes = [] ∧ (learnt {} id none).learn.teach = none ∧
    (learnt {} id none).learn.accums.length + (asked (some {})).queries.length ≤ 512 ∧
    (asked (some {})).status ≤ 1 ∧ (asked (some {})).loadFault = false ∧ (asked (some {})).clipped = [] :=
  ⟨rfl, rfl, rfl, rfl, by decide +kernel, rfl, rfl, by decide, by decide, rfl, rfl⟩

/-- No accumulator is left for the query of the tick, and a write waits, or a scan lasts. -/
theorem witness_LearningStage_waits :
    (let full := { learnt {} id none with hearth := { scanEnd := 1000000 }, learn := { accums := List.replicate 512 ⟨0, 0, 0, 0, 0, 0, none⟩ } };
      512 < full.learn.accums.length + (asked (some {})).queries.length ∧ full.hearth.scanEnd ≤ full.clock + 0 ∧
      full.burst = false ∧ full.learn.writes = [] ∧ full.commitWaits = none) ∧
    (let late := { learnt {} id none with hearth := { scanEnd := 1000001 }, learn := { accums := List.replicate 512 ⟨0, 0, 0, 0, 0, 0, none⟩ } };
      ¬(late.learn.accums.length + (asked (some {})).queries.length ≤ 512 ∨ late.hearth.scanEnd ≤ late.clock + 0)) := by
  decide +kernel

theorem retired_all (s : State) (h : s.hearth.retired = List.range 256) (g : Nat) (hg : g < 16384) :
    s.isRetired g = true := by
  rw [State.isRetired, h, List.contains_iff_mem, List.mem_range, bankOf]
  omega

/-- With every bank retired no row can be taken, and none evicted. -/
def noRow : State := learnt {} (fun s => { s with hearth := { retired := List.range 256 } }) none

theorem witness_LearningStage_refused :
    let s := noRow
    (∀ g, 8192 ≤ g → g < 15360 → ¬(s.isFree g = true ∧ ∀ w ∈ s.learn.writes, w.2.claims ≠ some g)) ∧
      State.evictable { s with clock := s.clock + 0 } 3 = [] := by
  refine ⟨fun g _ hg h => ?_, by decide +kernel⟩
  have := h.1
  have hr : noRow.hearth.retired = List.range 256 := by simp only [noRow, learnt]
  rw [State.isFree, retired_all noRow hr g (by omega)] at this
  simp only [Bool.not_true, Bool.and_false, Bool.false_eq_true] at this

/-- A diagnosis lane within its radius, with a label and a severity. -/
def diagnosed (severity dist : Nat) : Query :=
  { scope := 3, vec := 0, started := true, result := some { diagnosis :=
    { none := false, row := 16000, dist := dist, radius := 1024, label := 14, severity := severity, cls := 2 } } }

theorem witness_LearningStage_diagnosis :
    ∀ q ∈ [diagnosed 1 1023, diagnosed 2 1023, diagnosed 2 5],
      let l := (q.result.getD {}).diagnosis
      l.none = false ∧ l.dist < l.radius ∧ 1 ≤ l.label ∧ l.label ≤ 14 ∧ 1 ≤ l.severity ∧ l.severity ≤ 2 := by decide

/-- A valid normal row of channel 3 and bin 5. -/
def normalTag : Tag := { cls := 1, valid := true, scope := 3, bin := 5, radius := 1024, mu := 2304, delta := 256, gen := 7 }

/-- A lane that holds row 8192 within its radius. -/
def nearLane : Lane := { none := false, row := 8192, dist := 1023, radius := 1024 }

theorem witness_LearningStage_admission :
    nearLane.none = false ∧ nearLane.dist < nearLane.radius ∧
    (let s := learnt nearLane (fun s => s.setTag 8192 normalTag) none;
      (s.tag 8192).valid = true ∧ (s.tag 8192).spent = false ∧ s.isRetired 8192 = false ∧
      sparse s.learn.lives 8192 = 0 ∧ s.learn.accums.length < 512 ∧ Memory.wf s.mem ∧
      (s.upset []).badSegments 8192 = [] ∧ (∀ a ∈ s.learn.accums, a.row ≠ 8192) ∧ (∀ a ∈ s.learn.accums, a.idx ≠ 0)) ∧
    (let s := learnt nearLane (fun s => { s.setTag 8192 normalTag with
        learn := { accums := [{ idx := 511, row := 8192, n := 255 }] } }) none;
      (s.upset []).badIn (0x02000000 + 8192 * 511) 8192 = none) ∧
    ([{ idx := 511, row := 8192, n := 255 }] : List Accum).find? (fun a => decide (a.row = 8192)) =
      some { idx := 511, row := 8192, n := 255 } := by decide +kernel

theorem witness_LearningStage_timeout :
    (learnt {} id (some collecting)).learn.teach = some collecting ∧ collecting.acceptedAt + 600 * 6144000 ≤ 3686400007 ∧
    3686400007 < { collecting with acceptedAt := 8 }.acceptedAt + 600 * 6144000 :=
  ⟨rfl, by decide, by decide⟩

/-- An accumulator with so many admissions is due for its row, whose segment 3 is erased, after tick 4. -/
def due (n : Nat) : State :=
  State.setTag { atRun with
    panel := { hold := some false }, hearth := { scanEnd := 1000000 }
    learn := { accums := [{ idx := 511, row := 8192, n := n, k := 16, due := some 4 }] } } 8192 { normalTag with erased := 8 }

theorem witness_Commits :
    (upsetForm [] = true ∧ (due 64).mode = .run ∧ (due 64).volt.pauseAt = none ∧ (due 64).burst = false ∧
      (due 64).panel.hold = some false ∧ (due 64).hearth.scanEnd ≤ (due 64).clock + 0 ∧
      (due 64).learn.accums.find? (fun a => decide (a.idx = (511 : Fin 512).val) && a.due.isSome) =
        some { idx := 511, row := 8192, n := 64, k := 16, due := some 4 } ∧ 8192 < 16384 ∧ Memory.wf (due 64).mem ∧
      (¬∃ w ∈ (due 64).learn.writes, w.1 < 4) ∧ (∀ a ∈ (due 64).learn.accums, ∀ d ∈ a.due, ¬d < 4) ∧
      ∀ y ∈ (due 64).learn.accums, y.idx = 511 → y = { idx := 511, row := 8192, n := 64, k := 16, due := some 4 }) ∧
    ((due 64).badIn (0x02000000 + 8192 * 511) 8192 = none ∧ (due 64).badSegments 8192 = [] ∧
      (due 64).tagBad 8192 = false ∧ ((due 64).tag 8192).erasures ≤ 32) ∧ 63 < 64 ∧
    ((State.upset (due 64) [⟨0x023FFFF8, 2⟩]).badIn (0x02000000 + 8192 * 511) 8192 = some 0x023FFFF8) ∧
    ((State.upset (due 64) [⟨tagAddr 8192 + 24, 2⟩]).tagBad 8192 = true ∧ (due 64).isRetired 8192 = false) ∧
    (let s := { due 64 with hearth := { scanEnd := 1000001 } }; s.clock + 0 < s.hearth.scanEnd) ∧
    { due 64 with panel := {} }.panel.hold ≠ some false ∧ (issuing [bursting] [] {}).burst = true := by decide +kernel

/-- RUN with a tick whose outputs are due, and an LED. -/
def showing (x : Tick) (l : Led) : State := { atRun with
  ticks := [{ x with stage := .outputs }], out := { led0 := { pattern := .on }, led1 := l }
  power := { atRun.power with running := { acc := 60 * 24576000 } } }

theorem witness_TickShown :
    ((showing (asked none) {}).mode = .run ∧ (showing (asked none) {}).flue.heartbeatAt ≤ (showing (asked none) {}).clock + 0 ∧
      (showing (asked none) {}).volt.pauseAt = none ∧ (∀ e ∈ (showing (asked none) {}).router.flue, e.rank ≠ 7) ∧
      (showing (asked none) {}).router.flue.length < 32 ∧ (showing (asked none) {}).router.ash.length < 32 ∧
      (showing (asked none) {}).ash.waiting = [] ∧ (showing (asked none) {}).vault.entries = [] ∧
      (showing (asked none) {}).vault.persistAt + 60 * 24576000 ≤
        (showing (asked none) {}).power.running.read ((showing (asked none) {}).clock + 0) ∧
      Memory.wf (showing (asked none) {}).mem) ∧
    (showing (asked none) {}).ticks = { asked none with stage := .outputs } :: [] ∧
    ((∃ e ∈ { showing (asked none) {} with router := { flue := [⟨5, 7, 6, []⟩] } }.router.flue, e.rank = 7) ∧
      ashWaits.ash.waiting ≠ [] ∧ atRun.ticks = []) ∧
    (let s := { inMode State.reset .bist with clock := 12288000, out := { State.reset.out with led0 := { pattern := .flash 1 } } };
      s.out.led0.pattern = .flash 1 ∧ s.out.led0.since + 24576000 / (2 * 1) ≤ s.clock + 0) ∧
    (let s := { inMode State.reset .configFault with
        clock := 4915200, out := { State.reset.out with led1 := { pattern := .blink 2 } } };
      s.out.led1.pattern = .blink 2 ∧ s.out.led1.phase ≠ 2 * 2 ∧ s.out.led1.since + 4915200 ≤ s.clock + 0) :=
  ⟨by decide, rfl, by decide, by decide, by decide⟩

/-! ### Rows, the smoulder, the flash and the vault -/

/-- RUN with one pending write, and row 8192 valid. -/
def writing (w : RowOp) : State :=
  State.setTag { atRun with learn := { writes := [(4, w)], stageTick := 4 } } 8192 normalTag

/-- A sweep frame of unit 9 for a free slot, for a unit whose seed hash and machine class are given. -/
def sweep9 (s : State) : List Byte := sweepPayload s.mclass 1023 0 1 s.seedHash none

/-- RUN with the ring on, where that frame waits for a gap. -/
def placing : State := { setCfg atRun 9 8 with
  fleet := { held := [⟨.a, { cls := 36, dst := 9, src := 9, e2e := 1, payload := sweep9 (setCfg atRun 9 8) }⟩] } }

theorem witness_RowWrites :
    (let s := writing (.admission 8192 700);
      s.mode = .run ∧ s.volt.pauseAt = none ∧ s.burst = false ∧ s.hearth.scanEnd ≤ s.clock + 0 ∧
      bankOf 8192 = (128 : Fin 256).val ∧ Memory.wf s.mem ∧ (∀ y ∈ s.learn.writes, 4 ≤ y.1) ∧ s.learn.accums = [] ∧
      s.tagBad 8192 = false ∧ (s.tag 8192).valid = true ∧ (s.tag 8192).spent = false) ∧
    (writing (.admission 8192 700)).learn.writes = [] ++ (4, .admission 8192 700) :: [] ∧
    (writing (.spawn 8192 0 3 5 1024 2304 256)).learn.writes = [] ++ (4, .spawn 8192 0 3 5 1024 2304 256) :: [] ∧
    (writing (.taught 15360 0 5 3 1 1024 2304 256 5 1)).learn.writes =
      [] ++ (4, .taught 15360 0 5 3 1 1024 2304 256 5 1) :: [] ∧
    (writing (.borrow 8192 (some 7) 2304 256 1024)).learn.writes = [] ++ (4, .borrow 8192 (some 7) 2304 256 1024) :: [] ∧
    ((State.upset (writing (.admission 8192 700)) [⟨tagAddr 8192, 2⟩]).tagBad 8192 = true ∧
      (writing (.admission 8192 700)).isRetired 8192 = false) :=
  ⟨by decide +kernel, rfl, rfl, rfl, rfl, by decide +kernel⟩

theorem witness_RowWrites_stray :
    (let s := issuing [bursting] [] {};
      s.burst = true ∧ s.fleet.held = [] ∧ s.windowOpen ⟨.acq, 0, true⟩ = false ∧ s.windowOpen ⟨.acq, 0x03000000, true⟩ = true ∧
      s.dumpHolds = false ∧ s.volt.pauseAt = none) ∧
    ((inMode atRun .load).windowOpen ⟨.acq, 0x01000000 + 32 * 16383, false⟩ = false ∧
      regionOf (0x01000000 + 32 * 16383) = some .hearthTags ∧
      (inMode atRun .load).isRetired ((0x01000000 + 32 * 16383 - 0x01000000) / 32) = false) ∧
    ((inMode atRun .bist).windowOpen ⟨.hrc, 0x06000000, false⟩ = false ∧ regionOf 0x06000000 = none ∧
      (inMode atRun .fault).windowOpen ⟨.acq, 0x08880000, false⟩ = false ∧ regionOf 0x08880000 = some .ash) := by
  decide +kernel

theorem witness_RowWrites_held :
    let s := placing
    ∃ h, s.fleet.held = h :: [] ∧ s.hearth.scanEnd ≤ s.clock + 0 ∧ (∀ y ∈ s.learn.writes, bankOf y.2.row ≠ 0) ∧
      (∀ a ∈ s.learn.accums, a.due = none) ∧ byteAt h.frame.payload 0 = 0 ∧ trafficType h.frame.cls = 4 ∧
      h.frame.payload.length = 16 ∧ s.ringOn = true ∧ s.ring.clashAt = none ∧ fieldAt h.frame.payload 2 2 = 1023 ∧
      fieldAt h.frame.payload 12 4 = s.seedHash ∧ byteAt h.frame.payload 1 = s.mclass ∧
      0 ≤ serial32 (fieldAt h.frame.payload 8 4) (sparse s.vault.fleetSeq h.frame.src) ∧ Memory.wf s.mem :=
  ⟨_, rfl, by decide +kernel⟩

/-- Row 8192 with segment 3 erased and a heal that waits for it. -/
def healing (h : Heal) : State :=
  State.setTag { atRun with smoulder := { heals := [h] } } 8192 { normalTag with erased := 8 }

/-- A state in which nothing has priority over the smoulder. -/
theorem witness_SmoulderHeals_free :
    atRun.hearth.scanEnd ≤ atRun.clock + 0 ∧ atRun.learn.writes = [] ∧ atRun.learn.accums = [] ∧ atRun.smoulder.heals = [] ∧
    atRun.ash.waiting = [] ∧ atRun.vault.entries = [] ∧
    atRun.power.running.read (atRun.clock + 0) < atRun.vault.persistAt + 60 * 24576000 ∧
    ((writing (.admission 8192 700)).learn.writes ≠ [] ∧ bankOf (RowOp.row (.admission 8192 700)) = 128 ∧
      ashWaits.ash.waiting ≠ []) := by decide

theorem witness_SmoulderHeals_read :
    (upsetForm [⟨0x00800008, 2⟩] = true ∧ atRun.mode = .run ∧ atRun.volt.pauseAt = none) ∧
    (∀ a ∈ [0x02000000, 0x02000080], errorsAt (State.upset atRun [⟨0x02000000, 1⟩]).ecc a < fatalErrors a) ∧
    (let s := State.setTag { atRun with smoulder := { pointers := [65536, 0, 0, 0, 0, 0, 0, 0, 0, 0, 0, 0] } } 8192 normalTag;
      let r := s.upset [⟨0x00800008, 2⟩];
      fatalErrors 0x00800008 ≤ errorsAt r.ecc 0x00800008 ∧ errorsAt r.ecc 0x00800000 = 0 ∧ r.tagBad 8192 = false ∧
      (s.tag 8192).valid = true ∧ (s.tag 8192).isErased 1 = false ∧ (s.tag 8192).erasures < 32 ∧ s.partition 8192 = 1) ∧
    (fatalErrors 0x01000000 ≤ errorsAt (State.upset atRun [⟨0x01000000, 2⟩]).ecc 0x01000000 ∧ atRun.isRetired 0 = false ∧
      State.isRetired { atRun with hearth := { retired := [0] } } 0 = true) ∧
    ({ atRun with smoulder := { pointers := List.replicate 12 131072 } }.smoulder.pointers.getD 0 0 = 131072 ∧
      regionSize .hearthData / unitBytes .hearthData ≤ 131072) := by decide +kernel

theorem witness_SmoulderHeals_heal :
    (let s := healing ⟨8192, 3, 7, false⟩;
      s.smoulder.heals = ⟨8192, 3, 7, false⟩ :: [] ∧ Memory.wf s.mem ∧ s.tagBad 8192 = false ∧ (s.tag 8192).valid = true ∧
      (s.tag 8192).spent = false ∧ (s.tag 8192).isErased 3 = true ∧ (s.tag 8192).gen.toNat = 7 ∧ s.dataDirty 8192 = false ∧
      s.entryHeld 8192 = false ∧ s.bad (vaultAddr 8192 + 24) = false ∧ s.vaultErased 8192 3 = false ∧
      s.hearth.scanEnd ≤ s.clock + 0 ∧ s.learn.writes = [] ∧ s.learn.accums = []) ∧
    ((healing ⟨8192, 3, 6, false⟩).tag 8192).gen.toNat ≠ 6 ∧
    (State.dataDirty { healing ⟨8192, 3, 7, false⟩ with vault := { dirty := [⟨8192, true, true⟩] } } 8192 = true) ∧
    (State.entryHeld { healing ⟨8192, 3, 7, false⟩ with vault := { entries := [⟨2, 8192, 5, {}, 0⟩] } } 8192 = true) ∧
    ((State.upset (healing ⟨8192, 3, 7, false⟩) [⟨vaultAddr 8192 + 24, 3⟩]).bad (vaultAddr 8192 + 24) = true) := by
  decide +kernel

/-- RUN with a library that was accepted and its flash interface. -/
def flashing (l : Library) : State := { setCfg atRun 8 6 with lib := { l with accepted := true } }

/-- The same, with library row 0 erased in segment 3, or spent. -/
def flashRow (r : Refetch) (spent : Bool) : State :=
  (flashing { serving := some r }).setTag 0 { valid := !spent, spent := spent, erased := 8, gen := 7 }

theorem witness_FlashServes_plan :
    (let s := { flashing { serving := some .plan } with volt := { pauseAt := some 1000000 } };
      s.volt.pauseAt ≠ none ∧ s.lib.serving = some .plan ∧ s.lib.planFails = 0) ∧
    (planOf.length = 2048 ∧ planGood planOf = true ∧ (fill 2048 2#8).length = 2048 ∧ planGood (fill 2048 2#8) = false) ∧
    (let s := flashing { queue := [.segments 0 7 false, .plan] };
      s.mode = .run ∧ s.lib.serving = none ∧ s.lib.queue = .segments 0 7 false :: [.plan] ∧ s.libDeclared = true ∧
      s.lib.accepted = true ∧ s.lib.closed = false) ∧
    (let s := flashing { serving := some .plan };
      s.volt.pauseAt = none ∧ s.lib.serving = some .plan ∧ Memory.wf s.mem ∧ s.lib.planFails = 0) ∧
    (let s := flashing { serving := some .plan, planFails := 3, planAt := 975424 };
      0 < s.lib.planFails ∧ s.lib.planAt + 24576 ≤ s.clock + 0 ∧ 3 ≤ s.lib.planFails) := by
  have hg : planGood planOf = true := by
    rw [planGood, show planCrcGood planOf = true from decide_eq_true (sealed_crc _ _ _ planBody_length)]
    decide +kernel
  have hb : planGood (fill 2048 2#8) = false := by
    rw [planGood, show planContentFailure (fill 2048 2#8) = some 0 by decide +kernel, Option.isNone_some, Bool.and_false]
  refine ⟨by decide, ⟨?_, hg, fill_length _ _, hb⟩, by decide, by decide, by decide⟩
  simp only [planOf, sealed, List.length_append, leBytes_length, fill_length, planBody_length]

theorem witness_FlashServes_row :
    (∀ t, (recordOf t).length = 1064 ∧ recordCrcGood (recordOf t) = true) ∧
    (let s := flashRow (.segments 0 7 false) false;
      s.lib.serving = some (.segments 0 7 false) ∧ s.lib.planFails = 0 ∧ Memory.wf s.mem ∧ (s.tag 0).valid = true ∧
      (s.tag 0).spent = false ∧ (s.tag 0).gen.toNat = 7 ∧ (s.tag 0).erased ≠ 0 ∧ s.tagBad 0 = false ∧
      s.hearth.scanEnd ≤ s.clock + 0 ∧ s.learn.writes = [] ∧ s.learn.accums = []) ∧
    (let s := flashRow (.full 0 7 false) true;
      s.lib.serving = some (.full 0 7 false) ∧ (s.tag 0).spent = true ∧ (s.tag 0).valid = false ∧
      (s.tag 0).gen.toNat = 7) ∧
    ((State.upset (flashRow (.segments 0 7 false) false) [⟨tagAddr 0 + 8, 2⟩]).tagBad 0 = true ∧
      (flashRow (.segments 0 7 false) false).isRetired 0 = false) :=
  ⟨fun t => ⟨(recordOf_good t).1, (recordOf_good t).2.1⟩, by decide +kernel⟩

/-- RUN with a dirty row. -/
def dirtied (data : Bool) : State :=
  State.setTag { atRun with vault := { dirty := [⟨8192, data, true⟩], mirrorAt := some 877120 } } 8192 normalTag

/-- RUN with a journal entry at the MRAM controller. -/
def entryOf (kind : Nat) : State := { atRun with vault := { entries := [⟨kind, 8192, 5, normalTag, 0⟩], nextSlot := 1 } }

theorem witness_VaultFollows :
    (let s := dirtied true;
      s.mode = .run ∧ Memory.wf s.mem ∧ upsetForm [] = true ∧ s.volt.pauseAt = none ∧
      s.vault.dirty = ⟨8192, true, true⟩ :: [] ∧ (∀ a ∈ [877120], a + 122880 ≤ s.clock + 0) ∧ s.tagBad 8192 = false ∧
      s.badSegments 8192 = []) ∧
    (entryOf 1).vault.entries = ⟨1, 8192, 5, normalTag, 0⟩ :: [] ∧ (entryOf 2).vault.entries = ⟨2, 8192, 5, normalTag, 0⟩ :: [] ∧
    (entryOf 3).vault.entries = ⟨3, 8192, 5, normalTag, 0⟩ :: [] ∧ (entryOf 4).vault.entries = ⟨4, 8192, 5, normalTag, 0⟩ :: [] ∧
    (entryOf 1).ash.waiting = [] ∧ (entryOf 1).vault.nextSlot < 2 :=
  ⟨by decide +kernel, rfl, rfl, rfl, rfl, rfl, by decide⟩

/-! ### Records -/

/-- A state with flue records and events that wait. -/
def outgoing (m : DevState) (q : List FlueRec) (es : List Event) (a : Ash) : State := { inMode atRun m with
  flue := { queue := q, nextSeq := 65535 }, router := { ash := es, flue := es }, ash := a }

/-- A heartbeat record and a channel status event. -/
def beat : FlueRec := { type := 3, seq := 9, time := 8, payload := [1#8, 0#8, 2#8], tier := 2 }

/-- A channel status event. -/
def chanEvent : Event := ⟨5, 5, 7, [1#8, 2#8, 3#8, 0#8, 0#8]⟩

/-- An ash dump in STRAP_READ. -/
def dumpRun (sent : Nat) : State := { inMode atRun .strapRead with
  straps := { atRun.straps with dumpRequested := true, dumping := true, dumpFirst := 8191, dumpSent := sent } }

/-- POWER_FAIL with a record that waits, so long after its entry. -/
def failing (pfail : Bool) (since : Nat) : State := { inMode ashWaits .powerFail with
  power := { atRun.power with pfail := pfail, failAt := since } }

theorem witness_RecordsOut_ash :
    (let s := ashWaits;
      s.mode = .run ∧ s.straps.dumping = false ∧ s.vault.failWrites = [] ∧ s.ash.waiting = ⟨6, 9, [1#8, 2#8, 3#8]⟩ :: [] ∧
      [1#8, 2#8, 3#8].length ≤ 40 ∧ s.ash.dropCount = 0 ∧ s.router.ashDrops = 0 ∧ Memory.wf s.mem) ∧
    ((failing false 997542).mode = .powerFail ∧ (failing false 997542).power.pfail = false ∧
      ¬(failing false 997542).clock + 0 < (failing false 997542).power.failAt + 2458) ∧
    ((failing true 0).power.pfail = true ∧ (failing false 997543).clock + 0 < (failing false 997543).power.failAt + 2458) ∧
    (let s := outgoing .run [] [] { tokens := 63 }; s.ash.tokens < 64 ∧ s.ash.tokenAt + 1536000 ≤ s.clock + 536000) ∧
    (let s := outgoing .run [] [] { tokens := 0, dropCount := 65535 };
      0 < s.ash.dropCount ∧ s.mode = .run ∧ s.straps.dumping = false) ∧
    (let s := outgoing .run [] [chanEvent] {};
      s.router.ash = [] ++ chanEvent :: [] ∧ s.router.flue = [] ++ chanEvent :: [] ∧ s.mode ≠ .reset ∧
      s.mode ≠ .ember ∧ s.mode ≠ .strapRead) := by decide

theorem witness_RecordsOut_flue :
    (let s := outgoing .run [beat] [] {};
      s.mode ≠ .reset ∧ s.mode ≠ .banked ∧ s.mode ≠ .ember ∧ s.volt.pauseAt = none ∧ s.flue.busyUntil ≤ s.clock + 0 ∧
      s.flue.queue = beat :: [] ∧ s.recordBad beat = false ∧ beat.isGap = false ∧ beat.relayed = none ∧
      s.flue.gapFirst = none ∧ s.flue.gapCount = 0 ∧ s.flue.gapMask = 0 ∧ s.flue.routerDrops = 0 ∧
      queueUsed [] + 27 ≤ queueSpace ∧ (State.upset s [⟨0x05100000, 2⟩]).recordBad beat = true) ∧
    ({ outgoing .run [beat] [] {} with flue := { busyUntil := 1000001 } }.clock + 0 < 1000001) ∧
    (let s := dumpRun 8191;
      s.mode = .strapRead ∧ s.straps.dumping = true ∧ s.straps.dumpEndQueued = false ∧ s.flue.queue = [] ∧
      s.straps.dumpSent < 8192) ∧
    8192 ≤ (dumpRun 8192).straps.dumpSent := by decide

/-! ### The ring -/

/-- RUN with port A. -/
def linked (x : LinkPort) : State := { atRun with clock := 50000000, ring := { portA := x } }

/-- The same with the ring at 100 Mb/s or 1000 Mb/s off: the ring interface of these tests runs at 100 Mb/s. -/
theorem linked_slow : (linked {}).ringOn = true ∧ (linked {}).ringFast = false ∧ (linked {}).mode = .run ∧
    (linked {}).ringId = 5 := by decide

/-- A link frame of unit 9 with the four bytes of a reset. -/
def resetFrame (kind letter epoch speed cause : Nat) : List Byte :=
  wireFrame { kind := kind, dst := 5, src := 9, epoch := epoch, len := 4 }
    [BitVec.ofNat 8 letter, BitVec.ofNat 8 epoch, BitVec.ofNat 8 speed, BitVec.ofNat 8 cause] [] false

/-- A frame that waits for its acknowledgement. -/
def unackedFrame (tries : Nat) : Sent :=
  { seq := 7, frame := { cls := 4, dst := 5, src := 5, e2e := 1, payload := [] }, tries := tries, cells := [3] }

theorem witness_RingLinks_up :
    (let x := (linked { highSince := some 0 }).ring.port .a;
      x.up = false ∧ x.proposal = none ∧ (∀ a, x.downAt = some a → a + 24576000 ≤ 50000000) ∧ x.highSince = some 0 ∧
      0 + 2457600 ≤ (linked { highSince := some 0 }).clock) ∧
    ((linked { proposal := some ⟨1, 3, 49975424⟩ }).ring.port .a).proposal = some ⟨1, 3, 49975424⟩ ∧
    49975424 + 24576 ≤ (linked {}).clock ∧
    (let x := (linked { downAt := some 25424000, highSince := some 3, attemptAt := 47542400 }).ring.port .a;
      x.up = false ∧ x.downAt.isSome = true ∧ (∀ a, x.downAt = some a → a + 24576000 ≤ 50000000) ∧
      x.highSince.isSome = true ∧ x.attemptAt + 2457600 ≤ 50000000) := by
  refine ⟨⟨rfl, rfl, ?_, rfl, by decide⟩, rfl, by decide, rfl, rfl, ?_, rfl, by decide⟩
  · intro a h; cases h
  · intro a h; cases h; decide

theorem witness_RingLinks_reset :
    (let b := resetFrame 2 1 3 0 1;
      linkFrameGood 2 b = true ∧ byteAt b 16 ≠ portNum .a ∧ byteAt b 18 = 0 ∧ byteAt b 17 % 16 = 3 ∧ byteAt b 19 = 1) ∧
    (let b := resetFrame 2 0 3 0 1; linkFrameGood 2 b = true ∧ byteAt b 16 = portNum .a) ∧
    (let b := resetFrame 2 1 3 1 1; linkFrameGood 2 b = true ∧ byteAt b 18 ≠ 0) ∧
    (let b := resetFrame 3 1 3 0 1;
      linkFrameGood 3 b = true ∧ byteAt b 16 ≠ portNum .a ∧ byteAt b 18 = 0 ∧ byteAt b 17 % 16 = 3) ∧
    ((linked { proposal := some ⟨3, 3, 0⟩ }).ring.port .a).proposal = some ⟨3, 3, 0⟩ ∧
    (let x := (linked { up := true, epoch := 3 }).ring.port .a; x.up = true ∧ x.epoch = 3 ∧ x.proposal = none) ∧
    ¬((linked { up := true, epoch := 2 }).ring.port .a).epoch = 3 ∧
    2 ≤ (([49999999, 25424001].filter (fun a => decide (50000000 < a + 24576000))).length) ∧
    ([49999999, 25424000].filter (fun a => decide (50000000 < a + 24576000))).length < 2 := by decide +kernel

theorem witness_RingLinks_ack :
    (let b := wireFrame { kind := 1, dst := 5, src := 9, epoch := 2, aseq := 7, aval := true, nak := true } [] [] false;
      linkFrameGood 1 b = true ∧ (Header.parse b).epoch = 2 ∧ (Header.parse b).nak = true) ∧
    (let x := (linked { up := true, epoch := 2, unacked := [unackedFrame 3] }).ring.port .a;
      x.up = true ∧ x.epoch = 2 ∧ x.proposal = none ∧ x.unacked = unackedFrame 3 :: [] ∧ x.resend = [] ∧
      x.resend.head? ≠ some (unackedFrame 3).seq ∧ (unackedFrame 3).tries < 4) ∧
    (let s := linked { up := true, unacked := [unackedFrame 4], timer := { acc := 4916 } };
      s.volt.pauseAt = none ∧ (unackedFrame 4).sentAt + 4916 ≤ (s.ring.port .a).timer.read s.clock ∧
      4 ≤ (unackedFrame 4).tries) ∧
    (let x := (linked { up := true, tableAt := 49975424 }).ring.port .a; x.up = true ∧ x.tableAt + 24576 ≤ 50000000) := by
  decide +kernel

theorem witness_RingLinks_send :
    (let s := linked { links := [.reset 1 3] };
      (s.ring.port .a).busyUntil ≤ s.clock ∧ (s.ring.port (otherPort .a)).cut = none ∧
      (s.ring.port .a).links = .reset 1 3 :: []) ∧
    ((linked { links := [.resetAck 1 3] }).ring.port .a).links = .resetAck 1 3 :: [] ∧
    (let x := (linked { up := true, tableDue := true, links := [.ack] }).ring.port .a;
      x.up = true ∧ x.tableDue = true ∧ ∃ rest, x.links = .ack :: rest) :=
  ⟨by decide, rfl, rfl, rfl, [], rfl⟩

/-- RUN with both ports up. -/
def ringed (q : List QFrame) : State := { atRun with
  clock := 50000000, ring := { portA := { up := true }, portB := { up := true }, queue := q } }

/-- A data frame of epoch 0 and sequence 0 with a payload. -/
def dataFrame (cls dst src : Nat) (payload : List Byte) : List Byte :=
  wireFrame { cls := cls, dst := dst, src := src, e2e := 1, len := payload.length } payload [] false

theorem dataFrame_heard (cls dst src : Nat) (payload : List Byte) (h : payload.length ≤ 1480) :
    let b := dataFrame cls dst src payload
    64 ≤ b.length ∧ b.length ≤ 1500 ∧ headerCrcGood b = true ∧ fcsOf b = .good ∧
    slice b 16 payload.length = payload ∧
    Header.parse b =
      Header.parse (Header.bytes { cls := cls, dst := dst, src := src, e2e := 1, len := payload.length }) := by
  intro b
  have hl : b.length = max 64 (20 + payload.length + 0) := wireFrame_length _ _ _ _
  exact ⟨by omega, by omega, wireFrame_headerCrc _ _ _ _, wireFrame_fcs _ _ _ _, wireFrame_payload _ _ _ _,
    wireFrame_parse _ _ _ _⟩

theorem dataFrame_parse (cls dst src : Nat) (payload : List Byte)
    (h : (Header.parse (Header.bytes { cls := cls, dst := dst, src := src, e2e := 1, len := payload.length })) =
      { cls := cls, dst := dst, src := src, e2e := 1, len := payload.length }) :
    YFrame.parse (dataFrame cls dst src payload) = { cls := cls, dst := dst, src := src, e2e := 1, payload := payload } := by
  have hp := wireFrame_parse { cls := cls, dst := dst, src := src, e2e := 1, len := payload.length } payload [] false
  have hs := wireFrame_payload { cls := cls, dst := dst, src := src, e2e := 1, len := payload.length } payload [] false
  rw [h] at hp
  simp only [YFrame.parse, dataFrame, hp, hs]
  rfl

/-- A census payload of unit 9. -/
def census9 : List Byte := censusPayload 100 7 1 0

/-- A relayed record of 16 bytes with its CRC. -/
def relayed16 : List Byte := List.replicate 12 3#8 ++ leBytes 4 (crc32 (List.replicate 12 3#8)).toNat

theorem witness_RingFrames_header :
    (let b := (dataFrame 4 9 9 census9).take 16;
      b.length = 16 ∧ (ringed []).cutsThrough .a b = true ∧ { linked {} with clock := 50000000 }.cutsThrough .a b = false) := by
  decide +kernel

theorem witness_RingFrames_data :
    (let b := dataFrame 4 9 9 census9;
      let h := Header.parse b;
      let x := (ringed []).ring.port .a;
      x.up = true ∧ h.kind = 0 ∧ b.length = 64 ∧ headerCrcGood b = true ∧ fcsOf b = .good ∧ h.epoch = x.epoch ∧
      h.aval = false ∧ h.nak = false ∧ x.cut = none ∧ h.hseq = x.rxSeq ∧ h.ver = 1 ∧ h.cls < 56) ∧
    (let f := YFrame.parse (dataFrame 4 9 9 census9);
      f.dst = f.src ∧ f.src ≠ (ringed []).ringId ∧ f.turns = 0 ∧ f.cls / 8 = 0 ∧ (ringed []).ringAuth = false ∧
      (∀ m ∈ (ringed []).ring.map, m.id ≠ f.src)) ∧
    (let f := YFrame.parse (dataFrame 4 5 5 census9);
      f.dst = (ringed []).ringId ∧ f.src = (ringed []).ringId ∧ fieldAt f.payload 0 4 ∉ (ringed []).ring.stamps) ∧
    (let f := YFrame.parse (dataFrame 44 8 9 []);
      f.dst ≠ f.src ∧ f.dst ≠ (ringed []).ringId ∧ f.hops + 1 < 512 ∧ ((ringed []).ring.port .b).up = true) ∧
    (let f := YFrame.parse (dataFrame 44 5 9 relayed16);
      let s := setCfg (ringed []) 9 10;
      f.dst = s.ringId ∧ f.src ≠ s.ringId ∧ f.cls / 8 = 5 ∧ s.collector = true ∧ s.ringAuth = false ∧
      relayedGood f.payload = true) ∧
    (let f := YFrame.parse (dataFrame 12 5 9 []);
      let s := setCfg (ringed []) 9 9;
      s.ringOn = true ∧ s.ringAuth = true ∧ f.dst = s.ringId ∧ f.src ≠ s.ringId ∧ f.auth = false ∧ f.hops + 1 < 512) ∧
    (Header.parse (fill 63 0#8)).kind = 0 ∧ (fill 63 0#8).length < 64 := by decide +kernel

/-- A step-up pause with frames in the receive buffer of port A, all but one of 64 bytes. -/
def buffering (first : Nat) : State := { ringed [] with
  volt := { pauseAt := some 50000000 }, cross := { rxA := fill first 0#8 :: List.replicate 254 (fill 64 0#8) } }

theorem witness_RingFrames_pause :
    (buffering 64).volt.pauseAt ≠ none ∧ (((buffering 64).cross.rx .a).map List.length).sum + 64 ≤ 16384 ∧
    ¬(((buffering 65).cross.rx .a).map List.length).sum + 64 ≤ 16384 := by decide +kernel

/-- A teach of slot 1023 by unit 9, with sequence 1, for a unit whose seed hash and machine class are given. -/
def teach9 (s : State) : List Byte := teachPayload s.mclass 1023 1 s.seedHash normalTag 0

theorem witness_RingFrames_teach :
    let s := ringed []
    let f := YFrame.parse (dataFrame 28 9 9 (teach9 s))
    f.dst = f.src ∧ f.src ≠ s.ringId ∧ f.turns = 0 ∧ f.cls / 8 = 3 ∧ s.ringAuth = false ∧ f.payload.length = 1072 ∧
    byteAt f.payload 0 = 1 ∧ fieldAt f.payload 2 2 < 1024 ∧ s.ring.clashAt = none ∧
    fieldAt f.payload 8 4 = s.seedHash ∧ byteAt f.payload 1 = s.mclass ∧
    0 < serial32 (fieldAt f.payload 4 4) (sparse s.vault.fleetSeq f.src) ∧ s.profile ≠ 0 ∧
    s.hearth.scanEnd ≤ s.clock + 0 ∧ s.fleet.held = [] ∧
    { s with hearth := { scanEnd := 50000001 } }.clock + 0 < 50000001 ∧
    s.placeRow f.src (fieldAt f.payload 2 2) = some s.libraryRows ∧ s.libraryRows < 8192 ∧ Memory.wf s.mem := by
  intro s f
  have hl : (teach9 s).length = 1072 := by decide +kernel
  have hf : f = { cls := 28, dst := 9, src := 9, e2e := 1, payload := teach9 s } :=
    dataFrame_parse _ _ _ _ (by rw [hl]; decide +kernel)
  rw [hf]
  exact ⟨rfl, by decide, rfl, by decide, by decide, hl, by decide +kernel, by decide +kernel, rfl, by decide +kernel,
    by decide +kernel, by decide +kernel, by decide, by decide, rfl, by decide, by decide +kernel, by decide, by decide⟩

/-- A census of the unit itself that waits for port A, since a clock. -/
def ownCensusFrame (since : Nat) : QFrame :=
  { frame := { cls := 4, dst := 5, src := 5, e2e := 1, payload := census9 }, out := .a, source := none, at_ := since
    cells := [0] }

theorem witness_RingFrames_send :
    (let s := ringed [ownCensusFrame 49999999];
      let x := s.ring.port .a;
      x.up = true ∧ x.proposal = none ∧ x.busyUntil ≤ s.clock ∧ (s.ring.port .b).cut = none ∧ x.links = [] ∧
      x.nakDue = false ∧ x.tableDue = false ∧ x.resend = [] ∧ s.volt.pauseAt = none ∧ x.unacked.length < 512 ∧
      s.nextData .a = some (ownCensusFrame 49999999) ∧ s.ring.waiting = [] ∧ s.relayTarget = none ∧
      s.cellsBad (ownCensusFrame 49999999).cells = none ∧
      (State.upset s [⟨0x04000000, 2⟩]).cellsBad (ownCensusFrame 49999999).cells ≠ none ∧
      ∀ v ∈ x.unacked, v.seq ≠ x.txSeq) ∧
    (let x : LinkPort := { up := true, unacked := [unackedFrame 3], resend := [7] };
      x.resend = 7 :: [] ∧ x.unacked.find? (fun v => decide (v.seq = 7)) = some (unackedFrame 3)) ∧
    (∀ q ∈ (ringed [ownCensusFrame 48771200]).ring.queue, q.at_ + 1228800 ≤ 50000000) := by decide +kernel

/-- RUN in the ring with fleet state. -/
def fleeted (f : Fleet) (r : Ring) : State := { atRun with
  clock := 100000000, fleet := f, ring := { r with portA := { up := true }, portB := { up := true } } }

/-- A novelty query of the unit that waits for its answer. -/
def ownQuery (re : Bool) : OwnQuery :=
  { e2e := 4, stamp := 9, kind := 1, bin := 5, vec := 0, row := 0, gen := some 0, at_ := 99500000, limit := 500000, reissue := re }

theorem witness_FleetEvents_timers :
    (let s := fleeted { visited := [{ src := 9, e2e := 4, stamp := 1, normal := {}, diagnosis := {}, at_ := 97542400 }] } {};
      s.volt.pauseAt = none ∧ ∃ v ∈ s.fleet.visited, v.at_ + 2457600 ≤ s.clock) ∧
    ({ fleeted {} {} with volt := { pauseAt := some 5 } }.volt.pauseAt ≠ none ∧ (fleeted {} {}).volt.pauseAt = none) ∧
    (let s := fleeted {} { free := [0, 1, 2] };
      s.ringOn = true ∧ s.mode = .run ∧ s.ring.censusAt + 24576000 ≤ s.clock ∧ s.ring.portA.up = true ∧
      s.ring.portB.up = true ∧ s.ringAuth = false ∧ s.ring.waiting = [] ∧ s.cellsHeld none 4 ≤ 6 ∧ s.fleet.e2e < 65536 ∧
      s.ring.free = 0 :: 1 :: [2]) ∧
    (let s := fleeted {} { map := [{ id := 9, at_ := 26272000 }] };
      (∃ m ∈ s.ring.map, m.id = (9 : BitVec 8).toNat ∧ m.at_ + 73728000 ≤ s.clock) ∧ s.router.ash.length < 32 ∧
      Memory.wf s.mem) ∧
    (let s := fleeted {} { clashAt := some 26272000 }; s.ring.clashAt = some 26272000 ∧ 26272000 + 73728000 ≤ s.clock) := by
  decide +kernel

theorem witness_FleetEvents_queries :
    (let s := fleeted { jobs := [heldJob true (some ({}, {}))] } {};
      s.volt.pauseAt = none ∧ s.fleet.jobs = [] ++ heldJob true (some ({}, {})) :: [] ∧
      (heldJob true (some ({}, {}))).result = some ({}, {}) ∧ 9 ≠ s.ringId ∧ (s.ring.port .b).up = true ∧
      s.ring.clashAt = none) ∧
    (heldJob true (some ({}, {}))).frame.hops + 1 < 512 ∧ (heldJob true (some ({}, {}))).frame.src = 9 ∧
    (heldJob true (some ({}, {}))).source = .a ∧ (heldJob true (some ({}, {}))).frame.payload.length = 1072 ∧
    (fleeted { queries := [ownQuery false] } {}).fleet.queries = [] ++ ownQuery false :: [] ∧
    (ownQuery false).at_ + (ownQuery false).limit ≤ (fleeted {} {}).clock ∧ (ownQuery true).reissue = true ∧
    (fleeted {} {}).ring.clashAt = none ∧
    (let s := fleeted { jobs := [heldJob false none] } { clashAt := some 99999999 };
      s.ring.clashAt.isSome = true ∧ s.fleet.jobs = [] ++ heldJob false none :: [] ∧ (heldJob false none).started = false ∧
      (heldJob false none).result = none ∧ s.cellsBad (heldJob false none).cells = none) :=
  ⟨⟨rfl, rfl, rfl, by decide, rfl, rfl⟩, by decide, rfl, rfl, fill_length _ _, rfl, by decide, rfl, rfl, rfl, rfl, rfl, rfl, rfl⟩

theorem witness_FleetEvents_sweep :
    (let s := fleeted { sweepAt := 98771200 } { free := [0, 1, 2, 3, 4] };
      s.volt.pauseAt = none ∧ s.fleet.sweepAt + 1228800 ≤ s.clock ∧ s.ring.clashAt = none ∧ s.isRetired 15360 = false ∧
      s.tagBad 15360 = false ∧ s.ring.portA.up = true ∧ s.ringAuth = false ∧ s.ring.waiting = [] ∧
      s.cellsHeld none 36 ≤ 3 ∧ 5 ≤ s.ring.free.length ∧ (s.tag 15360).valid = false) ∧
    (let s := (fleeted {} {}).setTag 15360 { normalTag with cls := 2 };
      (s.tag 15360).valid = true ∧ (s.tag 15360).spent = false ∧ s.tagBad 15360 = false) ∧
    ((State.upset (fleeted {} {}) [⟨tagAddr 15360, 2⟩]).tagBad 15360 = true ∧
      State.isRetired { fleeted {} {} with hearth := { retired := [240] } } 15360 = true) := by decide +kernel

/-! ### The test port -/

/-- The test port is open: `RESET_N` is low and every rail is good. -/
def testing (t : Tap) : State := { State.reset with power := { State.reset.power with resetNLow := true, railsLow := [] }, tap := t }

theorem witness_TestPort :
    ((testing {}).power.resetNLow = true ∧ (testing {}).power.railsLow = []) ∧
    (State.reset.power.resetNLow = false ∧ State.reset.power.railsLow ≠ []) ∧
    (testing { load := (1 : BitVec 8) ++ (5 : BitVec 256) }).tap.load = (1 : BitVec 8) ++ (5 : BitVec 256) ∧
    (testing {}).tap.burning = none ∧ (testing {}).tap.image.touched = false ∧
    (testing { burning := some (2, 5) }).tap.burning = some (2, 5) ∧
    (0b000011#6) ∉ [0b000000#6, 0b000001#6, 0b000010#6, 0b100000#6, 0b100001#6, 0b100010#6] := by decide

/-! ### Check values and worked examples of the spec: each test names its source -/

/-- The ASCII digits 1 to 9. -/
def digits : List Byte := [0x31#8, 0x32#8, 0x33#8, 0x34#8, 0x35#8, 0x36#8, 0x37#8, 0x38#8, 0x39#8]

/-- R317 and R182: the check values of the CRC-16 and of the CRC-32 of IEEE 802.3. -/
theorem test_crc : crc16 digits = 0x29B1 ∧ crc32 digits = 0xCBF43926 := by decide +kernel

/-- 00_scope.md, 01, 05 and 07: speed bins, load bins and the speed of a LOCKED frame. -/
theorem test_bins :
    speedOf 1 6144000 1 = (1, 2, 960) ∧ speedOf 1 409600 1 = (1, 9, 14400) ∧ speedOf 1 245760 1 = (1, 11, 24000) ∧
    loadBinOf (39 * 1966) 39 = 4 ∧ loadBinOf (40 * 1966) 40 = 4 ∧ loadFaultOf (39 * 1966) 39 = false := by decide

/-- 02_straps_and_resistors.md: the reading of `CFG4`. -/
theorem test_strap : refGood 0 13080 = true ∧ strapOhms 0 13080 9568 = 36501 ∧ strapLevel 36501 = some 11 := by decide

/-- 04_clockless_core.md: the step-down limits of codes 2 to 5. -/
theorem test_stepDownLimits : [2, 3, 4, 5].map stepDownLimit = [1403, 1355, 1257, 1048] := by decide

/-- 05_acquisition.md: a frame of 3,804 samples is CLIPPED at 4 `OVER` samples. -/
theorem test_clipped : clippedFrame 3804 4 = true ∧ clippedFrame 3804 3 = false := by decide

/-- 07_sync_and_frames.md: frame lengths at a glitch and at edge B, with the frame opened at T = 0. -/
theorem test_frameLength :
    let s : State := { setCfg (setCfg atRun 3 4) 4 10 with sync := { first := some 4608, count := 4000 } }
    s.period = 128 ∧ s.samplesBelow 50000 = 355 ∧ s.samplesBelow 409600 = 3164 := by decide

/-- 08_signal_engine.md: the block exponent, the log, band edges and levels. -/
theorem test_features :
    blockExponent [1600000] = 6 ∧ mlog 3000000 = 5486 ∧ builtInEdge 1024 56 = 512 ∧ builtInEdge 1024 57 = 558 ∧
    builtInEdge 1024 0 = 4 ∧ builtInEdge 1024 1 = 4 ∧ levelOf (quantPair none 56) (5486 + 512 * 6) = 180 ∧
    levelOf (quantPair none (112 + 5)) 819 = 28 ∧ anglePoints 0 1 1 = 1024 := by decide +kernel

/-- 09_encoding.md: the generator, the bytes of segment 0 and the index rule. -/
theorem test_generator :
    draw 2 1 = ([0x40822041, 0x100041060C011441], 0x100041060C011441) ∧
    drawnBytes [0x40822041] = [0x41#8, 0x20#8, 0x82#8, 0x40#8, 0#8, 0#8, 0#8, 0#8] ∧
    (shuffleStep (Array.range 600) 0 0x100041060C011441).getD 0 0 = 512 ∧
    (shuffleStep (Array.range 600) 1 0x100041060C011441).getD 1 0 = 512 := by decide +kernel

/-- 09_encoding.md: segment 1 of the rotation of `CH_0`. -/
theorem test_rotation : segment (rot (BitVec.ofNat 8192 (0x100041060C011441 * 2 ^ 64 + 0x40822041)) 1) 1 =
    0x2000820C18022882 := by decide +kernel

/-- 09_encoding.md: bits 3 to 0 of the majority of four terms. -/
theorem test_majority : [3, 2, 1, 0].map (majBit [0b1100, 0b1010, 0b1001, 0b0110] 0b0110) =
    [true, true, true, false] := by decide +kernel

/-- 10_hearth.md: the normal lane of the machine query, from the rows' distances. -/
theorem test_normalLane :
    let t (r : Nat) : Tag := { cls := 1, radius := BitVec.ofNat 14 r }
    let l : Lane := ((((Lane.take {} 9000 900 (t 1200)).take 9001 1341 (t 1500)).take 9002 3010 (t 2000)).take 9040 900
      (t 1000))
    l.row = 9000 ∧ l.dist = 900 ∧ l.radius = 1200 ∧ l.second = 900 ∧ l.count = 3 ∧ healthOf l = 375 := by decide +kernel

/-- 11_learning.md: the tag of row 9,000 after an admission at distance 900. -/
theorem test_admission :
    Tag.admitted { mu := 3104, delta := 240, radius := 1200, hits := 5 } 900 =
      { mu := 3120, delta := 248, radius := 1216, hits := 6 } := by decide

/-- 11_learning.md: the values of a taught row, and the severity of label 9. -/
theorem test_teach :
    teachValues (List.replicate 8 900 ++ List.replicate 8 1100) = (1164, 4000, 400) ∧ labelSeverity 9 = 2 := by decide

/-- 12_outputs_and_flue.md: `HEALTH` codes, and the alert pin over ticks 1 to 15. -/
theorem test_outputs :
    healthCode 640 = 2848 ∧ healthCode 375 = 2000 ∧
    (let run := (([1, 0, 1, 0, 1, 2, 2, 2, 0, 0, 0, 0, 0, 0, 0].foldl (fun (a : List Nat × List Bool × Bool) x =>
        let levels := (x :: a.1).take 8;
        let pin := pinLogic (levelsAtLeast levels 1) 3 a.2.2;
        (levels, a.2.1 ++ [pin], pin)) ([], [], false)).2.1);
      run = [false, false, false, false, true, true, true, true, true, true, true, true, true, true, false]) := by decide

/-- 13_memories_and_smoulder.md: the addresses of a heal, and the distance between its steps 2 and 4. -/
theorem test_healAddresses :
    rowAddr 9040 + 70 * 8 = 0x008D4230 ∧ vaultAddr 9040 + 0x230 = 0x080D4230 ∧ bankOf 9040 = 141 ∧
    tagAddr 5000 = 0x01027100 ∧ 892 * 128 / (128 - (Tag.markErased {} 70 true).erasures) = 899 := by decide +kernel

/-- 14_vault_and_ash.md: the words of a ROW entry, of its mirror and of an ash record. -/
theorem test_journalWords :
    (Entry.journalWrites ⟨1, 9000, 5, normalTag, 0⟩ 0 0).length = 135 ∧
    (Entry.vaultWrites ⟨1, 9000, 5, normalTag, 0⟩).length = 133 ∧ (AshRec.writes ⟨1, 0, []⟩ 0 0).length = 8 := by
  decide +kernel

/-- 14_vault_and_ash.md: the head across the wrap. -/
theorem test_ashHead :
    [0x5, 0xFFFFE006].foldl laterHead none = some 5 ∧ [0xFFFFE006, 0x5].foldl laterHead none = some 5 ∧
    0xFFFFE006 % 8192 = 6 := by decide

/-- 16_ring_link.md and 17_fleet.md: cells of a frame, and the time of a query of 40 units. -/
theorem test_ring : cellsOf 1472 true = 6 ∧ cellsOf 1072 false = 5 ∧ serial32 117 118 = -1 := by decide

/-- 17_fleet.md: the diagnosis block along the ring. -/
theorem test_fold :
    let own (d second count : Nat) : Lane := { none := false, dist := d, second := second, count := count }
    let b12 := foldLane 12 ({}, 0) (own 980 2050 1)
    let b20 := foldLane 20 b12 (own 940 1500 2)
    let b33 := foldLane 33 b20 (own 940 3000 1)
    (b12.2 = 12 ∧ b12.1.dist = 980 ∧ b12.1.second = 2050 ∧ b12.1.count = 1) ∧
    (b20.2 = 20 ∧ b20.1.dist = 940 ∧ b20.1.second = 980 ∧ b20.1.count = 3) ∧
    (b33.2 = 20 ∧ b33.1.dist = 940 ∧ b33.1.second = 940 ∧ b33.1.count = 4) := by decide

end Sys2Proof.Tests
end

/-! Straps (02_straps_and_resistors.md): levels, input statuses, the settings the codes stand for, and what the end of
STRAP_READ makes of them. -/

namespace Sys2Proof.Machine

/-! ### Levels and statuses of the strap inputs -/

theorem strapLevel_le {ohms l : Nat} (h : strapLevel ohms = some l) : l ≤ 15 := by
  unfold strapLevel at h
  split at h
  · cases h; omega
  · split at h
    · cases h; omega
    · obtain ⟨i, hi, rfl⟩ := Option.map_eq_some_iff.1 h
      have hlt : i < strapWindows.length := (List.findIdx?_eq_some_iff_getElem.1 hi).1
      have hlen : strapWindows.length = 14 := rfl
      omega

/-- Every code is a level from 0 to 15; an input without a level counts as code 0. -/
theorem Straps.level_getD_le (x : Straps) (p k : Nat) : (x.level p k).getD 0 ≤ 15 := by
  cases h : x.level p k with
  | none => exact Nat.zero_le _
  | some l =>
    obtain ⟨r, -, hr⟩ := Option.bind_eq_some_iff.1 h
    exact strapLevel_le hr

/-- What the status of a `CFG` pin or of `LABEL` can be (R46). -/
theorem Straps.status_cases (x : Straps) {k : Nat} (h0 : k ≠ 0) (h14 : k ≠ 14) :
    (x.refsGood = false ∧ x.status k = 6) ∨ x.status k = 1 ∨ x.status k = 3 ∨
      ∃ c, x.level 2 k = some c ∧ x.status k = if reservedCode k c then 2 else 0 := by
  unfold Straps.status
  rw [if_neg h0, if_neg h14]
  cases x.refsGood with
  | false => exact .inl ⟨rfl, rfl⟩
  | true =>
    refine .inr ?_
    split
    · contradiction
    · split
      next a b c _ _ hc =>
        split
        · exact .inr (.inr ⟨c, hc, rfl⟩)
        · exact .inr (.inl rfl)
      next => exact .inl rfl

/-- A reserved code is never good (R46). -/
theorem Straps.status_ne_zero_of_reserved (x : Straps) {k : Nat} (h0 : k ≠ 0) (h14 : k ≠ 14)
    (h : reservedCode k ((x.level 2 k).getD 0) = true) : x.status k ≠ 0 := by
  obtain ⟨-, hs⟩ | hs | hs | ⟨c, hc, hs⟩ := x.status_cases h0 h14
  · simp [hs]
  · simp [hs]
  · simp [hs]
  · rw [hc, Option.getD_some] at h
    simp [hs, h]

/-- Only the status of an input with reserved codes can be 2 (R46). -/
theorem Straps.status_ne_two (x : Straps) {k : Nat} (h0 : k ≠ 0) (h14 : k ≠ 14)
    (h : ∀ c, reservedCode k c = false) : x.status k ≠ 2 := by
  obtain ⟨-, hs⟩ | hs | hs | ⟨c, -, hs⟩ := x.status_cases h0 h14 <;> simp [hs, h]

/-! ### The verdict of STRAP_READ -/

/-- `RREF` is checked first (R46). -/
theorem Straps.firstFailed_of_refs_bad (x : Straps) (h : x.refsGood = false) : x.firstFailed = some 0 :=
  List.find?_cons_of_pos (by simp [Straps.status, h])

/-- With `RREF` accepted, every status but good has its cause (R46). -/
theorem Straps.causeOfStatus_ne_zero (x : Straps) {k : Nat} (hr : x.refsGood = true) (hk : x.status k ≠ 0) :
    causeOfStatus (x.status k) ≠ 0 := by
  by_cases h0 : k = 0
  · simp [Straps.status, h0, hr] at hk
  by_cases h14 : k = 14
  · have hs : x.status k = 5 := by
      simp only [Straps.status, h14] at hk ⊢
      simpa using hk
    simp [hs, causeOfStatus]
  obtain ⟨hr', -⟩ | hs | hs | ⟨c, -, hs⟩ := x.status_cases h0 h14
  · simp [hr] at hr'
  · simp [hs, causeOfStatus]
  · simp [hs, causeOfStatus]
  · have hs2 : x.status k = 2 := by
      rw [hs] at hk ⊢
      simpa using hk
    simp [hs2, causeOfStatus]

/-- An input that is not good gives STRAP_READ a cause (R45, R46). -/
theorem State.strapVerdict_ne_zero (s : State) (x : Straps) {k : Nat} (hk : k < 15) (h : x.status k ≠ 0) :
    (s.strapVerdict x).2 ≠ 0 := by
  unfold State.strapVerdict
  cases hr : x.refsGood with
  | false =>
    rw [x.firstFailed_of_refs_bad hr]
    simp [Straps.status, hr, causeOfStatus]
  | true =>
    cases hf : x.firstFailed with
    | none =>
      have hgood := List.find?_eq_none.1 hf k (List.mem_range.2 hk)
      simp [h] at hgood
    | some j =>
      have hj : x.status j ≠ 0 := by simpa using List.find?_some hf
      exact x.causeOfStatus_ne_zero hr hj

@[simp] theorem State.elapse_strapVerdict (s : State) (dt : Nat) (x : Straps) :
    (s.elapse dt).strapVerdict x = s.strapVerdict x := rfl

/-! ### The end of STRAP_READ -/

theorem exec_strapReadEnd (dt : Nat) (s : State) : exec (.strapReadEnd dt) s = execStrapReadEnd dt s := rfl

@[simp] theorem State.enterBist_straps (s : State) : s.enterBist.straps = s.straps := rfl

@[simp] theorem State.enterConfigFault_straps (s : State) : s.enterConfigFault.straps = s.straps := rfl

/-- Counting the boot and writing its records leaves the straps as they are. -/
@[simp] theorem State.bootRecords_countBoot_straps (s : State) (failed : Option Nat) :
    (s.countBoot.bootRecords failed).straps = s.straps :=
  spine_straps ((State.bootRecords_spine _ _).trans (State.countBoot_spine _))

/-- STRAP_READ ends with the straps decoded, in CONFIG_FAULT when there is a cause (R45). -/
theorem strapReadEnd_next (s : State) (dt : Nat) (hm : s.mode = .strapRead) (he : s.straps.ended = false)
    (hl : s.straps.sums.length = 45) :
    ∃ t, exec (.strapReadEnd dt) s = .next t ∧ t.straps = s.straps.decode (s.strapVerdict s.straps).2 ∧
      ((s.strapVerdict s.straps).2 ≠ 0 → t.mode = .configFault) := by
  rw [exec_strapReadEnd]
  unfold execStrapReadEnd
  refine ⟨_, event_next _ _ _ s (by simp [hm, he, hl]), ?straps, fun hv => ?mode⟩
  case straps => simp [apply_ite State.straps]
  case mode => simp [hv]

/-- `CFGi` holds its level in the third pass. -/
theorem State.cfg_of_decode {t : State} {x : Straps} {cause : Nat} (h : t.straps = x.decode cause) {i : Nat}
    (hi : i < 12) : t.cfg i = (x.level 2 (i + 1)).getD 0 := by
  simp [State.cfg, h, Straps.decode, hi]

theorem State.flueFallback_of_decode {t : State} {x : Straps} {cause : Nat} (h : t.straps = x.decode cause) :
    t.straps.flueFallback = (x.status 11 != 0) := by
  rw [h]; rfl

/-! ### What the codes stand for -/

section
variable {t : State} {c : Nat}

theorem State.bitOf_cfg {i : Nat} (h : t.cfg i = c) (b : Nat) :
    bitOf (t.cfg i) b = decide (c / 2 ^ b % 2 = 1) := by
  rw [h]; exact Nat.testBit_eq_decide_div_mod_eq

theorem State.period_mul_rate (h : t.cfg 3 = c) (hc : c ≤ 15) :
    t.period * [24000, 48000, 96000, 192000].getD (c / 4) 0 = 6144000 := by
  have hlt : c / 4 < 4 := by omega
  rw [State.period, h]
  interval_cases c / 4 <;> rfl

theorem State.syncMode_eq (h : t.cfg 4 = c) (hc : c < 12) :
    t.syncMode = [.free, .boundary, .hardAlign].getD (c / 4) .free := by
  have hlt : c / 4 < 3 := by omega
  rw [State.syncMode, h]
  interval_cases c / 4 <;> rfl

theorem State.lMax_eq (h : t.cfg 4 = c) : t.lMax = [1024, 2048, 4096, 8192].getD (c % 4) 0 := by
  have hlt : c % 4 < 4 := by omega
  rw [State.lMax, h]
  interval_cases c % 4 <;> rfl

theorem two_pow_eq_getD {n : Nat} (hn : n < 4) : 2 ^ n = [1, 2, 4, 8].getD n 0 := by
  interval_cases n <;> rfl

theorem State.edgesPerBoundary_eq (h : t.cfg 5 = c) (hc : c ≤ 15) :
    t.edgesPerBoundary = [1, 2, 4, 8].getD (c / 4) 0 := by
  rw [State.edgesPerBoundary, h, two_pow_eq_getD (by omega)]

theorem State.edgesPerRev_eq (h : t.cfg 5 = c) : t.edgesPerRev = [1, 2, 4, 8].getD (c % 4) 0 := by
  rw [State.edgesPerRev, h, two_pow_eq_getD (by omega)]

/-- An hour is 3,600 s of 6,144,000 timestamp counts. -/
theorem State.kindlingCounts_eq (h : t.cfg 6 = c) :
    t.kindlingCounts = if c = 15 then none else
      some (22118400000 * [0, 1, 2, 4, 8, 12, 24, 48, 72, 96, 168, 336, 500, 720, 1000].getD c 0) := by
  rw [State.kindlingCounts, h, Nat.mul_assoc, Nat.mul_comm]

/-- The three columns of the table of R39. -/
theorem sensitivity_eq (hc : c ≤ 15) :
    sensitivity c =
      ([450, 450, 500, 500, 500, 550, 550, 600, 600, 650, 650, 700, 700, 750, 800, 600].getD c 0,
       [650, 700, 700, 750, 750, 800, 800, 850, 850, 900, 900, 950, 950, 1000, 1000, 900].getD c 0,
       [2, 3, 3, 3, 5, 3, 5, 3, 5, 4, 6, 4, 6, 5, 7, 4].getD c 0) := by
  interval_cases c <;> rfl

theorem State.sensitivity_cfg (h : t.cfg 7 = c) : (t.alertLevel, t.alarmLevel, t.persistence) = sensitivity c := by
  rw [← h]; rfl

theorem State.ringOn_eq (h : t.cfg 9 = c) : t.ringOn = decide (8 ≤ c) := by
  rw [← h]; rfl

/-- With the ring on, speed, role and authentication are the low bits of `CFG9` (R41). -/
theorem State.ring_bits (h : t.cfg 9 = c) (hon : 8 ≤ c) :
    t.ringFast = decide (c / 2 ^ 2 % 2 = 1) ∧ t.collector = decide (c / 2 ^ 1 % 2 = 1) ∧
      t.ringAuth = decide (c / 2 ^ 0 % 2 = 1) := by
  have ho : t.ringOn = true := (State.ringOn_eq h).trans (decide_eq_true hon)
  simp only [State.ringFast, State.collector, State.ringAuth, ho, Bool.true_and, State.bitOf_cfg h, and_self]

theorem State.baud_eq (h : t.cfg 10 = c) (hc : c ≤ 15) (hf : t.straps.flueFallback = false) :
    t.baud = [115200, 230400, 460800, 921600, 1000000, 1500000, 2000000, 4000000].getD (c / 2) 0 := by
  have hlt : c / 2 < 8 := by omega
  rw [State.baud, hf, h]
  interval_cases c / 2 <;> rfl

theorem State.alarmsOnly_eq (h : t.cfg 10 = c) (hf : t.straps.flueFallback = false) :
    t.alarmsOnly = decide (c / 2 ^ 0 % 2 = 1) := by
  rw [State.alarmsOnly, hf, State.bitOf_cfg h]; rfl

/-- The fallback of the flue: 115,200 bit/s and the full record set (R47). -/
theorem State.flue_of_fallback (hf : t.straps.flueFallback = true) : t.baud = 115200 ∧ t.alarmsOnly = false := by
  simp [State.baud, State.alarmsOnly, hf]

/-- The rows of the sleep table (R43). -/
theorem State.sleepRow_eq (h : t.cfg 11 = c) :
    (t.sleepState, t.idleSeconds, t.spotSeconds) =
      [(none, 0, none), (some .banked, 60, none), (some .banked, 60, some 900), (some .banked, 600, some 3600),
       (some .ember, 600, none), (some .ember, 600, some 3600), (some .ember, 3600, some 14400),
       (some .ember, 3600, some 86400)].getD (c % 8) (none, 0, none) := by
  have hlt : c % 8 < 8 := by omega
  rw [State.sleepState, State.idleSeconds, State.spotSeconds, h]
  interval_cases c % 8 <;> rfl

end

/-! ### The statement -/

/-- `CFG2`, `CFG4`, `CFG8` and `CFG9` are the inputs 3, 5, 9 and 10; a reserved code of any of them is not good. -/
theorem Straps.status_ne_zero_of_reservedCfg (x : Straps)
    (h : 14 ≤ (x.level 2 3).getD 0 ∨ 12 ≤ (x.level 2 5).getD 0 ∨ (x.level 2 9).getD 0 % 4 = 1 ∨
      (1 ≤ (x.level 2 10).getD 0 ∧ (x.level 2 10).getD 0 ≤ 7)) : ∃ k < 15, x.status k ≠ 0 := by
  obtain h | h | h | h := h
  · exact ⟨3, by omega, x.status_ne_zero_of_reserved (by omega) (by omega) (by simpa [reservedCode] using h)⟩
  · exact ⟨5, by omega, x.status_ne_zero_of_reserved (by omega) (by omega) (by simpa [reservedCode] using h)⟩
  · exact ⟨9, by omega, x.status_ne_zero_of_reserved (by omega) (by omega) (by simpa [reservedCode] using h)⟩
  · exact ⟨10, by omega, x.status_ne_zero_of_reserved (by omega) (by omega) (by simpa [reservedCode] using h)⟩

/-- The inputs 3, 5, 9 and 10 alone have reserved codes. -/
theorem reservedCode_eq_false {k : Nat} (hk : k ∈ [1, 2, 4, 6, 7, 8, 11, 12]) (c : Nat) : reservedCode k c = false := by
  have hne : k ≠ 3 ∧ k ≠ 5 ∧ k ≠ 9 ∧ k ≠ 10 := by simp at hk; omega
  obtain ⟨h3, h5, h9, h10⟩ := hne
  simp [reservedCode, h3, h5, h9, h10]

/-- Settles O27: the straps are decoded at the end of STRAP_READ, and each setting is read off its code. -/
theorem strapSettings : Obligations.StrapSettings := by
  unfold Obligations.StrapSettings
  intro s dt hm he hl code bit hour
  obtain ⟨t, hnext, hstraps, hfault⟩ := strapReadEnd_next s dt hm he hl
  have hle (i : Nat) : code i ≤ 15 := s.straps.level_getD_le 2 (i + 1)
  have hcfg {i : Nat} (hi : i < 12) : t.cfg i = code i := State.cfg_of_decode hstraps hi
  have hbit {i : Nat} (hi : i < 12) (b : Nat) : bitOf (t.cfg i) b = bit i b := State.bitOf_cfg (hcfg hi) b
  have hbad {k : Nat} (hk : k < 15) (h : s.straps.status k ≠ 0) : t.mode = .configFault :=
    hfault (s.strapVerdict_ne_zero s.straps hk h)
  have hflue := State.flueFallback_of_decode hstraps
  obtain ⟨halert, halarm, hpersist⟩ : _ ∧ _ ∧ _ := by
    simpa only [Prod.mk.injEq] using (State.sensitivity_cfg (hcfg (i := 7) (by omega))).trans (sensitivity_eq (hle 7))
  refine ⟨t, hnext, hle, ?ringId, ?enabled, State.period_mul_rate (hcfg (by omega)) (hle 3), hbit (by omega) 1,
    hbit (by omega) 0, State.syncMode_eq (hcfg (by omega)), State.lMax_eq (hcfg (by omega)),
    State.edgesPerBoundary_eq (hcfg (by omega)) (hle 5), State.edgesPerRev_eq (hcfg (by omega)),
    State.kindlingCounts_eq (hcfg (by omega)), halert, halarm, hpersist, ?profile, hbit (by omega) 1,
    hbit (by omega) 0, State.ringOn_eq (hcfg (by omega)), State.ring_bits (hcfg (by omega)), ?reserved, ?unreserved,
    ?flue, ?fallback, hbit (by omega) 3, State.sleepRow_eq (hcfg (by omega))⟩
  case ringId => rw [State.ringId, hcfg (by omega), hcfg (by omega)]
  case enabled =>
    intro _
    rw [State.enabled, State.channels, hcfg (by omega)]
  case profile => rw [State.profile, hcfg (by omega)]
  case reserved =>
    intro h
    obtain ⟨k, hk, hs⟩ := s.straps.status_ne_zero_of_reservedCfg h
    exact hbad hk hs
  case unreserved =>
    intro k hk
    have hne : k ≠ 0 ∧ k ≠ 14 := by simp at hk; omega
    exact s.straps.status_ne_two hne.1 hne.2 (reservedCode_eq_false hk)
  case flue =>
    intro h
    have hf : t.straps.flueFallback = false := by simp [hflue, h]
    exact ⟨State.alarmsOnly_eq (hcfg (by omega)) hf, State.baud_eq (hcfg (by omega)) (hle 10) hf⟩
  case fallback =>
    intro h
    have hf : t.straps.flueFallback = true := by simp [hflue, h]
    exact ⟨hbad (by omega) h, State.flue_of_fallback hf⟩

end Sys2Proof.Machine

/-! Encoding (09_encoding.md): a hypervector as bytes, where the bytes are held, and the distance of two. -/

namespace Sys2Proof.Machine

/-! ### Numbers as bytes -/

theorem leBytes_getD {w k : Nat} (n : Nat) (hk : k < w) : (leBytes w n).getD k 0 = byteOf n k := by
  rw [List.getD_eq_getElem _ _ (by simpa using hk)]
  simp [leBytes]

theorem byteOf_getLsbD (n k : Nat) {j : Nat} (hj : j < 8) : (byteOf n k).getLsbD j = n.testBit (8 * k + j) := by
  rw [byteOf, BitVec.getLsbD_ofNat, Nat.testBit_shiftRight, decide_eq_true hj, Bool.true_and]

/-- Bytes that lie in a number's bytes are the bytes of the number shifted down. -/
theorem slice_leBytes (n : Nat) {off w size : Nat} (h : off + w ≤ size) :
    slice (leBytes size n) off w = leBytes w (n >>> (8 * off)) := by
  have hl : (slice (leBytes size n) off w).length = w := slice_length _ _ _ (by simpa using h)
  refine List.ext_getElem (by simpa using hl) fun i _ _ => ?_
  simp [slice, leBytes, byteOf, Nat.mul_add, Nat.shiftRight_add]

/-- The bytes above `w` do not count. -/
theorem leBytes_mod (w n : Nat) : leBytes w (n % 2 ^ (8 * w)) = leBytes w n := by
  refine List.map_congr_left fun k hk => BitVec.eq_of_getLsbD_eq fun j hj => ?_
  have hk : k < w := List.mem_range.1 hk
  rw [byteOf_getLsbD _ _ hj, byteOf_getLsbD _ _ hj, Nat.testBit_mod_two_pow, decide_eq_true (by omega), Bool.true_and]

/-! ### Hypervectors as bytes -/

@[simp] theorem hvBytes_length (v : HV) : (hvBytes v).length = 1024 := leBytes_length _ _

/-- Byte `k` holds bits `8k` to `8k + 7`, the lowest in its least significant bit (R177). -/
theorem hvBytes_getLsbD (v : HV) {k j : Nat} (hk : k < 1024) (hj : j < 8) :
    ((hvBytes v).getD k 0).getLsbD j = v.getLsbD (8 * k + j) := by
  rw [hvBytes, leBytes_getD _ hk, byteOf_getLsbD _ _ hj, BitVec.testBit_toNat]

theorem slice_hvBytes_segment (v : HV) {g : Nat} (hg : g < 128) :
    slice (hvBytes v) (8 * g) 8 = leBytes 8 (segment v g) := by
  rw [hvBytes, slice_leBytes _ (by omega), segment, ← leBytes_mod 8, ← Nat.mul_assoc]

@[simp] theorem hvOfBytes_hvBytes (v : HV) : hvOfBytes (hvBytes v) = v := by
  rw [hvOfBytes, hvBytes, leNat_leBytes, show (256 : Nat) = 2 ^ 8 by rfl, ← pow_mul, Nat.mod_eq_of_lt v.isLt,
    BitVec.ofNat_toNat, BitVec.setWidth_eq]

/-! ### Where hypervectors are held -/

/-- Bytes just written are read back. -/
theorem State.peek_poke (s : State) (a : Nat) {bs : List Byte} {n : Nat} (hs : Memory.wf s.mem) (hn : bs.length = n) :
    (s.poke a bs).peek a n = bs := by
  subst hn
  exact Memory.readBytes_writeBytes _ _ _ hs

theorem State.row_eq_hvOfBytes (s : State) (r : Nat) : s.row r = hvOfBytes (s.peek (rowAddr r) 1024) := rfl

theorem State.peek_setRow (s : State) (r : Nat) (v : HV) (hs : Memory.wf s.mem) :
    (s.setRow r v).peek (rowAddr r) 1024 = hvBytes v :=
  s.peek_poke _ hs (hvBytes_length v)

theorem State.row_setRow (s : State) (r : Nat) (v : HV) (hs : Memory.wf s.mem) : (s.setRow r v).row r = v := by
  rw [State.row_eq_hvOfBytes, State.peek_setRow s r v hs, hvOfBytes_hvBytes]

theorem recordData_hvBytes_append (v : HV) (rest : List Byte) : recordData (hvBytes v ++ rest) = v := by
  rw [recordData, slice_append_left _ _ _ _ (by simp), slice_full _ _ (hvBytes_length v), hvOfBytes_hvBytes]

/-- A hypervector between a head of `n` bytes and the rest of a payload. -/
theorem slice_hvBytes_between (v : HV) {head : List Byte} {n : Nat} (hn : head.length = n) (rest : List Byte) :
    slice (head ++ (hvBytes v ++ rest)) n 1024 = hvBytes v := by
  rw [slice_append_right _ _ _ _ hn, List.take_left' (hvBytes_length v)]

theorem slice_hvBytes_last (v : HV) {head : List Byte} {n : Nat} (hn : head.length = n) :
    slice (head ++ hvBytes v) n 1024 = hvBytes v := by
  simpa using slice_hvBytes_between v hn []

theorem slice_teachPayload (mclass slot seq seedHash : Nat) (t : Tag) (v : HV) :
    slice (teachPayload mclass slot seq seedHash t v) 48 1024 = hvBytes v :=
  slice_hvBytes_last v (by simp [Tag.bytes])

theorem slice_sweepPayload (mclass slot q fsend seedHash : Nat) (t : Tag) (v : HV) :
    slice (sweepPayload mclass slot q fsend seedHash (some (t, v))) 48 1024 = hvBytes v := by
  rw [sweepPayload, ← List.append_assoc]
  exact slice_hvBytes_last v (by simp [Tag.bytes])

theorem slice_queryPayload (kind scope bin lanes seedHash mclass reissue folded stamp : Nat) (v : HV)
    (n d : List Byte) :
    slice (queryPayload kind scope bin lanes seedHash mclass reissue folded stamp v n d) 16 1024 = hvBytes v := by
  rw [queryPayload, List.append_assoc, List.append_assoc]
  exact slice_hvBytes_between v (by simp) _

@[simp] theorem asWords_length (k : Nat) (bs : List Byte) (a : Nat) : (asWords k bs a).length = k := by
  induction k generalizing bs a with
  | zero => rfl
  | succ k ih => simp [asWords, ih]

/-- A full journal entry writes its hypervector to the vault first (R281). -/
theorem Entry.vaultWrites_take {e : Entry} (h : e.kind = 1) :
    e.vaultWrites.take 128 = asWords 128 (hvBytes e.data) (vaultAddr e.row) := by
  rw [Entry.vaultWrites, if_pos h, List.append_assoc, List.take_left' (asWords_length _ _ _)]

/-! ### Distance -/

theorem popcount_eq_countP (w n : Nat) : popcount w n = (List.range w).countP n.testBit := by
  induction w generalizing n with
  | zero => rfl
  | succ w ih =>
    have hshift : n.testBit ∘ Nat.succ = (n / 2).testBit := funext fun i => Nat.testBit_add_one n i
    rw [popcount, ih, List.range_succ_eq_map, List.countP_cons, List.countP_map, hshift, Nat.testBit_zero, Nat.add_comm]
    obtain h | h := Nat.mod_two_eq_zero_or_one n <;> simp [h]

theorem hamming_eq_countP (v w : HV) :
    hamming v w = (List.range 8192).countP (fun i => v.getLsbD i != w.getLsbD i) := by
  rw [hamming, popcount_eq_countP]
  congr 1
  funext i
  rw [BitVec.testBit_toNat, BitVec.getLsbD_xor, Bool.bne_eq_xor]

/-! ### The statement -/

/-- Settles O14: every place holds the bytes of `hvBytes`, whose bits are those of the hypervector in order, and the
distance counts the positions at which the bits differ. -/
theorem hypervectorBytes : Obligations.HypervectorBytes := by
  unfold Obligations.HypervectorBytes
  intro v w
  refine ⟨hvBytes_length v, fun k j hk hj => hvBytes_getLsbD v hk hj, fun g hg => slice_hvBytes_segment v hg,
    hvOfBytes_hvBytes v, fun s r hs => ⟨s.row_setRow r v hs, s.peek_setRow r v hs⟩, recordData_hvBytes_append v,
    fun m slot q h t => slice_teachPayload m slot q h t v, fun m slot q f h t => slice_sweepPayload m slot q f h t v,
    fun kind scope bin lanes h m re folded stamp x y =>
      slice_queryPayload kind scope bin lanes h m re folded stamp v x y, ?vault, hamming_eq_countP v w⟩
  case vault =>
    rintro e hkind rfl
    exact Entry.vaultWrites_take hkind

end Sys2Proof.Machine

/-! The hearth (10_hearth.md): the normalised distance of a row, and what a lane holds once its rows have entered it. -/

namespace Sys2Proof.Machine

/-! ### The normalised distance -/

theorem Tag.erasures_eq_countP (t : Tag) : t.erasures = (List.range 128).countP t.isErased :=
  popcount_eq_countP _ _

/-- The number whose bits are those of the segments below `n` that `p` holds of. -/
def segmentMask (p : Nat → Bool) (n : Nat) : Nat :=
  ((List.range n).filter p).foldl (fun m g => m + ((2 ^ 64 - 1) <<< (64 * g))) 0

theorem erasedMask_eq (t : Tag) : erasedMask t = BitVec.ofNat 8192 (segmentMask t.isErased 128) := rfl

theorem segmentMask_succ (p : Nat → Bool) (n : Nat) :
    segmentMask p (n + 1) = segmentMask p n + if p n then (2 ^ 64 - 1) <<< (64 * n) else 0 := by
  rw [segmentMask, List.range_succ, List.filter_append, List.foldl_append, ← segmentMask]
  cases h : p n <;> simp [h]

theorem testBit_segmentMask (p : Nat → Bool) (n i : Nat) :
    (segmentMask p n).testBit i = (decide (i / 64 < n) && p (i / 64)) := by
  induction n generalizing i with
  | zero => simp [segmentMask]
  | succ n ih =>
    have hlow : segmentMask p n < 2 ^ (64 * n) := Nat.lt_pow_two_of_testBit _ fun j hj => by
      rw [ih, decide_eq_false (by omega), Bool.false_and]
    rw [segmentMask_succ]
    split
    case isFalse hp =>
      rw [Nat.add_zero, ih]
      obtain rfl | hne := eq_or_ne (i / 64) n
      · simp [hp]
      · rw [decide_eq_decide.2 (by omega : i / 64 < n ↔ i / 64 < n + 1)]
    case isTrue hp =>
      rw [Nat.shiftLeft_eq, Nat.add_comm, Nat.mul_comm, Nat.testBit_two_pow_mul_add _ hlow, ih,
        Nat.testBit_two_pow_sub_one]
      split
      · have h : i / 64 < n := by omega
        simp [h, Nat.lt_succ_of_lt h]
      · obtain rfl | hne := eq_or_ne (i / 64) n
        · have h : i - 64 * (i / 64) < 64 := by omega
          simp [hp, h]
        · rw [decide_eq_false (by omega), decide_eq_false (by omega), Bool.false_and]

/-- The mask holds the bits of the erased segments, 64 to a segment. -/
theorem erasedMask_getLsbD (t : Tag) {i : Nat} (hi : i < 8192) : (erasedMask t).getLsbD i = t.isErased (i / 64) := by
  rw [erasedMask_eq, BitVec.getLsbD_ofNat, testBit_segmentMask, decide_eq_true hi, decide_eq_true (by omega),
    Bool.true_and, Bool.true_and]

/-- The bits counted are those that differ in the segments not erased (R203). -/
theorem popcount_unerased (t : Tag) (row v : HV) :
    popcount 8192 ((row ^^^ v) &&& ~~~(erasedMask t)).toNat =
      (List.range 8192).countP (fun i => !t.isErased (i / 64) && (row.getLsbD i != v.getLsbD i)) := by
  rw [popcount_eq_countP]
  refine List.countP_congr fun i hi => ?_
  have hi : i < 8192 := List.mem_range.1 hi
  rw [BitVec.testBit_toNat, BitVec.getLsbD_and, BitVec.getLsbD_xor, BitVec.getLsbD_not, erasedMask_getLsbD t hi,
    decide_eq_true hi, Bool.true_and, Bool.bne_eq_xor, Bool.and_comm]

theorem normalDistance_eq_countP (t : Tag) (row v : HV) :
    normalDistance t row v =
      (List.range 8192).countP (fun i => !t.isErased (i / 64) && (row.getLsbD i != v.getLsbD i)) * 128 /
        (128 - t.erasures) := by
  rw [normalDistance, popcount_unerased]

theorem Tag.isErased_eq_false {t : Tag} (h : t.erasures = 0) {g : Nat} (hg : g < 128) : t.isErased g = false := by
  rw [t.erasures_eq_countP, List.countP_eq_zero] at h
  simpa using h g (List.mem_range.2 hg)

/-- With no erased segment the normalised distance is the distance (R203). -/
theorem normalDistance_eq_hamming {t : Tag} (h : t.erasures = 0) (row v : HV) :
    normalDistance t row v = hamming row v := by
  rw [normalDistance_eq_countP, h, hamming_eq_countP, Nat.sub_zero, Nat.mul_div_cancel _ (by omega)]
  refine List.countP_congr fun i hi => ?_
  have hi : i < 8192 := List.mem_range.1 hi
  rw [Tag.isErased_eq_false h (by omega), Bool.not_false, Bool.true_and]

/-- Settles O15: the mask of the erased segments takes their bits out of the count of differing bits. -/
theorem normalisedDistance : Obligations.NormalisedDistance := by
  unfold Obligations.NormalisedDistance
  intro t row v
  exact ⟨t.erasures_eq_countP, normalDistance_eq_countP t row v, fun h => normalDistance_eq_hamming h row v⟩

/-! ### A row enters a lane -/

section
variable (l : Lane) (r dn : Nat) (t : Tag)

@[simp] theorem Lane.take_none : (l.take r dn t).none = false := by
  unfold Lane.take
  split
  case isTrue => rfl
  case isFalse h => simp at h; exact h.1

@[simp] theorem Lane.take_count :
    (l.take r dn t).count = satTo 65535 (l.count + b2n (decide (dn < t.effectiveRadius))) := by
  unfold Lane.take
  split <;> rfl

variable {l dn}

/-- A row nearer than the lane's nearest, or the first row, becomes the nearest (R205). -/
theorem Lane.take_of_nearer (h : l.none = true ∨ dn < l.dist) :
    (l.take r dn t).row = r ∧ (l.take r dn t).dist = dn ∧ (l.take r dn t).radius = t.effectiveRadius ∧
      (l.take r dn t).second = l.dist := by
  simp [Lane.take, h]

/-- Any other row, one at an equal distance among them, leaves the nearest as it is (R205). -/
theorem Lane.take_of_not_nearer (h : ¬(l.none = true ∨ dn < l.dist)) :
    (l.take r dn t).row = l.row ∧ (l.take r dn t).dist = l.dist ∧ (l.take r dn t).radius = l.radius ∧
      (l.take r dn t).second = min l.second dn := by
  simp [Lane.take, h]

end

/-! ### The rows of a lane -/

/-- The lane once the rows of a list, each with its distance and tag, have entered it. -/
def filledLane (l : List (Nat × Nat × Tag)) : Lane :=
  l.foldl (fun (a : Lane) x => a.take x.1 x.2.1 x.2.2) {}

@[simp] theorem filledLane_nil : filledLane [] = {} := rfl

@[simp] theorem filledLane_concat (l : List (Nat × Nat × Tag)) (x : Nat × Nat × Tag) :
    filledLane (l ++ [x]) = (filledLane l).take x.1 x.2.1 x.2.2 := by
  rw [filledLane, List.foldl_append]; rfl

theorem filledLane_none_iff (l : List (Nat × Nat × Tag)) : (filledLane l).none = true ↔ l = [] := by
  cases l using List.reverseRecOn <;> simp

theorem satTo_add_satTo (limit a b : Nat) : satTo limit (satTo limit a + b) = satTo limit (a + b) := by
  unfold satTo
  split_ifs <;> omega

theorem satTo_eq_min (limit n : Nat) : satTo limit n = min limit n := by
  unfold satTo
  split_ifs <;> omega

/-- The rows below their own effective radius are counted, up to 65,535 (R207). -/
theorem filledLane_count (l : List (Nat × Nat × Tag)) :
    (filledLane l).count = satTo 65535 (l.countP (fun x => decide (x.2.1 < x.2.2.effectiveRadius))) := by
  induction l using List.reverseRecOn with
  | nil => rfl
  | append_singleton l x ih =>
    rw [filledLane_concat, Lane.take_count, ih, satTo_add_satTo, List.countP_append, List.countP_singleton, b2n]

/-! ### The nearest row -/

/-- Row `x` is the nearest of the two: the smaller distance, the lower row of equals (R205). -/
def Nearest (x y : Nat × Nat × Tag) : Prop := x.2.1 < y.2.1 ∨ (x.2.1 = y.2.1 ∧ x.1 ≤ y.1)

theorem Nearest.refl (x : Nat × Nat × Tag) : Nearest x x := .inr ⟨rfl, le_rfl⟩

theorem Nearest.dist_le {x y : Nat × Nat × Tag} (h : Nearest x y) : x.2.1 ≤ y.2.1 := by
  obtain h | ⟨h, -⟩ := h <;> omega

/-- The lane's nearest row is `x`, and `x` is the nearest of the list. -/
def IsNearest (a : Lane) (l : List (Nat × Nat × Tag)) (x : Nat × Nat × Tag) : Prop :=
  a.row = x.1 ∧ a.dist = x.2.1 ∧ a.radius = x.2.2.effectiveRadius ∧ ∀ y ∈ l, Nearest x y

/-- Rows come in ascending order, so the nearest so far is the lower row of equals (R205). -/
theorem filledLane_nearest {l : List (Nat × Nat × Tag)} (hrows : l.Pairwise (fun a b => a.1 < b.1)) (hl : l ≠ []) :
    ∃ x ∈ l, IsNearest (filledLane l) l x := by
  induction l using List.reverseRecOn with
  | nil => exact absurd rfl hl
  | append_singleton l x ih =>
    obtain ⟨hrows, -, hlast⟩ := List.pairwise_append.1 hrows
    rw [filledLane_concat]
    by_cases hnear : (filledLane l).none = true ∨ x.2.1 < (filledLane l).dist
    · obtain ⟨hrow, hdist, hradius, -⟩ := Lane.take_of_nearer x.1 x.2.2 hnear
      refine ⟨x, by simp, hrow, hdist, hradius, fun y hy => ?_⟩
      obtain hy | rfl := List.mem_append.1 hy |>.imp_right List.mem_singleton.1
      · have hne : l ≠ [] := List.ne_nil_of_mem hy
        obtain ⟨z, -, -, hz, -, hzy⟩ := ih hrows hne
        have hlt : x.2.1 < (filledLane l).dist := hnear.resolve_left fun h => hne ((filledLane_none_iff l).1 h)
        exact .inl (by have := (hzy y hy).dist_le; omega)
      · exact .refl y
    · obtain ⟨hrow, hdist, hradius, -⟩ := Lane.take_of_not_nearer x.1 x.2.2 hnear
      rw [not_or, filledLane_none_iff, not_lt] at hnear
      obtain ⟨hne, hle⟩ := hnear
      obtain ⟨z, hz, hzrow, hzdist, hzradius, hzy⟩ := ih hrows hne
      refine ⟨z, by simp [hz], hrow.trans hzrow, hdist.trans hzdist, hradius.trans hzradius, fun y hy => ?_⟩
      obtain hy | rfl := List.mem_append.1 hy |>.imp_right List.mem_singleton.1
      · exact hzy y hy
      · have hlt : z.1 < y.1 := hlast z hz y (by simp)
        exact lt_or_eq_of_le (hzdist ▸ hle) |>.imp_right fun h => ⟨h, hlt.le⟩

/-! ### The second distance -/

/-- The distances of the rows of a list, ascending, each row's own. -/
def sortedDists (l : List (Nat × Nat × Tag)) : List Nat := (l.map (fun x => x.2.1)).insertionSort (· ≤ ·)

theorem sortedDists_eq_mergeSort (l : List (Nat × Nat × Tag)) :
    sortedDists l = (l.map (fun x => x.2.1)).mergeSort (fun a b => decide (a ≤ b)) :=
  (List.mergeSort_eq_insertionSort (· ≤ ·) _).symm

theorem sortedDists_concat (l : List (Nat × Nat × Tag)) (x : Nat × Nat × Tag) :
    sortedDists (l ++ [x]) = (sortedDists l).orderedInsert (· ≤ ·) x.2.1 := by
  refine List.Perm.eq_of_pairwise' (r := (· ≤ ·)) (List.pairwise_insertionSort _ _)
    ((List.pairwise_insertionSort _ _).orderedInsert _ _) ?_
  have hconcat : List.Perm (sortedDists (l ++ [x])) (x.2.1 :: l.map (fun x => x.2.1)) :=
    (List.perm_insertionSort _ _).trans (by simp)
  have hinsert : List.Perm ((sortedDists l).orderedInsert (· ≤ ·) x.2.1) (x.2.1 :: l.map (fun x => x.2.1)) :=
    (List.perm_orderedInsert _ _ _).trans ((List.perm_insertionSort _ _).cons _)
  exact hconcat.trans hinsert.symm

/-- The two smallest distances of an ascending list when a further one enters it; `far` stands for a missing one. -/
theorem getD_orderedInsert {s : List Nat} {d far : Nat} (hs : s.Pairwise (· ≤ ·)) (hd : d < far) :
    (s.orderedInsert (· ≤ ·) d).getD 0 far = min d (s.getD 0 far) ∧
      (s.orderedInsert (· ≤ ·) d).getD 1 far = if d < s.getD 0 far then s.getD 0 far else min (s.getD 1 far) d := by
  match s with
  | [] => simp [hd, hd.le]
  | [a] =>
    obtain h | h := le_or_gt d a
    · simp [h]; omega
    · simp [h.not_ge, h.not_gt, h.le, hd.le]
  | a :: b :: s =>
    have hab : a ≤ b := List.rel_of_pairwise_cons hs (by simp)
    obtain h | h := le_or_gt d a
    · simp [h]; omega
    · obtain hb | hb := le_or_gt d b
      · simp [h.not_ge, h.not_gt, h.le, hb]
      · simp [h.not_ge, h.not_gt, h.le, hb.not_ge, hb.le]

/-- The lane holds the two smallest distances, each row counted separately (R205, R206). -/
theorem filledLane_dists {l : List (Nat × Nat × Tag)} (hl : ∀ x ∈ l, x.2.1 < 0x3FFF) :
    (filledLane l).dist = (sortedDists l).getD 0 0x3FFF ∧ (filledLane l).second = (sortedDists l).getD 1 0x3FFF := by
  induction l using List.reverseRecOn with
  | nil => exact ⟨rfl, rfl⟩
  | append_singleton l x ih =>
    obtain ⟨hdist, hsecond⟩ := ih fun y hy => hl y (List.mem_append_left _ hy)
    have hx : x.2.1 < 0x3FFF := hl x (by simp)
    obtain ⟨hnear, hnext⟩ := getD_orderedInsert (s := sortedDists l) (List.pairwise_insertionSort _ _) hx
    have hempty : (filledLane l).none = true → x.2.1 < (filledLane l).dist := fun h => by
      rw [(filledLane_none_iff l).1 h]; exact hx
    rw [filledLane_concat, sortedDists_concat, hnear, hnext, ← hdist, ← hsecond]
    by_cases h : x.2.1 < (filledLane l).dist
    · obtain ⟨-, htake, -, hsnd⟩ := Lane.take_of_nearer x.1 x.2.2 (.inr h)
      exact ⟨htake.trans (min_eq_left h.le).symm, hsnd.trans (if_pos h).symm⟩
    · obtain ⟨-, htake, -, hsnd⟩ := Lane.take_of_not_nearer x.1 x.2.2 (not_or.2 ⟨mt hempty h, h⟩)
      exact ⟨htake.trans (min_eq_right (not_lt.1 h)).symm, hsnd.trans (if_neg h).symm⟩

/-! ### The statement -/

/-- Settles O16: each field of the lane follows the rows as they enter it. -/
theorem laneResult : Obligations.LaneResult := by
  unfold Obligations.LaneResult
  intro l hrows hl
  refine ⟨filledLane_none_iff l, fun hne => ?nearest, ?second, ?count⟩
  case nearest => exact filledLane_nearest hrows hne
  case second => rw [← sortedDists_eq_mergeSort]; exact (filledLane_dists hl).2
  case count => rw [← satTo_eq_min]; exact filledLane_count l

end Sys2Proof.Machine

section
/-! Commands (SPEC: the table of operations and events): every command is an event with an operand form and a condition,
and what follows from that for all of them. -/

namespace Sys2Proof.Machine

/-! ### Commands as events -/

/-- A command is an event: its operands have their form, and, while its condition holds, it has its effect. The condition
of a command that belongs to RUN holds in RUN only. -/
def actsAs (c : Instr) (cond : State → Bool) (effect : State → State) : Prop :=
  (∀ s, exec c s = eventOf (formed c) c.dt cond effect s) ∧
  (runOnly c = true → ∀ s, cond s = true → s.mode = .run)

/-- An event asks of its operand only what its form says of the state it comes in. -/
theorem eventOf_congr {form form' : State → Bool} {dt : Nat} {cond : State → Bool} {effect : State → State} {s : State}
    (h : form s = form' s) : eventOf form dt cond effect s = eventOf form' dt cond effect s := by
  unfold eventOf
  rw [h]

theorem State.mode_of_ringRuns {s : State} (h : s.ringRuns = true) : s.mode = .run := by
  simp_all [State.ringRuns]

theorem State.mode_of_coreRuns {s : State} (h : s.coreRuns = true) : s.mode = .run := by
  simp_all [State.coreRuns]

theorem State.coreRuns_of_mayEnterSleep {s : State} (h : s.mayEnterSleep = true) : s.coreRuns = true := by
  simp_all [State.mayEnterSleep]

theorem State.ringRuns_of_cutsThrough {s : State} {p : Port} {h : List Byte} (hc : s.cutsThrough p h = true) :
    s.ringRuns = true := by
  unfold State.cutsThrough at hc
  simp_all

theorem exec_actsAs (c : Instr) : ∃ cond effect, actsAs c cond effect := by
  cases c with
  | libraryItemReceived dt it =>
    refine ⟨_, _, fun s => (eventOf_congr ?_ : execLibraryItemReceived dt it s = _), fun hr => by cases hr⟩
    unfold formed
    rcases s.lib.stage with _ | _ | (_ | k) | _ <;> rfl
  | refetchComplete dt it lost =>
    refine ⟨_, _, fun s => (eventOf_congr ?_ : execRefetchComplete dt it lost s = _), fun _ s h => by simp_all⟩
    unfold formed
    rcases s.lib.serving with _ | _ | _ | _ <;> rfl
  | bandPlanRetry dt it =>
    exact ⟨_, _, fun s => (eventOf_congr rfl : execBandPlanRetry dt it s = _), fun _ s h => by simp_all⟩
  | sleepEntry dt us =>
    exact ⟨_, _, fun s => rfl, fun _ _ h => State.mode_of_coreRuns (State.coreRuns_of_mayEnterSleep h)⟩
  | frameHeaderReceived dt p h =>
    exact ⟨_, _, fun s => rfl, fun _ _ hc => State.mode_of_ringRuns (State.ringRuns_of_cutsThrough hc)⟩
  | _ => exact ⟨_, _, fun s => rfl, fun hr s h => by simp_all [runOnly, State.coreRuns, State.ringRuns]⟩

/-- What a command answers: time alone has passed, or its effect has been settled into the LEDs. -/
theorem exec_cases {c : Instr} {s t : State} (h : exec c s = .next t) : t = s.elapse c.dt ∨ ∃ u : State, t = u.settle := by
  obtain ⟨cond, effect, hexec, -⟩ := exec_actsAs c
  rw [hexec] at h
  obtain ⟨-, ⟨-, ht⟩ | ⟨-, ht⟩⟩ := eventOf_cases _ _ _ _ _ _ h
  · exact .inl ht
  · exact .inr ⟨_, ht⟩

/-! ### The statements that need nothing else -/

/-- Settles O3: every command is an event whose operand form is `formed`. -/
theorem completesWhenFormed : Obligations.CompletesWhenFormed := by
  unfold Obligations.CompletesWhenFormed
  intro c s
  obtain ⟨cond, effect, hexec, -⟩ := exec_actsAs c
  rw [hexec]
  refine ⟨fun hf => ?formed, fun hf => eventOf_fault _ _ _ _ _ hf⟩
  cases hc : cond (s.elapse c.dt)
  · exact ⟨_, eventOf_idle _ _ _ _ _ hf hc⟩
  · exact ⟨_, eventOf_next _ _ _ _ _ hf hc⟩

/-- Settles O12: the condition of such a command fails outside RUN, and time alone passes. -/
theorem onlyInRun : Obligations.OnlyInRun := by
  unfold Obligations.OnlyInRun
  intro c s hrun hf hm
  obtain ⟨cond, effect, hexec, hcond⟩ := exec_actsAs c
  have hc : cond (s.elapse c.dt) = false := by
    by_contra hc
    exact hm (hcond hrun (s.elapse c.dt) (eq_true_of_ne_false hc))
  rw [hexec, eventOf_idle _ _ _ _ _ hf hc]
  rfl

/-! ### The LEDs -/

theorem Led.show_pattern (l : Led) (p : Pattern) (clock : Nat) : (l.show p clock).pattern = p := by
  unfold Led.show
  split
  · assumption
  · rfl

theorem withdrawn_eq (n : Nat) : withdrawn n = (decide (n = 3) || decide (n = 4) || decide (n = 5)) := by
  rw [Bool.eq_iff_iff]
  simp only [withdrawn, Bool.and_eq_true, Bool.or_eq_true, decide_eq_true_eq]
  omega

/-- The LEDs of a settled state show what R244 gives. -/
theorem State.settle_ledsRight (s : State) : s.settle.ledsRight := by
  unfold State.ledsRight
  refine ⟨(Led.show_pattern ..).trans ?led0, (Led.show_pattern ..).trans ?led1⟩
  case led0 => rfl
  case led1 =>
    unfold State.led1Pattern State.anyWithdrawn State.enabled
    simp only [withdrawn_eq]
    rfl

theorem State.elapse_ledsRight {s : State} (dt : Nat) (h : s.ledsRight) : (s.elapse dt).ledsRight := h

/-- Settles O9: time changes none of the sources of the LEDs, and every effect is settled into them. -/
theorem ledsFollow : Obligations.LedsFollow := by
  unfold Obligations.LedsFollow
  intro s t hs h
  unfold step at h
  split at h
  · cases h; exact State.elapse_ledsRight 1 hs
  · obtain rfl | ⟨u, rfl⟩ := exec_cases h
    · exact hs
    · exact u.settle_ledsRight

end Sys2Proof.Machine
end

section
/-! Commands, continued: what every command does to the queue, the clock, the device state, the strap codes, the test port,
memory and error map (R12, R21, R396). -/

namespace Sys2Proof.Machine

/-! ### The test port -/

/-- A lawful burn stays lawful, and the fuses of a block with a fuse burnt stay (R396). -/
def Tap.follows (old new : Tap) : Prop :=
  old.burnSound = true → new.burnSound = true ∧
    (old.image.touched = true → new.image = old.image) ∧ (old.ring.touched = true → new.ring = old.ring)

theorem Tap.follows_refl (t : Tap) : t.follows t := fun h => ⟨h, fun _ => rfl, fun _ => rfl⟩

/-- A test port whose fuses and burn in progress are the same. -/
theorem Tap.follows_of_fuses {old new : Tap} (hb : new.burning = old.burning) (hi : new.image = old.image)
    (hr : new.ring = old.ring) : old.follows new := by
  intro h
  refine ⟨?_, fun _ => hi, fun _ => hr⟩
  unfold Tap.burnSound Tap.block at h ⊢
  rwa [hb, hi, hr]

/-- A burn that ends, whole or cut short, changes only its own block, of which no fuse was burnt. -/
theorem Tap.follows_of_burnt {old new : Tap} {sel : Nat} {key : BitVec 256} (hold : old.burning = some (sel, key))
    (hnone : new.burning = none) (hi : sel ≠ 1 → new.image = old.image) (hr : sel = 1 → new.ring = old.ring) :
    old.follows new := by
  intro h
  have hnew : new.burnSound = true := by simp [Tap.burnSound, hnone]
  have huntouched : (old.block sel).touched = false := by
    simp only [Tap.burnSound, hold, Bool.and_eq_true, Bool.not_eq_true'] at h
    exact h.2
  by_cases hsel : sel = 1
  · simp only [Tap.block, if_pos hsel] at huntouched
    exact ⟨hnew, fun ht => by simp [huntouched] at ht, fun _ => hr hsel⟩
  · simp only [Tap.block, if_neg hsel] at huntouched
    exact ⟨hnew, fun _ => hi hsel, fun ht => by simp [huntouched] at ht⟩

theorem Tap.setBlock_image {t : Tap} {sel : Nat} (k : KeyBlock) (h : sel ≠ 1) : (t.setBlock sel k).image = t.image := by
  simp [Tap.setBlock, h]

theorem Tap.setBlock_ring {t : Tap} {sel : Nat} (k : KeyBlock) (h : sel = 1) : (t.setBlock sel k).ring = t.ring := by
  simp [Tap.setBlock, h]

theorem State.tapOff_core (s : State) :
    s.tapOff.pending = s.pending ∧ s.tapOff.clock = s.clock ∧ s.tapOff.mode = s.mode ∧ s.tapOff.straps = s.straps := by
  unfold State.tapOff
  split <;> exact ⟨rfl, rfl, rfl, rfl⟩

theorem State.tapOff_follows (s : State) : s.tap.follows s.tapOff.tap := by
  unfold State.tapOff
  split
  case h_1 => exact Tap.follows_of_fuses rfl rfl rfl
  case h_2 sel key hburn =>
    exact Tap.follows_of_burnt hburn rfl (Tap.setBlock_image (t := s.tap) _) (Tap.setBlock_ring (t := s.tap) _)

/-- A burn starts only in a defined block of which no fuse is burnt (R396). -/
theorem Tap.burnSound_of_not_refuses {t : Tap} (h : t.refuses = false) :
    ((decide (t.selector = 1) || decide (t.selector = 2)) && !(t.block t.selector).touched) = true := by
  simp only [Tap.refuses, Bool.or_eq_false_iff, Bool.not_eq_false'] at h
  obtain ⟨⟨⟨hsel, -⟩, -⟩, huntouched⟩ := h
  rw [hsel, huntouched]
  rfl

/-! ### What a command keeps -/

/-- What holds from the state `u`, in which a command acts, to the state `v` that it answers: the queue and the clock stay,
the device state moves along its diagram, the strap codes change at the end of STRAP_READ alone, and the fuses follow their
rules. -/
structure Keeps (c : Instr) (u v : State) : Prop where
  queue : v.pending = u.pending
  clock : v.clock = u.clock
  mode : v.mode = u.mode ∨ mayMove c u.mode v.mode = true
  codes : v.straps.codes = u.straps.codes ∨ ((∃ dt, c = .strapReadEnd dt) ∧ u.mode = .strapRead)
  tap : u.tap.follows v.tap

theorem Keeps.of_spine {c : Instr} {u v : State} (h : v.spine = u.spine) : Keeps c u v where
  queue := spine_pending h
  clock := spine_clock h
  mode := .inl (spine_mode h)
  codes := .inl (congrArg Straps.codes (spine_straps h))
  tap := spine_tap h ▸ Tap.follows_refl _

theorem Keeps.of_core {c : Instr} {u v : State} (h : v.core = u.core)
    (hm : v.mode = u.mode ∨ mayMove c u.mode v.mode = true) (hs : v.straps.codes = u.straps.codes) : Keeps c u v where
  queue := core_pending h
  clock := core_clock h
  mode := hm
  codes := .inl hs
  tap := core_tap h ▸ Tap.follows_refl _

/-- A command that changes the test port alone. -/
theorem Keeps.of_tap {c : Instr} {u : State} {x : Tap} (h : u.tap.follows x) : Keeps c u { u with tap := x } where
  queue := rfl
  clock := rfl
  mode := .inl rfl
  codes := .inl rfl
  tap := h

theorem Keeps.settle {c : Instr} {u v : State} (h : Keeps c u v) : Keeps c u v.settle where
  queue := h.queue
  clock := h.clock
  mode := h.mode
  codes := h.codes
  tap := h.tap

/-- A command acts on what a shared operation has left. -/
theorem Keeps.after {c : Instr} {u v w : State} (huv : v.spine = u.spine) (h : Keeps c v w) : Keeps c u w where
  queue := h.queue.trans (spine_pending huv)
  clock := h.clock.trans (spine_clock huv)
  mode := spine_mode huv ▸ h.mode
  codes := spine_mode huv ▸ spine_straps huv ▸ h.codes
  tap := spine_tap huv ▸ h.tap

/-- A shared operation acts on what a command has left. -/
theorem Keeps.before {c : Instr} {u v w : State} (h : Keeps c u v) (hvw : w.spine = v.spine) : Keeps c u w where
  queue := (spine_pending hvw).trans h.queue
  clock := (spine_clock hvw).trans h.clock
  mode := spine_mode hvw ▸ h.mode
  codes := spine_straps hvw ▸ h.codes
  tap := spine_tap hvw ▸ h.tap

theorem event_keeps {c : Instr} {dt : Nat} {cond : State → Bool} {effect : State → State} {s t : State}
    (he : ∀ u, cond u = true → Keeps c u (effect u)) (h : event dt cond effect s = .next t) :
    Keeps c (s.elapse dt) t := by
  obtain ⟨-, rfl⟩ | ⟨hc, rfl⟩ := event_cases _ _ _ _ _ h
  · exact .of_spine rfl
  · exact (he _ hc).settle

theorem eventOf_keeps {c : Instr} {form : State → Bool} {dt : Nat} {cond : State → Bool} {effect : State → State}
    {s t : State} (he : ∀ u, cond u = true → Keeps c u (effect u)) (h : eventOf form dt cond effect s = .next t) :
    Keeps c (s.elapse dt) t := by
  obtain ⟨-, ⟨-, rfl⟩ | ⟨hc, rfl⟩⟩ := eventOf_cases _ _ _ _ _ _ h
  · exact .of_spine rfl
  · exact (he _ hc).settle

section
variable {dt : Nat} {s t : State}

/-! ### Resets and power -/

theorem State.enterReset_keeps {c : Instr} {u : State} (cause : Nat) (h : mayMove c u.mode .reset = true) :
    Keeps c u (u.enterReset cause) where
  queue := rfl
  clock := rfl
  mode := .inr h
  codes := .inl rfl
  tap := Tap.follows_refl _

theorem Keeps.tapOff {c : Instr} {u v : State} (h : Keeps c u v) (htap : v.tap = u.tap) : Keeps c u v.tapOff := by
  obtain ⟨hpending, hclock, hmode, hstraps⟩ := v.tapOff_core
  exact ⟨hpending.trans h.queue, hclock.trans h.clock, hmode ▸ h.mode, hstraps ▸ h.codes, htap ▸ v.tapOff_follows⟩

theorem State.railFalls_keeps (u : State) (rail : Rail) (p : MramProgress) :
    Keeps (.porThresholdCrossed dt (.falls rail p)) u (u.railFalls rail p) := by
  unfold State.railFalls
  refine .after (u.stopMram_spine p true) ?_
  generalize u.stopMram p true = v
  dsimp only
  have hreset (x : Power) : Keeps (.porThresholdCrossed dt (.falls rail p)) v
      (State.enterReset { v with power := x } 0).tapOff :=
    .after (v := { v with power := x }) rfl (.tapOff (State.enterReset_keeps 0 rfl) rfl)
  split
  · exact (hreset _).before rfl
  · exact hreset _

theorem execPorThresholdCrossed_keeps {what : PorEvent} (h : execPorThresholdCrossed dt what s = .next t) :
    Keeps (.porThresholdCrossed dt what) (s.elapse dt) t := by
  refine event_keeps (fun u _ => ?_) h
  cases what with
  | falls rail p => exact State.railFalls_keeps u rail p
  | rises rail => exact .of_spine (State.railRises_spine _ _)
  | oscillatorStable => exact .of_spine (State.oscillatorSettles_spine _)

theorem execResetNAsserted_keeps {low : Nat} {p : MramProgress} (h : execResetNAsserted dt low p s = .next t) :
    Keeps (.resetNAsserted dt low p) (s.elapse dt) t := by
  refine event_keeps (fun u _ => ?_) h
  exact .after (v := { u.stopMram p false with power := _ }) (by simp) (State.enterReset_keeps _ rfl)

theorem execResetNReleased_keeps (h : execResetNReleased dt s = .next t) :
    Keeps (.resetNReleased dt) (s.elapse dt) t := by
  refine event_keeps (fun u _ => ?_) h
  have hoff (x : Power) : Keeps (.resetNReleased dt) u (State.tapOff { u with power := x }) :=
    .tapOff (.of_spine rfl) rfl
  exact (hoff _).before (State.leaveReset_spine _)

theorem execPowerFailRecovery_keeps (h : execPowerFailRecovery dt s = .next t) :
    Keeps (.powerFailRecovery dt) (s.elapse dt) t := by
  refine event_keeps (fun u hc => ?_) h
  have hm : u.mode = .powerFail := by simp_all
  exact .after (State.finishFail_spine u) (State.enterReset_keeps _ (by rw [spine_mode (State.finishFail_spine u), hm]; rfl))

theorem State.enterBist_keeps {c : Instr} {u : State} (h : mayMove c u.mode .bist = true) : Keeps c u u.enterBist where
  queue := rfl
  clock := rfl
  mode := .inr h
  codes := .inl rfl
  tap := Tap.follows_refl _

theorem State.enterPowerFail_keeps {c : Instr} {u : State} (p : MramProgress) (h : mayMove c u.mode .powerFail = true) :
    Keeps c u (u.enterPowerFail p) :=
  .of_core (State.enterPowerFail_core _ _) (.inr h) (State.enterPowerFail_codes _ _)

theorem execCorePowerWaitEnd_keeps (h : execCorePowerWaitEnd dt s = .next t) :
    Keeps (.corePowerWaitEnd dt) (s.elapse dt) t := by
  refine event_keeps (fun u hc => ?_) h
  dsimp only
  split
  next hm =>
    split
    · exact .of_core (State.enterPowerFail_core _ _) (.inr (by rw [hm]; rfl)) (State.enterPowerFail_codes _ _)
    · exact .of_core rfl (.inr (by rw [hm]; rfl)) rfl
  next hm =>
    have hember : u.mode = .ember := by simp_all
    exact State.enterBist_keeps (by rw [hember]; rfl)

theorem State.tripEffect_keeps {v : State} {vsys : Nat} {temp : Int} {p : MramProgress} (x : Power) (hm : v.mode ≠ .reset) :
    Keeps (.powerFailTrip dt vsys temp p) v (State.enterPowerFail { v with power := x } p) :=
  .of_core (State.enterPowerFail_core _ _) (.inr (decide_eq_true hm)) (State.enterPowerFail_codes _ _)

theorem execPowerFailTrip_keeps {vsys : Nat} {temp : Int} {p : MramProgress}
    (h : execPowerFailTrip dt vsys temp p s = .next t) : Keeps (.powerFailTrip dt vsys temp p) (s.elapse dt) t := by
  refine event_keeps (fun u _ => ?_) h
  refine .after (v := (u.senseTemp temp).watchSupply vsys) (by simp) ?_
  generalize (u.senseTemp temp).watchSupply vsys = v
  dsimp only
  split
  · split
    · exact .of_spine rfl
    next hm => exact State.tripEffect_keeps _ (not_or.1 hm).1
  · exact .of_spine rfl

/-! ### Straps, BIST, LOAD and the ash dump -/

theorem execStrapMeasurement_keeps {codes : Codes} {testN ashdumpN : Bool}
    (h : execStrapMeasurement dt codes testN ashdumpN s = .next t) :
    Keeps (.strapMeasurement dt codes testN ashdumpN) (s.elapse dt) t :=
  event_keeps (fun _ _ => by exact .of_core rfl (.inl rfl) rfl) h

theorem execStrapReadEnd_keeps (h : execStrapReadEnd dt s = .next t) : Keeps (.strapReadEnd dt) (s.elapse dt) t := by
  refine event_keeps (fun u hc => ?_) h
  have hm : u.mode = .strapRead := by simp_all
  have hcodes (v : State) : v.straps.codes = u.straps.codes ∨
      ((∃ d, Instr.strapReadEnd dt = .strapReadEnd d) ∧ u.mode = .strapRead) := .inr ⟨⟨dt, rfl⟩, hm⟩
  dsimp only
  generalize hv : State.countBoot { u with straps := _, panel := _ } = v
  have hspine : (v.bootRecords (u.strapVerdict u.straps).1).spine = v.spine := State.bootRecords_spine _ _
  have hcore : (v.bootRecords (u.strapVerdict u.straps).1).core = u.core := by
    rw [core_of hspine, ← hv, core_of (State.countBoot_spine _)]
    rfl
  have hmode : (v.bootRecords (u.strapVerdict u.straps).1).mode = u.mode := by
    rw [spine_mode hspine, ← hv, spine_mode (State.countBoot_spine _)]
  generalize v.bootRecords (u.strapVerdict u.straps).1 = w at hcore hmode
  have hkeeps (x : State) (hx : x.core = w.core) (hxm : x.mode = u.mode ∨ mayMove (.strapReadEnd dt) u.mode x.mode = true) :
      Keeps (.strapReadEnd dt) u x :=
    ⟨core_pending (hx.trans hcore), core_clock (hx.trans hcore), hxm, hcodes x,
      core_tap (hx.trans hcore) ▸ Tap.follows_refl _⟩
  split
  · exact hkeeps _ rfl (.inr (by rw [hm]; rfl))
  · split
    · exact hkeeps _ rfl (.inl hmode)
    · exact hkeeps _ rfl (.inr (by rw [hm]; rfl))

theorem execAshDumpStart_keeps (h : execAshDumpStart dt s = .next t) : Keeps (.ashDumpStart dt) (s.elapse dt) t :=
  event_keeps (fun _ _ => by exact .of_core rfl (.inl rfl) rfl) h

theorem execAshDumpEnd_keeps (h : execAshDumpEnd dt s = .next t) : Keeps (.ashDumpEnd dt) (s.elapse dt) t := by
  refine event_keeps (fun u _ => ?_) h
  dsimp only
  split
  next hm => exact .of_core rfl (.inr (by rw [hm]; rfl)) rfl
  · exact .of_core rfl (.inl rfl) rfl

theorem execFlueRecordSend_keeps {bad : Bool} (h : execFlueRecordSend dt bad s = .next t) :
    Keeps (.flueRecordSend dt bad) (s.elapse dt) t := by
  refine event_keeps (fun u _ => ?_) h
  refine .before (v := u.feedDump) (.of_core u.feedDump_core (.inl u.feedDump_mode) u.feedDump_codes) ?_
  dsimp only
  split
  · rfl
  · split <;> simp

theorem execBistComplete_keeps {found : BistFindings} (h : execBistComplete dt found s = .next t) :
    Keeps (.bistComplete dt found) (s.elapse dt) t := by
  refine eventOf_keeps (fun u hc => ?_) h
  have hm : u.mode = .bist := by simpa using hc
  dsimp only
  generalize hv : State.upset { u with mem := mramOnly u.mem, ecc := mramErrors u.ecc } _ = v
  have hspine (x : Repairs) (l : List ArrayFault) : (State.retireBanks { v with repairs := x } l).spine = u.spine := by
    rw [State.retireBanks_spine, spine_mk, ← hv, State.upset_spine, spine_mk]
  have hmode (x : Repairs) (l : List ArrayFault) := (spine_mode (hspine x l)).trans hm
  split
  · exact .after (hspine _ _)
      (.of_core (State.enterFault_core ..) (.inr (by rw [hmode]; rfl)) (State.enterFault_codes ..))
  · exact .after (hspine _ _)
      (.of_core (State.enterLoad_core _) (.inr (by rw [hmode, State.enterLoad_mode]; rfl)) (State.enterLoad_codes _))

theorem execLoadComplete_keeps (h : execLoadComplete dt s = .next t) : Keeps (.loadComplete dt) (s.elapse dt) t := by
  refine event_keeps (fun u hc => ?_) h
  have hm : u.mode = .load := by simp_all
  rw [← spine_mode u.startE2e_spine] at hm
  refine .after u.startE2e_spine ?_
  generalize u.startE2e = v at hm
  exact .of_core ((State.enterRun_core _ _).trans rfl) (.inr (by rw [hm]; rfl)) (State.enterRun_codes _ _)

/-! ### Sleep -/

theorem execSleepEntry_keeps {us : List Upset} (h : execSleepEntry dt us s = .next t) :
    Keeps (.sleepEntry dt us) (s.elapse dt) t := by
  refine eventOf_keeps (fun u hc => ?_) h
  have hm : u.mode = .run := State.mode_of_coreRuns (State.coreRuns_of_mayEnterSleep hc)
  have hspine : ((((u.upset us).abandonTeach 6).abandonRecovery).stopWork).spine = u.spine := by simp
  dsimp only
  refine .after hspine ?_
  rw [← spine_mode hspine] at hm
  split
  · exact .of_core (State.enterEmber_core _) (.inr (by rw [hm, State.enterEmber_mode]; rfl)) (State.enterEmber_codes _)
  · exact .of_core rfl (.inr (by rw [hm]; rfl)) rfl

theorem execBankedWakeComplete_keeps (h : execBankedWakeComplete dt s = .next t) :
    Keeps (.bankedWakeComplete dt) (s.elapse dt) t := by
  refine event_keeps (fun u hc => ?_) h
  have hm : u.mode = .banked := by simp_all
  refine .after u.emptyFleet_spine ?_
  rw [← spine_mode u.emptyFleet_spine] at hm
  exact .of_core (State.enterRun_core _ _) (.inr (by rw [hm]; rfl)) (State.enterRun_codes _ _)

/-! ### The test port's own commands -/

theorem execTestLogicReset_keeps (h : execTestLogicReset dt s = .next t) : Keeps (.testLogicReset dt) (s.elapse dt) t :=
  event_keeps (fun _ _ => by exact .of_tap (Tap.follows_of_fuses rfl rfl rfl)) h

theorem execExtest_keeps {pins shifted : BitVec 52} (h : execExtest dt pins shifted s = .next t) :
    Keeps (.extest dt pins shifted) (s.elapse dt) t :=
  event_keeps (fun _ _ => by exact .of_tap (Tap.follows_of_fuses rfl rfl rfl)) h

theorem execSamplePreload_keeps {pins shifted : BitVec 52} (h : execSamplePreload dt pins shifted s = .next t) :
    Keeps (.samplePreload dt pins shifted) (s.elapse dt) t :=
  event_keeps (fun _ _ => by exact .of_tap (Tap.follows_of_fuses rfl rfl rfl)) h

theorem execIdcode_keeps (h : execIdcode dt s = .next t) : Keeps (.idcode dt) (s.elapse dt) t :=
  event_keeps (fun _ _ => by exact .of_tap (Tap.follows_of_fuses rfl rfl rfl)) h

theorem execKeyStatus_keeps (h : execKeyStatus dt s = .next t) : Keeps (.keyStatus dt) (s.elapse dt) t :=
  event_keeps (fun _ _ => by exact .of_tap (Tap.follows_of_fuses rfl rfl rfl)) h

theorem execKeyLoad_keeps {key : BitVec 256} {selector : BitVec 8} (h : execKeyLoad dt key selector s = .next t) :
    Keeps (.keyLoad dt key selector) (s.elapse dt) t :=
  event_keeps (fun _ _ => by exact .of_tap (Tap.follows_of_fuses rfl rfl rfl)) h

theorem execKeyBurn_keeps {word : BitVec 32} (h : execKeyBurn dt word s = .next t) :
    Keeps (.keyBurn dt word) (s.elapse dt) t := by
  refine event_keeps (fun u _ => ?_) h
  dsimp only
  split
  · exact .of_tap (Tap.follows_of_fuses rfl rfl rfl)
  · split
    · exact .of_tap (Tap.follows_of_fuses rfl rfl rfl)
    next hr =>
      exact .of_tap fun _ =>
        ⟨Tap.burnSound_of_not_refuses (eq_false_of_ne_true hr), fun _ => rfl, fun _ => rfl⟩

theorem execKeyBurnComplete_keeps {x : ReadBack} (h : execKeyBurnComplete dt x s = .next t) :
    Keeps (.keyBurnComplete dt x) (s.elapse dt) t := by
  refine event_keeps (fun u _ => ?_) h
  dsimp only
  split
  · exact .of_spine rfl
  next sel key hburn =>
    exact .of_tap (Tap.follows_of_burnt hburn rfl (Tap.setBlock_image (t := u.tap) _) (Tap.setBlock_ring (t := u.tap) _))

theorem execBypass_keeps {code : BitVec 6} {bits : List Bool} (h : execBypass dt code bits s = .next t) :
    Keeps (.bypass dt code bits) (s.elapse dt) t :=
  event_keeps (fun _ _ => by exact .of_tap (Tap.follows_of_fuses rfl rfl rfl)) h

end

theorem exec_keeps {c : Instr} {s t : State} (h : exec c s = .next t) : Keeps c (s.elapse c.dt) t := by
  cases c with
  | powerOnResetEnd => exact .of_spine (execPowerOnResetEnd_spine _ _ _ h)
  | porThresholdCrossed => exact execPorThresholdCrossed_keeps h
  | resetNAsserted => exact execResetNAsserted_keeps h
  | resetNReleased => exact execResetNReleased_keeps h
  | coreEnReleaseWaitEnd => exact .of_spine (execCoreEnReleaseWaitEnd_spine _ _ _ h)
  | corePowerWaitEnd => exact execCorePowerWaitEnd_keeps h
  | strapMeasurement => exact execStrapMeasurement_keeps h
  | strapReadEnd => exact execStrapReadEnd_keeps h
  | ashDumpStart => exact execAshDumpStart_keeps h
  | ashDumpEnd => exact execAshDumpEnd_keeps h
  | bistComplete => exact execBistComplete_keeps h
  | libraryHeaderReadComplete => exact .of_spine (execLibraryHeaderReadComplete_spine _ _ _ _ h)
  | libraryItemReceived => exact .of_spine (execLibraryItemReceived_spine _ _ _ _ h)
  | libraryBodyComplete => exact .of_spine (execLibraryBodyComplete_spine _ _ _ h)
  | loadComplete => exact execLoadComplete_keeps h
  | powerFailTrip => exact execPowerFailTrip_keeps h
  | powerFailRearm => exact .of_spine (execPowerFailRearm_spine _ _ _ _ _ h)
  | powerFailRecovery => exact execPowerFailRecovery_keeps h
  | idleTimerExpiry => exact .of_spine (execIdleTimerExpiry_spine _ _ _ h)
  | sleepEntry => exact execSleepEntry_keeps h
  | spotWakeTimerExpiry => exact .of_spine (execSpotWakeTimerExpiry_spine _ _ _ h)
  | bankedWake => exact .of_spine (execBankedWake_spine _ _ _ h)
  | bankedWakeComplete => exact execBankedWakeComplete_keeps h
  | emberWake => exact .of_spine (execEmberWake_spine _ _ _ h)
  | spotWakeResleep => exact .of_spine (execSpotWakeResleep_spine _ _ _ h)
  | vsetStep => exact .of_spine (execVsetStep_spine _ _ _ h)
  | canaryEvaluationStart => exact .of_spine (execCanaryEvaluationStart_spine _ _ _ h)
  | canaryEvaluationEnd => exact .of_spine (execCanaryEvaluationEnd_spine _ _ _ _ h)
  | frameDeadlineMonitorFail => exact .of_spine (execFrameDeadlineMonitorFail_spine _ _ _ h)
  | replayBlockEnd => exact .of_spine (execReplayBlockEnd_spine _ _ _ h)
  | replayWindowEnd => exact .of_spine (execReplayWindowEnd_spine _ _ _ h)
  | shadowReplay => exact .of_spine (execShadowReplay_spine _ _ _ _ _ _ _ h)
  | delayTapRaise => exact .of_spine (execDelayTapRaise_spine _ _ _ _ h)
  | delayTapLower => exact .of_spine (execDelayTapLower_spine _ _ _ _ _ h)
  | stepDown => exact .of_spine (execStepDown_spine _ _ _ _ h)
  | stepUp => exact .of_spine (execStepUp_spine _ _ _ h)
  | stepUpPauseEnd => exact .of_spine (execStepUpPauseEnd_spine _ _ _ h)
  | holdoffExpiry => exact .of_spine (execHoldoffExpiry_spine _ _ _ h)
  | decimatorOutput => exact .of_spine (execDecimatorOutput_spine _ _ _ _ h)
  | tachCapture => exact .of_spine (execTachCapture_spine _ _ _ _ _ h)
  | candidateDecision => exact .of_spine (execCandidateDecision_spine _ _ _ h)
  | slowTick => exact .of_spine (execSlowTick_spine _ _ _ _ h)
  | channelRecovery => exact .of_spine (execChannelRecovery_spine _ _ _ _ h)
  | holdbackRelease => exact .of_spine (execHoldbackRelease_spine _ _ _ _ h)
  | auxConversion => exact .of_spine (execAuxConversion_spine _ _ _ _ _ h)
  | labelReading => exact .of_spine (execLabelReading_spine _ _ _ _ _ _ _ _ _ h)
  | labelAccepted => exact .of_spine (execLabelAccepted_spine _ _ _ h)
  | teachPress => exact .of_spine (execTeachPress_spine _ _ _ h)
  | forgetPress => exact .of_spine (execForgetPress_spine _ _ _ h)
  | holdChange => exact .of_spine (execHoldChange_spine _ _ _ h)
  | rekindle => exact .of_spine (execRekindle_spine _ _ _ h)
  | featureExtractionStart => exact .of_spine (execFeatureExtractionStart_spine _ _ _ _ h)
  | featureExtractionDone => exact .of_spine (execFeatureExtractionDone_spine _ _ _ _ _ h)
  | tickEncoding => exact .of_spine (execTickEncoding_spine _ _ _ _ h)
  | itemMemoryRebuildEnd => exact .of_spine (execItemMemoryRebuildEnd_spine _ _ _ h)
  | queryStart => exact .of_spine (execQueryStart_spine _ _ _ _ _ h)
  | recallResult => exact .of_spine (execRecallResult_spine _ _ _ _ h)
  | learningStage => exact .of_spine (execLearningStage_spine _ _ _ _ h)
  | teachTimeout => exact .of_spine (execTeachTimeout_spine _ _ _ h)
  | commit => exact .of_spine (execCommit_spine _ _ _ _ _ h)
  | tickOutputs => exact .of_spine (execTickOutputs_spine _ _ _ h)
  | kindlingCounterPersist => exact .of_spine (execKindlingCounterPersist_spine _ _ _ h)
  | heartbeat => exact .of_spine (execHeartbeat_spine _ _ _ h)
  | rowWrite => exact .of_spine (execRowWrite_spine _ _ _ _ _ _ h)
  | smoulderRead => exact .of_spine (execSmoulderRead_spine _ _ _ _ _ _ h)
  | vaultHeal => exact .of_spine (execVaultHeal_spine _ _ _ _ _ h)
  | refetch => exact .of_spine (execRefetch_spine _ _ _ h)
  | refetchComplete => exact .of_spine (execRefetchComplete_spine _ _ _ _ _ h)
  | bandPlanRetry => exact .of_spine (execBandPlanRetry_spine _ _ _ _ h)
  | vaultMirror => exact .of_spine (execVaultMirror_spine _ _ _ _ h)
  | journalCommit => exact .of_spine (execJournalCommit_spine _ _ _ h)
  | ashRecordWrite => exact .of_spine (execAshRecordWrite_spine _ _ _ h)
  | ashTokenAdd => exact .of_spine (execAshTokenAdd_spine _ _ _ h)
  | routerDelivery => exact .of_spine (execRouterDelivery_spine _ _ _ _ h)
  | flueRecordSend => exact execFlueRecordSend_keeps h
  | phyLinkUp => exact .of_spine (execPhyLinkUp_spine _ _ _ _ h)
  | frameHeaderReceived => exact .of_spine (execFrameHeaderReceived_spine _ _ _ _ _ h)
  | dataFrameReceived => exact .of_spine (execDataFrameReceived_spine _ _ _ _ _ _ h)
  | ackFrameReceived => exact .of_spine (execAckFrameReceived_spine _ _ _ _ _ h)
  | linkResetReceived => exact .of_spine (execLinkResetReceived_spine _ _ _ _ _ h)
  | resetAckReceived => exact .of_spine (execResetAckReceived_spine _ _ _ _ _ h)
  | ackTimerExpiry => exact .of_spine (execAckTimerExpiry_spine _ _ _ _ h)
  | linkResetResend => exact .of_spine (execLinkResetResend_spine _ _ _ _ h)
  | linkRecoveryAttempt => exact .of_spine (execLinkRecoveryAttempt_spine _ _ _ _ h)
  | portTransmit => exact .of_spine (execPortTransmit_spine _ _ _ _ _ h)
  | creditTableTimer => exact .of_spine (execCreditTableTimer_spine _ _ _ _ h)
  | queueAgeDiscard => exact .of_spine (execQueueAgeDiscard_spine _ _ _ h)
  | censusOriginate => exact .of_spine (execCensusOriginate_spine _ _ _ h)
  | ringMapEntryExpiry => exact .of_spine (execRingMapEntryExpiry_spine _ _ _ _ h)
  | idClashEnd => exact .of_spine (execIdClashEnd_spine _ _ _ h)
  | fleetFold => exact .of_spine (execFleetFold_spine _ _ _ h)
  | visitedCacheExpiry => exact .of_spine (execVisitedCacheExpiry_spine _ _ _ h)
  | fleetQueryTimeout => exact .of_spine (execFleetQueryTimeout_spine _ _ _ h)
  | sweepOriginate => exact .of_spine (execSweepOriginate_spine _ _ _ h)
  | testLogicReset => exact execTestLogicReset_keeps h
  | extest => exact execExtest_keeps h
  | samplePreload => exact execSamplePreload_keeps h
  | idcode => exact execIdcode_keeps h
  | keyStatus => exact execKeyStatus_keeps h
  | keyLoad => exact execKeyLoad_keeps h
  | keyBurn => exact execKeyBurn_keeps h
  | keyBurnComplete => exact execKeyBurnComplete_keeps h
  | bypass => exact execBypass_keeps h
  | ledFlash => exact .of_spine (execLedFlash_spine _ _ _ _ h)
theorem exec_storeOk {c : Instr} {s t : State} (hok : storeOk s.mem s.ecc) (h : exec c s = .next t) :
    storeOk t.mem t.ecc := by
  cases c with
  | powerOnResetEnd => exact execPowerOnResetEnd_ok _ _ _ hok h
  | porThresholdCrossed => exact execPorThresholdCrossed_ok _ _ _ _ hok h
  | resetNAsserted => exact execResetNAsserted_ok _ _ _ _ _ hok h
  | resetNReleased => exact execResetNReleased_ok _ _ _ hok h
  | coreEnReleaseWaitEnd => exact execCoreEnReleaseWaitEnd_ok _ _ _ hok h
  | corePowerWaitEnd => exact execCorePowerWaitEnd_ok _ _ _ hok h
  | strapMeasurement => exact execStrapMeasurement_ok _ _ _ _ _ _ hok h
  | strapReadEnd => exact execStrapReadEnd_ok _ _ _ hok h
  | ashDumpStart => exact execAshDumpStart_ok _ _ _ hok h
  | ashDumpEnd => exact execAshDumpEnd_ok _ _ _ hok h
  | bistComplete => exact execBistComplete_ok _ _ _ _ hok h
  | libraryHeaderReadComplete => exact execLibraryHeaderReadComplete_ok _ _ _ _ hok h
  | libraryItemReceived => exact execLibraryItemReceived_ok _ _ _ _ hok h
  | libraryBodyComplete => exact execLibraryBodyComplete_ok _ _ _ hok h
  | loadComplete => exact execLoadComplete_ok _ _ _ hok h
  | powerFailTrip => exact execPowerFailTrip_ok _ _ _ _ _ _ hok h
  | powerFailRearm => exact execPowerFailRearm_ok _ _ _ _ _ hok h
  | powerFailRecovery => exact execPowerFailRecovery_ok _ _ _ hok h
  | idleTimerExpiry => exact execIdleTimerExpiry_ok _ _ _ hok h
  | sleepEntry => exact execSleepEntry_ok _ _ _ _ hok h
  | spotWakeTimerExpiry => exact execSpotWakeTimerExpiry_ok _ _ _ hok h
  | bankedWake => exact execBankedWake_ok _ _ _ hok h
  | bankedWakeComplete => exact execBankedWakeComplete_ok _ _ _ hok h
  | emberWake => exact execEmberWake_ok _ _ _ hok h
  | spotWakeResleep => exact execSpotWakeResleep_ok _ _ _ hok h
  | vsetStep => exact execVsetStep_ok _ _ _ hok h
  | canaryEvaluationStart => exact execCanaryEvaluationStart_ok _ _ _ hok h
  | canaryEvaluationEnd => exact execCanaryEvaluationEnd_ok _ _ _ _ hok h
  | frameDeadlineMonitorFail => exact execFrameDeadlineMonitorFail_ok _ _ _ hok h
  | replayBlockEnd => exact execReplayBlockEnd_ok _ _ _ hok h
  | replayWindowEnd => exact execReplayWindowEnd_ok _ _ _ hok h
  | shadowReplay => exact execShadowReplay_ok _ _ _ _ _ _ _ hok h
  | delayTapRaise => exact execDelayTapRaise_ok _ _ _ _ hok h
  | delayTapLower => exact execDelayTapLower_ok _ _ _ _ _ hok h
  | stepDown => exact execStepDown_ok _ _ _ _ hok h
  | stepUp => exact execStepUp_ok _ _ _ hok h
  | stepUpPauseEnd => exact execStepUpPauseEnd_ok _ _ _ hok h
  | holdoffExpiry => exact execHoldoffExpiry_ok _ _ _ hok h
  | decimatorOutput => exact execDecimatorOutput_ok _ _ _ _ hok h
  | tachCapture => exact execTachCapture_ok _ _ _ _ _ hok h
  | candidateDecision => exact execCandidateDecision_ok _ _ _ hok h
  | slowTick => exact execSlowTick_ok _ _ _ _ hok h
  | channelRecovery => exact execChannelRecovery_ok _ _ _ _ hok h
  | holdbackRelease => exact execHoldbackRelease_ok _ _ _ _ hok h
  | auxConversion => exact execAuxConversion_ok _ _ _ _ _ hok h
  | labelReading => exact execLabelReading_ok _ _ _ _ _ _ _ _ _ hok h
  | labelAccepted => exact execLabelAccepted_ok _ _ _ hok h
  | teachPress => exact execTeachPress_ok _ _ _ hok h
  | forgetPress => exact execForgetPress_ok _ _ _ hok h
  | holdChange => exact execHoldChange_ok _ _ _ hok h
  | rekindle => exact execRekindle_ok _ _ _ hok h
  | featureExtractionStart => exact execFeatureExtractionStart_ok _ _ _ _ hok h
  | featureExtractionDone => exact execFeatureExtractionDone_ok _ _ _ _ _ hok h
  | tickEncoding => exact execTickEncoding_ok _ _ _ _ hok h
  | itemMemoryRebuildEnd => exact execItemMemoryRebuildEnd_ok _ _ _ hok h
  | queryStart => exact execQueryStart_ok _ _ _ _ _ hok h
  | recallResult => exact execRecallResult_ok _ _ _ _ hok h
  | learningStage => exact execLearningStage_ok _ _ _ _ hok h
  | teachTimeout => exact execTeachTimeout_ok _ _ _ hok h
  | commit => exact execCommit_ok _ _ _ _ _ hok h
  | tickOutputs => exact execTickOutputs_ok _ _ _ hok h
  | kindlingCounterPersist => exact execKindlingCounterPersist_ok _ _ _ hok h
  | heartbeat => exact execHeartbeat_ok _ _ _ hok h
  | rowWrite => exact execRowWrite_ok _ _ _ _ _ _ hok h
  | smoulderRead => exact execSmoulderRead_ok _ _ _ _ _ _ hok h
  | vaultHeal => exact execVaultHeal_ok _ _ _ _ _ hok h
  | refetch => exact execRefetch_ok _ _ _ hok h
  | refetchComplete => exact execRefetchComplete_ok _ _ _ _ _ hok h
  | bandPlanRetry => exact execBandPlanRetry_ok _ _ _ _ hok h
  | vaultMirror => exact execVaultMirror_ok _ _ _ _ hok h
  | journalCommit => exact execJournalCommit_ok _ _ _ hok h
  | ashRecordWrite => exact execAshRecordWrite_ok _ _ _ hok h
  | ashTokenAdd => exact execAshTokenAdd_ok _ _ _ hok h
  | routerDelivery => exact execRouterDelivery_ok _ _ _ _ hok h
  | flueRecordSend => exact execFlueRecordSend_ok _ _ _ _ hok h
  | phyLinkUp => exact execPhyLinkUp_ok _ _ _ _ hok h
  | frameHeaderReceived => exact execFrameHeaderReceived_ok _ _ _ _ _ hok h
  | dataFrameReceived => exact execDataFrameReceived_ok _ _ _ _ _ _ hok h
  | ackFrameReceived => exact execAckFrameReceived_ok _ _ _ _ _ hok h
  | linkResetReceived => exact execLinkResetReceived_ok _ _ _ _ _ hok h
  | resetAckReceived => exact execResetAckReceived_ok _ _ _ _ _ hok h
  | ackTimerExpiry => exact execAckTimerExpiry_ok _ _ _ _ hok h
  | linkResetResend => exact execLinkResetResend_ok _ _ _ _ hok h
  | linkRecoveryAttempt => exact execLinkRecoveryAttempt_ok _ _ _ _ hok h
  | portTransmit => exact execPortTransmit_ok _ _ _ _ _ hok h
  | creditTableTimer => exact execCreditTableTimer_ok _ _ _ _ hok h
  | queueAgeDiscard => exact execQueueAgeDiscard_ok _ _ _ hok h
  | censusOriginate => exact execCensusOriginate_ok _ _ _ hok h
  | ringMapEntryExpiry => exact execRingMapEntryExpiry_ok _ _ _ _ hok h
  | idClashEnd => exact execIdClashEnd_ok _ _ _ hok h
  | fleetFold => exact execFleetFold_ok _ _ _ hok h
  | visitedCacheExpiry => exact execVisitedCacheExpiry_ok _ _ _ hok h
  | fleetQueryTimeout => exact execFleetQueryTimeout_ok _ _ _ hok h
  | sweepOriginate => exact execSweepOriginate_ok _ _ _ hok h
  | testLogicReset => exact execTestLogicReset_ok _ _ _ hok h
  | extest => exact execExtest_ok _ _ _ _ _ hok h
  | samplePreload => exact execSamplePreload_ok _ _ _ _ _ hok h
  | idcode => exact execIdcode_ok _ _ _ hok h
  | keyStatus => exact execKeyStatus_ok _ _ _ hok h
  | keyLoad => exact execKeyLoad_ok _ _ _ _ _ hok h
  | keyBurn => exact execKeyBurn_ok _ _ _ _ hok h
  | keyBurnComplete => exact execKeyBurnComplete_ok _ _ _ _ hok h
  | bypass => exact execBypass_ok _ _ _ _ _ hok h
  | ledFlash => exact execLedFlash_ok _ _ _ _ hok h
/-! ### The statements -/

/-- Settles O4: the queue and the clock, of what every command keeps. -/
theorem queueAndClock : Obligations.QueueAndClock := by
  unfold Obligations.QueueAndClock
  intro c s t h
  exact ⟨(exec_keeps h).queue, (exec_keeps h).clock⟩

/-- Settles O5: the device state, of what every command keeps. -/
theorem lawfulMoves : Obligations.LawfulMoves := by
  unfold Obligations.LawfulMoves
  intro c s t h
  exact (exec_keeps h).mode

/-- Settles O6: memory and error map stay canonical, and the test port keeps a burn lawful. -/
theorem soundKept : Obligations.SoundKept := by
  unfold Obligations.SoundKept
  intro s t hs h
  obtain ⟨hmem, hecc, hburn⟩ := hs
  unfold step at h
  split at h
  · cases h; exact ⟨hmem, hecc, hburn⟩
  next c rest hq =>
    obtain ⟨htmem, htecc⟩ := exec_storeOk (s := { s with pending := rest }) ⟨hmem, hecc⟩ h
    exact ⟨htmem, htecc, ((exec_keeps h).tap hburn).1⟩

/-- Settles O10: the strap codes, of what every command keeps. -/
theorem strapsFixed : Obligations.StrapsFixed := by
  unfold Obligations.StrapsFixed
  intro c s t h
  exact (exec_keeps h).codes

/-- Settles O11: the fuses, of what every command keeps. -/
theorem fusesStay : Obligations.FusesStay := by
  unfold Obligations.FusesStay
  intro c s t hburn h
  exact ((exec_keeps h).tap hburn).2

/-- Settles O1. -/
theorem stepRunsFront : Obligations.StepRunsFront := by
  unfold Obligations.StepRunsFront
  intro s c rest
  rfl

/-- Settles O2. -/
theorem idleStep : Obligations.IdleStep := by
  unfold Obligations.IdleStep
  intro s h
  have hstep : step s = .next (s.elapse 1) := by
    unfold step
    split
    · rfl
    next hq => simp [h] at hq
  exact hstep

/-- Settles O7: the memory and the error map after reset list nothing. -/
theorem soundAtReset : Obligations.SoundAtReset := by
  unfold Obligations.SoundAtReset State.sound
  refine ⟨?mem, ?ecc, rfl⟩
  case mem => exact Memory.wf_nil
  case ecc => exact ⟨List.Pairwise.nil, nofun⟩

/-- Settles O8: every field is read off the state after reset. -/
theorem afterReset : Obligations.AfterReset := by
  unfold Obligations.AfterReset
  decide

end Sys2Proof.Machine
end

section
/-! Layouts and codes (10_hearth.md, 12_outputs_and_flue.md, 16_ring_link.md): the tag field, a frame on the wire, and the
stuffing of records. -/

namespace Sys2Proof.Machine

/-! ### The tag field -/

/-- Where the fields of a tag lie in its number, and that nothing lies above them (R197). -/
theorem Tag.toNat_fields (t : Tag) :
    t.toNat % 2 ^ 128 = t.erased.toNat ∧ t.toNat / 2 ^ 128 % 2 ^ 2 = t.cls.toNat ∧
    t.toNat / 2 ^ 130 % 2 = t.valid.toNat ∧ t.toNat / 2 ^ 131 % 2 = t.spent.toNat ∧
    t.toNat / 2 ^ 132 % 2 ^ 6 = t.scope.toNat ∧ t.toNat / 2 ^ 138 % 2 ^ 7 = t.bin.toNat ∧
    t.toNat / 2 ^ 145 % 2 = t.binAny.toNat ∧ t.toNat / 2 ^ 146 % 2 ^ 4 = t.label.toNat ∧
    t.toNat / 2 ^ 150 % 2 ^ 2 = t.severity.toNat ∧ t.toNat / 2 ^ 152 % 2 ^ 14 = t.radius.toNat ∧
    t.toNat / 2 ^ 166 % 2 ^ 14 = t.mu.toNat ∧ t.toNat / 2 ^ 180 % 2 ^ 12 = t.delta.toNat ∧
    t.toNat / 2 ^ 192 % 2 ^ 16 = t.hits.toNat ∧ t.toNat / 2 ^ 208 % 2 ^ 12 = t.gen.toNat ∧
    t.toNat / 2 ^ 220 % 2 ^ 8 = t.originId.toNat ∧ t.toNat / 2 ^ 228 % 2 ^ 10 = t.originSlot.toNat ∧
    t.toNat < 2 ^ 256 := by
  have herased := t.erased.isLt
  have hcls := t.cls.isLt
  have hvalid := t.valid.toNat_le
  have hspent := t.spent.toNat_le
  have hscope := t.scope.isLt
  have hbin := t.bin.isLt
  have hany := t.binAny.toNat_le
  have hlabel := t.label.isLt
  have hseverity := t.severity.isLt
  have hradius := t.radius.isLt
  have hmu := t.mu.isLt
  have hdelta := t.delta.isLt
  have hhits := t.hits.isLt
  have hgen := t.gen.isLt
  have horigin := t.originId.isLt
  have hslot := t.originSlot.isLt
  unfold Tag.toNat
  refine ⟨?_, ?_, ?_, ?_, ?_, ?_, ?_, ?_, ?_, ?_, ?_, ?_, ?_, ?_, ?_, ?_, ?_⟩ <;> omega

theorem bits_eq (n lo w : Nat) : bits n lo w = n / 2 ^ lo % 2 ^ w := by
  rw [bits, Nat.shiftRight_eq_div_pow]

theorem testBit_eq_of_mod {n i : Nat} {b : Bool} (h : n / 2 ^ i % 2 = b.toNat) : n.testBit i = b := by
  rw [Nat.testBit_eq_decide_div_mod_eq, h]
  cases b <;> rfl

theorem ofNat_eq_of_mod {w n : Nat} {v : BitVec w} (h : n % 2 ^ w = v.toNat) : BitVec.ofNat w n = v :=
  BitVec.eq_of_toNat_eq ((BitVec.toNat_ofNat n w).trans h)

theorem decide_eq_of_mod {m : Nat} {b : Bool} (h : m = b.toNat) : decide (m = 1) = b := by
  subst h
  cases b <;> rfl

/-- A tag reads back from its number. -/
theorem Tag.ofNat_toNat (t : Tag) : Tag.ofNat t.toNat = t := by
  obtain ⟨herased, hcls, hvalid, hspent, hscope, hbin, hany, hlabel, hseverity, hradius, hmu, hdelta, hhits, hgen, horigin,
    hslot, -⟩ := t.toNat_fields
  unfold Tag.ofNat
  rw [ofNat_eq_of_mod herased, ofNat_eq_of_mod hcls, decide_eq_of_mod hvalid, decide_eq_of_mod hspent,
    ofNat_eq_of_mod hscope, ofNat_eq_of_mod hbin, decide_eq_of_mod hany, ofNat_eq_of_mod hlabel,
    ofNat_eq_of_mod hseverity, ofNat_eq_of_mod hradius, ofNat_eq_of_mod hmu, ofNat_eq_of_mod hdelta,
    ofNat_eq_of_mod hhits, ofNat_eq_of_mod hgen, ofNat_eq_of_mod horigin, ofNat_eq_of_mod hslot]

@[simp] theorem Tag.bytes_length (t : Tag) : t.bytes.length = 32 := leBytes_length _ _

theorem Tag.leNat_bytes (t : Tag) : leNat t.bytes = t.toNat := by
  obtain ⟨-, -, -, -, -, -, -, -, -, -, -, -, -, -, -, -, hlt⟩ := t.toNat_fields
  rw [Tag.bytes, leNat_leBytes]
  exact Nat.mod_eq_of_lt (hlt.trans_eq (by norm_num))

theorem Tag.bytes_getLsbD (t : Tag) {n : Nat} (hn : n < 256) :
    (t.bytes.getD (n / 8) 0).getLsbD (n % 8) = t.toNat.testBit n := by
  rw [Tag.bytes, leBytes_getD _ (by omega), byteOf_getLsbD _ _ (by omega), Nat.div_add_mod]

theorem State.tag_setTag (s : State) (r : Nat) (t : Tag) (hs : Memory.wf s.mem) : (s.setTag r t).tag r = t := by
  rw [State.tag, State.peekNat, State.setTag, s.peek_poke _ hs t.bytes_length, Tag.leNat_bytes, Tag.ofNat_toNat]

/-- Settles O13: the fields of the number, and its bytes. -/
theorem tagLayout : Obligations.TagLayout := by
  unfold Obligations.TagLayout
  intro t
  obtain ⟨herased, hcls, hvalid, hspent, hscope, hbin, hany, hlabel, hseverity, hradius, hmu, hdelta, hhits, hgen, horigin,
    hslot, -⟩ := t.toNat_fields
  simp only [bits_eq]
  exact ⟨t.ofNat_toNat, t.bytes_length, fun n hn => t.bytes_getLsbD hn, by simpa using herased, hcls,
    testBit_eq_of_mod hvalid, testBit_eq_of_mod hspent, hscope, hbin, testBit_eq_of_mod hany, hlabel, hseverity, hradius,
    hmu, hdelta, hhits, hgen, horigin, hslot, fun s r hs => s.tag_setTag r t hs⟩

/-! ### Frames on the wire -/

theorem bitOf_eq (n i : Nat) : bitOf n i = decide (n / 2 ^ i % 2 = 1) := Nat.testBit_eq_decide_div_mod_eq

theorem b2n_le (b : Bool) : b2n b ≤ 1 := by cases b <;> decide

theorem decide_b2n {m : Nat} {b : Bool} (h : m = b2n b) : decide (m = 1) = b := by
  subst h
  cases b <;> rfl

/-- The numbers that stand in the bytes of a header (R316). -/
theorem Header.bytes_fields (h : Header) :
    byteAt h.bytes 0 = (h.ver * 16 + h.kind) % 256 ∧ byteAt h.bytes 1 = (h.cls + 64 * b2n h.auth) % 256 ∧
    byteAt h.bytes 2 = h.dst % 256 ∧ byteAt h.bytes 3 = h.src % 256 ∧
    fieldAt h.bytes 4 2 = (h.hseq + 4096 * h.epoch) % 65536 ∧
    fieldAt h.bytes 6 2 = (h.aseq + 4096 * b2n h.aval + 8192 * b2n h.nak) % 65536 ∧
    fieldAt h.bytes 8 2 = h.e2e % 65536 ∧
    fieldAt h.bytes 10 2 = (h.hops + 1024 * h.dir + 2048 * h.turns + 8192 * b2n h.passed) % 65536 ∧
    fieldAt h.bytes 12 2 = h.len % 65536 :=
  ⟨rfl, rfl, rfl, rfl, leNat_leBytes 2 _, leNat_leBytes 2 _, leNat_leBytes 2 _, leNat_leBytes 2 _, leNat_leBytes 2 _⟩

/-- A header whose fields keep their widths reads back from its bytes. -/
theorem Header.parse_bytes {h : Header} (hs : h.sized = true) : Header.parse h.bytes = h := by
  obtain ⟨h0, h1, h2, h3, h4, h6, h8, h10, h12⟩ := h.bytes_fields
  simp only [Header.sized, Bool.and_eq_true, decide_eq_true_eq] at hs
  obtain ⟨⟨⟨⟨⟨⟨⟨⟨⟨⟨⟨⟨hver, hkind⟩, hcls⟩, hdst⟩, hsrc⟩, hseq⟩, hepoch⟩, haseq⟩, he2e⟩, hhops⟩, hdir⟩, hturns⟩, hlen⟩ := hs
  have hauth := b2n_le h.auth
  have haval := b2n_le h.aval
  have hnak := b2n_le h.nak
  have hpassed := b2n_le h.passed
  unfold Header.parse
  simp only [h0, h1, h2, h3, h4, h6, h8, h10, h12, bitOf_eq, bits_eq]
  cases h with | mk ver kind cls auth dst src hseq epoch aseq aval nak e2e hops dir turns passed len =>
  simp only [Header.mk.injEq]
  dsimp only at *
  refine ⟨?_, ?_, ?_, decide_b2n ?_, ?_, ?_, ?_, ?_, ?_, decide_b2n ?_, decide_b2n ?_, ?_, ?_, ?_, ?_, decide_b2n ?_, ?_⟩ <;>
    omega

/-- The tag of a frame on the wire follows its payload. -/
theorem wireFrame_tag (h : Header) (p t : List Byte) (stomp : Bool) :
    slice (wireFrame h p t stomp) (16 + p.length) t.length = t := by
  have hfront : wireFrame h p t stomp = (h.bytes ++ p) ++ (t ++ (List.replicate (60 - (h.bytes ++ p ++ t).length) 0#8 ++
      leBytes 4 (if stomp then ~~~crc32 (h.bytes ++ p ++ t ++ List.replicate (60 - (h.bytes ++ p ++ t).length) 0#8)
        else crc32 (h.bytes ++ p ++ t ++ List.replicate (60 - (h.bytes ++ p ++ t).length) 0#8)).toNat)) := by
    simp only [wireFrame, List.append_assoc]
  rw [hfront, slice_append_right _ _ _ _ (by simp), List.take_left' rfl]

/-- The check value of the header check (R317). -/
theorem crc16_check : crc16 [0x31, 0x32, 0x33, 0x34, 0x35, 0x36, 0x37, 0x38, 0x39] = 0x29B1#16 := by
  simp [crc16, crc16Byte, crc16Bit]

/-- Settles O17: the header, the payload, the tag and both checks of a frame on the wire, each by its lemma. -/
theorem frameReadsBack : Obligations.FrameReadsBack := by
  unfold Obligations.FrameReadsBack
  refine ⟨crc16_check, fun h payload tag stomp hs hlen htag => ?_⟩
  have hparse : Header.parse (wireFrame h payload tag stomp) = h :=
    (wireFrame_parse h payload tag stomp).trans (Header.parse_bytes hs)
  refine ⟨hparse, wireFrame_headerCrc h payload tag stomp, wireFrame_fcs h payload tag stomp, ?length, ?frame⟩
  case length => rw [wireFrame_length]; exact le_max_left _ _
  case frame =>
    have htag' : (if h.auth then slice (wireFrame h payload tag stomp) (16 + payload.length) 8 else []) = tag := by
      split
      next ha => rw [if_pos ha] at htag; rw [← htag, wireFrame_tag]
      next ha => rw [if_neg ha] at htag; exact (List.eq_nil_of_length_eq_zero htag).symm
    unfold YFrame.parse
    simp only [hparse, hlen, wireFrame_payload, htag']

/-! ### Stuffing -/

/-- A group that has not ended: fewer than 254 bytes, none of them zero; its length code is one more than their number. -/
theorem ofNat_code_toNat {code : Nat} (h : code ≤ 254) : (BitVec.ofNat 8 code).toNat = code := by
  rw [BitVec.toNat_ofNat]
  omega

theorem ofNat_code_ne_zero {code : Nat} (h0 : 0 < code) (h : code ≤ 254) : BitVec.ofNat 8 code ≠ 0#8 := by
  intro hc
  have := congrArg BitVec.toNat hc
  rw [ofNat_code_toNat h] at this
  exact h0.ne' this

theorem ofNat_code_ne_max {code : Nat} (h : code ≤ 254) : BitVec.ofNat 8 code ≠ 255#8 := by
  intro hc
  have := congrArg BitVec.toNat hc
  rw [ofNat_code_toNat h] at this
  simp at this
  omega

theorem cobsGo_ne_nil (bs : List Byte) (code : Nat) (group : List Byte) : cobsGo bs code group ≠ [] := by
  induction bs generalizing code group with
  | nil => simp [cobsGo]
  | cons b bs ih =>
    unfold cobsGo
    split
    · simp
    · split
      · simp
      · exact ih _ _

/-- No zero byte comes out, when none stands in the group. -/
theorem zero_not_mem_cobsGo (bs : List Byte) {code : Nat} {group : List Byte} (h0 : 0 < code) (hc : code ≤ 254)
    (hg : 0#8 ∉ group) : 0#8 ∉ cobsGo bs code group := by
  induction bs generalizing code group with
  | nil => simpa [cobsGo, hg] using (ofNat_code_ne_zero h0 hc).symm
  | cons b bs ih =>
    have hnew : 0#8 ∉ cobsGo bs 1 [] := ih (by omega) (by omega) List.not_mem_nil
    unfold cobsGo
    split
    · simpa [hg, hnew] using (ofNat_code_ne_zero h0 hc).symm
    next hb =>
      have hbg : 0#8 ∉ b :: group := by simpa [hg] using Ne.symm hb
      split
      · split <;> simp [hg, hnew, Ne.symm hb]
      · exact ih (by omega) (by omega) hbg

/-- A receiver takes the bytes of a group by its code, and goes on behind them. -/
theorem unstuff_group {n : Nat} {c : Byte} {group rest : List Byte} (hlen : group.length + 1 = c.toNat) :
    unstuff (n + 1) (c :: (group ++ rest)) =
      if rest = [] then group else group ++ (if c = 255#8 then [] else [0#8]) ++ unstuff n rest := by
  have hc : c.toNat - 1 = group.length := by omega
  simp only [unstuff, hc, List.drop_left, List.take_left]

/-- A receiver gets back the group and what follows it, given fuel for every byte. -/
theorem unstuff_cobsGo (bs : List Byte) {code n : Nat} {group : List Byte} (hcode : code = group.length + 1)
    (hc : code ≤ 254) (hn : (cobsGo bs code group).length ≤ n) :
    unstuff n (cobsGo bs code group) = group.reverse ++ bs := by
  induction bs generalizing code n group with
  | nil =>
    obtain ⟨n, rfl⟩ : ∃ m, n = m + 1 := ⟨n - 1, by simp [cobsGo] at hn; omega⟩
    have := unstuff_group (n := n) (c := BitVec.ofNat 8 code) (group := group.reverse) (rest := [])
      (by rw [ofNat_code_toNat hc]; simp [hcode])
    simpa [cobsGo] using this
  | cons b bs ih =>
    have hnext := cobsGo_ne_nil bs 1 []
    have ihnext {m : Nat} (hm : (cobsGo bs 1 []).length ≤ m) : unstuff m (cobsGo bs 1 []) = bs :=
      ih (group := []) rfl (by omega) hm
    unfold cobsGo at hn ⊢
    split
    next hb =>
      rw [if_pos hb] at hn
      obtain ⟨n, rfl⟩ : ∃ m, n = m + 1 := ⟨n - 1, by simp at hn; omega⟩
      rw [List.cons_append, unstuff_group (by rw [ofNat_code_toNat hc]; simp [hcode]), if_neg hnext,
        if_neg (ofNat_code_ne_max hc), ihnext (by simp at hn; omega), hb]
      simp
    next hb =>
      rw [if_neg hb] at hn
      split
      next hfull =>
        rw [if_pos hfull] at hn
        obtain ⟨n, rfl⟩ : ∃ m, n = m + 1 := ⟨n - 1, by simp at hn; omega⟩
        rw [List.cons_append, unstuff_group (by simp; omega)]
        by_cases hbs : bs = []
        · simp [hbs]
        · rw [if_neg hbs] at hn ⊢
          rw [if_neg hnext, if_pos rfl, ihnext (by simp at hn; omega)]
          simp
      next hfull =>
        rw [if_neg hfull] at hn
        rw [ih (by simp [hcode]) (by omega) hn]
        simp

/-- Settles O18: by induction on the record, with the group that has not ended. -/
theorem stuffingReadsBack : Obligations.StuffingReadsBack := by
  unfold Obligations.StuffingReadsBack
  intro bs
  exact ⟨zero_not_mem_cobsGo bs (by omega) (by omega) List.not_mem_nil, unstuff_cobsGo bs rfl (by omega) le_rfl⟩

end Sys2Proof.Machine
end

section
/-! Resets and core power (03_power_reset_ember.md, 19_electrical.md, 20_package_balls.md): RESET as it is entered, the holds
that keep it, and a burn that is cut short. -/

namespace Sys2Proof.Machine

/-! ### An event that comes about -/

/-- What an event whose condition holds answers, when its effect has been worked out. -/
theorem event_agrees {dt : Nat} {cond : State → Bool} {effect : State → State} {s u : State}
    (hc : cond (s.elapse dt) = true) (he : effect (s.elapse dt) = u) :
    ∃ t, event dt cond effect s = .next t ∧ t.agrees u :=
  ⟨_, event_next dt cond effect s hc, he ▸ State.settle_agrees _⟩

theorem eventOf_agrees {form : State → Bool} {dt : Nat} {cond : State → Bool} {effect : State → State} {s u : State}
    (hf : form s = true) (hc : cond (s.elapse dt) = true) (he : effect (s.elapse dt) = u) :
    ∃ t, eventOf form dt cond effect s = .next t ∧ t.agrees u :=
  ⟨_, eventOf_next form dt cond effect s hf hc, he ▸ State.settle_agrees _⟩

/-! ### RESET as it is entered -/

/-- RESET keeps of the state it is entered from what stood when the MRAM controller was stopped. -/
theorem State.enterReset_entersReset {s v : State} (cause : Nat) (hq : v.pending = s.pending)
    (hcodes : v.straps.codes = s.straps.codes) (hfused : v.repairs.fused = s.repairs.fused)
    (hen : v.power.coreEn = s.power.coreEn) (hat : v.power.coreEnAt = s.power.coreEnAt) :
    s.entersReset (v.enterReset cause) cause := by
  refine ⟨?fields, rfl, rfl, rfl, rfl, ?wait, fun a ha => ?mem, fun w hw => ?ecc⟩
  case fields => rw [← hq, ← hcodes, ← hfused]; rfl
  case wait => rw [← hen, ← hat]; rfl
  case mem => rw [State.enterReset_mem, read_mramOnly, if_neg (by omega)]
  case ecc => rw [State.enterReset_ecc, errorsAt_mramErrors, if_neg (by omega)]

/-- What RESET does not fix can be any: the free value counter, the test port, the wait of a released `CORE_EN`, and what the
LEDs show. -/
theorem State.entersReset_with {s t : State} {cause : Nat} (h : s.entersReset t cause) (n : Nat) (x : Tap) (b : Bool)
    (l0 l1 : Led) :
    s.entersReset { t with
      freeCount := n, tap := x, power := { t.power with releaseWait := b }, out := { t.out with led0 := l0, led1 := l1 } }
      cause := by
  obtain ⟨hfields, hen, hvset, htarget, hcause, hat, hmem, hecc⟩ := h
  refine ⟨?_, hen, hvset, htarget, hcause, hat, hmem, hecc⟩
  exact congrArg (fun t : State => { t with
    freeCount := n, tap := x, power := { t.power with releaseWait := b }, out := { t.out with led0 := l0, led1 := l1 } })
    hfields

theorem State.entersReset_settle {s t : State} {cause : Nat} (h : s.entersReset t cause) : s.entersReset t.settle cause :=
  State.entersReset_with h t.freeCount t.tap t.power.releaseWait _ _

/-- What the reset of the test port changes. -/
theorem State.tapOff_fields (s : State) : ∃ n x, s.tapOff = { s with freeCount := n, tap := x } := by
  unfold State.tapOff
  split
  · exact ⟨s.freeCount, _, rfl⟩
  · exact ⟨_, _, rfl⟩

/-- The always-on rails that are low once one more has fallen. -/
def Power.lowWith (p : Power) (rail : Rail) : List Rail :=
  if p.railsLow.contains rail then p.railsLow else rail :: p.railsLow

theorem Power.mem_lowWith (p : Power) (rail : Rail) : rail ∈ p.lowWith rail := by
  unfold Power.lowWith
  split
  next h => simpa using h
  · exact List.mem_cons_self

/-- The state in which a rail that has fallen enters RESET. -/
def State.railDown (s : State) (rail : Rail) (p : MramProgress) : State :=
  { s.stopMram p true with power := { s.power with
    por := true, railsLow := s.power.lowWith rail, oscStable := s.power.oscStable && !decide (rail = Rail.vdda) } }

theorem State.railFalls_eq (s : State) (rail : Rail) (p : MramProgress) :
    ∃ n x b, s.railFalls rail p = { (s.railDown rail p).enterReset 0 with
      freeCount := n, tap := x, power := { ((s.railDown rail p).enterReset 0).power with releaseWait := b } } := by
  obtain ⟨m, e, f, hstop⟩ := s.stopMram_fields p true
  have hdown : State.mk .. = s.railDown rail p := rfl
  obtain ⟨n, x, hoff⟩ := ((s.railDown rail p).enterReset 0).tapOff_fields
  have hpower : (s.stopMram p true).power = s.power := by rw [hstop]
  unfold State.railFalls
  dsimp only
  rw [hpower, show (if s.power.railsLow.contains rail then s.power.railsLow else rail :: s.power.railsLow) =
    s.power.lowWith rail from rfl, hdown, hoff]
  split
  · exact ⟨n, x, false, rfl⟩
  · exact ⟨n, x, _, rfl⟩

/-- HEALTH is held to VSS while `VDDA` or `VDD_AON` is low (R64, R380). -/
theorem Power.resetHealth_of_low {p : Power} {rail : Rail} (h : rail ∈ p.railsLow) (hr : rail = .vdda ∨ rail = .vddAon) :
    p.resetHealth = none := by
  unfold Power.resetHealth
  obtain rfl | rfl := hr <;> simp [h]

theorem exec_falls (s : State) (dt : Nat) (rail : Rail) (p : MramProgress) :
    exec (.porThresholdCrossed dt (.falls rail p)) s = .next ((s.elapse dt).railFalls rail p).settle := rfl

/-- RESET by a rail that falls (R59, R64, R378, R380). -/
theorem State.railFalls_entersReset (s : State) (rail : Rail) (p : MramProgress) :
    s.entersReset (s.railFalls rail p) 0 ∧ (s.railFalls rail p).clock = s.clock ∧
    (s.railFalls rail p).power.por = true ∧ rail ∈ (s.railFalls rail p).power.railsLow ∧
    (rail = .vdda → (s.railFalls rail p).power.oscStable = false) ∧
    (rail = .vdda ∨ rail = .vddAon → (s.railFalls rail p).out.health = none) ∧
    (s.railFalls rail p).mem = mramOnly (s.stopMram p true).mem := by
  obtain ⟨n, x, b, hfalls⟩ := s.railFalls_eq rail p
  obtain ⟨m, e, f, hstop⟩ := s.stopMram_fields p true
  have hreset : s.entersReset ((s.railDown rail p).enterReset 0) 0 := by
    unfold State.railDown
    rw [hstop]
    exact State.enterReset_entersReset 0 rfl rfl rfl rfl rfl
  have hclock : (s.railDown rail p).clock = s.clock := by unfold State.railDown; rw [hstop]
  rw [hfalls]
  refine ⟨State.entersReset_with hreset n x b _ _, hclock, rfl, s.power.mem_lowWith rail, fun hr => ?osc,
    Power.resetHealth_of_low (s.power.mem_lowWith rail), rfl⟩
  case osc => subst hr; exact Bool.and_false _

theorem exec_resetN_long {s : State} {dt low : Nat} (p : MramProgress) (hhigh : s.power.resetNLow = false)
    (hlow : 32 ≤ low) : exec (.resetNAsserted dt low p) s =
      .next (State.enterReset { (s.elapse dt).stopMram p false with
        power := { ((s.elapse dt).stopMram p false).power with resetNLow := true } }
        (if ((s.elapse dt).stopMram p false).power.por then ((s.elapse dt).stopMram p false).power.resetCause else 1)).settle :=
  (event_next _ _ _ _ (by simp [hhigh, hlow]) : execResetNAsserted dt low p s = _)

/-- The words that the MRAM controller writes do not depend on the time that has passed since. -/
theorem State.writeAll_elapse (s : State) (dt : Nat) (ws : List (Nat × List Byte)) :
    (s.elapse dt).writeAll ws = (s.writeAll ws).elapse dt := by
  unfold State.writeAll
  induction ws generalizing s with
  | nil => rfl
  | cons w ws ih => exact ih (s.poke w.1 w.2)

/-- Time that passes is not seen by what compares a state with the RESET it enters. -/
theorem State.entersReset_of_elapse {s t : State} {dt cause : Nat} (h : (s.elapse dt).entersReset t cause) :
    s.entersReset t cause := h

/-! ### The statements on RESET -/

/-- Settles O19: what RESET keeps of the state in which the MRAM controller was stopped. -/
theorem resetEntered : Obligations.ResetEntered := by
  unfold Obligations.ResetEntered
  intro s dt low rail p hs u
  refine ⟨?falls, fun hhigh hlow => ?resetN, fun hshort => ?short⟩
  case falls =>
    obtain ⟨hreset, hclock, hpor, hlow, hosc, hhealth, hmem⟩ := u.railFalls_entersReset rail p
    refine ⟨_, exec_falls s dt rail p, hclock, State.entersReset_settle hreset, hpor, hlow, hosc, hhealth, fun a ha hw => ?_⟩
    rw [show ((s.elapse dt).railFalls rail p).settle.mem = _ from hmem, read_mramOnly, if_pos ha,
      u.read_stopMram p true a hw]
  case resetN =>
    have hstop := State.stopMram_false (s.elapse dt) p
    rw [State.writeAll_elapse, State.writeAll_fields] at hstop
    have hexec := exec_resetN_long (dt := dt) p hhigh hlow
    rw [hstop] at hexec
    refine ⟨_, hexec, rfl, State.entersReset_settle (State.enterReset_entersReset _ rfl rfl rfl rfl rfl), rfl, rfl, rfl, rfl,
      fun a ha => ⟨?_, ?_⟩⟩
    · exact (read_mramOnly _ a).trans (if_pos ha)
    · exact (errorsAt_mramErrors _ a).trans (if_pos ha)
  case short =>
    exact (event_idle _ _ _ _ (by simp; omega) : execResetNAsserted dt low p s = _)

/-! ### The holds of RESET -/

/-- `CORE_EN` is asserted once no hold of RESET is left (R59). -/
theorem State.leaveReset_eq (s : State) : s.leaveReset = { s with power := s.power.letGo s.mode s.clock } := by
  unfold State.leaveReset Power.letGo
  dsimp only
  by_cases h : s.mode = .reset ∧ s.power.por = false ∧ s.power.resetNLow = false ∧ s.power.releaseWait = false ∧
      s.power.coreEn = false
  · rw [if_pos h, if_pos (by simpa [and_assoc] using h)]
  · rw [if_neg h, if_neg (by simpa [and_assoc] using h)]

@[simp] theorem Power.letGo_resetNLow (p : Power) (mode : DevState) (clock : Nat) :
    (p.letGo mode clock).resetNLow = p.resetNLow := by
  unfold Power.letGo
  split <;> rfl

theorem Power.resetHealth_eq (p : Power) :
    p.resetHealth = if .vdda ∈ p.railsLow ∨ .vddAon ∈ p.railsLow then none else some 720 := by
  simp [Power.resetHealth, healthLow]

theorem Power.supplied_iff (p : Power) : p.supplied = true ↔ p.railsLow = [] ∧ p.oscStable = true := by
  simp [Power.supplied]

theorem State.tapOff_of_idle {s : State} (h : s.tap.burning = none) : s.tapOff = { s with tap := s.tap.toReset } := by
  unfold State.tapOff
  rw [h]

/-- Settles O20: the effect of each command whose condition holds, and what `leaveReset` does with the holds. -/
theorem resetHoldsEnd : Obligations.ResetHoldsEnd := by
  unfold Obligations.ResetHoldsEnd
  intro s dt rail now
  refine ⟨fun hlow => ?rises, fun hosc hvdda => ?stable, fun hpor hrails hosc hat => ?por, fun hwait => ?early,
    fun hlow hburn => ?released, fun hwait hen hat => ?waited⟩
  case rises =>
    refine (event_agrees rfl ?_ : ∃ t, execPorThresholdCrossed dt (.rises rail) s = .next t ∧ t.agrees _)
    dsimp only
    unfold State.railRises
    rw [if_pos (by simpa using hlow)]
    dsimp only
    rw [Power.resetHealth_eq]
    rfl
  case stable =>
    refine (event_agrees rfl ?_ : ∃ t, execPorThresholdCrossed dt .oscillatorStable s = .next t ∧ t.agrees _)
    dsimp only
    unfold State.oscillatorSettles
    rw [if_neg (by simp [hosc, hvdda])]
    rfl
  case por =>
    refine (event_agrees ?_ ?_ : ∃ t, execPowerOnResetEnd dt s = .next t ∧ t.agrees _)
    · exact Bool.and_eq_true_iff.2 ⟨Bool.and_eq_true_iff.2 ⟨hpor, (Power.supplied_iff _).2 ⟨hrails, hosc⟩⟩, decide_eq_true hat⟩
    · exact State.leaveReset_eq _
  case early =>
    refine (event_idle _ _ _ _ ?_ : execPowerOnResetEnd dt s = _)
    have hend : (s.power.por && s.power.supplied && decide (s.power.validAt + per2ms ≤ now)) = false := by
      rw [Bool.and_eq_false_iff, Bool.and_eq_false_iff, decide_eq_false_iff_not]
      obtain hrails | hosc | hearly := hwait
      · exact .inl (.inr (eq_false_of_ne_true fun h => hrails ((Power.supplied_iff _).1 h).1))
      · exact .inl (.inr (eq_false_of_ne_true fun h => by simp [((Power.supplied_iff _).1 h).2] at hosc))
      · exact .inr (not_le.2 hearly)
    exact hend
  case released =>
    refine (event_agrees hlow ?_ : ∃ t, execResetNReleased dt s = .next t ∧ t.agrees _)
    rw [State.tapOff_of_idle (by exact hburn)]
    exact State.leaveReset_eq _
  case waited =>
    refine (event_agrees ?_ ?_ : ∃ t, execCoreEnReleaseWaitEnd dt s = .next t ∧ t.agrees _)
    · exact Bool.and_eq_true_iff.2 ⟨by simp [hwait, hen], decide_eq_true hat⟩
    · exact State.leaveReset_eq _

/-! ### A burn that is cut short -/

theorem damagedBlock_touched {key : BitVec 256} (hkey : key ≠ 0) (free : Nat) :
    (damagedBlock key free).programmed = false ∧ (damagedBlock key free).touched = true ∧
    (damagedBlock key free).key &&& ~~~key = 0 := by
  generalize hburnt : (if key &&& Config.burntKey free = 0 then key else key &&& Config.burntKey free) = burnt
  have hblock : damagedBlock key free =
      { key := burnt, check := if burnt = key then keyCheck key &&& Config.burntCheck free else 0, programmed := false } := by
    rw [← hburnt]
    rfl
  have hne : burnt ≠ 0 := by
    rw [← hburnt]
    split
    · exact hkey
    · assumption
  have hmask : burnt &&& ~~~key = 0 := by
    rw [← hburnt]
    split
    · exact BitVec.and_not_self _
    · rw [BitVec.and_assoc, BitVec.and_comm (Config.burntKey free), ← BitVec.and_assoc, BitVec.and_not_self]
      exact BitVec.zero_and
  have hbit : (burnt != 0) = true := bne_iff_ne.2 hne
  rw [hblock]
  exact ⟨rfl, by simp only [KeyBlock.touched, hbit, Bool.or_true, Bool.true_or], hmask⟩

theorem State.railFalls_tap (s : State) (rail : Rail) (p : MramProgress) :
    (s.railFalls rail p).tap = ((s.railDown rail p).enterReset 0).tapOff.tap := by
  have hpower : (s.stopMram p true).power = s.power := by
    obtain ⟨m, e, f, hstop⟩ := s.stopMram_fields p true
    rw [hstop]
  unfold State.railFalls
  dsimp only
  rw [hpower]
  split <;> rfl

/-- A burn in progress that the reset of the test port cuts short (R396). -/
theorem State.tapOff_burnCut {s : State} {sel : Nat} {key : BitVec 256} (hburn : s.tap.burning = some (sel, key))
    (hsel : sel = 1 ∨ sel = 2) (hkey : key ≠ 0) : s.tap.burnCut s.tapOff.tap sel key := by
  obtain ⟨hprogrammed, htouched, hbits⟩ := damagedBlock_touched hkey s.freeCount
  unfold State.tapOff
  rw [hburn]
  obtain rfl | rfl := hsel
  · exact ⟨rfl, rfl, rfl, hprogrammed, htouched, hbits, rfl⟩
  · exact ⟨rfl, rfl, rfl, hprogrammed, htouched, hbits, rfl⟩

/-- Settles O21: both commands reset the test port. -/
theorem burnCutShort : Obligations.BurnCutShort := by
  unfold Obligations.BurnCutShort
  intro s dt rail p sel key hburn hsel hkey
  refine ⟨⟨_, exec_falls s dt rail p, ?falls⟩, fun hlow => ?released⟩
  case falls =>
    have htap : ((s.elapse dt).railDown rail p).tap = s.tap := by
      obtain ⟨m, e, f, hstop⟩ := (s.elapse dt).stopMram_fields p true
      unfold State.railDown
      rw [hstop]
      rfl
    have hcut := State.tapOff_burnCut (s := ((s.elapse dt).railDown rail p).enterReset 0)
      (by rw [State.enterReset_tap, htap, hburn]) hsel hkey
    rwa [State.enterReset_tap, htap, ← State.railFalls_tap] at hcut
  case released =>
    refine ⟨_, (event_next _ _ _ _ hlow : execResetNReleased dt s = _), ?_, ?_⟩
    · rw [State.leaveReset_eq]
      exact State.tapOff_burnCut (s := { s.elapse dt with power := _ }) hburn hsel hkey
    · rw [State.leaveReset_eq]
      obtain ⟨n, x, hoff⟩ := State.tapOff_fields { s.elapse dt with power := { s.power with resetNLow := false } }
      exact (congrArg (fun v : State => (v.power.letGo v.mode v.clock).resetNLow) hoff).trans (Power.letGo_resetNLow ..)

end Sys2Proof.Machine
end

section
/-! Words in memory (13_memories_and_smoulder.md, 14_vault_and_ash.md): what is read back of bytes that are written word by
word. -/

namespace Sys2Proof.Machine

/-- Bytes of memory that are known one by one. -/
theorem Memory.readBytes_of_read {m : List Host.Cell} {a n : Nat} {bs : List Byte} (hm : Memory.wf m)
    (hn : bs.length = n) (hr : ∀ i, i < n → Memory.read m (a + i) = bs.getD i 0#8) : Memory.readBytes m a n = bs := by
  rw [Memory.readBytes_eq m a n hm]
  refine List.ext_getElem (by simp [hn]) fun i hi hi' => ?_
  simp only [List.getElem_map, List.getElem_range]
  rw [hr i (hn ▸ hi'), List.getD_eq_getElem _ _ hi']

/-- Bytes of memory that read the same are the same. -/
theorem Memory.readBytes_congr {m m' : List Host.Cell} {a n : Nat} (hm : Memory.wf m) (hm' : Memory.wf m')
    (h : ∀ x, a ≤ x → x < a + n → Memory.read m x = Memory.read m' x) :
    Memory.readBytes m a n = Memory.readBytes m' a n := by
  rw [Memory.readBytes_eq m a n hm, Memory.readBytes_eq m' a n hm']
  exact List.map_congr_left fun i hi => h _ (by omega) (by simp at hi; omega)

theorem State.writeAll_wf (s : State) (ws : List (Nat × List Byte)) (hs : Memory.wf s.mem) :
    Memory.wf (s.writeAll ws).mem := by
  unfold State.writeAll
  induction ws generalizing s with
  | nil => exact hs
  | cons w ws ih => exact ih _ (Memory.wf_writeBytes _ _ _ hs)

theorem State.writeAll_append (s : State) (ws ws' : List (Nat × List Byte)) :
    s.writeAll (ws ++ ws') = (s.writeAll ws).writeAll ws' := List.foldl_append

/-- A byte that every word which covers it spells the same, and that some word covers, reads as they spell it. -/
theorem State.read_writeAll_spelled (s : State) {ws : List (Nat × List Byte)} {x : Nat} {b : Byte}
    (hspell : ∀ w ∈ ws, w.1 ≤ x → x < w.1 + w.2.length → w.2.getD (x - w.1) 0#8 = b)
    (hcover : Memory.read s.mem x = b ∨ ∃ w ∈ ws, w.1 ≤ x ∧ x < w.1 + w.2.length) :
    Memory.read (s.writeAll ws).mem x = b := by
  unfold State.writeAll
  induction ws generalizing s with
  | nil => simpa using hcover
  | cons w ws ih =>
    refine ih (s.poke w.1 w.2) (fun v hv => hspell v (List.mem_cons_of_mem _ hv)) ?_
    rw [State.poke_mem, Memory.read_writeBytes]
    by_cases hw : w.1 ≤ x ∧ x < w.1 + w.2.length
    · exact .inl ((if_pos hw).trans (hspell w List.mem_cons_self hw.1 hw.2))
    · rw [if_neg hw]
      refine hcover.imp_right fun ⟨v, hv, hcov⟩ => ⟨v, ?_, hcov⟩
      exact (List.mem_cons.1 hv).resolve_left fun he => hw (he ▸ hcov)

/-- The words of a byte string. -/
theorem mem_asWords {k a : Nat} {bs : List Byte} {w : Nat × List Byte} :
    w ∈ asWords k bs a ↔ ∃ i < k, w = (a + 8 * i, (bs.drop (8 * i)).take 8) := by
  induction k generalizing bs a with
  | zero => simp [asWords]
  | succ k ih =>
    have hnext (i : Nat) : (a + 8 + 8 * i, ((bs.drop 8).drop (8 * i)).take 8) =
        (a + 8 * (i + 1), (bs.drop (8 * (i + 1))).take 8) := by
      rw [List.drop_drop, show 8 + 8 * i = 8 * (i + 1) by ring, Nat.add_assoc, show 8 + 8 * i = 8 * (i + 1) by ring]
    simp only [asWords, List.mem_cons, ih]
    constructor
    · rintro (rfl | ⟨i, hi, rfl⟩)
      · exact ⟨0, by omega, rfl⟩
      · exact ⟨i + 1, by omega, hnext i⟩
    · rintro ⟨i, hi, rfl⟩
      cases i with
      | zero => exact .inl rfl
      | succ i => exact .inr ⟨i, by omega, (hnext i).symm⟩

/-- Bytes written as their words, in any order, read back. -/
theorem State.peek_writeAll_words (s : State) {ws : List (Nat × List Byte)} {bs : List Byte} {a k n : Nat}
    (hs : Memory.wf s.mem) (hws : ∀ w, w ∈ ws ↔ w ∈ asWords k bs a) (hlen : bs.length = n) (hk : 8 * k = n) :
    (s.writeAll ws).peek a n = bs := by
  refine Memory.readBytes_of_read (s.writeAll_wf ws hs) hlen fun i hi => s.read_writeAll_spelled (fun w hw h1 h2 => ?_) (.inr ?_)
  · obtain ⟨j, hj, rfl⟩ := mem_asWords.1 ((hws w).1 hw)
    simp only [List.length_take, List.length_drop] at h1 h2 ⊢
    rw [List.getD_eq_getElem?_getD, List.getElem?_take_of_lt (by omega), List.getElem?_drop, ← List.getD_eq_getElem?_getD]
    congr 1
    omega
  · refine ⟨(a + 8 * (i / 8), (bs.drop (8 * (i / 8))).take 8), (hws _).2 (mem_asWords.2 ⟨i / 8, by omega, rfl⟩), ?_⟩
    simp only [List.length_take, List.length_drop]
    omega

end Sys2Proof.Machine
end

section
/-! Power failure (03_power_reset_ember.md, 04_clockless_core.md, 06_comparators.md): what a trip leaves of the state, of the
MRAM writes and of the records, and the way out of POWER_FAIL. -/

namespace Sys2Proof.Machine

/-! ### The temperature and the supply as they are sensed -/

/-- An event to the ash queue of the router: it enters, or at a full queue it is counted as dropped (R136). -/
theorem State.routeAsh_cases (s : State) (e : Event) :
    (s.router.ash.length < 32 ∧ s.routeAsh e = { s with router := { s.router with ash := s.router.ash ++ [e] } }) ∨
    (32 ≤ s.router.ash.length ∧
      s.routeAsh e = { s with router := { s.router with ashDrops := s.router.ashDrops + 1 } }) := by
  unfold State.routeAsh
  split
  next h => exact .inl ⟨h, rfl⟩
  next h => exact .inr ⟨not_lt.1 h, rfl⟩

theorem State.routeFlue_cases (s : State) (e : Event) :
    (s.router.flue.length < 32 ∧ s.routeFlue e = { s with router := { s.router with flue := s.router.flue ++ [e] } }) ∨
    (32 ≤ s.router.flue.length ∧
      s.routeFlue e = { s with flue := { s.flue with routerDrops := satTo 255 (s.flue.routerDrops + 1) } }) := by
  unfold State.routeFlue
  split
  next h => exact .inl ⟨h, rfl⟩
  next h => exact .inr ⟨not_lt.1 h, rfl⟩

/-- What the ash queue of the router can be after one more event at most: a full one stays, but for its drops (R136). -/
def Router.oneMore (x y : Router) : Prop :=
  y.ash.length ≤ x.ash.length + 1 ∧ x.ashDrops ≤ y.ashDrops ∧ (32 ≤ x.ash.length → y.ash = x.ash)

/-- A temperature that is sensed changes its latch, the event router and the router's count of lost flue events alone. -/
theorem State.senseTemp_fields (s : State) (temp : Int) :
    ∃ h r n, s.senseTemp temp =
      { s with power := { s.power with hot := h }, router := r, flue := { s.flue with routerDrops := n } } ∧
      s.router.oneMore r := by
  unfold State.senseTemp
  dsimp only
  generalize (if s.power.hot then !decide (temp < 95000) else decide (105000 ≤ temp)) = h
  split
  · exact ⟨s.power.hot, s.router, s.flue.routerDrops, rfl, by omega, le_rfl, fun _ => rfl⟩
  · generalize hu : State.routeFlue _ _ = u
    generalize Event.mk .. = e
    have hfields : ∃ r n, u = { s with power := { s.power with hot := h }, router := r
                                       flue := { s.flue with routerDrops := n } } ∧
        r.ash = s.router.ash ∧ r.ashDrops = s.router.ashDrops := by
      rw [← hu]
      obtain ⟨-, hroute⟩ | ⟨-, hroute⟩ := State.routeFlue_cases { s with power := { s.power with hot := h } } _ <;>
        exact ⟨_, _, hroute, rfl, rfl⟩
    clear hu
    obtain ⟨r, n, hfields, hash, hdrops⟩ := hfields
    subst hfields
    obtain ⟨hlen, hroute⟩ | ⟨hlen, hroute⟩ := State.routeAsh_cases _ e <;> rw [hroute]
    · refine ⟨h, _, n, rfl, by simp [hash], hdrops.ge, fun hfull => ?_⟩
      rw [← hash] at hfull
      exact absurd hlen (not_lt.2 hfull)
    · exact ⟨h, _, n, rfl, by simp [hash], by simp [hdrops], fun _ => hash⟩

/-! ### The power-fail sequence -/

/-- The device is in a state in which a trip writes a power-fail record (R73). -/
def DevState.failRecords : DevState → Bool
  | .run | .strapRead | .bist | .load => true
  | _ => false

/-- The row that a power-fail record names: that of the commit in progress (R73, R292). -/
def State.failRow (s : State) (p : MramProgress) : Nat :=
  match s.vault.entries with
  | e :: _ => if s.mode = .run ∧ p.commitWords ≠ 0 ∧ e.kind ≠ 4 then e.row else 0xFFFF
  | [] => 0xFFFF

/-- The payload of the power-fail record of a trip (R73, R292). -/
def State.failPayload (s : State) (p : MramProgress) : List Byte :=
  s.powerFailPayload (stateNumber s.mode) (s.failRow p)
    (s.rowsLost (if s.mode = .run ∧ p.commitWords ≠ 0 ∧ s.vault.entries ≠ [] then 1 else 0))

theorem State.startFail_eq (s : State) (p : MramProgress) (own : Option (List Byte)) :
    s.startFail p own = { s with
      mem := (s.writeAll (s.cutWords p)).mem
      ecc := (s.writeAll (s.cutWords p)).ecc
      ash := { s.ash with
        waiting := []
        nextSeq := if (s.failAsh p.ashWords own).2 then (s.ash.nextSeq + 1) % 2 ^ 32 else s.ash.nextSeq }
      vault := { s.vault with
        entries := if p.commitWords = 0 then s.vault.entries else s.vault.entries.drop 1
        failWrites := s.failCommit p.commitWords ++ (s.failAsh p.ashWords own).1 } } := by
  have hstop := s.stopMram_false p
  rw [State.writeAll_fields] at hstop
  unfold State.startFail
  rw [hstop]

/-- The rows lost do not depend on a commit that has begun where no entry is held. -/
theorem State.rowsLost_of_nil {s : State} (h : s.vault.entries = []) (n : Nat) : s.rowsLost n = s.rowsLost 0 := by
  unfold State.rowsLost
  rw [h, List.drop_nil, List.drop_nil]

@[simp] theorem byteAt_cons_zero (b : Byte) (l : List Byte) : byteAt (b :: l) 0 = b.toNat := by
  simp [byteAt, fieldAt, slice, leNat]

/-- The heartbeat that leaves with a power failure is marked (R73, R249). -/
theorem State.heartbeatPayload_marked (s : State) : bitOf (byteAt (s.heartbeatPayload true) 0) 0 = true := by
  unfold State.heartbeatPayload
  simp only [List.cons_append, List.append_assoc, byteAt_cons_zero, bitOf_eq, State.heartbeatFlags, BitVec.toNat_ofNat,
    decide_eq_true_eq]
  simp only [b2n, if_true, pow_zero, Nat.div_one]
  omega

/-- What the marked heartbeat leaves of the flue (R73, R253). -/
theorem State.failHeartbeat_eq (s : State) :
    ∃ fl e, s.failHeartbeat = { s with flue := fl, ecc := e } ∧
      ∃ r, fl.queue = [r] ∧ r.type = 3 ∧ r.seq = s.flue.nextSeq ∧ bitOf (byteAt r.payload 0) 0 = true :=
  ⟨_, _, rfl, _, rfl, rfl, rfl, s.heartbeatPayload_marked⟩

theorem State.failPayload_of_not_run {s : State} (h : s.mode ≠ .run) (p : MramProgress) :
    s.failPayload p = s.powerFailPayload (stateNumber s.mode) 0xFFFF (s.rowsLost 0) := by
  have hrow : s.failRow p = 0xFFFF := by
    unfold State.failRow
    split
    · exact if_neg fun hc => h hc.1
    · rfl
  unfold State.failPayload
  rw [hrow, if_neg fun hc => h hc.1]

theorem State.failPayload_of_run {s : State} (h : s.mode = .run) (p : MramProgress) :
    s.failPayload p = s.powerFailPayload (stateNumber s.mode)
      (match s.vault.entries with
        | e :: _ => if p.commitWords = 0 || decide (e.kind = 4) then 0xFFFF else e.row
        | [] => 0xFFFF) (s.rowsLost (if p.commitWords = 0 then 0 else 1)) := by
  unfold State.failPayload State.failRow
  cases hl : s.vault.entries with
  | nil => simp [State.rowsLost_of_nil hl (if p.commitWords = 0 then 0 else 1)]
  | cons e l => by_cases hc : p.commitWords = 0 <;> by_cases hk : e.kind = 4 <;> simp [h, hc, hk]

/-- What the power-fail sequence does: the MRAM writes, with the power-fail record where the state has one, then the report
queue, which keeps the marked heartbeat of RUN alone (R73, R253, R370). -/
theorem State.failSequence_eq (s : State) (p : MramProgress) :
    ∃ fl e, s.failSequence p =
      { s.startFail p (if s.mode.failRecords then some (s.failPayload p) else none) with flue := fl, ecc := e } ∧
      (s.mode = .run → ∃ r, fl.queue = [r] ∧ r.type = 3 ∧ r.seq = s.flue.nextSeq ∧ bitOf (byteAt r.payload 0) 0 = true) ∧
      (s.mode ≠ .run → fl.queue = []) := by
  by_cases hm : s.mode = .run
  · obtain ⟨fl, e, heq, r, hqueue, htype, hseq, hmark⟩ := (s.startFail p (some (s.failPayload p))).failHeartbeat_eq
    refine ⟨fl, e, ?_, fun _ => ⟨r, hqueue, htype, hseq.trans ?_, hmark⟩, fun h => absurd hm h⟩
    · rw [if_pos (by rw [hm]; rfl), ← heq, State.failPayload_of_run hm]
      unfold State.failSequence
      simp only [hm] <;> rfl
    · rw [State.startFail_eq]
  · have hown : s.failSequence p =
        (s.startFail p (if s.mode.failRecords then some (s.failPayload p) else none)).discardQueue := by
      rw [State.failPayload_of_not_run hm]
      unfold State.failSequence
      cases hmode : s.mode
      case run => exact absurd hmode hm
      all_goals rfl
    exact ⟨_, _, hown, fun h => absurd h hm, fun _ => rfl⟩

/-! ### The trip -/

/-- The record that the MRAM controller still writes of the ash after a trip: the rest of one that has begun, otherwise the
power-fail record (R73). -/
theorem State.failAsh_fresh {s : State} {words : Nat} (h : words = 0 ∨ s.ash.waiting = []) (own : Option (List Byte)) :
    s.failAsh words own = match own with
      | some payload => (AshRec.writes ⟨3, s.ts, payload⟩ s.ash.nextSeq s.vault.bootCount, true)
      | none => ([], false) := by
  have hbegun : (if words = 0 then none else s.ash.waiting.head?) = none := by
    obtain h | h := h <;> simp [h]
  unfold State.failAsh
  simp only [hbegun]
  cases own <;> rfl

theorem State.failAsh_begun {s : State} {words : Nat} {r : AshRec} {l : List AshRec} (hw : words ≠ 0)
    (h : s.ash.waiting = r :: l) (own : Option (List Byte)) :
    s.failAsh words own = ((r.writes s.ash.nextSeq s.vault.bootCount).drop words, true) := by
  have hbegun : (if words = 0 then none else s.ash.waiting.head?) = some r := by simp [hw, h]
  unfold State.failAsh
  simp only [hbegun]

theorem exec_powerFailTrip (s : State) (dt vsys : Nat) (temp : Int) (p : MramProgress) (hpor : s.power.por = false) :
    exec (.powerFailTrip dt vsys temp p) s = .next
      (let s := ((s.elapse dt).senseTemp temp).watchSupply vsys
       if !s.power.pfail && decide (vsys ≤ dacMicrovolts 400) then
         let s := { s with power := { s.power with pfail := true, pfailTime := s.ts, pfailOkSince := none } }
         if s.mode = .reset ∨ s.mode = .powerFail then s else s.enterPowerFail p
       else s).settle :=
  (event_next _ _ _ _ (by simp [hpor]) : execPowerFailTrip dt vsys temp p s = _)

/-- The state in which the latch of a trip has been set, before the power-fail sequence (R72, R123). -/
def State.tripped (s : State) (hot : Bool) (r : Router) (n : Nat) : State :=
  { s with
    power := { s.power with hot := hot, pfail := true, pfailTime := s.ts, pfailOkSince := none }
    router := r
    flue := { s.flue with routerDrops := n } }

/-- A trip: the latch, and in every state but RESET and POWER_FAIL the entry to POWER_FAIL. -/
theorem exec_trip {s : State} {dt vsys : Nat} {temp : Int} (p : MramProgress) (hpor : s.power.por = false)
    (hpfail : s.power.pfail = false) (hvsys : vsys ≤ 1000000) :
    ∃ h r n, exec (.powerFailTrip dt vsys temp p) s = .next
      (if s.mode = .reset ∨ s.mode = .powerFail then (s.elapse dt).tripped h r n
       else ((s.elapse dt).tripped h r n).enterPowerFail p).settle := by
  obtain ⟨h, r, n, hsense, -⟩ := (s.elapse dt).senseTemp_fields temp
  refine ⟨h, r, n, (exec_powerFailTrip s dt vsys temp p hpor).trans ?_⟩
  rw [hsense]
  unfold State.watchSupply
  dsimp only
  have hlow : (!(s.elapse dt).power.pfail && decide (vsys ≤ dacMicrovolts 400)) = true :=
    Bool.and_eq_true_iff.2 ⟨by simp [hpfail], decide_eq_true hvsys⟩
  rw [if_pos hlow]
  rfl

/-- POWER_FAIL as it is entered: the writes of the MRAM controller, the records and the comparators. -/
theorem State.enterPowerFail_eq (s : State) (p : MramProgress) :
    ∃ fl e, s.enterPowerFail p = { s with
      mode := .powerFail
      mem := (s.writeAll (s.cutWords p)).mem
      ecc := e
      power := { s.power with
        running := s.power.running.stop s.clock, waking := false, sleepDue := false, failAt := s.clock }
      chans := s.chans.map (fun c => { c with bias := none })
      sync := s.sync.unwatched
      out := { s.out with ready := false, health := some 720 }
      flue := fl
      ash := { s.ash with
        waiting := []
        nextSeq :=
          if (s.failAsh p.ashWords (if s.mode.failRecords then some (s.failPayload p) else none)).2 then
            (s.ash.nextSeq + 1) % 2 ^ 32
          else s.ash.nextSeq }
      vault := { s.vault with
        entries := if p.commitWords = 0 then s.vault.entries else s.vault.entries.drop 1
        failWrites := s.failCommit p.commitWords ++
          (s.failAsh p.ashWords (if s.mode.failRecords then some (s.failPayload p) else none)).1 }
      lib := { s.lib with queue := [], serving := none } } ∧
      (s.mode = .run → ∃ r, fl.queue = [r] ∧ r.type = 3 ∧ r.seq = s.flue.nextSeq ∧ bitOf (byteAt r.payload 0) 0 = true) ∧
      (s.mode ≠ .run → fl.queue = []) := by
  obtain ⟨fl, e, hseq, hrun, hother⟩ := s.failSequence_eq p
  refine ⟨fl, e, ?_, hrun, hother⟩
  unfold State.enterPowerFail
  rw [hseq, State.startFail_eq]
  rfl

/-- The words that the MRAM controller has written do not depend on the latch. -/
theorem State.cutWords_tripped (s : State) (h : Bool) (r : Router) (n : Nat) (p : MramProgress) :
    (s.tripped h r n).cutWords p = s.cutWords p := rfl

theorem State.writeAll_tripped (s : State) (h : Bool) (r : Router) (n : Nat) (ws : List (Nat × List Byte)) :
    (s.tripped h r n).writeAll ws = (s.writeAll ws).tripped h r n := by
  unfold State.writeAll
  induction ws generalizing s with
  | nil => rfl
  | cons w ws ih => exact ih (s.poke w.1 w.2)

theorem State.failRecords_iff (s : State) :
    s.mode.failRecords = true ↔ s.mode = .run ∨ s.mode = .strapRead ∨ s.mode = .bist ∨ s.mode = .load := by
  cases s.mode <;> simp [DevState.failRecords]

/-- Settles O23: the trip, and POWER_FAIL as it is entered from the state whose latch is set. -/
theorem powerFailTrips : Obligations.PowerFailTrips := by
  unfold Obligations.PowerFailTrips
  intro s dt vsys temp p hpor hpfail hvsys u own begun row rest
  obtain ⟨h, r, n, hexec⟩ := exec_trip (dt := dt) (temp := temp) p hpor hpfail hvsys
  by_cases hm : s.mode = .reset ∨ s.mode = .powerFail
  · rw [if_pos hm] at hexec
    refine ⟨_, hexec, rfl, rfl, rfl, rfl, rfl, rfl, rfl, rfl, rfl, rfl, rfl, fun _ => ⟨rfl, rfl, rfl, rfl, rfl⟩,
      fun hreset hfail => absurd hm (not_or.2 ⟨hreset, hfail⟩)⟩
  · rw [if_neg hm] at hexec
    obtain ⟨fl, e, henter, hrun, hother⟩ := ((s.elapse dt).tripped h r n).enterPowerFail_eq p
    rw [henter] at hexec
    refine ⟨_, hexec, rfl, rfl, rfl, rfl, rfl, rfl, rfl, rfl, rfl, rfl, rfl, fun hc => absurd hc hm, fun _ _ => ?_⟩
    have hcommit : ((s.elapse dt).tripped h r n).failCommit p.commitWords = rest := by
      unfold State.failCommit State.entryWrites
      cases hl : s.vault.entries <;> simp [State.tripped, hl, rest]
    have hrecords := ((s.elapse dt).tripped h r n).failRecords_iff
    generalize howner : (if ((s.elapse dt).tripped h r n).mode.failRecords then
      some (((s.elapse dt).tripped h r n).failPayload p) else none) = own'
    generalize hx : State.failAsh _ _ _ = x
    refine ⟨rfl, rfl, rfl, rfl, rfl, ?mem, rfl, rfl, rfl, rfl, hrun, hother, rfl, fun hash hown => ?own, fun hash hown => ?none,
      fun r' l hw hash => ?begun⟩
    case mem =>
      have hwrite := congrArg State.mem (State.writeAll_tripped (s.elapse dt) h r n (u.cutWords p))
      rw [State.writeAll_elapse] at hwrite
      exact hwrite
    case own =>
      rw [if_pos (hrecords.2 hown)] at howner
      subst howner
      rw [State.failAsh_fresh (by exact hash)] at hx
      subst hx
      exact ⟨rfl, congrArg (· ++ _) hcommit⟩
    case none =>
      rw [if_neg (mt hrecords.1 hown)] at howner
      subst howner
      rw [State.failAsh_fresh (by exact hash)] at hx
      subst hx
      exact ⟨(List.append_nil _).trans hcommit, rfl⟩
    case begun =>
      rw [State.failAsh_begun hw (by exact hash)] at hx
      subst hx
      exact ⟨rfl, congrArg (· ++ _) hcommit⟩

/-! ### The core in use -/

theorem AshRec.bytes_length {r : AshRec} (h : r.payload.length ≤ 40) (seq boot : Nat) : (r.bytes seq boot).length = 64 := by
  simp [AshRec.bytes]
  omega

theorem AshRec.mem_writes {r : AshRec} {seq boot : Nat} (w : Nat × List Byte) :
    w ∈ r.writes seq boot ↔ w ∈ asWords 8 (r.bytes seq boot) (ashAddr (seq % 8192)) := by
  unfold AshRec.writes
  dsimp only
  rw [List.mem_append, or_comm, ← List.mem_append, List.take_append_drop]

/-- An ash record reads back whole once its words are written (R288). -/
theorem State.peek_writeAll_ash (s : State) {r : AshRec} (seq boot : Nat) (hs : Memory.wf s.mem)
    (h : r.payload.length ≤ 40) :
    (s.writeAll (r.writes seq boot)).peek (ashAddr (seq % 8192)) 64 = r.bytes seq boot :=
  s.peek_writeAll_words hs AshRec.mem_writes (AshRec.bytes_length h seq boot) rfl

/-- The payload of a power-fail record whose row is none and whose state is STRAP_READ (R292). -/
theorem State.powerFailPayload_strapRead (s : State) (lost : Nat) :
    byteAt (s.powerFailPayload 1 0xFFFF lost) 0 = 1 ∧ fieldAt (s.powerFailPayload 1 0xFFFF lost) 2 2 = 0xFFFF ∧
    (s.powerFailPayload 1 0xFFFF lost).length = 9 := by
  refine ⟨rfl, (leNat_leBytes 2 _).trans rfl, ?_⟩
  simp [State.powerFailPayload]

theorem State.failCommit_zero (s : State) : s.failCommit 0 = [] := by
  unfold State.failCommit
  split <;> rfl

/-- The words that the power-fail sequence still has to write read back as the record they spell. -/
theorem State.finishFail_peek {w : State} {r : AshRec} {seq boot : Nat} (hw : w.vault.failWrites = r.writes seq boot)
    (hs : Memory.wf w.mem) (h : r.payload.length ≤ 40) :
    w.finishFail.peek (ashAddr (seq % 8192)) 64 = r.bytes seq boot := by
  refine Eq.trans ?_ (w.peek_writeAll_ash seq boot hs h)
  rw [← hw]
  rfl

/-- POWER_FAIL entered from STRAP_READ with no write of the MRAM controller in progress (R73). -/
theorem State.enterPowerFail_strapRead {v : State} (hmode : v.mode = .strapRead) :
    ∃ w, (v.enterPowerFail { commitWords := 0, ashWords := 0 }).settle = w ∧ w.mode = .powerFail ∧ w.out.ready = false ∧
      w.out.health = some 720 ∧ w.ash.waiting = [] ∧ w.flue.queue = [] ∧ w.power.pfail = v.power.pfail ∧
      w.power.failAt = v.clock ∧ w.ash.nextSeq = (v.ash.nextSeq + 1) % 2 ^ 32 ∧
      w.vault.failWrites =
        AshRec.writes ⟨3, v.ts, v.powerFailPayload 1 0xFFFF (v.rowsLost 0)⟩ v.ash.nextSeq v.vault.bootCount ∧
      (Memory.wf v.mem → Memory.wf w.mem) := by
  obtain ⟨fl, e, henter, -, hqueue⟩ := v.enterPowerFail_eq { commitWords := 0, ashWords := 0 }
  rw [State.failCommit_zero, List.nil_append, if_pos (by rw [hmode]; rfl), State.failAsh_fresh (.inl rfl),
    State.failPayload_of_not_run (by rw [hmode]; decide), hmode] at henter
  rw [henter]
  exact ⟨_, rfl, rfl, rfl, rfl, rfl, hqueue (by rw [hmode]; decide), rfl, rfl, rfl, rfl, v.writeAll_wf _⟩

theorem State.enterBist_of_waking {s : State} (h : s.power.waking = true) : s.enterBist = { s.unwatch with
    mode := .bist
    flue := { s.flue with extraZero := true }
    volt := { s.volt with pipelines := [], blockReplays := 0, secondReplays := 0, secondAt := s.clock } } := by
  unfold State.enterBist
  rw [h, Bool.or_true]

/-- Settles O22: STRAP_READ, POWER_FAIL with one power-fail record to write, and BIST in a wake from EMBER. -/
theorem corePowerGood : Obligations.CorePowerGood := by
  unfold Obligations.CorePowerGood
  intro s dt hen hat now boot
  have hcond (hm : s.mode = .reset ∨ (s.mode = .ember ∧ s.power.waking = true)) :
      (s.power.coreEn && decide (s.power.coreEnAt + per2ms ≤ now) &&
        (decide (s.mode = .reset) || (decide (s.mode = .ember) && s.power.waking))) = true :=
    Bool.and_eq_true_iff.2 ⟨Bool.and_eq_true_iff.2 ⟨hen, decide_eq_true hat⟩, by simpa using hm⟩
  refine ⟨fun hm hpfail => ?strapRead, fun hm hpfail => ?powerFail, fun hm hwake => ?bist⟩
  case strapRead =>
    refine (event_agrees (hcond (.inl hm)) ?_ : ∃ t, execCorePowerWaitEnd dt s = .next t ∧ t.agrees _)
    dsimp only
    rw [if_pos (by exact hm), if_neg (by simp [State.findHead, hpfail])]
    rfl
  case powerFail =>
    have hexec : execCorePowerWaitEnd dt s = _ := event_next _ _ _ _ (hcond (.inl hm))
    dsimp only at hexec
    rw [if_pos (by exact hm), if_pos (by exact hpfail)] at hexec
    generalize hv : State.mk .. = v at hexec
    have hmode : v.mode = .strapRead := by rw [← hv]
    have hpf : v.power.pfail = true := by rw [← hv]; exact hpfail
    have hclock : v.clock = now := by rw [← hv]; rfl
    have hts : v.ts = (s.elapse dt).ts := by rw [← hv]; rfl
    have hseq : v.ash.nextSeq = s.ashHead := by rw [← hv]; rfl
    have hboot : v.vault.bootCount = boot := by rw [← hv]; rfl
    have hwf : Memory.wf s.mem → Memory.wf v.mem := by rw [← hv]; exact id
    obtain ⟨w, hw, hwmode, hready, hhealth, hwaiting, hqueue, hwpf, hat, hnext, hwrites, hwwf⟩ := v.enterPowerFail_strapRead hmode
    obtain ⟨hstate, hrow, hlen⟩ := v.powerFailPayload_strapRead (v.rowsLost 0)
    rw [hw] at hexec
    rw [hclock] at hat
    rw [hts, hseq, hboot] at hwrites
    exact ⟨w, _, hexec, hwmode, hready, hhealth, hwaiting, hqueue, hwpf.trans hpf, hat, hseq ▸ hnext, hstate, hrow, hlen,
      hwrites, fun hs => State.finishFail_peek hwrites (hwwf (hwf hs)) (hlen.trans_le (by decide))⟩
  case bist =>
    have hreset : s.mode ≠ .reset := by rw [hm]; decide
    have hexec : execCorePowerWaitEnd dt s = _ := event_next _ _ _ _ (hcond (.inr ⟨hm, hwake⟩))
    dsimp only at hexec
    rw [if_neg (by exact hreset), State.enterBist_of_waking (by exact hwake)] at hexec
    exact ⟨_, hexec, State.settle_agrees _, fun id => rfl⟩

/-! ### The comparator re-arms, and POWER_FAIL is left -/

/-- How long `VSYS_SENSE` has held at or above 1.050 V (R75). -/
theorem pfailOkSince_eq (since : Option Nat) (clock vsys : Nat) :
    (if vsys < 1050000 then none else match since with | some t => some t | none => some clock) =
      if vsys < 1050000 then none else some (since.getD clock) := by
  cases since <;> rfl

/-- Settles O24: the record enters the router behind at most one of the temperature. -/
theorem powerFailRearms : Obligations.PowerFailRearms := by
  unfold Obligations.PowerFailRearms
  intro s dt vsys temp hpor hpfail hvsys
  have hexec : execPowerFailRearm dt vsys temp s = _ := event_next _ _ _ _ (by simp [hpor])
  obtain ⟨h, r, n, hsense, hlen, hdrops, hfull⟩ := (s.elapse dt).senseTemp_fields temp
  have hokay : (if vsys < dacMicrovolts 420 then none else
      match s.power.pfailOkSince with | some t => some t | none => some (s.clock + dt)) =
      some (s.power.pfailOkSince.getD (s.clock + dt)) := by
    rw [if_neg (not_lt.2 (by exact hvsys))]
    cases s.power.pfailOkSince <;> rfl
  rw [hsense] at hexec
  unfold State.watchSupply at hexec
  dsimp only at hexec
  have hboth : ((s.elapse dt).power.pfail && decide (dacMicrovolts 420 ≤ vsys)) = true :=
    Bool.and_eq_true_iff.2 ⟨hpfail, decide_eq_true hvsys⟩
  rw [if_pos hboth] at hexec
  generalize he : Event.mk .. = e at hexec
  obtain ⟨hlt, hroute⟩ | ⟨hge, hroute⟩ := State.routeAsh_cases _ e
  · rw [hroute] at hexec
    refine ⟨_, hexec, rfl, hokay, rfl, rfl, rfl, rfl, rfl, rfl, rfl, rfl, fun _ => ?_, fun hfl => ?_⟩
    · exact ⟨e, List.mem_append_right _ (List.mem_singleton.2 rfl), by rw [← he], by rw [← he]; rfl, by rw [← he]; rfl⟩
    · rw [hfull hfl] at hlt
      exact absurd hlt (not_lt.2 hfl)
  · rw [hroute] at hexec
    refine ⟨_, hexec, rfl, hokay, rfl, rfl, rfl, rfl, rfl, rfl, rfl, rfl, fun hfree => ?_, fun hfl => ?_⟩
    · have hge' : 32 ≤ r.ash.length := hge
      have hfree' : (s.elapse dt).router.ash.length < 31 := hfree
      omega
    · exact ⟨hfull hfl, Nat.lt_succ_of_le hdrops⟩

theorem mayMove_powerFail {c : Instr} {m : DevState} (h : mayMove c .powerFail m = true) : m = .powerFail ∨ m = .reset := by
  unfold mayMove at h
  split at h <;> simp_all

/-- Settles O25: the moves of the device state, an evaluation between the thresholds, and the recovery. -/
theorem powerFailLeft : Obligations.PowerFailLeft := by
  unfold Obligations.PowerFailLeft
  refine ⟨fun c s t hm h => ?moves, fun s dt vsys temp p hm hpor hpfail hvsys => ?watched,
    fun s dt since hm hpfail hsince hat => ?recovers⟩
  case moves =>
    obtain hkept | hmoved := lawfulMoves c s t h
    · exact .inl (hkept.trans hm)
    · exact mayMove_powerFail (c := c) (hm ▸ hmoved)
  case watched =>
    have hexec := exec_powerFailTrip s dt vsys temp p hpor
    obtain ⟨h, r, n, hsense, -⟩ := (s.elapse dt).senseTemp_fields temp
    have hhigh : (!(s.elapse dt).power.pfail && decide (vsys ≤ dacMicrovolts 400)) = false :=
      Bool.and_eq_false_iff.2 (.inr (decide_eq_false (not_le.2 hvsys)))
    rw [hsense] at hexec
    unfold State.watchSupply at hexec
    dsimp only at hexec
    rw [if_neg (Bool.eq_false_iff.1 hhigh)] at hexec
    exact ⟨_, hexec, hm, pfailOkSince_eq ..⟩
  case recovers =>
    have hcond : (decide (s.mode = .powerFail) && !s.power.pfail &&
        (match s.power.pfailOkSince with | some t => decide (t + per10ms ≤ s.clock + dt) | none => false)) = true := by
      rw [hsince]
      exact Bool.and_eq_true_iff.2 ⟨by simp [hm, hpfail], decide_eq_true hat⟩
    have hexec : execPowerFailRecovery dt s = _ := event_next _ _ _ _ hcond
    unfold State.finishFail at hexec
    rw [State.elapse_vault, State.writeAll_elapse, State.writeAll_fields] at hexec
    refine ⟨_, hexec, rfl, State.entersReset_settle (State.enterReset_entersReset 2 rfl rfl rfl rfl rfl), fun a ha => ⟨?_, ?_⟩⟩
    · exact (read_mramOnly _ a).trans (if_pos ha)
    · exact (errorsAt_mramErrors _ a).trans (if_pos ha)

end Sys2Proof.Machine
end

section
/-! Straps and the ash dump (02_straps_and_resistors.md, 14_vault_and_ash.md): the measurements, the records at the end of
STRAP_READ, and the dump. -/

namespace Sys2Proof.Machine

/-! ### Records outside RUN -/

theorem State.relayTarget_of_not_run {s : State} (h : s.mode ≠ .run) : s.relayTarget = none := by
  simp [State.relayTarget, State.mayOriginate, h]

/-- A record that no collector is to get only enters the report queue (R248, R359). -/
theorem State.report_of_local {s : State} {type : Nat} (hr : s.relayTarget = none) (ht : suppressed type = false)
    (time : Nat) (payload : List Byte) (tier : Nat) :
    s.report type time payload tier = s.putFlue (s.flue.enter s.ts type time payload tier) := by
  unfold State.report
  rw [ht, Bool.and_false, if_neg Bool.false_ne_true]
  dsimp only
  split
  next c hc =>
    have hkept : (s.putFlue (s.flue.enter s.ts type time payload tier)).relayTarget = s.relayTarget := rfl
    rw [hkept, hr] at hc
    cases hc
  · rfl

/-- The words that records are written over are good from then on, the others are as they were (R262). -/
theorem State.putFlue_errors (s : State) (f : Flue) (w : Nat) :
    errorsAt (s.putFlue f).ecc w = errorsAt s.ecc w ∨ (s.recordSpace w = true ∧ errorsAt (s.putFlue f).ecc w = 0) := by
  have hfilter := errorsAt_filter s.ecc (fun x => !((List.range 8).any (fun i => inRing s.flue.tail
    ((f.tail + 65536 - s.flue.tail) % 65536) (x + i - regionBase .reportQueue)) &&
    decide (regionBase .reportQueue ≤ x) && decide (x < regionBase .reportQueue + 65536))) w
  split at hfilter
  · exact .inl hfilter
  next hw =>
    rw [Bool.not_eq_true, Bool.not_eq_false', Bool.and_eq_true, Bool.and_eq_true] at hw
    obtain ⟨⟨-, hlow⟩, hhigh⟩ := hw
    exact .inr ⟨by simp only [State.recordSpace, hlow, hhigh, Bool.and_self, Bool.true_or], hfilter⟩

/-- What the echo and boot records do outside RUN: they enter the report queue and the ash writer (R46, R63). -/
theorem State.bootRecords_eq {s : State} (hm : s.mode ≠ .run) (failed : Option Nat) :
    ∃ e, s.bootRecords failed = { s with
      flue := (s.flue.enter s.ts 2 s.ts (s.straps.echoPayload failed) 0).enter s.ts 1 s.ts s.bootPayload 0
      ecc := e
      ash := (s.ash.offer s.clock 2 s.ts (s.straps.echoAsh failed)).offer s.clock 1 s.ts s.bootPayload } ∧
      ∀ w, errorsAt e w = errorsAt s.ecc w ∨ (s.recordSpace w = true ∧ errorsAt e w = 0) := by
  have hecho := State.report_of_local (State.relayTarget_of_not_run hm) (type := 2) rfl s.ts (s.straps.echoPayload failed) 0
  have herrors := s.putFlue_errors (s.flue.enter s.ts 2 s.ts (s.straps.echoPayload failed) 0)
  unfold State.bootRecords
  dsimp only
  rw [hecho]
  generalize hu : s.putFlue (s.flue.enter s.ts 2 s.ts (s.straps.echoPayload failed) 0) = u at herrors
  generalize hv : u.ashRecord 2 s.ts (s.straps.echoAsh failed) = v
  have hfields : v = { s with
      flue := s.flue.enter s.ts 2 s.ts (s.straps.echoPayload failed) 0
      ecc := u.ecc
      ash := s.ash.offer s.clock 2 s.ts (s.straps.echoAsh failed) } := by
    rw [← hv, ← hu]
    rfl
  have hm' : v.mode ≠ .run := by rw [hfields]; exact hm
  rw [State.report_of_local (State.relayTarget_of_not_run hm') (type := 1) rfl]
  refine ⟨(v.putFlue (v.flue.enter v.ts 1 v.ts v.bootPayload 0)).ecc, ?fields, fun w => ?errors⟩
  case fields =>
    have hts : v.ts = s.ts := by simp only [State.ts, hfields]
    have hboot : v.bootPayload = s.bootPayload := by simp only [State.bootPayload, State.runSeconds, hfields]
    rw [hts, hboot]
    unfold State.ashRecord State.putFlue
    simp only [hfields]
  case errors =>
    have hspace : v.recordSpace w = s.recordSpace w := by rw [hfields]; rfl
    have hecc : v.ecc = u.ecc := by rw [hfields]
    obtain hsame | ⟨hin, hgood⟩ := hspace ▸ hecc ▸ v.putFlue_errors (v.flue.enter v.ts 1 v.ts v.bootPayload 0) w
    · exact (herrors w).imp hsame.trans fun ⟨hin, hgood⟩ => ⟨hin, hsame.trans hgood⟩
    · exact .inr ⟨hin, hgood⟩

theorem Flue.makeRoom_of_fits {f : Flue} {r : FlueRec} (h : queueUsed f.queue + r.size ≤ queueSpace) (n : Nat) :
    f.makeRoom r n = f := by
  cases n with
  | zero => rfl
  | succ n => exact if_pos h

/-- A record that fits enters the report queue, where no gap record is owed (R251, R252). -/
theorem Flue.enter_of_fits {f : Flue} {payload : List Byte} (hg : f.gapOwed = false)
    (hfit : queueUsed f.queue + (16 + payload.length) ≤ queueSpace) (now type time tier : Nat) :
    f.enter now type time payload tier =
      { f.push { type := type, seq := f.nextSeq, time := time, payload := payload, tier := tier } with
        nextSeq := (f.nextSeq + 1) % 65536 } := by
  have hgap : f.putGap now = f := if_neg (by simp [hg])
  unfold Flue.enter
  dsimp only
  rw [Flue.makeRoom_of_fits hfit, if_pos (by exact hfit), hgap, ite_self]

theorem Straps.echoPayload_length (x : Straps) (failed : Option Nat) : (x.echoPayload failed).length = 63 := by
  simp [Straps.echoPayload, Straps.echoHead]

theorem State.bootPayload_length (s : State) : s.bootPayload.length = 10 := by
  simp [State.bootPayload]

/-- The echo and boot records of an empty flue take the sequences 0 and 1 (R63). -/
theorem Flue.enter_boot {f : Flue} (hq : f.queue = []) (hg : f.gapOwed = false) (hs : f.nextSeq = 0) (ts : Nat)
    {echo boot : List Byte} (he : echo.length = 63) (hb : boot.length = 10) :
    ∃ x y, ((f.enter ts 2 ts echo 0).enter ts 1 ts boot 0).queue = [x, y] ∧ x.type = 2 ∧ x.seq = 0 ∧ x.payload = echo ∧
      y.type = 1 ∧ y.seq = 1 ∧ y.payload = boot := by
  rw [Flue.enter_of_fits hg (by rw [hq, he]; decide), Flue.enter_of_fits (by exact hg)]
  · exact ⟨_, _, congrArg (· ++ [_] ++ [_]) hq, rfl, hs, rfl, rfl, by simp [hs], rfl⟩
  · simp [Flue.push, hq, hb, queueUsed, queueSpace, FlueRec.isGap, FlueRec.size, he]

/-! ### The measurements and the end of STRAP_READ -/

theorem codeSum_eq (codes : Codes) : codeSum codes = codes[0].toNat + codes[1].toNat + codes[2].toNat + codes[3].toNat +
    codes[4].toNat + codes[5].toNat + codes[6].toNat + codes[7].toNat := by
  have hlist : codes.toList =
      [codes[0], codes[1], codes[2], codes[3], codes[4], codes[5], codes[6], codes[7]] := by
    refine List.ext_getElem (by simp) fun i hi hi' => ?_
    have hi8 : i < 8 := by simpa using hi
    interval_cases i <;> rfl
  simp [codeSum, hlist, Nat.add_assoc]

/-- Settles O28: the effect of each command, and the states it is in. -/
theorem ashDump : Obligations.AshDump := by
  unfold Obligations.AshDump
  intro s dt hm closing sent
  have hmode : (decide (s.mode = .strapRead) || decide (s.mode = .configFault)) = true := by simpa using hm
  have hend (h : sent) : ((decide (s.mode = .strapRead) || decide (s.mode = .configFault)) && s.straps.dumping &&
      s.straps.dumpEndQueued && !s.flue.queue.any (fun r => decide (r.type = 0x0C)) &&
      decide (s.flue.busyUntil ≤ s.clock + dt)) = true := by
    obtain ⟨hdump, hqueued, htypes, hbusy⟩ := h
    rw [hmode, hdump, hqueued, decide_eq_true hbusy]
    simpa using htypes
  refine ⟨fun hended hreq hdump hqueued hwait => ?starts, fun hsent hm => ?holds, fun hsent hm => ?bist⟩
  case starts =>
    have hcond : ((decide (s.mode = .strapRead) || decide (s.mode = .configFault)) && s.straps.ended &&
        s.straps.dumpRequested && !s.straps.dumping && !s.straps.dumpEndQueued && s.ash.waiting.isEmpty) = true := by
      rw [hmode, hended, hreq, hdump, hqueued, hwait]
      rfl
    exact (event_agrees hcond rfl : ∃ t, execAshDumpStart dt s = .next t ∧ t.agrees _)
  case holds =>
    refine (event_agrees (hend hsent) ?_ : ∃ t, execAshDumpEnd dt s = .next t ∧ t.agrees _)
    exact if_neg (by simp [hm])
  case bist =>
    refine (event_agrees (hend hsent) ?_ : ∃ t, execAshDumpEnd dt s = .next t ∧ t.agrees _)
    exact if_pos (by simp [hm])

/-- The end of STRAP_READ, from the state whose straps have been decoded (R45, R62, R63). -/
def State.strapsDecoded (s : State) : State :=
  { s with
    straps := s.straps.decode (s.strapVerdict s.straps).2
    panel := { s.panel with label := (s.straps.level 2 13).getD 0 } }

theorem State.strapsDecoded_elapse (s : State) (dt : Nat) : (s.elapse dt).strapsDecoded = { s.strapsDecoded with
    clock := s.clock + dt } := by
  unfold State.strapsDecoded
  rw [State.elapse_strapVerdict]
  rfl

/-- What the boot count and the records of the end of STRAP_READ leave: the count in its word of the MRAM, the records in the
ash writer, and, in an empty flue, with the sequences 0 and 1 (R46, R63). -/
theorem State.strapsDecoded_records {s : State} (hm : s.mode = .strapRead) (failed : Option Nat) :
    ∃ e fl, s.strapsDecoded.countBoot.bootRecords failed = { s.strapsDecoded with
      mem := Memory.writeBytes s.mem bootCountAddr (leBytes 8 (min 0xFFFFFF (s.vault.bootCount + 1)))
      ecc := e
      flue := fl
      vault := { s.vault with bootCount := min 0xFFFFFF (s.vault.bootCount + 1) }
      ash := { s.ash with waiting := s.ash.waiting ++
        [⟨2, s.ts, s.strapsDecoded.straps.echoAsh failed⟩, ⟨1, s.ts, State.bootPayload { s.strapsDecoded with
          vault := { s.vault with bootCount := min 0xFFFFFF (s.vault.bootCount + 1) } }⟩] } } ∧
      (∀ w, w + 8 ≤ bootCountAddr ∨ bootCountAddr + 8 ≤ w →
        errorsAt e w = errorsAt s.ecc w ∨ (s.recordSpace w = true ∧ errorsAt e w = 0)) ∧
      (s.flue.queue = [] → s.flue.gapOwed = false → s.flue.nextSeq = 0 → ∃ echo boot, fl.queue = [echo, boot] ∧
        echo.type = 2 ∧ echo.seq = 0 ∧ echo.payload = s.strapsDecoded.straps.echoPayload failed ∧ boot.type = 1 ∧
        boot.seq = 1 ∧ boot.payload = State.bootPayload { s.strapsDecoded with
          vault := { s.vault with bootCount := min 0xFFFFFF (s.vault.bootCount + 1) } }) := by
  generalize hv : s.strapsDecoded.countBoot = v
  have hfields : v = { s.strapsDecoded with
      mem := Memory.writeBytes s.mem bootCountAddr (leBytes 8 (min 0xFFFFFF (s.vault.bootCount + 1)))
      ecc := (s.poke bootCountAddr (leBytes 8 (min 0xFFFFFF (s.vault.bootCount + 1)))).ecc
      vault := { s.vault with bootCount := min 0xFFFFFF (s.vault.bootCount + 1) } } := by
    rw [← hv, ← satTo_eq_min]
    rfl
  have hm' : v.mode ≠ .run := by rw [hfields]; exact (by simp [State.strapsDecoded, hm])
  obtain ⟨e, hboot, herrors⟩ := State.bootRecords_eq hm' failed
  have hts : v.ts = s.ts := by rw [hfields]; rfl
  have hspace : v.recordSpace = s.recordSpace := by rw [hfields]; rfl
  have hflue : v.flue = s.flue := by rw [hfields]; rfl
  have hpayload : v.bootPayload = State.bootPayload { s.strapsDecoded with
      vault := { s.vault with bootCount := min 0xFFFFFF (s.vault.bootCount + 1) } } := by rw [hfields]; rfl
  have hstraps : v.straps = s.strapsDecoded.straps := by rw [hfields]
  rw [hts, hflue, hpayload, hstraps] at hboot
  refine ⟨e, (s.flue.enter s.ts 2 s.ts (s.strapsDecoded.straps.echoPayload failed) 0).enter s.ts 1 s.ts
    (State.bootPayload { s.strapsDecoded with vault := { s.vault with bootCount := min 0xFFFFFF (s.vault.bootCount + 1) } })
    0, hboot.trans ?fields, fun w hw => ?errors, fun hq hg hs => ?flue⟩
  case fields =>
    have hash : v.ash = s.ash := by rw [hfields]; rfl
    rw [hash]
    have hoffer : (s.ash.offer v.clock 2 s.ts (s.strapsDecoded.straps.echoAsh failed)).offer v.clock 1 s.ts
        (State.bootPayload { s.strapsDecoded with vault :=
          { s.vault with bootCount := min 0xFFFFFF (s.vault.bootCount + 1) } }) =
        { s.ash with waiting := s.ash.waiting ++
        [⟨2, s.ts, s.strapsDecoded.straps.echoAsh failed⟩, ⟨1, s.ts, State.bootPayload { s.strapsDecoded with
          vault := { s.vault with bootCount := min 0xFFFFFF (s.vault.bootCount + 1) } }⟩] } :=
      congrArg (fun w => { s.ash with waiting := w }) (List.append_assoc ..)
    rw [hoffer]
    simp only [hfields]
  case errors =>
    have hecc : errorsAt v.ecc w = errorsAt s.ecc w := by
      rw [hfields]
      exact errorsAt_poke s _ _ w (by rwa [leBytes_length])
    exact hspace ▸ hecc ▸ herrors w
  case flue => exact Flue.enter_boot hq hg hs s.ts (Straps.echoPayload_length _ _) (State.bootPayload_length _)

/-- The state that follows the end of STRAP_READ (R45, R48, R62). -/
def State.afterStraps (v : State) (cause : Nat) : State :=
  if cause ≠ 0 then v.enterConfigFault else if v.straps.dumpRequested then v else v.enterBist

theorem State.afterStraps_kept (v : State) (cause : Nat) : (v.afterStraps cause).straps = v.straps ∧
    (v.afterStraps cause).panel = v.panel ∧ (v.afterStraps cause).vault = v.vault ∧
    (v.afterStraps cause).ash = v.ash ∧ (v.afterStraps cause).flue.queue = v.flue.queue ∧
    (v.afterStraps cause).mem = v.mem ∧ (v.afterStraps cause).ecc = v.ecc ∧ (v.afterStraps cause).power = v.power ∧
    (v.afterStraps cause).learn = v.learn ∧ (v.afterStraps cause).lib = v.lib ∧ (v.afterStraps cause).ring = v.ring ∧
    (v.afterStraps cause).router = v.router ∧ (v.afterStraps cause).tap = v.tap ∧
    (v.afterStraps cause).bootPayload = v.bootPayload := by
  unfold State.afterStraps
  split
  · exact ⟨rfl, rfl, rfl, rfl, rfl, rfl, rfl, rfl, rfl, rfl, rfl, rfl, rfl, rfl⟩
  · split
    · exact ⟨rfl, rfl, rfl, rfl, rfl, rfl, rfl, rfl, rfl, rfl, rfl, rfl, rfl, rfl⟩
    · exact ⟨rfl, rfl, rfl, rfl, rfl, rfl, rfl, rfl, rfl, rfl, rfl, rfl, rfl, rfl⟩

/-- Which state follows, and what its entry changes (R64, R79, R82, R126). -/
theorem State.afterStraps_entered {v : State} (hm : v.mode = .strapRead) (cause : Nat) :
    (v.afterStraps cause).mode =
      (if cause ≠ 0 then .configFault else if v.straps.dumpRequested then .strapRead else .bist) ∧
    (v.afterStraps cause).out = { v.out with
      fault := v.out.fault || decide (cause ≠ 0), ready := (v.afterStraps cause).out.ready
      alert := (v.afterStraps cause).out.alert, alarm := (v.afterStraps cause).out.alarm
      health := (v.afterStraps cause).out.health } ∧
    (cause ≠ 0 → (v.afterStraps cause).out.ready = false ∧ (v.afterStraps cause).out.alert = false ∧
      (v.afterStraps cause).out.alarm = false ∧ (v.afterStraps cause).out.health = some 720) ∧
    ((v.afterStraps cause).mode = .bist →
      (v.afterStraps cause).volt =
        { v.volt with pipelines := [], blockReplays := 0, secondReplays := 0, secondAt := v.clock } ∧
      (v.afterStraps cause).chans = v.chans.map (fun c => { c with bias := none }) ∧
      (v.afterStraps cause).sync = { v.sync with shock := List.replicate 4 false, tach := List.replicate 4 none }) ∧
    ((v.afterStraps cause).mode ≠ .bist → (v.afterStraps cause).volt = v.volt ∧ (v.afterStraps cause).chans = v.chans ∧
      (v.afterStraps cause).sync = v.sync) := by
  unfold State.afterStraps
  by_cases hc : cause ≠ 0
  · simp only [if_pos hc, decide_eq_true hc, Bool.or_true]
    exact ⟨rfl, rfl, fun _ => ⟨rfl, rfl, rfl, rfl⟩, nofun, fun _ => ⟨rfl, rfl, rfl⟩⟩
  · simp only [if_neg hc, decide_eq_false hc, Bool.or_false]
    by_cases hd : v.straps.dumpRequested
    · rw [if_pos hd]
      exact ⟨hm.trans (if_pos hd).symm, rfl, fun h => absurd h hc, fun h => absurd (hm.symm.trans h) (by decide),
        fun _ => ⟨rfl, rfl, rfl⟩⟩
    · rw [if_neg hd]
      exact ⟨(if_neg hd).symm, rfl, fun h => absurd h hc, fun _ => ⟨rfl, rfl, rfl⟩, fun h => absurd rfl h⟩

/-- Settles O26: the next measurement, and the end: the records, the boot count, and the state that follows. -/
theorem strapsRead : Obligations.StrapsRead := by
  unfold Obligations.StrapsRead
  refine ⟨fun s dt codes testN ashdumpN hm hended hlen => ⟨fun hat => ?measured, fun hearly => ?early⟩,
    fun s dt hm hended hlen => ?ended⟩
  case measured =>
    have hcond : (decide (s.mode = .strapRead) && !s.straps.ended && decide (s.straps.sums.length < 45) &&
        decide (s.straps.startedAt + measurementTime (s.straps.sums.length + 1) ≤ s.clock + dt)) = true := by
      exact Bool.and_eq_true_iff.2 ⟨by simp [hm, hended, hlen], decide_eq_true hat⟩
    refine (event_agrees hcond ?_ : ∃ t, execStrapMeasurement dt codes testN ashdumpN s = .next t ∧ t.agrees _)
    rw [← codeSum_eq]
    by_cases hfirst : s.straps.sums.length % 15 = 0 <;> simp [hfirst, State.elapse]
  case early =>
    have hcond : (decide (s.mode = .strapRead) && !s.straps.ended && decide (s.straps.sums.length < 45) &&
        decide (s.straps.startedAt + measurementTime (s.straps.sums.length + 1) ≤ s.clock + dt)) = false :=
      Bool.and_eq_false_iff.2 (.inr (decide_eq_false (not_le.2 hearly)))
    exact (event_idle _ _ _ _ hcond : execStrapMeasurement dt codes testN ashdumpN s = _)
  case ended =>
    intro verdict count
    have hcond : (decide (s.mode = .strapRead) && !s.straps.ended && decide (s.straps.sums.length = 45)) = true := by
      simp [hm, hended, hlen]
    have hexec : execStrapReadEnd dt s = _ := event_next _ _ _ _ hcond
    obtain ⟨e, fl, hrecords, herrors, hflue⟩ := State.strapsDecoded_records (s := s.elapse dt) hm verdict.1
    have hafter : execStrapReadEnd dt s = .next
        (((s.elapse dt).strapsDecoded.countBoot.bootRecords verdict.1).afterStraps verdict.2).settle := hexec
    rw [hrecords] at hafter
    generalize hv : State.mk .. = v at hafter
    have hmode : v.mode = .strapRead := by rw [← hv]; exact hm
    obtain ⟨hstraps, hpanel, hvault, hash, hqueue, hmem, hecc, hpower, hlearn, hlib, hring, hrouter, htap, hboot⟩ :=
      v.afterStraps_kept verdict.2
    obtain ⟨hnext, hout, hfail, hbist, hother⟩ := State.afterStraps_entered hmode verdict.2
    generalize v.afterStraps verdict.2 = w at *
    refine ⟨_, hafter, ?straps, ?mode, ?panel, ?vault, ?ash, ?flue, ?out, hfail, ?bist, ?other, ?mem, ?ecc, ?count, ?rest⟩
    case straps => exact hstraps.trans (by rw [← hv]; rfl)
    case mode => exact hnext.trans (by rw [← hstraps]; rfl)
    case panel => exact hpanel.trans (by rw [← hv]; rfl)
    case vault => exact hvault.trans (by rw [← hv]; rfl)
    case out =>
      have hout' : v.out = s.out := by rw [← hv]; rfl
      rw [hout'] at hout
      exact congrArg (fun o : Outputs => { o with led0 := w.settle.out.led0, led1 := w.settle.out.led1 }) hout
    case mem =>
      intro x hx
      have hread : Memory.read v.mem x = Memory.read s.mem x := by
        rw [← hv]
        exact (Memory.read_writeBytes ..).trans (if_neg (by rw [leBytes_length]; omega))
      exact (congrArg (Memory.read · x) hmem).trans hread
    case ecc =>
      intro x hx
      have herr := herrors x hx
      rw [show errorsAt w.settle.ecc x = errorsAt e x from by rw [State.settle_ecc, hecc, ← hv]]
      exact herr
    case count =>
      intro hs
      have hread : leNat (Memory.readBytes w.mem bootCountAddr 8) = count := by
        have hwrite := Memory.readBytes_writeBytes s.mem bootCountAddr (leBytes 8 count) hs
        rw [leBytes_length] at hwrite
        rw [hmem, ← hv]
        refine (congrArg leNat hwrite).trans ((leNat_leBytes 8 count).trans (Nat.mod_eq_of_lt ?_))
        exact lt_of_le_of_lt (min_le_left _ _) (by norm_num)
      exact hread
    case ash =>
      rw [show w.settle.ash = v.ash from hash, show w.settle.bootPayload = v.bootPayload from hboot,
        show w.settle.straps = v.straps from hstraps, ← hv]
      rfl
    case flue =>
      intro hq hg hs
      obtain ⟨echo, boot, hrecs, htype, hseq, hecho, htype', hseq', hpay⟩ := hflue hq hg hs
      refine ⟨echo, boot, ?_, htype, hseq, ?_, htype', hseq', ?_⟩
      · exact hqueue.trans (by rw [← hv, hrecs])
      · rw [show w.settle.straps = v.straps from hstraps, ← hv]
        exact hecho
      · rw [show w.settle.bootPayload = v.bootPayload from hboot, ← hv]
        exact hpay
    case bist =>
      intro hb
      obtain ⟨hvolt, hchans, hsync⟩ := hbist hb
      exact ⟨hvolt.trans (by rw [← hv]; rfl), hchans.trans (by rw [← hv]; rfl), hsync.trans (by rw [← hv]; rfl)⟩
    case other =>
      intro hb
      obtain ⟨hvolt, hchans, hsync⟩ := hother hb
      exact ⟨hvolt.trans (by rw [← hv]; rfl), hchans.trans (by rw [← hv]; rfl), hsync.trans (by rw [← hv]; rfl)⟩
    case rest =>
      exact ⟨hpower.trans (by rw [← hv]; rfl), hlearn.trans (by rw [← hv]; rfl), hlib.trans (by rw [← hv]; rfl),
        hring.trans (by rw [← hv]; rfl), hrouter.trans (by rw [← hv]; rfl), htap.trans (by rw [← hv]; rfl)⟩

end Sys2Proof.Machine
end

section
/-! Sleep, voltage and timing (03_power_reset_ember.md, 04_clockless_core.md): the timers of sleep, the steps of `VSET`, the
canary and the frame-deadline monitor, replays and delay taps. -/

namespace Sys2Proof.Machine

/-! ### The timers of sleep -/

theorem State.requestWake_of_may {s : State} (h : s.mayRequest = true) (mask : Nat) :
    s.requestWake mask = { s with power := { s.power with
      wakeMask := s.power.wakeMask ||| mask ||| (8 * b2n s.spotElapsed), wakeAt := s.clock } } := if_pos h

/-- Settles O34: each timer's condition and what it asks for. -/
theorem sleepTimers : Obligations.SleepTimers := by
  unfold Obligations.SleepTimers
  intro s dt now
  refine ⟨fun hm hsleep hdue hidle => ?idle, fun hm hsleep hdue hspot hticks => ?resleep,
    fun n hm hspot hat => ⟨fun hmask hwake => ?first, fun hmask hat' => ?further, fun hmask hat' => ?late⟩,
    fun hm hmask hwake => ?banked, fun hm hmask hwake hen hrelease => ?ember⟩
  case idle =>
    have hcond : (decide (s.mode = .run) && s.sleepState.isSome && !s.power.sleepDue &&
        decide (s.idleSeconds * perSec ≤ s.power.idle.read (s.clock + dt))) = true :=
      Bool.and_eq_true_iff.2 ⟨by simp [hm, Option.isSome_iff_ne_none, hsleep, hdue], decide_eq_true hidle⟩
    exact (event_agrees hcond rfl : ∃ t, execIdleTimerExpiry dt s = .next t ∧ t.agrees _)
  case resleep =>
    have hcond : (decide (s.mode = .run) && s.power.spotRun && decide (16 ≤ s.power.spotTicks) && !s.power.sleepDue &&
        s.sleepState.isSome) = true := by
      simp [hm, Option.isSome_iff_ne_none, hsleep, hdue, hspot, hticks]
    exact (event_agrees hcond rfl : ∃ t, execSpotWakeResleep dt s = .next t ∧ t.agrees _)
  case banked =>
    have hcond : (decide (s.mode = .banked) && decide (s.power.wakeMask ≠ 0) && !s.power.waking) = true := by
      simp [hm, hmask, hwake]
    exact (event_agrees hcond rfl : ∃ t, execBankedWake dt s = .next t ∧ t.agrees _)
  case ember =>
    have hcond : (decide (s.mode = .ember) && decide (s.power.wakeMask ≠ 0) && !s.power.waking && !s.power.coreEn &&
        !s.power.releaseWait) = true := by
      simp [hm, hmask, hwake, hen, hrelease]
    exact (event_agrees hcond rfl : ∃ t, execEmberWake dt s = .next t ∧ t.agrees _)
  all_goals
    have helapsed : (s.elapse dt).spotElapsed = true := by
      unfold State.spotElapsed
      rw [show (s.elapse dt).spotSeconds = some n from hspot]
      exact decide_eq_true hat
    have hmay (h : (s.power.wakeMask = 0 ∧ s.power.waking = false) ∨ (s.power.wakeMask ≠ 0 ∧ s.power.wakeAt = now)) :
        (s.elapse dt).mayRequest = true := by
      refine Bool.and_eq_true_iff.2 ⟨Bool.or_eq_true_iff.2 (hm.imp decide_eq_true decide_eq_true), ?_⟩
      rw [Bool.or_eq_true, Bool.and_eq_true, Bool.and_eq_true, decide_eq_true_iff, decide_eq_true_iff, decide_eq_true_iff,
        Bool.not_eq_true']
      exact h
  case first =>
    have hmay := hmay (.inl ⟨hmask, hwake⟩)
    refine (event_agrees (by rw [hmay, helapsed]; rfl) ?_ : ∃ t, execSpotWakeTimerExpiry dt s = .next t ∧ t.agrees _)
    rw [State.requestWake_of_may hmay, helapsed, show (s.elapse dt).power.wakeMask = 0 from hmask]
    rfl
  case further =>
    have hmay := hmay (.inr ⟨hmask, hat'⟩)
    refine (event_agrees (by rw [hmay, helapsed]; rfl) ?_ : ∃ t, execSpotWakeTimerExpiry dt s = .next t ∧ t.agrees _)
    rw [State.requestWake_of_may hmay, helapsed, show 8 * b2n true = 8 from rfl, Nat.or_assoc, Nat.or_self]
    exact congrArg (fun at_ => { s.elapse dt with power := { s.power with
      wakeMask := s.power.wakeMask ||| 8, wakeAt := at_ } }) hat'.symm
  case late =>
    have hnot : (s.elapse dt).mayRequest = false := by
      refine Bool.and_eq_false_iff.2 (.inr ?_)
      rw [Bool.or_eq_false_iff, Bool.and_eq_false_iff, Bool.and_eq_false_iff]
      exact ⟨.inl (decide_eq_false hmask), .inr (decide_eq_false hat')⟩
    exact (event_idle _ _ _ _ (by rw [hnot]; rfl) : execSpotWakeTimerExpiry dt s = _)

/-! ### The steps of `VSET` -/

/-- A step up in RUN (R93, R96). -/
theorem State.stepUpNow_of_run {s : State} (hm : s.mode = .run) : s.stepUpNow = { s with
    power := { s.power with vset := s.power.vset - 1, vsetTarget := s.power.vset - 1, vsetAt := s.clock }
    arrays := (s.driveVset (s.power.vset - 1)).arrays
    volt := { s.volt with
      lowest := min s.volt.lowest (s.power.vset - 1), windowAt := s.clock, windowReplays := 0, pauseAt := some s.clock
      stepUpDue := false, holdoffAt := some s.clock }
    hearth := { s.hearth with inFlight := s.hearth.inFlight.map (fun q => { q with paused := true }) }
    ring := { s.ring with
      portA := { s.ring.portA with timer := s.ring.portA.timer.stop s.clock }
      portB := { s.ring.portB with timer := s.ring.portB.timer.stop s.clock } } } := by
  unfold State.stepUpNow State.startPause State.restartWindow State.driveVset
  dsimp only
  rw [if_pos hm]

/-- The code of `VSET` one step towards its target (R56). -/
def Power.nextCode (p : Power) : Nat := if p.vset < p.vsetTarget then p.vset + 1 else p.vset - 1

theorem State.approachVset_eq (s : State) : s.approachVset = s.driveVset s.power.nextCode := by
  unfold State.approachVset Power.nextCode
  split <;> rfl

/-- A step of `VSET` in sleep (R56, R67, R68). -/
theorem State.driveVset_of_not_run {s : State} (hm : s.mode ≠ .run) (code : Nat) : s.driveVset code = { s with
    power := { s.power with vset := code, vsetAt := s.clock }
    arrays := (s.driveVset code).arrays } := by
  unfold State.driveVset
  rw [if_neg hm]

theorem State.vsetRested_iff {s : State} {dt : Nat} :
    (s.elapse dt).vsetRested = true ↔ s.power.vsetAt + 2458 ≤ s.clock + dt :=
  decide_eq_true_iff

/-- What a step of `VSET` does, and when it does nothing. -/
theorem execVsetStep_run {s : State} {dt : Nat} (hm : s.mode = .run) (hne : s.power.vset ≠ s.power.vsetTarget)
    (hat : s.power.vsetAt + 2458 ≤ s.clock + dt) : execVsetStep dt s = .next (s.elapse dt).stepUpNow.settle := by
  have hcond : ((decide (s.mode = .run) || decide (s.mode = .banked) || decide (s.mode = .ember)) &&
      decide (s.power.vset ≠ s.power.vsetTarget) && (s.elapse dt).vsetRested) = true := by
    rw [State.vsetRested_iff.2 hat]
    simp [hm, hne]
  have hexec : execVsetStep dt s = _ := event_next _ _ _ _ hcond
  rwa [if_pos (by exact hm)] at hexec

/-! ### The end of a pause -/

/-- Pages that become free outside a pause (R154). -/
theorem State.foldl_releasePage (l : List Nat) {v : State} (hp : v.paused = false) : ∃ y,
    l.foldl State.releasePage v = { v with sync := y, pages := v.pages.filter (fun p => !l.contains p.1) } ∧
    y.turn.map Turn.clock = v.sync.turn.map Turn.clock := by
  induction l generalizing v with
  | nil => exact ⟨v.sync, by simp, rfl⟩
  | cons page l ih =>
    have hone : v.releasePage page = { v.clearPage page with sync := { v.sync with
        turn := v.sync.turn.map (fun w => { w with pages := withoutPage w.pages page })
        freed := (page, v.clock) :: v.sync.freed } } := if_neg (by simp [hp])
    obtain ⟨y, hy, hclock⟩ := ih (v := v.releasePage page) (by rw [hone]; exact hp)
    refine ⟨y, ?_, ?_⟩
    · rw [List.foldl_cons, hy, hone]
      have hpages : (withoutPage v.pages page).filter (fun p => !l.contains p.1) =
          v.pages.filter (fun p => !(page :: l).contains p.1) := by
        unfold withoutPage
        rw [List.filter_filter]
        refine List.filter_congr fun p _ => ?_
        rw [List.contains_cons, Bool.not_or, Bool.and_comm]
        rfl
      exact congrArg (fun ps => { v with sync := y, pages := ps }) hpages
    · rw [hclock, hone]
      simp [Function.comp_def]

/-- Only a close of this very timebase period is decided again. -/
theorem State.redoTurn_of_other {v : State} (h : ∀ at_ ∈ v.sync.turn.map Turn.clock, at_ ≠ v.clock) : v.redoTurn = v := by
  unfold State.redoTurn
  cases hturn : v.sync.turn with
  | none => rfl
  | some w => exact if_pos (h w.clock (by rw [hturn]; rfl))

theorem State.freePages_eq {v : State} (hp : v.paused = false) (h : ∀ w, v.sync.turn = some w → w.clock ≠ v.clock) :
    ∃ y, v.freePages = { v with
      sync := y, freeing := [], pages := v.pages.filter (fun p => !v.freeing.contains p.1) } := by
  obtain ⟨y, hy, hclock⟩ := State.foldl_releasePage v.freeing (v := { v with freeing := [] }) hp
  refine ⟨y, ?_⟩
  unfold State.freePages
  rw [hy, State.redoTurn_of_other]
  intro at_ hat
  rw [show State.sync _ = y from rfl, hclock] at hat
  obtain ⟨w, hw, rfl⟩ := Option.mem_map.1 hat
  exact h w hw

/-- The crossing buffers when no frame waits behind a port (R86, R96). -/
theorem State.drainCrossing_eq {v : State} (ha : v.cross.rxA = []) (hb : v.cross.rxB = []) : ∃ e,
    v.drainCrossing = { v with
      cross := {}, mem := v.cross.samples.foldl (fun m w => Memory.writeBytes m w.1 (leBytes 4 w.2)) v.mem, ecc := e } := by
  have hsamples (l : List (Nat × Nat)) (v : State) : ∃ e, l.foldl (fun s w => s.poke w.1 (leBytes 4 w.2)) v =
      { v with mem := l.foldl (fun m w => Memory.writeBytes m w.1 (leBytes 4 w.2)) v.mem, ecc := e } := by
    induction l generalizing v with
    | nil => exact ⟨v.ecc, rfl⟩
    | cons w l ih =>
      obtain ⟨e, he⟩ := ih (v.poke w.1 (leBytes 4 w.2))
      exact ⟨e, he⟩
  obtain ⟨e, he⟩ := hsamples v.cross.samples { v with cross := { v.cross with samples := [] } }
  refine ⟨e, ?_⟩
  unfold State.drainCrossing State.drainSamples
  rw [he]
  unfold State.drainPort
  dsimp only [Crossing.rx, Crossing.setRx]
  rw [ha, List.foldl_nil, hb]
  rfl

/-- Settles O36: each change of `VSET` as one equation of the state, and the end of a pause step by step. -/
theorem voltageSteps : Obligations.VoltageSteps := by
  unfold Obligations.VoltageSteps
  intro s dt handshakes now freeze loose drive up
  refine ⟨fun hm hlt hat => ?stepUpDriven, fun hm hne hat => ?sleep, fun hearly => ?early,
    fun hm hscale hdue hpos htarget => ?stepUp,
    fun hm hscale hpause hhold hdue hlow htarget hwindow hat => ?stepDown, fun hscale => ⟨?noUp, ?noDown⟩,
    fun since hm hpause hat => ?pauseEnds, fun since hm hpause hearly => ?pauseLasts, fun since hm hhold hat => ?holdoff⟩
  case stepUpDriven =>
    have hexec := execVsetStep_run hm (by omega) hat
    rw [State.stepUpNow_of_run (by exact hm)] at hexec
    exact ⟨_, hexec, State.settle_agrees _⟩
  case sleep =>
    intro code stepped
    have hrun : s.mode ≠ .run := by rcases hm with hm | hm <;> simp [hm]
    have hcond : ((decide (s.mode = .run) || decide (s.mode = .banked) || decide (s.mode = .ember)) &&
        decide (s.power.vset ≠ s.power.vsetTarget) && (s.elapse dt).vsetRested) = true := by
      rw [State.vsetRested_iff.2 hat]
      rcases hm with hm | hm <;> simp [hm, hne]
    refine (event_agrees hcond ?_ : ∃ t, execVsetStep dt s = .next t ∧ t.agrees _)
    rw [if_neg (by exact hrun), State.approachVset_eq, State.driveVset_of_not_run (by exact hrun)]
    by_cases hcore : s.mode = .ember ∧ code = s.power.vsetTarget
    · rw [if_pos hcore]
      exact if_pos hcore
    · rw [if_neg hcore]
      exact if_neg hcore
  case early =>
    have hcond : (s.elapse dt).vsetRested = false := by
      rw [← Bool.not_eq_true, State.vsetRested_iff]
      exact not_le.2 hearly
    exact (event_idle _ _ _ _ (by rw [hcond, Bool.and_false]) : execVsetStep dt s = _)
  case stepUp =>
    have hcond : (decide (s.mode = .run) && s.scaling && s.volt.stepUpDue && decide (0 < s.power.vset) &&
        decide (s.power.vsetTarget = s.power.vset)) = true := by simp [hm, hscale, hdue, hpos, htarget]
    refine (event_agrees hcond ?_ : ∃ t, execStepUp dt s = .next t ∧ t.agrees _)
    rw [State.stepUpNow_of_run (by exact hm)]
    simp only [State.vsetRested_iff]
    by_cases hat : s.power.vsetAt + 2458 ≤ s.clock + dt
    · rw [if_pos hat]
      exact (if_pos hat).symm
    · rw [if_neg hat]
      exact (if_neg hat).symm
  case stepDown =>
    have hcond : (decide (s.mode = .run) && s.scaling && !s.volt.pauseAt.isSome && s.volt.holdoffAt.isNone &&
        !s.volt.stepUpDue && decide (s.power.vset < 6) && decide (s.power.vsetTarget = s.power.vset) &&
        decide (s.volt.windowAt + perSec ≤ s.clock + dt) && (s.elapse dt).vsetRested) = true := by
      rw [State.vsetRested_iff.2 hat, decide_eq_true (show s.volt.windowAt + perSec ≤ s.clock + dt from hwindow)]
      simp [hm, hscale, hpause, hhold, hdue, hlow, htarget]
    refine (event_agrees hcond ?_ : ∃ t, execStepDown dt handshakes s = .next t ∧ t.agrees _)
    by_cases hrate : s.volt.windowReplays * 100000 < handshakes
    · rw [if_pos (by exact hrate), if_pos hrate]
      unfold State.restartWindow State.driveVset
      dsimp only
      rw [if_pos (by exact hm)]
      rfl
    · rw [if_neg (by exact hrate), if_neg hrate]
      rfl
  case noUp =>
    exact (event_idle _ _ _ _ (by simp [hscale]) : execStepUp dt s = _)
  case noDown =>
    exact (event_idle _ _ _ _ (by simp [hscale]) : execStepDown dt handshakes s = _)
  case pauseEnds =>
    have hcond : (decide (s.mode = .run) && (match s.volt.pauseAt with
        | some t => decide (t + per100us ≤ s.clock + dt)
        | none => false)) = true := by
      rw [hpause]
      exact Bool.and_eq_true_iff.2 ⟨decide_eq_true hm, decide_eq_true hat⟩
    have hexec : execStepUpPauseEnd dt s = _ := event_next _ _ _ _ hcond
    rw [show (s.elapse dt).volt.pauseAt.getD (s.elapse dt).clock = since from by rw [State.elapse_volt, hpause]; rfl] at hexec
    have hspine : (((s.elapse dt).resume since).freePages.drainCrossing).spine = (s.elapse dt).spine := by simp
    refine ⟨_, hexec, ?clock, ?mode, fun ha hb hturn => ?state⟩
    case clock => exact spine_clock hspine
    case mode => exact (spine_mode hspine).trans hm
    case state =>
      obtain ⟨y, hfree⟩ := State.freePages_eq (v := (s.elapse dt).resume since) rfl hturn
      obtain ⟨e, hdrain⟩ := State.drainCrossing_eq (v := ((s.elapse dt).resume since).freePages) (by rw [hfree]; exact ha)
        (by rw [hfree]; exact hb)
      rw [hdrain, hfree]
      have hgo (x : LinkPort) (hup : x.up = true) (hs : x.timer.since = none) :
          (x.thaw (s.clock + dt) (s.clock + dt - since)).timer.since = some (s.clock + dt) := by
        unfold LinkPort.thaw Stopwatch.go
        rw [hup, hs]
        rfl
      exact ⟨rfl, rfl, rfl, rfl, rfl, rfl, hgo _, hgo _, rfl, rfl, rfl, rfl, rfl, rfl, rfl, rfl⟩
  case pauseLasts =>
    have hcond : (decide (s.mode = .run) && (match s.volt.pauseAt with
        | some t => decide (t + per100us ≤ s.clock + dt)
        | none => false)) = false := by
      rw [hpause]
      exact Bool.and_eq_false_iff.2 (.inr (decide_eq_false (not_le.2 hearly)))
    exact (event_idle _ _ _ _ hcond : execStepUpPauseEnd dt s = _)
  case holdoff =>
    have hcond : (decide (s.mode = .run) && (match s.volt.holdoffAt with
        | some t => decide (t + 60 * perSec ≤ s.clock + dt)
        | none => false)) = true := by
      rw [hhold]
      exact Bool.and_eq_true_iff.2 ⟨decide_eq_true hm, decide_eq_true hat⟩
    exact (event_agrees hcond rfl : ∃ t, execHoldoffExpiry dt s = .next t ∧ t.agrees _)

/-! ### The canary and the frame-deadline monitor -/

/-- The window of R92 anew, where a condition asks for it. -/
theorem State.restartWindow_if (s : State) (c : Prop) [Decidable c] : (if c then s.restartWindow else s) =
    { s with volt := { s.volt with
      windowAt := if c then s.clock else s.volt.windowAt, windowReplays := if c then 0 else s.volt.windowReplays } } := by
  split <;> rfl

/-- A step up asked for (R89, R93). -/
theorem State.askStepUp_eq (s : State) : s.askStepUp = { s with volt := { s.volt with
    stepUpDue := s.volt.stepUpDue || (s.scaling && decide (0 < s.power.vset)) } } := by
  unfold State.askStepUp
  split
  next h => rw [h, Bool.or_true]
  next h => rw [Bool.eq_false_iff.2 h, Bool.or_false]

theorem leBytes_two (n : Nat) : leBytes 2 n = [BitVec.ofNat 8 (n % 256), BitVec.ofNat 8 (n / 256)] := by
  have hlow : byteOf n 0 = BitVec.ofNat 8 (n % 256) := BitVec.eq_of_toNat_eq (by simp [byteOf])
  have hhigh : byteOf n 1 = BitVec.ofNat 8 (n / 256) := BitVec.eq_of_toNat_eq (by simp [byteOf, Nat.shiftRight_eq_div_pow])
  rw [← hlow, ← hhigh]
  rfl

theorem State.canaryRecord_eq (s : State) (code cause : Nat) : s.canaryRecord code cause = { s with
    ash := s.ash.offer s.clock 0x0C s.ts [BitVec.ofNat 8 code, if s.scaling then 1 else 0,
      BitVec.ofNat 8 (min 65535 s.volt.canaryCount % 256), BitVec.ofNat 8 (min 65535 s.volt.canaryCount / 256),
      BitVec.ofNat 8 cause] } := by
  unfold State.canaryRecord State.ashRecord
  rw [leBytes_two, satTo_eq_min]
  cases s.scaling <;> rfl

/-- Settles O37: an evaluation by its outcome, and the oldest tick for which the monitor has not failed. -/
theorem canaryAndMonitor : Obligations.CanaryAndMonitor := by
  unfold Obligations.CanaryAndMonitor
  intro s dt count hm now ask record
  have hended (at_ : Nat × Nat) (h : s.volt.canaryAt = some at_) :
      (decide (s.mode = .run) && s.volt.canaryAt.isSome) = true := by simp [hm, h]
  refine ⟨fun hnone hat => ?starts, fun began code hsome hlate => ?discarded, fun began code hsome hrest hle => ?passes,
    fun began code hsome hrest hgt => ?fails, fun before after x hticks hbefore hx hpassed => ?monitor⟩
  case starts =>
    have hcond : (decide (s.mode = .run) && s.volt.canaryAt.isNone && decide (s.volt.canaryNext ≤ s.clock + dt)) = true :=
      Bool.and_eq_true_iff.2 ⟨by simp [hm, hnone], decide_eq_true hat⟩
    exact (event_agrees hcond rfl : ∃ t, execCanaryEvaluationStart dt s = .next t ∧ t.agrees _)
  case discarded =>
    refine (event_agrees (hended _ hsome) ?_ : ∃ t, execCanaryEvaluationEnd dt count s = .next t ∧ t.agrees _)
    rw [State.elapse_volt, hsome]
    exact if_pos hlate
  case passes =>
    refine (event_agrees (hended _ hsome) ?_ : ∃ t, execCanaryEvaluationEnd dt count s = .next t ∧ t.agrees _)
    rw [State.elapse_volt, hsome]
    dsimp only
    rw [if_neg (by exact not_lt.2 hrest), if_pos (by simp [hle]), State.restartWindow_if]
    simp only [hle, decide_true, Bool.not_true, Bool.false_eq_true, false_or]
    rfl
  case fails =>
    refine (event_agrees (hended _ hsome) ?_ : ∃ t, execCanaryEvaluationEnd dt count s = .next t ∧ t.agrees _)
    rw [State.elapse_volt, hsome]
    dsimp -zeta only
    extract_lets _ u pass first _ w x _ y z
    rw [if_neg (by exact not_lt.2 hrest), if_neg (by simp [pass, hgt])]
    have hpass : pass = false := decide_eq_false (not_le.2 hgt)
    clear_value pass
    subst hpass
    have hx : x = { w with volt := { w.volt with
        windowAt := if w.volt.windowAt ≤ began then w.clock else w.volt.windowAt
        windowReplays := if w.volt.windowAt ≤ began then 0 else w.volt.windowReplays } } := by
      simp only [x, State.restartWindow_if, Bool.not_false, true_or, and_true]
    clear_value x
    subst hx
    have hz : z = _ := y.askStepUp_eq
    clear_value z
    subst hz
    have hfirst : first = true ↔ s.volt.canaryPassed ≠ some false := by
      simp only [first]
      rcases hp : s.volt.canaryPassed with _ | _ | _ <;> simp [u, hp]
    rw [State.canaryRecord_eq]
    by_cases hp : s.volt.canaryPassed = some false
    · rw [if_neg (fun h => hfirst.1 h hp), if_pos hp]
      rfl
    · rw [if_pos (hfirst.2 hp), if_neg hp]
      rfl
  case monitor =>
    have hfind : (s.elapse dt).failingTick = some x := by
      have hpass : (s.elapse dt).deadlinePassed x = true := by
        refine Bool.or_eq_true_iff.2 (hpassed.imp decide_eq_true fun ⟨y, hy, hlt⟩ => ?_)
        exact List.any_eq_true.2 ⟨y, hy, decide_eq_true hlt⟩
      unfold State.failingTick
      rw [State.elapse_ticks, hticks, List.find?_append, List.find?_cons_of_pos (by rw [hx, hpass]; rfl),
        List.find?_eq_none.2 (fun y hy => by simp [hbefore y hy])]
      rfl
    refine (event_agrees (by rw [hfind]; simp [hm]) ?_ : ∃ t, execFrameDeadlineMonitorFail dt s = .next t ∧ t.agrees _)
    rw [hfind]
    dsimp only
    unfold State.failMonitor
    extract_lets first _ u v
    have hv : v = _ := u.restartWindow.askStepUp_eq
    clear_value v
    subst hv
    rw [State.canaryRecord_eq]
    cases hf : s.volt.monitorFailed
    · rw [if_pos (by simp [first, hf]), if_neg Bool.false_ne_true]
      rfl
    · rw [if_neg (by simp [first, hf]), if_pos rfl]
      rfl

/-! ### Replays and delay taps -/

theorem Volt.pipeline_id (v : Volt) (k : Nat) : (v.pipeline k).id = k := by
  unfold Volt.pipeline
  cases hfind : v.pipelines.find? (fun p => decide (p.id = k)) with
  | none => rfl
  | some p => simpa using List.find?_some hfind

/-- The pipelines of one id do not depend on the others. -/
theorem find?_filter_id {l : List Pipeline} {k : Nat} {q : Pipeline → Bool} (hq : ∀ p, p.id = k → q p = true) :
    (l.filter q).find? (fun p => decide (p.id = k)) = l.find? (fun p => decide (p.id = k)) := by
  rw [List.find?_filter]
  refine List.find?_congr fun p _ => ?_
  by_cases hp : p.id = k
  · simp [hp, hq p hp]
  · simp [hp]

theorem find?_filter_id_none {l : List Pipeline} {k : Nat} {q : Pipeline → Bool} (hq : ∀ p, p.id = k → q p = false) :
    (l.filter q).find? (fun p => decide (p.id = k)) = none := by
  refine List.find?_eq_none.2 fun p hp hk => ?_
  exact absurd (List.mem_filter.1 hp).2 (by rw [hq p (of_decide_eq_true hk)]; decide)

theorem Volt.pipeline_setPipeline (v : Volt) (p : Pipeline) : (v.setPipeline p).pipeline p.id = p := by
  unfold Volt.setPipeline Volt.pipeline
  rw [List.find?_append, find?_filter_id_none (fun q hq => by simp [hq]),
    List.find?_cons_of_pos (by exact decide_eq_true rfl)]
  rfl

theorem Volt.pipeline_setPipeline_of_ne (v : Volt) {p : Pipeline} {k : Nat} (h : k ≠ p.id) :
    (v.setPipeline p).pipeline k = v.pipeline k := by
  unfold Volt.setPipeline Volt.pipeline
  rw [List.find?_append, List.find?_cons_of_neg (by simpa using h.symm)]
  obtain hlt | hgt := Nat.lt_or_gt_of_ne h
  · rw [find?_filter_id (fun q hq => by simp [hq, hlt]), find?_filter_id_none (fun q hq => by simp [hq, hlt.le]),
      Option.or_none]
  · rw [find?_filter_id_none (fun q hq => by simp [hq, hgt.le]), find?_filter_id (fun q hq => by simp [hq, hgt])]
    rfl

theorem Pipeline.pass_eq (p : Pipeline) (n : Nat) : p.pass n = { p with
    handshakes := p.handshakes + n
    blockReplays := if p.handshakes / 4096 = (p.handshakes + n) / 4096 then p.blockReplays else 0 } := by
  unfold Pipeline.pass
  split <;> rfl

theorem State.coreWorks_iff {s : State} : s.coreWorks = true ↔ s.mode = .run ∨ s.mode = .load ∨ s.mode = .bist := by
  simp [State.coreWorks, or_assoc]

/-- Settles O38: the pipeline as it is replaced, and the counts beside it. -/
theorem replays : Obligations.Replays := by
  unfold Obligations.Replays
  intro s dt id n main shadow now p works others held
  have hid : p.id = id := s.volt.pipeline_id id
  have hworks (h : works) : (s.elapse dt).coreWorks = true := State.coreWorks_iff.2 h
  have hpass : p.pass n = { p with handshakes := p.handshakes + n, blockReplays := held } := Pipeline.pass_eq p n
  have hothers {q : Pipeline} (h : q.id = id) (k : Nat) (hk : k ≠ id) :
      (s.volt.setPipeline q).pipeline k = s.volt.pipeline k :=
    s.volt.pipeline_setPipeline_of_ne (by rwa [h])
  have hsame {q : Pipeline} (h : q.id = id) : (s.volt.setPipeline q).pipeline id = q := by
    rw [← h, Volt.pipeline_setPipeline]
  refine ⟨fun hw hne => ?replay, fun hnot => ?agreed, fun hm hdue => ?raise, fun hw hn => ?lower, fun hw => ?block,
    fun hw hat => ?window⟩
  case replay =>
    have hexec : execShadowReplay dt id n main shadow s = _ := event_next _ _ _ _ (by rw [hworks hw]; simp [hne])
    dsimp only at hexec
    rw [show ((s.elapse dt).volt.pipeline id).pass n = _ from hpass] at hexec
    by_cases hm : s.mode = .run
    · rw [if_pos (by exact hm)] at hexec
      exact ⟨_, hexec, hothers (by exact hid), (hsame (by exact hid)).trans (if_pos hm).symm, State.settle_agrees _⟩
    · rw [if_neg (by exact hm)] at hexec
      exact ⟨_, hexec, hothers (by exact hid), (hsame (by exact hid)).trans (if_neg hm).symm, State.settle_agrees _⟩
  case agreed =>
    refine (event_idle _ _ _ _ ?_ : execShadowReplay dt id n main shadow s = _)
    obtain heq | hnw := hnot
    · simp [heq]
    · exact Bool.and_eq_false_iff.2 (.inl (Bool.eq_false_iff.2 fun h => hnw (State.coreWorks_iff.1 h)))
  case raise =>
    have hexec : execDelayTapRaise dt id s = _ := event_next _ _ _ _ (Bool.and_eq_true_iff.2 ⟨decide_eq_true hm, hdue⟩)
    exact ⟨_, hexec, hothers hid, hsame hid, State.settle_agrees _⟩
  case lower =>
    have hexec : execDelayTapLower dt id n s = _ := event_next _ _ _ _ (by rw [hworks hw]; simp [hn])
    dsimp only at hexec
    rw [show ((s.elapse dt).volt.pipeline id).pass n = _ from hpass] at hexec
    refine ⟨_, hexec, hothers (by exact hid), (hsame (by exact hid)).trans ?_, State.settle_agrees _⟩
    have hheld : held = 0 := if_neg (by omega)
    rw [hheld]
  case block =>
    refine (event_agrees (hworks hw) ?_ : ∃ t, execReplayBlockEnd dt s = .next t ∧ t.agrees _)
    rw [State.askStepUp_eq]
    by_cases hask : s.mode = .run ∧ 66 ≤ s.volt.blockReplays
    · rw [if_pos (by exact hask), decide_eq_true hask.1, decide_eq_true hask.2]
      rfl
    · rw [if_neg (by exact hask)]
      have hnot : (decide (s.mode = .run) && decide (66 ≤ s.volt.blockReplays)) = false := by simpa using hask
      rw [hnot, Bool.false_and, Bool.false_and, Bool.or_false]
      rfl
  case window =>
    have hcond : ((s.elapse dt).coreWorks && decide (s.volt.secondAt + perSec ≤ s.clock + dt)) = true :=
      Bool.and_eq_true_iff.2 ⟨hworks hw, decide_eq_true hat⟩
    exact (event_agrees hcond rfl : ∃ t, execReplayWindowEnd dt s = .next t ∧ t.agrees _)

end Sys2Proof.Machine
end

section
/-! The library image (15_library_image.md): the checks of its header and of its items, what is taken over, and a refusal. -/

namespace Sys2Proof.Machine

/-! ### Memory that a write leaves alone -/

theorem State.peek_poke_of_apart (s : State) {a x n : Nat} {bs : List Byte} (hs : Memory.wf s.mem)
    (h : x + n ≤ a ∨ a + bs.length ≤ x) : (s.poke a bs).peek x n = s.peek x n :=
  Memory.readBytes_writeBytes_apart _ _ _ _ _ hs h

theorem State.poke_wf (s : State) (a : Nat) (bs : List Byte) (hs : Memory.wf s.mem) : Memory.wf (s.poke a bs).mem :=
  Memory.wf_writeBytes s.mem a bs hs

theorem State.tag_poke_of_apart (s : State) {a r : Nat} {bs : List Byte} (hs : Memory.wf s.mem)
    (h : tagAddr r + 32 ≤ a ∨ a + bs.length ≤ tagAddr r) : (s.poke a bs).tag r = s.tag r := by
  rw [State.tag, State.peekNat, s.peek_poke_of_apart hs h]
  rfl

theorem State.row_poke_of_apart (s : State) {a r : Nat} {bs : List Byte} (hs : Memory.wf s.mem)
    (h : rowAddr r + 1024 ≤ a ∨ a + bs.length ≤ rowAddr r) : (s.poke a bs).row r = s.row r := by
  rw [State.row, State.peekNat, s.peek_poke_of_apart hs h]
  rfl

theorem State.setTag_wf (s : State) (r : Nat) (t : Tag) (hs : Memory.wf s.mem) : Memory.wf (s.setTag r t).mem :=
  s.poke_wf _ _ hs

theorem State.setRow_wf (s : State) (r : Nat) (v : HV) (hs : Memory.wf s.mem) : Memory.wf (s.setRow r v).mem :=
  s.poke_wf _ _ hs

theorem State.tag_setTag_of_ne (s : State) {r x : Nat} (t : Tag) (hs : Memory.wf s.mem) (h : x ≠ r) :
    (s.setTag r t).tag x = s.tag x := by
  refine s.tag_poke_of_apart hs ?_
  rw [t.bytes_length]
  unfold tagAddr
  omega

/-- The rows lie below the tags (R194). -/
theorem State.row_setTag (s : State) {r x : Nat} (t : Tag) (hs : Memory.wf s.mem) (hx : x < 16384) :
    (s.setTag r t).row x = s.row x := by
  refine s.row_poke_of_apart hs (.inl ?_)
  unfold tagAddr rowAddr
  omega

theorem State.peek_of_mem {t u : State} (h : t.mem = u.mem) (a n : Nat) : t.peek a n = u.peek a n := by
  rw [State.peek, h, State.peek]

theorem State.tag_of_mem {t u : State} (h : t.mem = u.mem) (r : Nat) : t.tag r = u.tag r := by
  rw [State.tag, State.peekNat, State.peek_of_mem h, State.tag, State.peekNat]

theorem State.row_of_mem {t u : State} (h : t.mem = u.mem) (r : Nat) : t.row r = u.row r := by
  rw [State.row, State.peekNat, State.peek_of_mem h, State.row, State.peekNat]

/-! ### Checks in their order -/

theorem firstFailed_nil : firstFailed [] = none := rfl

theorem firstFailed_cons (good : Bool) (x : Nat × Nat) (l : List (Bool × Nat × Nat)) :
    firstFailed ((good, x) :: l) = if good then firstFailed l else some x := by
  cases good <;> rfl

theorem firstFailed_step {p : Prop} [Decidable p] {good : Bool} {x : Nat × Nat} {a : Option (Nat × Nat)}
    {l : List (Bool × Nat × Nat)} (hp : p ↔ good = false) (ha : a = firstFailed l) :
    (if p then some x else a) = firstFailed ((good, x) :: l) := by
  rw [firstFailed_cons, ← ha]
  cases good
  · exact if_pos (hp.2 rfl)
  · exact if_neg fun h => Bool.noConfusion (hp.1 h)

/-- The checks of R305, in their order. -/
theorem headerFailure_eq (auth : Bool) (key h : List Byte) : headerFailure auth key h = firstFailed
    [(decide (slice h 0 4 = [0x53#8, 0x4C#8, 0x36#8, 0x34#8]), 1, 0),
     (decide (fieldAt h 220 4 = (crc32 (slice h 0 220)).toNat), 2, 220), (decide (fieldAt h 4 2 = 1), 3, 4),
     (decide (byteAt h 6 ∈ [0x03, 0x0B, 0x6B]), 3, 6), (decide (byteAt h 7 ≤ 2), 3, 7),
     (decide (1 ≤ byteAt h 9) && decide (byteAt h 9 ≤ 100), 3, 9),
     (decide (1 ≤ byteAt h 10) && decide (byteAt h 10 ≤ 4), 3, 10), (decide (fieldAt h 24 2 ≤ 8192), 3, 24),
     (decide (fieldAt h 28 4 = 2048 + 1064 * fieldAt h 24 2), 3, 28),
     (!auth || decide (byteAt h 8 / 2 % 2 = 1), 4, 8),
     (!auth || decide (slice h 224 32 = hmacSha256 key (slice h 0 224)), 4, 224)] := by
  unfold headerFailure
  refine firstFailed_step ?_ (firstFailed_step ?_ (firstFailed_step ?_ (firstFailed_step ?_ (firstFailed_step ?_
    (firstFailed_step ?_ (firstFailed_step ?_ (firstFailed_step ?_ (firstFailed_step ?_ (firstFailed_step ?_
    (firstFailed_step ?_ rfl))))))))))
  · simp
  · simp
  · simp
  · simp
  · simp
  · simp; omega
  · simp; omega
  · simp
  · simp [planLen, recordLen]
  · rw [bitOf_eq]; simp
  · simp

/-! ### A refusal -/

theorem State.withoutImage_lib (s : State) : s.withoutImage.lib = { s.lib with
    stage := .over, accepted := false, closed := true, seed := 0x5EED0640A5C31B27, header := {}, planBuiltIn := true
    built := true, rebuilding := false } := rfl

/-- Nothing below the band plan changes when the image is refused (R255). -/
theorem State.read_withoutImage (s : State) {a : Nat} (h : a < 0x05000000) :
    Memory.read s.withoutImage.mem a = Memory.read s.mem a := by
  unfold State.withoutImage State.builtInPlan State.storeParams State.buildItems
  simp only [State.poke_mem, State.wipe_mem]
  rw [Memory.read_writeBytes, if_neg (by unfold encBase; omega), Memory.read_writeBytes, if_neg (by unfold paramAddr; omega),
    Memory.read_writeBytes, if_neg (by unfold paramAddr; omega), Memory.read_clear, if_neg (by unfold planAddr; omega)]

theorem State.withoutImage_kept (s : State) : s.withoutImage.mode = s.mode ∧ s.withoutImage.clock = s.clock ∧
    s.withoutImage.flash = s.flash ∧ s.withoutImage.out = s.out ∧ s.withoutImage.flue = s.flue ∧
    s.withoutImage.ash = s.ash ∧ s.withoutImage.ts = s.ts := ⟨rfl, rfl, rfl, rfl, rfl, rfl, rfl⟩

theorem State.refuse_refusesImage {s : State} (hm : s.mode = .load) (cause addr : Nat) :
    (s.refuse cause addr).clock = s.clock ∧ s.refusesImage (s.refuse cause addr) cause addr := by
  obtain ⟨hmode, hclock, hflash, hout, hflue, hash, hts⟩ := s.withoutImage_kept
  have hlib := s.withoutImage_lib
  have hread (a : Nat) := s.read_withoutImage (a := a)
  have hevent := s.withoutImage.memoryEvent_records 0x03 .lib addr 0xFFFF cause 0 1
  have hboth := s.withoutImage.memoryEvent_recordedBoth 0x03 .lib addr 0xFFFF cause 0 1
    (by unfold State.dumpHolds; rw [hmode, hm]; rfl)
  unfold State.refuse State.refusalEvent
  generalize s.withoutImage = w at *
  generalize w.memoryEvent 0x03 .lib addr 0xFFFF cause 0 1 = t at *
  obtain ⟨hfields, -, hmem, -⟩ := hevent
  have hlib' : t.lib = _ := (congrArg State.lib hfields).trans hlib
  refine ⟨(congrArg State.clock hfields).trans hclock, (congrArg State.mode hfields).trans hmode, hlib', ?depth, ?mclass,
    ?plan, (congrArg State.flash hfields).trans hflash, ?fault, fun a ha => ?mem, ?flue, ?ash⟩
  case depth => rw [State.depth, hlib']; rfl
  case mclass => rw [State.mclass, hlib']; rfl
  case plan => rw [State.plan, hlib']; rfl
  case fault => exact (congrArg (fun u : State => u.out.fault) hfields).trans (congrArg Outputs.fault hout :)
  case mem => exact (hmem a (.inl (by unfold e2eMarkAddr persistBase; omega))).trans (hread a ha)
  case flue => rw [hboth.1, hflue]
  case ash => rw [hboth.2, hash]

/-- Settles O30: the checks as one list, and what each outcome leaves. -/
theorem libraryHeader : Obligations.LibraryHeader := by
  unfold Obligations.LibraryHeader
  intro s dt h hm hstage hlen field mac bad
  have hbad : headerFailure (s.elapse dt).imageAuth (s.elapse dt).tap.image.bytes h = bad := headerFailure_eq _ _ _
  have hcond : (decide (s.mode = .load) && decide (s.lib.stage = .header)) = true := by simp [hm, hstage]
  refine ⟨fun hnone => ?taken, fun cause addr hsome => ?refused⟩
  case taken =>
    refine (eventOf_agrees (decide_eq_true hlen) hcond ?_ : ∃ t, execLibraryHeaderReadComplete dt h s = .next t ∧ t.agrees _)
    rw [hbad, hnone]
    rfl
  case refused =>
    have hexec : execLibraryHeaderReadComplete dt h s = _ := eventOf_next _ _ _ _ _ (decide_eq_true hlen) hcond
    dsimp only at hexec
    rw [hbad, hsome] at hexec
    dsimp only at hexec
    obtain ⟨hclock, hrefuse⟩ := State.refuse_refusesImage (s := s.elapse dt) hm cause addr
    exact ⟨_, hexec, hclock, hrefuse⟩

/-! ### The items of the body -/

theorem firstFailed_append (l m : List (Bool × Nat × Nat)) : firstFailed (l ++ m) = (firstFailed l).or (firstFailed m) := by
  unfold firstFailed
  rw [List.find?_append]
  cases l.find? (fun c => !c.1) <;> rfl

theorem firstFailed_map {α : Type} (l : List α) (good : α → Bool) (x : α → Nat × Nat) :
    firstFailed (l.map fun i => (good i, x i)) = (l.find? fun i => !good i).map x := by
  unfold firstFailed
  rw [List.find?_map]
  cases h : l.find? fun i => !good i <;> simp [h]

theorem signedOf_eq (n : Nat) : signedOf 32 n = (BitVec.ofNat 32 n).toInt := by
  rw [BitVec.toInt_eq_toNat_cond, BitVec.toNat_ofNat]
  unfold signedOf
  dsimp only
  split <;> split <;> omega

/-- The first check of a band plan that fails, with its cause and address (R305, R306). -/
def planFailure (p : List Byte) : Option (Nat × Nat) :=
  if planCrcGood p then (planContentFailure p).map (fun o => (5, 0x100 + o)) else some (6, 0x8FC)

theorem planFailure_eq (p : List Byte) : planFailure p = firstFailed
    ([(decide (fieldAt p 2044 4 = (crc32 (p.take 2044)).toNat), 6, 0x8FC), (decide (fieldAt p 0 1 ≤ 1), 5, 0x100),
      (decide (fieldAt p 1 1 ≤ 2), 5, 0x101)] ++
     (List.range 224).map (fun i => (decide (fieldAt p (16 + 4 * i) 4 ≤ 65536), 5, 0x110 + 4 * i)) ++
     (List.range 128).map (fun f => (decide ((BitVec.ofNat 32 (fieldAt p (912 + 8 * f) 4)).toInt <
       (BitVec.ofNat 32 (fieldAt p (916 + 8 * f) 4)).toInt), 5, 0x494 + 8 * f))) := by
  have hpairs : planPairOffsets.find? (fun o => decide (65536 < fieldAt p o 4)) =
      ((List.range 224).find? (fun i => !decide (fieldAt p (16 + 4 * i) 4 ≤ 65536))).map (fun i => 16 + 4 * i) := by
    rw [planPairOffsets, List.find?_map]
    simp only [Function.comp_def, ← decide_not, not_le]
  have hfeatures : (fun f => decide (planHi p f ≤ planLo p f)) = fun f => !decide ((BitVec.ofNat 32 (fieldAt p (912 + 8 * f)
      4)).toInt < (BitVec.ofNat 32 (fieldAt p (916 + 8 * f) 4)).toInt) := by
    funext f
    simp only [planHi, planLo, signedOf_eq, ← decide_not, not_lt]
  rw [firstFailed_append, firstFailed_append, firstFailed_map, firstFailed_map]
  unfold planFailure planContentFailure
  rw [hpairs, hfeatures]
  generalize (List.range 224).find? _ = pair
  generalize (List.range 128).find? _ = feature
  rw [show planCrcGood p = decide (fieldAt p 2044 4 = (crc32 (p.take 2044)).toNat) from rfl, firstFailed_cons,
    firstFailed_cons, firstFailed_cons, firstFailed_nil]
  cases decide (fieldAt p 2044 4 = (crc32 (p.take 2044)).toNat)
  · rfl
  · by_cases hload : fieldAt p 0 1 ≤ 1
    · by_cases hwindow : fieldAt p 1 1 ≤ 2
      · rw [decide_eq_true hload, decide_eq_true hwindow, if_neg (show ¬ 1 < byteAt p 0 from not_lt.2 hload),
          if_neg (show ¬ 2 < byteAt p 1 from not_lt.2 hwindow)]
        cases pair with
        | some i => simp [Option.or]; omega
        | none => cases feature with
          | some f => simp [Option.or]; omega
          | none => rfl
      · rw [decide_eq_true hload, decide_eq_false hwindow, if_neg (show ¬ 1 < byteAt p 0 from not_lt.2 hload),
          if_pos (show 2 < byteAt p 1 from not_le.1 hwindow)]
        rfl
    · rw [decide_eq_false hload, if_pos (show 1 < byteAt p 0 from not_le.1 hload)]
      rfl

theorem State.planArrives_eq (s : State) (p : List Byte) : s.planArrives p = match planFailure p with
    | some (cause, addr) => s.refuse cause addr
    | none => { s with lib := { s.lib with stage := .body 1, plan := p, sha := s.lib.sha.feed p } } := by
  unfold State.planArrives planFailure
  cases planCrcGood p
  · rfl
  · cases planContentFailure p <;> rfl

/-- The first check of record `k` that fails, with its cause and address (R305, R306). -/
def recordFailure (k : Nat) (r : List Byte) : Option (Nat × Nat) :=
  if recordCrcGood r then (recordContentFailure r).map (fun o => (5, recordAddr k + o)) else some (6, recordAddr k + 1056)

theorem recordFailure_eq (k : Nat) (r : List Byte) : recordFailure k r = firstFailed
    [(decide (fieldAt r 1056 4 = (crc32 (r.take 1056)).toNat), 6, 0x900 + 1064 * k + 1056),
     (!(recordTag r).valid || decide ((recordTag r).scope.toNat ≤ 32) || decide ((recordTag r).scope.toNat = 63), 5,
       0x900 + 1064 * k + 1040),
     (!(recordTag r).valid || decide ((recordTag r).severity ≠ 3), 5, 0x900 + 1064 * k + 1042)] := by
  have hscope : reservedScope (recordTag r) =
      !(decide ((recordTag r).scope.toNat ≤ 32) || decide ((recordTag r).scope.toNat = 63)) := by
    have hlt := (recordTag r).scope.isLt
    unfold reservedScope
    rw [Bool.eq_iff_iff]
    simp only [Bool.and_eq_true, decide_eq_true_eq, Bool.not_eq_true', Bool.or_eq_false_iff, decide_eq_false_iff_not]
    omega
  unfold recordFailure recordContentFailure
  rw [show recordCrcGood r = decide (fieldAt r 1056 4 = (crc32 (r.take 1056)).toNat) from rfl, firstFailed_cons,
    firstFailed_cons, firstFailed_cons, firstFailed_nil]
  cases decide (fieldAt r 1056 4 = (crc32 (r.take 1056)).toNat)
  · rfl
  · dsimp only
    rw [hscope, Bool.or_assoc]
    cases (recordTag r).valid
    · rfl
    · cases decide ((recordTag r).scope.toNat ≤ 32) || decide ((recordTag r).scope.toNat = 63)
      · rfl
      · simp [recordAddr, recordLen, Nat.add_assoc]

theorem State.recordArrives_eq (s : State) (k : Nat) (r : List Byte) : s.recordArrives k r = match recordFailure k r with
    | some (cause, addr) => s.refuse cause addr
    | none =>
      if decide (k < s.libraryRows) && !s.isRetired k then
        State.loadRow { s with lib := { s.lib with stage := .body (k + 2), sha := s.lib.sha.feed r } } k r
      else { s with lib := { s.lib with stage := .body (k + 2), sha := s.lib.sha.feed r } } := by
  unfold State.recordArrives recordFailure
  cases recordCrcGood r
  · rfl
  · cases recordContentFailure r <;> rfl

/-- The tag that a record leaves until the image is accepted (R302, log 70). -/
def arrivedTag (r : List Byte) : Tag := if (recordTag r).valid then loadedTag (recordTag r) false 0 else {}

theorem State.loadRow_eq (s : State) (k : Nat) (r : List Byte) : s.loadRow k r = { s with
    mem := (s.writeRow k (recordData r) (arrivedTag r)).mem
    ecc := (s.writeRow k (recordData r) (arrivedTag r)).ecc
    lib := { s.lib with rows := if (recordTag r).valid = true then s.lib.rows ++ [k] else s.lib.rows } } := by
  unfold State.loadRow arrivedTag
  dsimp only
  cases (recordTag r).valid <;> rfl

theorem State.libraryRows_le (s : State) : s.libraryRows ≤ 8192 := by
  unfold State.libraryRows
  obtain hlt | hge := Nat.lt_or_ge s.profile 4
  · interval_cases s.profile <;> decide
  · rw [List.getD_eq_default _ _ (by exact hge)]
    decide

/-- What a row write leaves: the row and the tag, and nothing else of the memory (R214). -/
theorem State.row_writeRow (s : State) {k : Nat} (v : HV) (t : Tag) (hs : Memory.wf s.mem) (hk : k < 16384) :
    (s.writeRow k v t).row k = v :=
  ((s.setRow k v).row_setTag t (s.setRow_wf k v hs) hk).trans (s.row_setRow k v hs)

theorem State.tag_writeRow (s : State) (k : Nat) (v : HV) (t : Tag) (hs : Memory.wf s.mem) :
    (s.writeRow k v t).tag k = t := (s.setRow k v).tag_setTag k t (s.setRow_wf k v hs)

theorem State.read_writeRow (s : State) {k a : Nat} (v : HV) (t : Tag) (hrow : a < 1024 * k ∨ 1024 * k + 1024 ≤ a)
    (htag : a < 0x01000000 + 32 * k ∨ 0x01000000 + 32 * k + 32 ≤ a) :
    Memory.read (s.writeRow k v t).mem a = Memory.read s.mem a := by
  unfold State.writeRow State.setTag State.setRow
  rw [State.poke_mem, Memory.read_writeBytes, if_neg (by rw [t.bytes_length, tagAddr]; omega), State.poke_mem,
    Memory.read_writeBytes, if_neg (by rw [hvBytes_length, rowAddr]; omega)]

/-- Settles O31: the checks of an item as one list, and the row of a good record. -/
theorem libraryItem : Obligations.LibraryItem := by
  unfold Obligations.LibraryItem
  intro s dt it hm field int badPlan tag badRecord
  have hplan : planFailure it = badPlan := planFailure_eq it
  have hrecord (k : Nat) : recordFailure k it = badRecord k := recordFailure_eq k it
  refine ⟨fun hstage hlen => ?plan, fun k hstage hk hlen => ?record⟩
  case plan =>
    have hexec : execLibraryItemReceived dt it s = _ := eventOf_next _ _ _ _ _ (by rw [hstage]; exact decide_eq_true hlen)
      (by rw [State.elapse_lib, hstage]; simp [hm])
    rw [State.elapse_lib, hstage] at hexec
    dsimp only at hexec
    rw [State.planArrives_eq, hplan] at hexec
    refine ⟨fun hnone => ?_, fun cause addr hsome => ?_⟩
    · rw [hnone] at hexec
      exact ⟨_, hexec, State.settle_agrees _⟩
    · rw [hsome] at hexec
      obtain ⟨hclock, hrefuse⟩ := State.refuse_refusesImage (s := s.elapse dt) hm cause addr
      exact ⟨_, hexec, hclock, hrefuse⟩
  case record =>
    have hexec : execLibraryItemReceived dt it s = _ := eventOf_next _ _ _ _ _ (by rw [hstage]; exact decide_eq_true hlen)
      (by rw [State.elapse_lib, hstage]; simp [hm, hk])
    rw [State.elapse_lib, hstage] at hexec
    dsimp only at hexec
    rw [State.recordArrives_eq, hrecord] at hexec
    refine ⟨fun hnone => ?_, fun cause addr hsome => ?_⟩
    · rw [hnone] at hexec
      dsimp only at hexec
      by_cases hin : k < s.libraryRows ∧ k / 64 ∉ s.hearth.retired
      · have hguard : (decide (k < s.libraryRows) && !s.isRetired k) = true := by
          simpa [State.isRetired, bankOf] using hin
        rw [if_pos (by exact hguard), State.loadRow_eq] at hexec
        have hk : k < 16384 := hin.1.trans_le (s.libraryRows_le.trans (by decide))
        refine ⟨_, hexec, ?_, fun _ _ hs => ⟨?_, ?_, fun a hrow htag => ?_⟩, fun hout => ?_⟩
        · have hrows : (if tag.valid = true then s.lib.rows ++ [k] else s.lib.rows) =
              if tag.valid = true ∧ k < s.libraryRows ∧ k / 64 ∉ s.hearth.retired then s.lib.rows ++ [k] else s.lib.rows := by
            simp [hin]
          rw [← hrows]
          exact State.settle_agrees _
        · exact State.row_writeRow _ _ _ hs hk
        · exact State.tag_writeRow _ _ _ _ hs
        · exact State.read_writeRow _ _ _ hrow htag
        · exact absurd hout (by simpa using hin)
      · have hguard : (decide (k < s.libraryRows) && !s.isRetired k) ≠ true := by
          simpa [State.isRetired, bankOf] using hin
        rw [if_neg (by exact hguard)] at hexec
        refine ⟨_, hexec, ?_, fun hrow hbank => absurd ⟨hrow, hbank⟩ hin, fun _ => ⟨rfl, rfl⟩⟩
        rw [if_neg (fun h => hin h.2)]
        exact State.settle_agrees _
    · rw [hsome] at hexec
      obtain ⟨hclock, hrefuse⟩ := State.refuse_refusesImage (s := s.elapse dt) hm cause addr
      exact ⟨_, hexec, hclock, hrefuse⟩

/-! ### The body is complete -/

/-- A field of a row's tag is set, the rest of the tag kept. -/
def State.editTag (f : Tag → Tag) (s : State) (r : Nat) : State := s.setTag r (f (s.tag r))

theorem State.foldl_editTag_fields (f : Tag → Tag) (l : List Nat) (v : State) : l.foldl (State.editTag f) v = { v with
    mem := (l.foldl (State.editTag f) v).mem, ecc := (l.foldl (State.editTag f) v).ecc } := by
  induction l generalizing v with
  | nil => rfl
  | cons r l ih => exact ih (v.editTag f r)

theorem State.foldl_editTag {f : Tag → Tag} (hf : ∀ t, f (f t) = f t) (l : List Nat) {v : State} (hs : Memory.wf v.mem) :
    Memory.wf (l.foldl (State.editTag f) v).mem ∧ (∀ r, r < 16384 → (l.foldl (State.editTag f) v).row r = v.row r) ∧
    (∀ r ∈ l, (l.foldl (State.editTag f) v).tag r = f (v.tag r)) ∧
    (∀ r ∉ l, (l.foldl (State.editTag f) v).tag r = v.tag r) := by
  induction l generalizing v with
  | nil => exact ⟨hs, fun _ _ => rfl, nofun, fun _ _ => rfl⟩
  | cons x l ih =>
    obtain ⟨hwf, hrow, hin, hout⟩ := ih (v := v.editTag f x) (v.setTag_wf x _ hs)
    have hself : (v.editTag f x).tag x = f (v.tag x) := v.tag_setTag x _ hs
    have hother {r : Nat} (h : r ≠ x) : (v.editTag f x).tag r = v.tag r := v.tag_setTag_of_ne _ hs h
    refine ⟨hwf, fun r hr => (hrow r hr).trans (v.row_setTag _ hs hr), fun r hr => ?_, fun r hr => ?_⟩
    · by_cases hl : r ∈ l
      · refine (hin r hl).trans ?_
        by_cases hx : r = x
        · rw [hx, hself, hf]
        · rw [hother hx]
      · obtain rfl | hmem := List.mem_cons.1 hr
        · exact (hout _ hl).trans hself
        · exact absurd hmem hl
    · rw [List.mem_cons, not_or] at hr
      exact (hout r hr.2).trans (hother hr.1)

/-- Makes the row of a good record valid (R303). -/
def State.validate : State → Nat → State := State.editTag (fun t => { t with valid := true })

/-- What an accepted image leaves (R172, R178, R303). -/
theorem State.acceptImage_fields (s : State) : ∃ e, s.acceptImage = { s with
    mem := Memory.writeBytes (Memory.writeBytes (Memory.writeBytes (s.lib.rows.foldl State.validate s).mem planAddr s.lib.plan)
      paramAddr (leBytes 8 (effectiveSeed s.lib.header.seed) ++ [BitVec.ofNat 8 s.lib.header.depth,
        BitVec.ofNat 8 s.lib.header.mclass])) encBase (itemMemory (effectiveSeed s.lib.header.seed))
    ecc := e
    lib := { s.lib with
      stage := .over, accepted := true, planBuiltIn := false, plan := [], built := true, rebuilding := false
      seed := effectiveSeed s.lib.header.seed, asleep := s.lib.header.sleeps }
    flash := s.flash ++ s.lib.header.sleepCmd } := by
  have hfields : s.lib.rows.foldl State.validate s = { s with
      mem := (s.lib.rows.foldl State.validate s).mem, ecc := (s.lib.rows.foldl State.validate s).ecc } :=
    State.foldl_editTag_fields _ s.lib.rows s
  refine ⟨s.acceptImage.ecc, ?_⟩
  unfold State.acceptImage State.storeParams State.buildItems
  rw [show (s.lib.rows.foldl (fun s r => s.setTag r { s.tag r with valid := true }) s) =
    s.lib.rows.foldl State.validate s from rfl, hfields]
  simp only [State.poke, State.depth, State.mclass, if_true]

/-- The plan, the parameters and the item memory lie above every row and tag (R194, R255). -/
theorem State.pokes_above_rows (v : State) (plan params items : List Byte) (hs : Memory.wf v.mem) (hlen : params.length = 10)
    {r : Nat} (hr : r < 16384) :
    (((v.poke planAddr plan).poke paramAddr params).poke encBase items).tag r = v.tag r ∧
    (((v.poke planAddr plan).poke paramAddr params).poke encBase items).row r = v.row r ∧
    (plan.length = 2048 → (((v.poke planAddr plan).poke paramAddr params).poke encBase items).peek planAddr 2048 = plan) := by
  have hs1 := v.poke_wf planAddr plan hs
  have hs2 := (v.poke planAddr plan).poke_wf paramAddr params hs1
  have htag : tagAddr r + 32 ≤ planAddr := by unfold tagAddr planAddr; omega
  have hrow : rowAddr r + 1024 ≤ planAddr := by unfold rowAddr planAddr; omega
  refine ⟨?_, ?_, fun hplan => ?_⟩
  · rw [State.tag_poke_of_apart _ hs2 (.inl (by unfold planAddr at htag; unfold encBase; omega)),
      State.tag_poke_of_apart _ hs1 (.inl (by unfold planAddr at htag; unfold paramAddr; omega)),
      State.tag_poke_of_apart _ hs (.inl htag)]
  · rw [State.row_poke_of_apart _ hs2 (.inl (by unfold planAddr at hrow; unfold encBase; omega)),
      State.row_poke_of_apart _ hs1 (.inl (by unfold planAddr at hrow; unfold paramAddr; omega)),
      State.row_poke_of_apart _ hs (.inl hrow)]
  · rw [State.peek_poke_of_apart _ hs2 (.inl (by unfold planAddr encBase; omega)),
      State.peek_poke_of_apart _ hs1 (.inl (by unfold planAddr paramAddr; omega)), v.peek_poke _ hs hplan]

/-- Settles O32: the digest, and in an accepted image the rows made valid before the plan is stored. -/
theorem libraryBody : Obligations.LibraryBody := by
  unfold Obligations.LibraryBody
  intro s dt hm hstage
  have hcond : (decide (s.mode = .load) && decide (s.lib.stage = .body (s.lib.header.nrows + 1))) = true := by
    simp [hm, hstage]
  have hexec : execLibraryBodyComplete dt s = _ := event_next _ _ _ _ hcond
  refine ⟨fun hdigest => ?accepted, fun hdigest => ?refused⟩
  case accepted =>
    rw [if_pos (by exact hdigest)] at hexec
    obtain ⟨e, haccept⟩ := (s.elapse dt).acceptImage_fields
    generalize hparams : leBytes 8 (effectiveSeed (s.elapse dt).lib.header.seed) ++ [BitVec.ofNat 8
      (s.elapse dt).lib.header.depth, BitVec.ofNat 8 (s.elapse dt).lib.header.mclass] = params at haccept
    generalize itemMemory (effectiveSeed (s.elapse dt).lib.header.seed) = items at haccept
    rw [haccept] at hexec
    refine ⟨_, hexec, hm, rfl, rfl, fun hs => ?_⟩
    obtain ⟨hwf, hrow, hin, hout⟩ := State.foldl_editTag (f := fun t => { t with valid := true }) (fun _ => rfl) s.lib.rows (v := s.elapse dt) hs
    have hlen : params.length = 10 := by rw [← hparams]; simp
    have habove (r : Nat) (hr : r < 8192) := State.pokes_above_rows _ s.lib.plan params items hwf hlen (r := r) (by omega)
    refine ⟨fun r hr hlt => ?_, fun r hlt hr _ => ?_, fun hplan => ?_⟩
    · obtain ⟨htag, hrow', -⟩ := habove r hlt
      exact ⟨htag.trans (hin r hr), hrow'.trans (hrow r (by omega))⟩
    · obtain ⟨htag, hrow', -⟩ := habove r hlt
      exact ⟨htag.trans (hout r hr), hrow'.trans (hrow r (by omega))⟩
    · exact congrArg some ((habove 0 (by decide)).2.2 hplan)
  case refused =>
    rw [if_neg (by exact hdigest)] at hexec
    obtain ⟨hclock, hrefuse⟩ := State.refuse_refusesImage (s := s.elapse dt) hm 6 0x20
    exact ⟨_, hexec, hclock, hrefuse⟩

end Sys2Proof.Machine
end

section
/-! Rows and their tags (10_hearth.md): the rows whose tag is not all zero, rows that are freed, the empty fleet partition. -/

namespace Sys2Proof.Machine

/-! ### Sparse maps -/

theorem errorsAt_nil (k : Nat) : errorsAt [] k = 0 := rfl

theorem errorsAt_cons (e : Nat × Nat) (l : List (Nat × Nat)) (k : Nat) :
    errorsAt (e :: l) k = if e.1 = k then e.2 else errorsAt l k := by
  unfold errorsAt
  by_cases h : e.1 = k <;> simp [h]

theorem errorsAt_append_of_none {l m : List (Nat × Nat)} {k : Nat} (h : ∀ e ∈ l, e.1 ≠ k) :
    errorsAt (l ++ m) k = errorsAt m k := by
  induction l with
  | nil => rfl
  | cons e l ih =>
    rw [List.cons_append, errorsAt_cons, if_neg (h e List.mem_cons_self)]
    exact ih fun x hx => h x (List.mem_cons_of_mem _ hx)

theorem errorsAt_append_of_none_right {l m : List (Nat × Nat)} {k : Nat} (h : ∀ e ∈ m, e.1 ≠ k) :
    errorsAt (l ++ m) k = errorsAt l k := by
  induction l with
  | nil =>
    have hnone := errorsAt_append_of_none (m := []) h
    rwa [List.append_nil] at hnone
  | cons e l ih => rw [List.cons_append, errorsAt_cons, errorsAt_cons, ih]

theorem errorsAt_setErrors (l : List (Nat × Nat)) (a n k : Nat) :
    errorsAt (setErrors l a n) k = if k = a then n else errorsAt l k := by
  unfold setErrors
  dsimp only
  have hrest : errorsAt (l.filter fun e => !decide (e.1 = a)) k = if k = a then 0 else errorsAt l k := by
    rw [errorsAt_filter l (fun x => !decide (x = a))]
    by_cases hk : k = a <;> simp [hk]
  split
  next hn => rw [hrest, hn]
  · generalize l.filter (fun e => !decide (e.1 = a)) = rest at hrest
    obtain hlt | rfl | hgt := Nat.lt_trichotomy k a
    · rw [errorsAt_append_of_none_right, errorsAt_filter rest (fun x => decide (x < a)), if_pos (by simpa using hlt), hrest,
        if_neg hlt.ne, if_neg hlt.ne]
      intro e he
      obtain rfl | he := List.mem_cons.1 he
      · exact hlt.ne'
      · exact (hlt.trans (by simpa using (List.mem_filter.1 he).2)).ne'
    · rw [errorsAt_append_of_none, errorsAt_cons, if_pos rfl, if_pos rfl]
      intro e he
      exact (show e.1 < k by simpa using (List.mem_filter.1 he).2).ne
    · rw [errorsAt_append_of_none, errorsAt_cons, if_neg hgt.ne, errorsAt_filter rest (fun x => decide (a < x)),
        if_pos (by simpa using hgt), hrest, if_neg hgt.ne', if_neg hgt.ne']
      intro e he
      exact (lt_trans (show e.1 < a by simpa using (List.mem_filter.1 he).2) hgt).ne

theorem sparse_setSparse (l : List (Nat × Nat)) (a n k : Nat) :
    sparse (setSparse l a n) k = if k = a then n else sparse l k := errorsAt_setErrors l a n k

/-! ### The rows whose tag is not all zero -/

theorem mem_squeeze {l : List Nat} {x : Nat} : x ∈ squeeze l ↔ x ∈ l := by
  induction l using squeeze.induct with
  | case1 => rfl
  | case2 a => rfl
  | case3 a l ih => rw [squeeze, if_pos rfl, ih]; simp
  | case4 a b l h ih => rw [squeeze, if_neg h, List.mem_cons, ih]; exact List.mem_cons.symm

theorem squeeze_sorted {l : List Nat} (h : l.Pairwise (· ≤ ·)) : (squeeze l).Pairwise (· < ·) := by
  induction l using squeeze.induct with
  | case1 => exact .nil
  | case2 a => exact List.pairwise_singleton _ a
  | case3 a l ih => rw [squeeze, if_pos rfl]; exact ih (List.pairwise_cons.1 h).2
  | case4 a b l hne ih =>
    rw [squeeze, if_neg hne, List.pairwise_cons]
    obtain ⟨hle, htail⟩ := List.pairwise_cons.1 h
    refine ⟨fun x hx => ?_, ih htail⟩
    have hb : b ≤ x := by
      obtain rfl | hx := List.mem_cons.1 (mem_squeeze.1 hx)
      · exact le_rfl
      · exact (List.pairwise_cons.1 htail).1 x hx
    exact (lt_of_le_of_ne (hle b List.mem_cons_self) hne).trans_le hb

theorem State.taggedRows_sorted {s : State} (hs : Memory.wf s.mem) : s.taggedRows.Pairwise (· < ·) := by
  refine squeeze_sorted (List.pairwise_map.2 ?_)
  refine (hs.1.filter _).imp_of_mem fun {c d} hc hd h => ?_
  omega

theorem State.taggedRows_lt {s : State} {r : Nat} (h : r ∈ s.taggedRows) : r < 16384 := by
  obtain ⟨c, hc, rfl⟩ := List.mem_map.1 (mem_squeeze.1 h)
  have := (List.mem_filter.1 hc).2
  simp only [Bool.and_eq_true, decide_eq_true_eq] at this
  omega

/-- Only a row of the list has a tag that is not all zero. -/
theorem State.read_of_not_tagged {s : State} {r a : Nat} (hr : r < 16384) (h : r ∉ s.taggedRows) (ha : tagAddr r ≤ a)
    (ha' : a < tagAddr r + 32) : Memory.read s.mem a = 0 := by
  refine Memory.read_none _ _ fun c hc hca => h ?_
  subst hca
  unfold tagAddr at ha ha'
  refine mem_squeeze.2 (List.mem_map.2 ⟨c, List.mem_filter.2 ⟨hc, ?_⟩, ?_⟩)
  · simp only [Bool.and_eq_true, decide_eq_true_eq]
    omega
  · omega

theorem leNat_replicate_zero (n : Nat) : leNat (List.replicate n 0#8) = 0 := by
  induction n with
  | zero => rfl
  | succ n ih => simp [List.replicate_succ, leNat, ih]

theorem State.tag_of_not_tagged {s : State} {r : Nat} (hs : Memory.wf s.mem) (hr : r < 16384) (h : r ∉ s.taggedRows) :
    s.tag r = {} := by
  have hzero : s.peek (tagAddr r) 32 = List.replicate 32 0#8 := by
    rw [State.peek, Memory.readBytes_eq _ _ _ hs, List.eq_replicate_iff]
    refine ⟨by simp, fun b hb => ?_⟩
    obtain ⟨i, hi, rfl⟩ := List.mem_map.1 hb
    exact State.read_of_not_tagged hr h (Nat.le_add_right _ _) (by have := List.mem_range.1 hi; omega)
  rw [State.tag, State.peekNat, hzero, leNat_replicate_zero]
  rfl

theorem State.mem_taggedRows_of_valid {s : State} {r : Nat} (hs : Memory.wf s.mem) (hr : r < 16384)
    (h : (s.tag r).valid = true) : r ∈ s.taggedRows := by
  by_contra hn
  rw [State.tag_of_not_tagged hs hr hn] at h
  exact Bool.noConfusion h

/-- Rows picked from the list are counted over the whole hearth. -/
theorem State.length_filter_taggedRows {s : State} {p q : Nat → Bool} (hs : Memory.wf s.mem)
    (h : ∀ r, r < 16384 → (r ∈ s.taggedRows ∧ p r = true ↔ q r = true)) :
    (s.taggedRows.filter p).length = (List.range 16384).countP q := by
  rw [List.countP_eq_length_filter]
  refine List.Perm.length_eq ((List.perm_ext_iff_of_nodup ?_ ?_).2 fun r => ?_)
  · exact ((State.taggedRows_sorted hs).imp Nat.ne_of_lt).filter _
  · exact List.nodup_range.filter _
  · rw [List.mem_filter, List.mem_filter, List.mem_range]
    constructor
    · exact fun hr => ⟨State.taggedRows_lt hr.1, (h r (State.taggedRows_lt hr.1)).1 hr⟩
    · exact fun ⟨hlt, hq⟩ => (h r hlt).2 hq

/-! ### Rows that are freed -/

/-- The dirty flags once a row's tag is to be mirrored (R276). -/
def tagDirty (old : List Dirty) (row : Nat) : List Dirty :=
  if row < 8192 then old
  else if old.any (fun d => decide (d.row = row)) then
    old.map (fun d => if d.row = row then { d with data := d.data || false, tag := d.tag || true } else d)
  else old ++ [⟨row, false, true⟩]

theorem State.markDirty_tag (s : State) (row : Nat) :
    s.markDirty row false true = { s with vault := { s.vault with dirty := tagDirty s.vault.dirty row } } := by
  unfold State.markDirty tagDirty
  split <;> rfl

/-- A row's tag counts as dirty. -/
def tagFlagged (l : List Dirty) (row : Nat) : Bool := l.any (fun d => decide (d.row = row) && d.tag)

theorem tagFlagged_tagDirty {l : List Dirty} {row : Nat} (h : 8192 ≤ row) : tagFlagged (tagDirty l row) row = true := by
  unfold tagFlagged tagDirty
  rw [if_neg (not_lt.2 h)]
  split
  next hany =>
    obtain ⟨d, hd, hrow⟩ := List.any_eq_true.1 hany
    refine List.any_eq_true.2 ⟨_, List.mem_map_of_mem hd, ?_⟩
    have hrow : d.row = row := of_decide_eq_true hrow
    simp [hrow]
  · exact List.any_eq_true.2 ⟨⟨row, false, true⟩, List.mem_append_right _ (List.mem_singleton.2 rfl), by simp⟩

theorem tagFlagged_tagDirty_of_flagged {l : List Dirty} {row r : Nat} (h : tagFlagged l r = true) :
    tagFlagged (tagDirty l row) r = true := by
  obtain ⟨d, hd, hflag⟩ := List.any_eq_true.1 h
  unfold tagFlagged tagDirty
  split
  · exact h
  · split
    · refine List.any_eq_true.2 ⟨_, List.mem_map_of_mem hd, ?_⟩
      by_cases hrow : d.row = row
      · rw [if_pos hrow]
        simpa using Bool.and_eq_true_iff.1 hflag |>.1
      · rw [if_neg hrow]
        exact hflag
    · exact List.any_eq_true.2 ⟨d, List.mem_append_left _ hd, hflag⟩

theorem mem_tagDirty {l : List Dirty} {row : Nat} {d : Dirty} (h : d ∈ tagDirty l row) : d ∈ l ∨ d.row = row := by
  unfold tagDirty at h
  split at h
  · exact .inl h
  · split at h
    · obtain ⟨e, he, rfl⟩ := List.mem_map.1 h
      split
      next hrow => exact .inr hrow
      · exact .inl he
    · obtain h | h := List.mem_append.1 h
      · exact .inl h
      · exact .inr (by rw [List.mem_singleton.1 h])

theorem State.freeRow_fields (s : State) (row : Nat) : ∃ l, s.freeRow row = { s with
    mem := (s.setTag row { s.tag row with valid := false }).mem
    ecc := (s.setTag row { s.tag row with valid := false }).ecc
    vault := { s.vault with dirty := tagDirty s.vault.dirty row }
    learn := { s.learn with accums := s.learn.accums.filter (fun a => !decide (a.row = row)), lives := l } } := by
  unfold State.freeRow
  rw [State.markDirty_tag]
  exact ⟨_, rfl⟩

/-- What freeing rows changes. -/
theorem State.foldl_freeRow_fields (rows : List Nat) (s : State) : ∃ m e l, rows.foldl State.freeRow s = { s with
    mem := m
    ecc := e
    vault := { s.vault with dirty := rows.foldl tagDirty s.vault.dirty }
    learn := { s.learn with accums := s.learn.accums.filter (fun a => !rows.contains a.row), lives := l } } := by
  induction rows generalizing s with
  | nil => exact ⟨s.mem, s.ecc, s.learn.lives, by simp⟩
  | cons row rows ih =>
    obtain ⟨l, hone⟩ := s.freeRow_fields row
    obtain ⟨m, e, l', hrest⟩ := ih (s.freeRow row)
    refine ⟨m, e, l', hrest.trans ?_⟩
    have haccums : (s.learn.accums.filter fun a => !decide (a.row = row)).filter (fun a => !rows.contains a.row) =
        s.learn.accums.filter fun a => !(row :: rows).contains a.row := by
      rw [List.filter_filter]
      refine List.filter_congr fun a _ => ?_
      rw [List.contains_cons, Bool.not_or, Bool.and_comm]
      rfl
    rw [hone]
    exact congrArg (fun as => { s with
      mem := m, ecc := e, vault := { s.vault with dirty := rows.foldl tagDirty (tagDirty s.vault.dirty row) }
      learn := { s.learn with accums := as, lives := l' } }) haccums

/-- The tags and rows once some rows have been freed (R235, R236). -/
theorem State.foldl_freeRow_rows (rows : List Nat) {s : State} (hs : Memory.wf s.mem) :
    Memory.wf (rows.foldl State.freeRow s).mem ∧
    (∀ r, r < 16384 → (rows.foldl State.freeRow s).row r = s.row r ∧
      (rows.foldl State.freeRow s).tag r = if rows.contains r then { s.tag r with valid := false } else s.tag r) ∧
    ((∀ r ∈ rows, r < 16384) → ∀ a, a < 0x01000000 ∨ 0x01080000 ≤ a →
      Memory.read (rows.foldl State.freeRow s).mem a = Memory.read s.mem a) := by
  induction rows generalizing s with
  | nil => exact ⟨hs, fun r _ => ⟨rfl, rfl⟩, fun _ _ _ => rfl⟩
  | cons row rows ih =>
    obtain ⟨l, hone⟩ := s.freeRow_fields row
    have hmem : (s.freeRow row).mem = (s.setTag row { s.tag row with valid := false }).mem := by rw [hone]
    obtain ⟨hwf, hrows, hread⟩ := ih (s := s.freeRow row) (hmem ▸ s.setTag_wf row _ hs)
    refine ⟨hwf, fun r hr => ⟨?_, ?_⟩, fun hlt a ha => ?_⟩
    · exact (hrows r hr).1.trans ((State.row_of_mem hmem r).trans (s.row_setTag _ hs hr))
    · rw [List.foldl_cons, (hrows r hr).2, State.tag_of_mem hmem r, List.contains_cons]
      by_cases hrow : r = row
      · subst hrow
        rw [s.tag_setTag r _ hs]
        simp
      · rw [s.tag_setTag_of_ne _ hs hrow]
        simp [hrow]
    · rw [List.foldl_cons, hread (fun r hr => hlt r (List.mem_cons_of_mem _ hr)) a ha, hmem]
      have hrow := hlt row List.mem_cons_self
      unfold State.setTag
      rw [State.poke_mem, Memory.read_writeBytes, if_neg]
      rw [Tag.bytes_length, tagAddr]
      omega

theorem tagFlagged_foldl {rows : List Nat} {l : List Dirty} {r : Nat} (hr : 8192 ≤ r) (h : r ∈ rows ∨ tagFlagged l r = true) :
    tagFlagged (rows.foldl tagDirty l) r = true := by
  induction rows generalizing l with
  | nil => exact h.resolve_left (List.not_mem_nil)
  | cons row rows ih =>
    refine ih ?_
    obtain hmem | hflag := h
    · obtain rfl | hmem := List.mem_cons.1 hmem
      · exact .inr (tagFlagged_tagDirty hr)
      · exact .inl hmem
    · exact .inr (tagFlagged_tagDirty_of_flagged hflag)

theorem mem_foldl_tagDirty {rows : List Nat} {l : List Dirty} {d : Dirty} (h : d ∈ rows.foldl tagDirty l) :
    d ∈ l ∨ d.row ∈ rows := by
  induction rows generalizing l with
  | nil => exact .inl h
  | cons row rows ih =>
    obtain h | h := ih h
    · exact (mem_tagDirty h).imp_right fun hrow => by rw [hrow]; exact List.mem_cons_self
    · exact .inr (List.mem_cons_of_mem _ h)

/-! ### The empty fleet partition -/

theorem State.foldl_setTag_fields (rows : List Nat) (t : Tag) (s : State) : ∃ m e,
    rows.foldl (fun s r => s.setTag r t) s = { s with mem := m, ecc := e } := by
  induction rows generalizing s with
  | nil => exact ⟨s.mem, s.ecc, rfl⟩
  | cons row rows ih => exact ih (s.setTag row t)

theorem State.foldl_setTag_tag (rows : List Nat) (t : Tag) {s : State} (hs : Memory.wf s.mem) :
    Memory.wf (rows.foldl (fun s r => s.setTag r t) s).mem ∧
    ∀ r, (rows.foldl (fun s r => s.setTag r t) s).tag r = if r ∈ rows then t else s.tag r := by
  induction rows generalizing s with
  | nil => exact ⟨hs, fun r => by simp⟩
  | cons row rows ih =>
    obtain ⟨hwf, htag⟩ := ih (s.setTag_wf row t hs)
    refine ⟨hwf, fun r => ?_⟩
    rw [List.foldl_cons, htag r]
    by_cases hrow : r = row
    · subst hrow
      rw [s.tag_setTag r t hs]
      simp
    · rw [s.tag_setTag_of_ne t hs hrow]
      simp [hrow]

/-- The fleet partition holds no valid row (R71). -/
theorem State.emptyFleet_valid {s : State} (hs : Memory.wf s.mem) {r : Nat} (hr : r < 16384) (hp : s.partition r = 3) :
    (s.emptyFleet.tag r).valid = false := by
  obtain ⟨-, htag⟩ := State.foldl_setTag_tag (s.taggedRows.filter (fun r => decide (s.partition r = 3))) (freedTag 3) hs
  refine (congrArg Tag.valid (htag r)).trans ?_
  split
  · rfl
  next h =>
    by_contra hvalid
    have hmem := State.mem_taggedRows_of_valid hs hr (Bool.not_eq_false _ ▸ hvalid)
    exact h (List.mem_filter.2 ⟨hmem, decide_eq_true hp⟩)

end Sys2Proof.Machine
end

section
/-! Entry to RUN (03_power_reset_ember.md): from LOAD, and from BANKED. -/

namespace Sys2Proof.Machine

theorem State.peek_wipe_of_apart (s : State) {a n x w : Nat} (hs : Memory.wf s.mem) (h : x + w ≤ a ∨ a + n ≤ x) :
    (s.wipe a n).peek x w = s.peek x w := by
  rw [State.peek, State.wipe_mem, Memory.readBytes_eq _ _ _ (Memory.wf_clear _ _ _ hs), State.peek,
    Memory.readBytes_eq _ _ _ hs]
  refine List.map_congr_left fun i hi => ?_
  have hi := List.mem_range.1 hi
  rw [Memory.read_clear, if_neg (by omega)]

theorem State.tag_wipe_of_apart (s : State) {a n r : Nat} (hs : Memory.wf s.mem)
    (h : tagAddr r + 32 ≤ a ∨ a + n ≤ tagAddr r) : (s.wipe a n).tag r = s.tag r := by
  rw [State.tag, State.peekNat, s.peek_wipe_of_apart hs h]
  rfl

theorem State.chansAtEntry_status (s : State) : s.chansAtEntry.map Chan.status = s.chans.map Chan.status := by
  unfold State.chansAtEntry
  rw [List.map_map]
  have hstatus : (Chan.status ∘ fun p : Chan × Nat => if p.2 < s.channels then p.1.enter p.2 else p.1) =
      Chan.status ∘ Prod.fst := by
    funext p
    simp only [Function.comp_apply]
    split <;> rfl
  rw [hstatus, ← List.map_map, List.zipIdx_map_fst]

theorem State.anyWithdrawn_eq (s : State) : s.anyWithdrawn = ((s.chans.map Chan.status).take s.channels).any withdrawn := by
  unfold State.anyWithdrawn State.enabled
  rw [← List.map_take, List.any_map]
  rfl

/-- RUN as it is entered, from a state whose channels stand as they are to be (R52, R64, R65, R71, R89, R90). -/
theorem State.enterRun_entersRun {s v : State} (wake : Option Nat) (hout : v.out = s.out) (hpanel : v.panel = s.panel)
    (hring : v.ring = s.ring) (hlevels : v.learn.levels = s.learn.levels) :
    s.entersRun (v.enterRun wake) := by
  refine ⟨rfl, rfl, ?alert, ?alarm, ?fault, rfl, rfl, rfl, rfl, rfl, ?idle, rfl, rfl, rfl, rfl, rfl, rfl, rfl, rfl, rfl, rfl,
    rfl, rfl, rfl, rfl, rfl, rfl, rfl, rfl, rfl, ?panel, rfl, rfl, ?ring, rfl, rfl, hlevels⟩
  case alert =>
    rw [← hout]
    rfl
  case alarm =>
    rw [← hout]
    rfl
  case fault =>
    have hsame : (v.enterRun wake).anyWithdrawn = v.clearHistory.anyWithdrawn := by
      rw [State.anyWithdrawn_eq, State.anyWithdrawn_eq]
      exact congrArg (fun l => (l.take v.channels).any withdrawn) v.clearHistory.chansAtEntry_status
    rw [hsame, ← hout]
    rfl
  case idle =>
    have hidle : (v.enterRun wake).power.idle = if v.clearHistory.anyValid then Stopwatch.start v.clock else {} := rfl
    rw [hidle]
    split
    · exact .inr rfl
    · exact .inl rfl
  case panel => rw [← hpanel]; rfl
  case ring => rw [← hring]; rfl

theorem State.channels_le (s : State) : s.channels ≤ 32 := by
  unfold State.channels
  generalize s.cfg 2 = n
  obtain hlt | hge := Nat.lt_or_ge n 14
  · interval_cases n <;> decide
  · rw [List.getD_eq_default _ _ (by exact hge)]
    decide

/-- A channel that is enabled, as RUN is entered (R114, R152). -/
theorem State.chansAtEntry_getD (s : State) {c : Nat} (hc : c < s.channels) (hlen : c < s.chans.length) :
    s.chansAtEntry.getD c {} = (s.chans.getD c {}).enter c := by
  unfold State.chansAtEntry
  rw [List.getD_eq_getElem _ _ (by simpa using hlen), List.getD_eq_getElem _ _ hlen, List.getElem_map,
    List.getElem_zipIdx]
  simp [hc]

/-- What RUN keeps of the state it is entered from. -/
theorem State.enterRun_kept (v : State) (wake : Option Nat) : (v.enterRun wake).clock = v.clock ∧
    (v.enterRun wake).learn.accums = v.learn.accums ∧ (v.enterRun wake).fleet.e2e = v.fleet.e2e ∧
    (v.enterRun wake).vault = v.vault ∧ (v.enterRun wake).flue.wakeMask = wake ∧
    (v.enterRun wake).power.spotRun = decide (wake = some 8) ∧ (v.enterRun wake).chans = v.clearHistory.chansAtEntry ∧
    (v.enterRun wake).mem = v.clearHistory.mem := ⟨rfl, rfl, rfl, rfl, rfl, rfl, rfl, rfl⟩

theorem State.entersRun_settle {s t : State} (h : s.entersRun t) : s.entersRun t.settle := h

theorem State.startE2e_fields (s : State) : ∃ e, s.startE2e = { s with
    mem := Memory.writeBytes s.mem e2eMarkAddr (leBytes 8 ((s.vault.e2eMark + 1024) % 65536))
    ecc := e
    vault := { s.vault with e2eMark := (s.vault.e2eMark + 1024) % 65536 }
    fleet := { s.fleet with e2e := s.vault.e2eMark } } := ⟨_, rfl⟩

/-- Settles O33: the channels as they enter RUN, and what the entry keeps. -/
theorem runEntered : Obligations.RunEntered := by
  unfold Obligations.RunEntered
  intro s dt
  refine ⟨fun hm hstage hbuilt => ?load, fun hm hwake hvset hat => ?banked⟩
  case load =>
    have hexec : execLoadComplete dt s = _ := event_next _ _ _ _ (by simp [hm, hstage, hbuilt])
    obtain ⟨e, hstart⟩ := (s.elapse dt).startE2e_fields
    rw [hstart] at hexec
    dsimp only at hexec
    generalize hseasoned : State.seasonedNow _ = seasoned at hexec
    generalize hv : State.mk .. = v at hexec
    obtain ⟨hclock, haccums, he2e, hvault, hmask, -, hchans, -⟩ :=
      v.enterRun_kept (if s.power.waking then some s.power.wakeMask else none)
    have hv' : v.chans = if s.power.waking then s.chans else
        (List.range 32).map (fun c => if c < s.channels then { status := if s.voltageMode then 2 else 1 } else {}) := by
      rw [← hv]; rfl
    have hstatus := v.clearHistory.chansAtEntry_status
    refine ⟨_, hexec, hclock.trans (by rw [← hv]; rfl),
      State.entersRun_settle (State.enterRun_entersRun _ (by rw [← hv]; rfl) (by rw [← hv]; rfl) (by rw [← hv]; rfl)
        (by rw [← hv]; rfl)), haccums.trans (by rw [← hv]), he2e.trans (by rw [← hv]; rfl),
      hvault.trans (by rw [← hv]; rfl), hmask,
      fun hwake c hc => ?fresh, fun hwake => ?held⟩
    case fresh =>
      have hin : c < v.clearHistory.channels := by
        rw [show v.clearHistory.channels = s.channels from by rw [← hv]; rfl]
        exact hc
      have hc32 : c < 32 := hc.trans_le s.channels_le
      rw [hwake] at hv'
      have hlen : c < v.clearHistory.chans.length := by
        rw [show v.clearHistory.chans = v.chans from rfl, hv', if_neg Bool.false_ne_true, List.length_map, List.length_range]
        exact hc32
      have hget : v.clearHistory.chans.getD c {} = { status := if s.voltageMode then 2 else 1 } := by
        rw [show v.clearHistory.chans = v.chans from rfl, hv', if_neg Bool.false_ne_true,
          List.getD_eq_getElem _ _ (by simpa using hc32)]
        simp [hc]
      have hentered := v.clearHistory.chansAtEntry_getD hin hlen
      rw [hget, ← hchans] at hentered
      refine ⟨congrArg Chan.status hentered, (congrArg Chan.page hentered).trans ?_⟩
      unfold Chan.enter
      cases s.voltageMode <;> rfl
    case held =>
      refine (congrArg (List.map Chan.status) hchans).trans (hstatus.trans (congrArg (List.map Chan.status) ?_))
      exact hv'.trans (if_pos hwake)
  case banked =>
    have hcond : (decide (s.mode = .banked) && s.power.waking && decide (s.power.vset = 2) &&
        decide (s.power.vsetAt + per100us ≤ s.clock + dt)) = true :=
      Bool.and_eq_true_iff.2 ⟨by simp [hm, hwake, hvset], decide_eq_true hat⟩
    have hexec : execBankedWakeComplete dt s = _ := event_next _ _ _ _ hcond
    obtain ⟨m, e, hempty⟩ := State.foldl_setTag_fields ((s.elapse dt).taggedRows.filter
      (fun r => decide ((s.elapse dt).partition r = 3))) (freedTag 3) (s.elapse dt)
    have hempty : (s.elapse dt).emptyFleet = { s.elapse dt with mem := m, ecc := e } := hempty
    have hvalid (hs : Memory.wf s.mem) (r : Nat) := State.emptyFleet_valid (s := s.elapse dt) hs (r := r)
    have hwf (hs : Memory.wf s.mem) : Memory.wf (s.elapse dt).emptyFleet.mem :=
      (State.foldl_setTag_tag (s := s.elapse dt) _ _ hs).1
    generalize (s.elapse dt).emptyFleet = v at hexec hempty hvalid hwf
    obtain ⟨hclock, haccums, -, hvault, hmask, hspot, hchans, hmem⟩ := v.enterRun_kept (some s.power.wakeMask)
    have hstatus := v.clearHistory.chansAtEntry_status
    refine ⟨_, hexec, hclock.trans (by rw [hempty]; rfl),
      State.entersRun_settle (State.enterRun_entersRun _ (by rw [hempty]; rfl) (by rw [hempty]; rfl) (by rw [hempty]; rfl)
        (by rw [hempty]; rfl)), hmask, hspot.trans (by simp), haccums.trans (by rw [hempty]; rfl),
      hvault.trans (by rw [hempty]; rfl), ?chans, fun hs r hr hp => ?fleet⟩
    case chans =>
      refine (congrArg (List.map Chan.status) hchans).trans (hstatus.trans ?_)
      rw [show v.clearHistory.chans = v.chans from rfl, hempty]
      rfl
    case fleet =>
      refine (congrArg Tag.valid ?_).trans (hvalid hs r hr hp)
      refine (State.tag_of_mem hmem r).trans (v.tag_wipe_of_apart (hwf hs) (.inl ?_))
      unfold tagAddr historyAddr
      omega

end Sys2Proof.Machine
end

section
/-! Records and memory (14_vault_and_ash.md, 17_fleet.md): a record keeps the memory canonical, and the rows and tags as they
are. -/

namespace Sys2Proof.Machine

theorem State.offerLocal_mem (s : State) (since : Nat) (f : YFrame) : (s.offerLocal since f).mem = s.mem := by
  unfold State.offerLocal
  split
  · rfl
  · split
    · rfl
    · split <;> rfl

theorem State.takeE2e_wf {s : State} (hs : Memory.wf s.mem) : Memory.wf s.takeE2e.2.mem := by
  unfold State.takeE2e
  dsimp only
  split
  · exact Memory.wf_writeBytes _ _ _ hs
  · exact hs

theorem State.originate_wf {s : State} (type chan dst dir : Nat) (payload : List Byte) (hs : Memory.wf s.mem) :
    Memory.wf (s.originate type chan dst dir payload).mem := by
  unfold State.originate
  rw [State.offerLocal_mem]
  exact State.takeE2e_wf hs

theorem State.foldl_wf {α : Type} (f : State → α → State) (hf : ∀ s x, Memory.wf s.mem → Memory.wf (f s x).mem) (l : List α)
    {s : State} (hs : Memory.wf s.mem) : Memory.wf (l.foldl f s).mem := by
  induction l generalizing s with
  | nil => exact hs
  | cons x l ih => exact ih (hf s x hs)

theorem State.report_wf {s : State} (type time : Nat) (payload : List Byte) (tier : Nat) (hs : Memory.wf s.mem) :
    Memory.wf (s.report type time payload tier).mem := by
  unfold State.report
  split
  · exact hs
  · dsimp only
    split
    · exact State.foldl_wf _ (fun s r h => State.originate_wf _ _ _ _ _ h) _ hs
    · exact hs

theorem State.routeFlue_mem (s : State) (e : Event) : (s.routeFlue e).mem = s.mem := by
  obtain ⟨-, h⟩ | ⟨-, h⟩ := s.routeFlue_cases e <;> rw [h]

theorem State.routeAsh_mem (s : State) (e : Event) : (s.routeAsh e).mem = s.mem := by
  obtain ⟨-, h⟩ | ⟨-, h⟩ := s.routeAsh_cases e <;> rw [h]

theorem State.memoryEvent_wf {s : State} (ev : Nat) (m : Master) (addr row seg erased source : Nat) (hs : Memory.wf s.mem) :
    Memory.wf (s.memoryEvent ev m addr row seg erased source).mem := by
  unfold State.memoryEvent
  dsimp only
  split
  · rw [State.routeAsh_mem, State.routeFlue_mem]
    exact hs
  · exact State.report_wf _ _ _ _ hs

/-- Bytes that a record leaves alone: all but those of the end-to-end mark. -/
theorem State.records_peek {t u : State} (h : t.agreesButRecords u) (ht : Memory.wf t.mem) (hu : Memory.wf u.mem) {a n : Nat}
    (ha : a + n ≤ e2eMarkAddr ∨ e2eMarkAddr + 8 ≤ a) : t.peek a n = u.peek a n := by
  obtain ⟨-, -, hmem, -⟩ := h
  exact Memory.readBytes_congr ht hu fun x hx hx' => hmem x (by omega)

theorem State.records_tag {t u : State} (h : t.agreesButRecords u) (ht : Memory.wf t.mem) (hu : Memory.wf u.mem) {r : Nat}
    (hr : r < 16384) : t.tag r = u.tag r := by
  rw [State.tag, State.peekNat, State.records_peek h ht hu (.inl ?_), State.tag, State.peekNat]
  unfold tagAddr e2eMarkAddr persistBase
  omega

theorem State.records_row {t u : State} (h : t.agreesButRecords u) (ht : Memory.wf t.mem) (hu : Memory.wf u.mem) {r : Nat}
    (hr : r < 16384) : t.row r = u.row r := by
  rw [State.row, State.peekNat, State.records_peek h ht hu (.inl ?_), State.row, State.peekNat]
  unfold rowAddr e2eMarkAddr persistBase
  omega

end Sys2Proof.Machine
end

section
/-! The panel (02_straps_and_resistors.md, 11_learning.md): readings of `LABEL`, the buttons, and a rekindle. -/

namespace Sys2Proof.Machine

/-! ### Teach and forget records -/

theorem State.teachRecord_records (s : State) (outcome label row freed bin collected radius : Nat) :
    (s.teachRecord outcome label row freed bin collected radius).agreesButRecords s :=
  State.agreesButRecords_trans (State.ashRecord_records _ _ _ _) (State.report_records _ _ _ _ _)

theorem State.teachRecord_recordedBoth (s : State) (outcome label row freed bin collected radius : Nat) :
    s.recordedBoth (s.teachRecord outcome label row freed bin collected radius) 0x09
      (teachForgetPayload outcome label row freed bin collected radius) := by
  have hr := s.report_records 0x09 s.ts (teachForgetPayload outcome label row freed bin collected radius) 1
  have ht := s.teachRecord_records outcome label row freed bin collected radius
  refine ⟨?_, ?_⟩
  · rw [State.records_ts ht]
    refine (s.report_flue 0x09 s.ts _ 1).trans (if_neg ?_)
    rw [show suppressed 0x09 = false from rfl, Bool.and_false]
    exact Bool.false_ne_true
  · rw [State.records_ts ht, State.records_clock ht]
    show (s.report 0x09 s.ts (teachForgetPayload outcome label row freed bin collected radius) 1).ash.offer
      (s.report 0x09 s.ts (teachForgetPayload outcome label row freed bin collected radius) 1).clock 0x09 s.ts
      (teachForgetPayload outcome label row freed bin collected radius) = _
    rw [State.report_ash, State.records_clock hr]

/-- A record changes neither flue nor ash but by its own entry (R234, R293). -/
theorem State.recordedBoth_of {s v t : State} {type : Nat} {payload : List Byte} (h : v.recordedBoth t type payload)
    (hflue : v.flue = s.flue) (hash : v.ash = s.ash) : s.recordedBoth t type payload := by
  rw [State.recordedBoth, ← hflue, ← hash]
  exact h

/-- A teach that is abandoned (R66, R234). -/
theorem State.abandonTeach_of_some {s : State} {x : Teach} (h : s.learn.teach = some x) (outcome : Nat) :
    s.abandonTeach outcome = State.teachRecord { s with learn := { s.learn with teach := none } } outcome x.label 0xFFFF 0
      (x.bin.getD 0xFF) x.vecs.length 0 := by
  unfold State.abandonTeach
  rw [h]

theorem State.abandonTeach_of_none {s : State} (h : s.learn.teach = none) (outcome : Nat) : s.abandonTeach outcome = s := by
  unfold State.abandonTeach
  rw [h]

theorem State.agreesButRecords_settle {t u : State} (h : t.agreesButRecords u) : t.settle.agreesButRecords u :=
  State.agreesButRecords_trans t.settle_records h

theorem State.abandonTeach_records (s : State) (outcome : Nat) :
    (s.abandonTeach outcome).agreesButRecords { s with learn := { s.learn with teach := none } } := by
  cases h : s.learn.teach with
  | none =>
    rw [State.abandonTeach_of_none h, show ({ s with learn := { s.learn with teach := none } } : State) = s by rw [← h]]
    exact s.agreesButRecords_refl
  | some x =>
    rw [State.abandonTeach_of_some h]
    exact State.teachRecord_records _ _ _ _ _ _ _ _

theorem State.abandonTeach_wf {s : State} (outcome : Nat) (hs : Memory.wf s.mem) :
    Memory.wf (s.abandonTeach outcome).mem := by
  unfold State.abandonTeach
  split
  · exact hs
  · exact State.report_wf _ _ _ _ hs

/-! ### Readings -/

theorem Stopwatch.read_go (w : Stopwatch) (clock : Nat) : (w.go clock).read clock = w.read clock := by
  unfold Stopwatch.go Stopwatch.read
  cases h : w.since <;> simp [h]

/-- The commit timers stand still under hold (R237). -/
theorem Stopwatch.read_stop_or_go (held : Bool) (w : Stopwatch) (clock : Nat) :
    (if held then w.stop clock else w.go clock).read clock = w.read clock := by
  cases held
  · exact w.read_go clock
  · rfl

theorem Stopwatch.runs_stop_or_go (held : Bool) (w : Stopwatch) (clock : Nat) :
    (if held then w.stop clock else w.go clock).since.isSome = !held := by
  cases held
  · cases h : w.since <;> simp [Stopwatch.go, h]
  · rfl

theorem Codes.sum_eq (v : Codes) :
    ([v[0], v[1], v[2], v[3], v[4], v[5], v[6], v[7]].map BitVec.toNat).sum = codeSum v := by
  rw [codeSum_eq]
  simp [Nat.add_assoc]

theorem labelLevel_eq (zero ref pin : Codes) : labelLevel zero ref pin =
    if codeSum zero + 8000 ≤ codeSum ref ∧ codeSum ref ≤ codeSum zero + 18000 then
      strapLevel (49900 * (codeSum pin - codeSum zero) / (codeSum ref - codeSum zero)) else none := by
  unfold labelLevel pinOhms refGood
  rw [← Bool.decide_and]
  by_cases h : codeSum zero + 8000 ≤ codeSum ref ∧ codeSum ref ≤ codeSum zero + 18000
  · rw [if_pos (decide_eq_true h), if_pos h]
    rfl
  · rw [if_neg (by simpa using h), if_neg h]
    rfl

/-- Three samples of one level in a row. -/
theorem three_le_run (n : Nat) (b : Bool) : decide (3 ≤ if b then n + 1 else 0) = (b && decide (2 ≤ n)) := by
  cases b
  · rfl
  · exact decide_eq_decide.2 (by rw [if_pos rfl]; omega)

/-- Settles O43: each reading as one equation of the panel, and the records of a teach that ends. -/
theorem panelReadings : Obligations.PanelReadings := by
  unfold Obligations.PanelReadings
  intro s dt hm now
  refine ⟨fun zero ref pin teachN forgetN holdN hat => ?reading, fun zero ref pin teachN forgetN holdN hearly => ?early,
    fun hrun hne hpause => ⟨fun hteach => ?plain, fun x hteach => ?abandons⟩, fun hrun hne => ?hold⟩
  case reading =>
    intro sum level
    have hcond : (decide (s.mode = .run) && decide (s.panel.readAt + per20ms ≤ s.clock + dt)) = true :=
      Bool.and_eq_true_iff.2 ⟨decide_eq_true hm, decide_eq_true hat⟩
    have hlevel : labelLevel zero ref pin = level := by
      rw [labelLevel_eq, ← Codes.sum_eq, ← Codes.sum_eq, ← Codes.sum_eq]
    refine (event_agrees hcond ?_ : ∃ t, execLabelReading dt zero ref pin teachN forgetN holdN s = .next t ∧ t.agrees _)
    rw [hlevel]
    unfold Panel.takeButtons Panel.takeLevel
    dsimp only
    rw [three_le_run, three_le_run, satTo_eq_min]
    cases level <;> rfl
  case early =>
    have hcond : (decide (s.mode = .run) && decide (s.panel.readAt + per20ms ≤ s.clock + dt)) = false :=
      Bool.and_eq_false_iff.2 (.inr (decide_eq_false (not_le.2 hearly)))
    exact (event_idle _ _ _ _ hcond : execLabelReading dt zero ref pin teachN forgetN holdN s = _)
  case plain =>
    have hcond : ((s.elapse dt).coreRuns && decide (3 ≤ s.panel.labelRun.2) &&
        decide (s.panel.labelRun.1 ≠ s.panel.label)) = true := by
      simp [State.coreRuns, State.paused, hm, hpause, hrun, hne]
    refine (event_agrees hcond ?_ : ∃ t, execLabelAccepted dt s = .next t ∧ t.agrees _)
    exact State.abandonTeach_of_none (by exact hteach) 4
  case abandons =>
    have hcond : ((s.elapse dt).coreRuns && decide (3 ≤ s.panel.labelRun.2) &&
        decide (s.panel.labelRun.1 ≠ s.panel.label)) = true := by
      simp [State.coreRuns, State.paused, hm, hpause, hrun, hne]
    have hexec : execLabelAccepted dt s = _ := event_next _ _ _ _ hcond
    rw [State.abandonTeach_of_some (by exact hteach)] at hexec
    exact ⟨_, hexec, State.agreesButRecords_settle (State.teachRecord_records _ _ _ _ _ _ _ _),
      State.recordedBoth_of (State.teachRecord_recordedBoth _ _ _ _ _ _ _ _) rfl rfl⟩
  case hold =>
    have hcond : (decide (s.mode = .run) && decide (3 ≤ s.panel.holdRun.2) &&
        decide (s.panel.hold ≠ some s.panel.holdRun.1)) = true := by simp [hm, hrun, hne]
    have hexec : execHoldChange dt s = _ := event_next _ _ _ _ hcond
    refine ⟨_, hexec, State.settle_agrees _, ?read, ?runs⟩
    case read => exact Stopwatch.read_stop_or_go s.panel.holdRun.1 s.learn.time now
    case runs => exact Stopwatch.runs_stop_or_go s.panel.holdRun.1 s.learn.time now

/-! ### Accepted presses -/

theorem State.agreesButRecords_panel {t u : State} (p : Panel → Panel) (h : t.agreesButRecords u) :
    State.agreesButRecords { t with panel := p t.panel } { u with panel := p u.panel } := by
  obtain ⟨hfields, hfree, hmem, hecc⟩ := h
  exact ⟨congrArg (fun x : State => { x with panel := p x.panel }) hfields, hfree, hmem, hecc⟩

/-- The sequences of taught slots once some have been set (R286, R351). -/
theorem State.foldl_setSlotSeq (rows : List Nat) (q : Nat) {v : State} (hs : Memory.wf v.mem) :
    ∃ m e l, rows.foldl (fun s r => s.setSlotSeq (r - 15360) q) v =
        { v with mem := m, ecc := e, vault := { v.vault with slotSeq := l } } ∧ Memory.wf m ∧
      (∀ a n, a + n ≤ persistBase → Memory.readBytes m a n = v.peek a n) ∧
      ∀ k, sparse l k = if k ∈ rows.map (· - 15360) then q else sparse v.vault.slotSeq k := by
  induction rows generalizing v with
  | nil => exact ⟨v.mem, v.ecc, v.vault.slotSeq, rfl, hs, fun _ _ _ => rfl, fun k => by simp⟩
  | cons r rows ih =>
    obtain ⟨m, e, l, heq, hwf, hpeek, hseq⟩ := ih (v := v.setSlotSeq (r - 15360) q) (Memory.wf_writeBytes _ _ _ hs)
    refine ⟨m, e, l, heq, hwf, fun a n h => (hpeek a n h).trans (v.peek_poke_of_apart hs (.inl ?_)), fun k => ?_⟩
    · unfold slotSeqAddr
      omega
    · rw [hseq k]
      have hone : sparse (v.setSlotSeq (r - 15360) q).vault.slotSeq k = if k = r - 15360 then q else
          sparse v.vault.slotSeq k := sparse_setSparse _ _ _ _
      rw [hone]
      by_cases hk : k = r - 15360 <;> simp [hk]

/-- The taught rows that a label forgets (R235). -/
theorem State.mem_taughtWith {v : State} (hs : Memory.wf v.mem) {label r : Nat} (hr : r < 16384) :
    r ∈ v.taughtWith label ↔ ((v.tag r).valid && !(v.tag r).spent && !v.isRetired r &&
      decide ((v.tag r).label.toNat = label) && decide (15360 ≤ r)) = true := by
  have hpart : v.partition r = 2 ↔ 15360 ≤ r := by
    have hle := v.libraryRows_le
    unfold State.partition
    split
    · omega
    · split
      · omega
      · split <;> omega
  unfold State.taughtWith State.inUse
  simp only [List.mem_filter, Bool.and_eq_true, decide_eq_true_eq, hpart]
  constructor
  · rintro ⟨-, ⟨hlow, huse⟩, hlabel⟩
    exact ⟨⟨huse, hlabel⟩, hlow⟩
  · rintro ⟨⟨huse, hlabel⟩, hlow⟩
    exact ⟨State.mem_taggedRows_of_valid hs hr huse.1.1, ⟨hlow, huse⟩, hlabel⟩

/-- What forgetting the taught rows of a label leaves, beside the record and the frame (R235, R351). -/
theorem State.forget_spec {v : State} (label : Nat) (hs : Memory.wf v.mem) : ∃ m e lives l,
    (v.forget label).agreesButRecords { v with
      mem := m
      ecc := e
      vault := { v.vault with dirty := (v.taughtWith label).foldl tagDirty v.vault.dirty, slotSeq := l }
      learn := { v.learn with
        accums := v.learn.accums.filter (fun a => !(v.taughtWith label).contains a.row), lives := lives } } ∧
    Memory.wf m ∧ Memory.wf (v.forget label).mem ∧
    (∀ r, r < 16384 → BitVec.ofNat 8192 (leNat (Memory.readBytes m (rowAddr r) 1024)) = v.row r ∧
      Tag.ofNat (leNat (Memory.readBytes m (tagAddr r) 32)) =
        if (v.taughtWith label).contains r then { v.tag r with valid := false } else v.tag r) ∧
    (∀ r ∈ v.taughtWith label, sparse l (r - 15360) = (v.eventCounter + 1) % 2 ^ 32) ∧
    (v.forget label).ash = v.ash.offer v.clock 0x09 v.ts
      (teachForgetPayload 7 label 0xFFFF (v.taughtWith label).length 0xFF 0 0) := by
  obtain ⟨m, e, lives, hfree⟩ := State.foldl_freeRow_fields (v.taughtWith label) v
  obtain ⟨hwf, hrows, -⟩ := State.foldl_freeRow_rows (v.taughtWith label) hs
  unfold State.forget
  dsimp only
  generalize v.taughtWith label = rows at *
  generalize rows.foldl State.freeRow v = u at *
  have hcounter : u.eventCounter = v.eventCounter := by rw [hfree]; rfl
  rw [hcounter]
  generalize (v.eventCounter + 1) % 2 ^ 32 = q
  obtain ⟨m', e', l, hseq, hwf', hpeek, hsparse⟩ := State.foldl_setSlotSeq rows q hwf
  generalize hw : rows.foldl (fun s r => s.setSlotSeq (r - 15360) q) u = w at *
  have hfinal {x : State} (hx : x.agreesButRecords w) (hxwf : Memory.wf x.mem) (hash : x.ash = w.ash) :
      ∃ m e lives l, (x.teachRecord 7 label 0xFFFF rows.length 0xFF 0 0).agreesButRecords { v with
        mem := m
        ecc := e
        vault := { v.vault with dirty := rows.foldl tagDirty v.vault.dirty, slotSeq := l }
        learn := { v.learn with accums := v.learn.accums.filter (fun a => !rows.contains a.row), lives := lives } } ∧
      Memory.wf m ∧ Memory.wf (x.teachRecord 7 label 0xFFFF rows.length 0xFF 0 0).mem ∧
      (∀ r, r < 16384 → BitVec.ofNat 8192 (leNat (Memory.readBytes m (rowAddr r) 1024)) = v.row r ∧
        Tag.ofNat (leNat (Memory.readBytes m (tagAddr r) 32)) =
          if rows.contains r then { v.tag r with valid := false } else v.tag r) ∧
      (∀ r ∈ rows, sparse l (r - 15360) = q) ∧
      (x.teachRecord 7 label 0xFFFF rows.length 0xFF 0 0).ash = v.ash.offer v.clock 0x09 v.ts
        (teachForgetPayload 7 label 0xFFFF rows.length 0xFF 0 0) := by
    have hrecord := x.teachRecord_records 7 label 0xFFFF rows.length 0xFF 0 0
    have hboth := (x.teachRecord_recordedBoth 7 label 0xFFFF rows.length 0xFF 0 0).2
    rw [State.records_ts hrecord, State.records_clock hrecord, State.records_ts hx, State.records_clock hx, hash, hseq,
      hfree] at hboth
    refine ⟨m', e', lives, l, ?_, hwf', State.report_wf _ _ _ _ hxwf, fun r hr => ⟨?_, ?_⟩, fun r hr => ?_, hboth⟩
    · have hagrees := State.agreesButRecords_trans hrecord hx
      rwa [hseq, hfree] at hagrees
    · rw [hpeek _ _ (by unfold rowAddr persistBase; omega)]
      exact (hrows r hr).1
    · rw [hpeek _ _ (by unfold tagAddr persistBase; omega)]
      exact (hrows r hr).2
    · rw [hsparse, if_pos (List.mem_map_of_mem hr)]
  have hwmem : Memory.wf w.mem := by rw [hseq]; exact hwf'
  by_cases hnone : rows = []
  · rw [if_pos hnone]
    rw [hnone, List.foldl_nil] at hw
    rw [hw]
    exact hfinal w.agreesButRecords_refl hwmem rfl
  · rw [if_neg hnone]
    split
    · exact hfinal (State.originate_records ..) (State.originate_wf _ _ _ _ _ hwmem) (State.originate_ash ..)
    · exact hfinal w.agreesButRecords_refl hwmem rfl

/-- Settles O44: the outcomes of a press by label, hold and teach; the forgotten rows by `forget_spec`. -/
theorem presses : Obligations.Presses := by
  unfold Obligations.Presses
  intro s dt hm hpause now label
  have hcore : (s.elapse dt).coreRuns = true := by simp [State.coreRuns, State.paused, hm, hpause]
  refine ⟨fun harmed hlow => ?teach, fun harmed hlow => ?forget⟩
  case teach =>
    intro pressed
    have hcond : ((s.elapse dt).coreRuns && s.panel.teachArmed && decide (3 ≤ s.panel.teachLow)) = true := by
      simp [hcore, harmed, hlow]
    have hexec : execTeachPress dt s = _ := event_next _ _ _ _ hcond
    dsimp only at hexec
    refine ⟨fun hbusy => ?_, fun hteach hdue hlabel => ?_, fun hteach hdue hlabel => ?_⟩
    · rw [if_pos (by simpa using hbusy)] at hexec
      exact ⟨_, hexec, State.settle_agrees _⟩
    · rw [if_neg (by simp [hteach, hdue]), if_pos (by exact hlabel)] at hexec
      exact ⟨_, hexec, State.agreesButRecords_settle (State.teachRecord_records _ _ _ _ _ _ _ _),
        State.recordedBoth_of (State.teachRecord_recordedBoth _ _ _ _ _ _ _ _) rfl rfl⟩
    · rw [if_neg (by simp [hteach, hdue]), if_neg (by exact hlabel)] at hexec
      exact ⟨_, hexec, State.settle_agrees _⟩
  case forget =>
    intro pressed
    have hcond : ((s.elapse dt).coreRuns && s.panel.forgetArmed && decide (151 ≤ s.panel.forgetLow)) = true := by
      simp [hcore, harmed, hlow]
    have hexec : execForgetPress dt s = _ := event_next _ _ _ _ hcond
    dsimp only at hexec
    have hzero (h : s.panel.label = 0) : ¬(1 ≤ s.panel.label ∧ s.panel.label ≤ 14) := by omega
    refine ⟨fun hlabel hhold hteach => ?_, fun hlabel hhold x hteach => ?_, fun hlabel => ?_, fun hlow' hhigh hs => ?rows⟩
    · rw [if_neg (by exact hzero hlabel), if_pos (by exact ⟨hlabel, hhold⟩),
        State.abandonTeach_of_none (by exact hteach)] at hexec
      exact ⟨_, hexec, State.settle_agrees _⟩
    · rw [if_neg (by exact hzero hlabel), if_pos (by exact ⟨hlabel, hhold⟩),
        State.abandonTeach_of_some (by exact hteach)] at hexec
      exact ⟨_, hexec, State.agreesButRecords_settle (State.agreesButRecords_panel (fun p => { p with rekindleDue := true })
        (State.teachRecord_records _ _ _ _ _ _ _ _)),
        State.recordedBoth_of (State.teachRecord_recordedBoth _ _ _ _ _ _ _ _) rfl rfl⟩
    · have hnot : ¬(1 ≤ s.panel.label ∧ s.panel.label ≤ 14) := by omega
      have hnot' : ¬(s.panel.label = 0 ∧ s.panel.hold = some true) := fun h => by
        obtain hlarge | ⟨-, hhold⟩ := hlabel
        · omega
        · exact hhold h.2
      rw [if_neg (by exact hnot), if_neg (by exact hnot')] at hexec
      exact ⟨_, hexec, State.agreesButRecords_settle (State.teachRecord_records _ _ _ _ _ _ _ _),
        State.recordedBoth_of (State.teachRecord_recordedBoth _ _ _ _ _ _ _ _) rfl rfl⟩
    case rows =>
      intro gone
      rw [if_pos (by exact ⟨hlow', hhigh⟩)] at hexec
      generalize hv : State.mk .. = v at hexec
      have habandon := v.abandonTeach_records 6
      have hwf : Memory.wf (v.abandonTeach 6).mem := State.abandonTeach_wf 6 (by rw [← hv]; exact hs)
      have hsame : s.learn.teach = none → (v.abandonTeach 6).ash = s.ash := fun hteach => by
        rw [State.abandonTeach_of_none (by rw [← hv]; exact hteach), ← hv]
        rfl
      generalize v.abandonTeach 6 = w at *
      have htag (r : Nat) (hr : r < 16384) : w.tag r = s.tag r := by
        rw [State.records_tag habandon hwf (by rw [← hv]; exact hs) hr, ← hv]
        rfl
      have hrow (r : Nat) (hr : r < 16384) : w.row r = s.row r := by
        rw [State.records_row habandon hwf (by rw [← hv]; exact hs) hr, ← hv]
        rfl
      obtain ⟨hfields, -⟩ := habandon
      have hgone (r : Nat) (hr : r < 16384) : r ∈ w.taughtWith s.panel.label ↔ gone r = true := by
        rw [State.mem_taughtWith hwf hr, htag r hr]
        have hretired : w.isRetired r = s.isRetired r := by
          rw [hfields, ← hv]
          rfl
        rw [hretired]
      obtain ⟨m, e, lives, l, hforget, hm', hwf', hrows, hseq, hash⟩ := State.forget_spec s.panel.label hwf
      have hcount : (w.taughtWith s.panel.label).length = (List.range 16384).countP gone :=
        State.length_filter_taggedRows hwf fun r hr => List.mem_filter.symm.trans (hgone r hr)
      have hfields' := hforget.1
      have hxrow (r : Nat) (hr : r < 16384) := (State.records_row hforget hwf' hm' hr).trans (hrows r hr).1
      have hxtag (r : Nat) (hr : r < 16384) := (State.records_tag hforget hwf' hm' hr).trans (hrows r hr).2
      generalize hx : w.forget s.panel.label = x at *
      have hdirty := congrArg (fun u : State => u.vault.dirty) hfields'
      have hslots := congrArg (fun u : State => u.vault.slotSeq) hfields'
      have haccums := congrArg (fun u : State => u.learn.accums) hfields'
      have hkindling := congrArg (fun u : State => u.learn.kindling) hfields'
      have hhearth := congrArg State.hearth hfields'
      have hvolt := congrArg State.volt hfields'
      have hticks := congrArg State.ticks hfields'
      dsimp only at hdirty hslots haccums hkindling hhearth hvolt hticks
      refine ⟨x.settle, ?_, ?_, ?_, fun r hr => ⟨?_, ?_⟩, fun r hr hlt => ⟨?_, ?_⟩, fun a ha => ?_,
        fun hteach => ?_, ?_, ?_, ?_, ?_⟩
      · rw [← hx]
        exact hexec
      · exact (congrArg State.panel hfields').trans ((congrArg State.panel hfields).trans (by rw [← hv]; rfl))
      · exact (congrArg (fun u : State => u.learn.teach) hfields').trans (congrArg (fun u : State => u.learn.teach) hfields)
      · exact (hxrow r hr).trans (hrow r hr)
      · refine (hxtag r hr).trans ?_
        rw [htag r hr]
        by_cases hg : gone r = true
        · rw [if_pos (by simpa using (hgone r hr).2 hg), if_pos hg]
        · rw [if_neg (by simpa using fun h => hg ((hgone r hr).1 h)), if_neg hg]
      · have hhigh : 8192 ≤ r := by
          have := of_decide_eq_true (Bool.and_eq_true_iff.1 hr).2
          omega
        rw [State.settle_vault, hdirty]
        exact tagFlagged_foldl hhigh (.inl ((hgone r hlt).2 hr))
      · rw [State.settle_vault, hslots,
          hseq r ((hgone r hlt).2 hr), show w.eventCounter = ((s.vault.slotSeq.map Prod.snd).max?).getD 0 by
            rw [hfields, ← hv]; rfl]
      · rw [State.settle_learn, haccums] at ha
        obtain ⟨hin, hnot⟩ := List.mem_filter.1 ha
        refine ⟨by rw [hfields, ← hv] at hin; exact hin, fun _ hlt => ?_⟩
        rw [Bool.eq_false_iff]
        exact fun hg => absurd ((hgone _ hlt).2 hg) (by simpa using hnot)
      · rw [show x.settle.ash = _ from hash, hsame hteach, hcount, hfields, ← hv]
        rfl
      · rw [State.settle_learn, hkindling, hfields, ← hv]
        rfl
      · rw [State.settle_hearth, hhearth, hfields, ← hv]
        rfl
      · rw [State.settle_volt, hvolt, hfields, ← hv]
        rfl
      · rw [State.settle_ticks, hticks, hfields, ← hv]
        rfl

/-! ### A rekindle -/

theorem State.partition_eq_one {v : State} {r : Nat} : v.partition r = 1 ↔ 8192 ≤ r ∧ r < 15360 := by
  have hle := v.libraryRows_le
  unfold State.partition
  split
  · omega
  · split
    · omega
    · split <;> omega

theorem State.betweenTicks_iff {s : State} : s.betweenTicks = true ↔
    ¬∃ x ∈ s.ticks, x.stage = .recall ∧ ∃ q ∈ x.queries, q.started = true := by
  simp [State.betweenTicks, imp_iff_not_or]

/-- Settles O45: the wait, and the freed rows as a fold over the tagged rows. -/
theorem rekindled : Obligations.Rekindled := by
  unfold Obligations.Rekindled
  intro s dt hm hdue hpause inTick
  have hcore : (s.elapse dt).coreRuns = true := by simp [State.coreRuns, State.paused, hm, hpause]
  have hbetween : (s.elapse dt).betweenTicks = true ↔ ¬inTick := State.betweenTicks_iff
  have hfree : (s.elapse dt).banksFree = true ↔ s.hearth.scanEnd ≤ s.clock + dt := decide_eq_true_iff
  refine ⟨fun hwait => ?waits, fun hnot hat hs => ?done⟩
  case waits =>
    refine (event_idle _ _ _ _ ?_ : execRekindle dt s = _)
    rw [Bool.eq_false_iff]
    intro h
    simp only [Bool.and_eq_true, hbetween, hfree] at h
    obtain hin | hlt := hwait
    · exact h.1.2 hin
    · exact absurd h.2 (not_le.2 hlt)
  case done =>
    intro freed
    have hcond : ((s.elapse dt).coreRuns && s.panel.rekindleDue && (s.elapse dt).betweenTicks && (s.elapse dt).banksFree) =
        true := by
      rw [hcore, hdue, hbetween.2 hnot, hfree.2 hat]
      rfl
    have hexec : execRekindle dt s = _ := event_next _ _ _ _ hcond
    dsimp only at hexec
    generalize hrows : (s.elapse dt).taggedRows.filter
      (fun r => decide ((s.elapse dt).partition r = 1) && ((s.elapse dt).tag r).valid) = rows at hexec
    have hmem (r : Nat) (hr : r < 16384) : r ∈ rows ↔ freed r = true := by
      rw [← hrows, List.mem_filter]
      simp only [Bool.and_eq_true, decide_eq_true_eq, State.partition_eq_one, freed]
      exact ⟨fun h => h.2, fun h => ⟨State.mem_taggedRows_of_valid (s := s.elapse dt) hs hr h.2, h⟩⟩
    have hcount : rows.length = (List.range 16384).countP freed := by
      rw [← hrows]
      refine State.length_filter_taggedRows (s := s.elapse dt) hs fun r hr => ?_
      exact List.mem_filter.symm.trans (by rw [hrows, hmem r hr])
    have hlt : ∀ r ∈ rows, r < 16384 ∧ r < 15360 := fun r hr => by
      rw [← hrows] at hr
      obtain ⟨hin, hp⟩ := List.mem_filter.1 hr
      exact ⟨State.taggedRows_lt hin, (State.partition_eq_one.1 (of_decide_eq_true (Bool.and_eq_true_iff.1 hp).1)).2⟩
    obtain ⟨m, e, lives, hfields⟩ := State.foldl_freeRow_fields rows (s.elapse dt)
    obtain ⟨hwf, hfreed, hread⟩ := State.foldl_freeRow_rows rows (s := s.elapse dt) hs
    generalize rows.foldl State.freeRow (s.elapse dt) = u at *
    generalize hv : State.mk .. = v at hexec
    have hvmem : v.mem = u.mem := by rw [← hv]
    have hrecord := v.teachRecord_records 8 0 0xFFFF rows.length 0xFF 0 0
    have hboth := v.teachRecord_recordedBoth 8 0 0xFFFF rows.length 0xFF 0 0
    have hvwf : Memory.wf v.mem := by rw [hvmem]; exact hwf
    have htwf : Memory.wf (v.teachRecord 8 0 0xFFFF rows.length 0xFF 0 0).mem := State.report_wf _ _ _ _ hvwf
    generalize v.teachRecord 8 0 0xFFFF rows.length 0xFF 0 0 = t at *
    have hrow (r : Nat) (hr : r < 16384) : t.row r = s.row r :=
      (State.records_row hrecord htwf hvwf hr).trans ((State.row_of_mem hvmem r).trans (hfreed r hr).1)
    have htag (r : Nat) (hr : r < 16384) : t.tag r = if freed r then { s.tag r with valid := false } else s.tag r := by
      refine (State.records_tag hrecord htwf hvwf hr).trans ((State.tag_of_mem hvmem r).trans ((hfreed r hr).2.trans ?_))
      by_cases hg : freed r = true
      · rw [if_pos (by simpa using (hmem r hr).2 hg), if_pos hg]
        rfl
      · rw [if_neg (by simpa using fun h => hg ((hmem r hr).1 h)), if_neg hg]
        rfl
    obtain ⟨hsame, -, htmem, -⟩ := hrecord
    have hlearn := (congrArg State.learn hsame).trans (show v.learn = { s.learn with
        accums := [], kindling := [], seasoned := [], spawned := [], lives := lives
        writes := s.learn.writes.filter (fun w => !w.2.toNormal) } by rw [← hv, hfields]; rfl)
    have hentries := congrArg (fun x : State => x.vault.entries) hsame
    have hdirty := congrArg (fun x : State => x.vault.dirty) hsame
    dsimp only at hentries hdirty
    refine ⟨t.settle, hexec, ?panel, fun r hr => ⟨hrow r hr, htag r hr⟩, congrArg Learn.accums hlearn,
      congrArg Learn.kindling hlearn, congrArg Learn.seasoned hlearn, congrArg Learn.spawned hlearn,
      (congrArg Learn.teach hlearn :), (congrArg Learn.levels hlearn :), ?entry, fun d hd => ?dirty, ?recorded, ?hearth,
      ?ticks, ?volt, ?power, ?chans, fun a ha => ?mem⟩
    case panel => exact (congrArg State.panel hsame).trans (by rw [← hv, hfields]; rfl)
    case entry =>
      refine ⟨{ kind := 4, row := 0xFFFF, spawn := 0, tag := {}, data := 0 }, ?_, rfl, rfl⟩
      exact hentries.trans (by rw [← hv, hfields]; rfl)
    case dirty =>
      rw [State.settle_vault, hdirty, ← hv, hfields] at hd
      obtain ⟨hd, hlow⟩ := List.mem_filter.1 hd
      have hlow : 15360 ≤ d.row := of_decide_eq_true hlow
      refine ⟨hlow, (mem_foldl_tagDirty hd).resolve_right fun hr => ?_⟩
      have := (hlt _ hr).2
      omega
    case recorded =>
      rw [← hcount]
      exact State.recordedBoth_of hboth (by rw [← hv, hfields]; rfl) (by rw [← hv, hfields]; rfl)
    case hearth => exact (congrArg State.hearth hsame).trans (by rw [← hv, hfields]; rfl)
    case ticks => exact (congrArg State.ticks hsame).trans (by rw [← hv, hfields]; rfl)
    case volt => exact (congrArg State.volt hsame).trans (by rw [← hv, hfields]; rfl)
    case power => exact (congrArg State.power hsame).trans (by rw [← hv, hfields]; rfl)
    case chans => exact (congrArg State.chans hsame).trans (by rw [← hv, hfields]; rfl)
    case mem =>
      have hmark : 0x01080000 ≤ e2eMarkAddr := by decide
      rw [State.settle_mem, htmem a (by omega), hvmem]
      exact hread (fun r hr => (hlt r hr).1) a (by omega)

end Sys2Proof.Machine
end

section
/-! The holdback and the auxiliary inputs (05_acquisition.md), and the test port (20_package_balls.md). -/

namespace Sys2Proof.Machine

/-! ### The holdback and the auxiliary inputs -/

theorem State.heldTick_eq {s : State} {before after : List Tick} {x : Tick} (hticks : s.ticks = before ++ x :: after)
    (hbefore : ∀ y ∈ before, ∀ f ∈ y.frames, f.stage ≠ .holdback) (hx : ∃ f ∈ x.frames, f.stage = .holdback) (c : Nat) :
    s.heldTick c = if s.clockOf x.close + per200us ≤ s.clock ∧ ∃ f ∈ x.frames, f.chan = c ∧ f.stage = .holdback then some x
      else none := by
  have hfind : s.ticks.find? (fun t => t.frames.any (fun f => decide (f.stage = .holdback))) = some x := by
    rw [hticks, List.find?_append, List.find?_eq_none.2 (fun y hy => by simpa using hbefore y hy),
      List.find?_cons_of_pos (by simpa using hx)]
    rfl
  unfold State.heldTick
  rw [hfind, Option.filter_some]
  congr 1
  simp

/-- Settles O42: the oldest tick that holds a frame back, and one conversion. -/
theorem holdbackAndAux : Obligations.HoldbackAndAux := by
  unfold Obligations.HoldbackAndAux
  intro s dt hm now
  refine ⟨fun c before after x hticks hbefore hx => ⟨fun hpause hc hat => ?released, fun hnot => ?waits⟩, fun i code => ?aux⟩
  case released =>
    have hheld : (s.elapse dt).heldTick c.val = some x := by
      rw [State.heldTick_eq (s := s.elapse dt) hticks hbefore hx, if_pos ⟨hat, hc⟩]
    refine (event_agrees (by rw [hheld]; simp [State.paused, hm, hpause]) ?_ :
      ∃ t, execHoldbackRelease dt c s = .next t ∧ t.agrees _)
    rw [hheld]
    rfl
  case waits =>
    refine (event_idle _ _ _ _ ?_ : execHoldbackRelease dt c s = _)
    obtain hpause | hnone | hearly := hnot
    · simp [State.paused, Option.isSome_iff_ne_none, hpause]
    · rw [State.heldTick_eq (s := s.elapse dt) hticks hbefore hx, if_neg, Option.isSome_none, Bool.and_false]
      rintro ⟨-, f, hf, hchan, hstage⟩
      exact hnone f hf hchan hstage
    · rw [State.heldTick_eq (s := s.elapse dt) hticks hbefore hx, if_neg, Option.isSome_none, Bool.and_false]
      exact fun h => absurd h.1 (not_le.2 hearly)
  case aux =>
    exact (event_agrees (decide_eq_true (by exact hm)) rfl : ∃ t, execAuxConversion dt i code s = .next t ∧ t.agrees _)

/-! ### The test port -/

theorem testBit_foldl_mask (l : List Nat) (m k : Nat) :
    (l.foldl (fun m i => m ||| (1 <<< i)) m).testBit k = (m.testBit k || l.contains k) := by
  induction l generalizing m with
  | nil => simp
  | cons i l ih =>
    rw [List.foldl_cons, ih, Nat.testBit_or, Nat.one_shiftLeft, Nat.testBit_two_pow, List.contains_cons, Bool.or_assoc]
    congr 2
    by_cases h : i = k
    · simp [h]
    · simp [h, Ne.symm h]

theorem testBit_maskOf (l : List Nat) (k : Nat) : (maskOf l).testBit k = l.contains k := by
  rw [maskOf, testBit_foldl_mask, Nat.zero_testBit, Bool.false_or]

/-- The pin states that the boundary scan captures, bit by bit (R396). -/
theorem State.capture_getLsbD (s : State) (board : BitVec 52) {k : Nat} (hk : k < 52) :
    (s.capture board).getLsbD k = capturedBit (s.pads.getD k .released) (board.getLsbD k) := by
  unfold State.capture
  rw [BitVec.getLsbD_ofNat, testBit_maskOf, decide_eq_true hk, Bool.true_and, Bool.eq_iff_iff]
  simp [hk]

theorem capturedBit_eq (pad : PadLevel) (board : Bool) : capturedBit pad board = match pad with
    | .low => false
    | .high => true
    | _ => board := by
  cases pad <;> rfl

theorem scanPad_eq (cells : BitVec 52) (k : Nat) : scanPad cells k =
    if 12 ≤ k ∧ k < 17 then (if cells.getLsbD k then PadLevel.released else .low)
    else if (7 ≤ k ∧ k < 31) ∨ (37 ≤ k ∧ k < 43) then (if cells.getLsbD k then PadLevel.high else .low)
    else .released := by
  unfold scanPad openDrain pushPull
  cases cells.getLsbD k <;> simp

theorem State.tapOpen_elapse {s : State} (dt : Nat) (h : s.power.resetNLow = true) (h' : s.power.railsLow = []) :
    (s.elapse dt).tapOpen = true := by
  unfold State.tapOpen
  rw [State.elapse_power, h, h']
  rfl

theorem Tap.loadedKey_of_load {t : Tap} {selector : BitVec 8} {key : BitVec 256} (h : t.load = selector ++ key) :
    t.loadedKey = key ∧ t.selector = selector.toNat := by
  unfold Tap.loadedKey Tap.selector
  rw [h]
  exact ⟨BitVec.extractLsb'_append_eq_right, congrArg BitVec.toNat BitVec.extractLsb'_append_eq_left⟩

/-- When a burn of the loaded key is refused (R396). -/
theorem Tap.refuses_iff {t : Tap} {selector : BitVec 8} {key : BitVec 256} (h : t.load = selector ++ key) :
    t.refuses = true ↔ (selector ≠ 1 ∧ selector ≠ 2) ∨ key = 0 ∨ key = BitVec.allOnes 256 ∨
      (selector = 1 ∧ t.image.touched = true) ∨ (selector = 2 ∧ t.ring.touched = true) := by
  obtain ⟨hkey, hselector⟩ := Tap.loadedKey_of_load h
  have hone : selector.toNat = 1 ↔ selector = 1 := by bv_omega
  have htwo : selector.toNat = 2 ↔ selector = 2 := by bv_omega
  unfold Tap.refuses Tap.block
  rw [hkey, hselector]
  simp only [hone, htwo]
  by_cases h1 : selector = 1#8
  · subst h1
    simp [or_assoc]
  · by_cases h2 : selector = 2#8
    · subst h2
      simp [or_assoc]
    · simp [h1, h2]

theorem mul_b2n (n : Nat) (b : Bool) : n * b2n b = if b then n else 0 := by
  cases b <;> simp [b2n]

theorem Tap.status_eq (t : Tap) : t.status = (if t.image.isProgrammed then 1 else 0) + (if t.ring.isProgrammed then 2 else 0) +
    (if t.burning.isSome then 4 else 0) + (if t.refused then 8 else 0) + (if t.failed then 16 else 0) +
    (if t.image.damaged then 32 else 0) + (if t.ring.damaged then 64 else 0) := by
  unfold Tap.status
  simp only [mul_b2n]
  rfl

/-- Settles O60: a closed port, the boundary scan, and each instruction as one equation of the test port. -/
theorem testPort : Obligations.TestPort := by
  unfold Obligations.TestPort
  intro s dt now bitsOf scanned shows
  refine ⟨?reset, fun pins shifted key selector word x hclosed c hc => ?closed, fun hlow hrails => ?accepts⟩
  case reset => exact (event_agrees rfl rfl : ∃ t, execTestLogicReset dt s = .next t ∧ t.agrees _)
  case closed =>
    have hnot : (s.elapse dt).tapOpen = false := by
      unfold State.tapOpen
      rw [State.elapse_power, Bool.and_eq_false_iff]
      refine hclosed.imp id fun h => ?_
      simpa using h
    simp only [List.mem_cons, List.not_mem_nil, or_false] at hc
    obtain rfl | rfl | rfl | rfl | rfl | rfl | rfl := hc
    · exact (event_idle _ _ _ _ hnot : execExtest dt pins shifted s = _)
    · exact (event_idle _ _ _ _ hnot : execSamplePreload dt pins shifted s = _)
    · exact (event_idle _ _ _ _ hnot : execIdcode dt s = _)
    · exact (event_idle _ _ _ _ hnot : execKeyStatus dt s = _)
    · exact (event_idle _ _ _ _ hnot : execKeyLoad dt key selector s = _)
    · exact (event_idle _ _ _ _ hnot : execKeyBurn dt word s = _)
    · exact (event_idle _ _ _ _ (by rw [hnot]; rfl) : execKeyBurnComplete dt x s = _)
  case accepts =>
    have hopen := State.tapOpen_elapse dt hlow hrails
    refine ⟨fun pins shifted => ?scan, ?idcode, ?status, fun key selector => ?load, fun key selector word hload => ?burn,
      fun sel key x hburning hsel => ?complete, fun code bits hcode => ?bypass⟩
    case scan =>
      intro u seen
      have hexec : execExtest dt pins shifted s = _ := event_next _ _ _ _ hopen
      refine ⟨fun k hk => ?_, ?_, fun t ht => ?_, ?_⟩
      · rw [State.capture_getLsbD _ _ hk, capturedBit_eq] <;> rfl
      · exact (event_agrees hopen rfl : ∃ t, execExtest dt pins shifted s = .next t ∧ t.agrees _)
      · have hexec' : execExtest dt pins shifted s = .next t := ht
        rw [hexec] at hexec'
        cases hexec'
        have hon : ((s.elapse dt).boundaryScan 0b000000 pins shifted).settle.extestOn = true :=
          Bool.and_eq_true_iff.2 ⟨hopen, rfl⟩
        unfold State.pads
        rw [if_pos hon]
        exact List.map_congr_left fun k _ => scanPad_eq shifted k
      · exact (event_agrees hopen rfl : ∃ t, execSamplePreload dt pins shifted s = .next t ∧ t.agrees _)
    case idcode => exact (event_agrees hopen rfl : ∃ t, execIdcode dt s = .next t ∧ t.agrees _)
    case status =>
      intro status
      refine (event_agrees hopen ?_ : ∃ t, execKeyStatus dt s = .next t ∧ t.agrees _)
      rw [Tap.status_eq]
      rfl
    case load => exact (event_agrees hopen rfl : ∃ t, execKeyLoad dt key selector s = .next t ∧ t.agrees _)
    case burn =>
      intro bad idle
      obtain ⟨hkey, hselector⟩ := Tap.loadedKey_of_load hload
      have hrefuses : s.tap.refuses = true ↔ bad := Tap.refuses_iff hload
      have hgo (hword : word = 0x4255524E#32) (hnone : s.tap.burning = none) :
          ¬(word ≠ burnWord ∨ s.tap.burning.isSome = true) := by simp [hword, hnone, burnWord]
      refine ⟨fun hidle => ?_, fun hword hnone hbad => ?_, fun hword hnone hgood => ?_⟩
      · refine (event_agrees hopen ?_ : ∃ t, execKeyBurn dt word s = .next t ∧ t.agrees _)
        exact if_pos hidle
      · refine (event_agrees hopen ?_ : ∃ t, execKeyBurn dt word s = .next t ∧ t.agrees _)
        exact (if_neg (hgo hword hnone)).trans (if_pos (hrefuses.2 hbad))
      · refine (event_agrees hopen ?_ : ∃ t, execKeyBurn dt word s = .next t ∧ t.agrees _)
        refine (if_neg (hgo hword hnone)).trans ((if_neg (fun h => hgood (hrefuses.1 h))).trans ?_)
        exact congrArg (fun b => ({ s.elapse dt with tap := { s.tap.scan 0b100010 32 0 with
          burning := some b, refused := false, failed := false } } : State)) (Prod.ext hselector hkey)
    case complete =>
      refine (event_agrees (by rw [hopen, State.elapse_tap, hburning]; rfl) ?_ :
        ∃ t, execKeyBurnComplete dt x s = .next t ∧ t.agrees _)
      rw [State.elapse_tap, hburning]
      dsimp only
      unfold Tap.setBlock
      obtain rfl | rfl := hsel
      · rfl
      · rfl
    case bypass =>
      have hlisted : listedCode code = false := by
        rw [Bool.eq_false_iff]
        exact fun h => hcode (List.contains_iff_mem.1 h)
      exact (event_agrees (by rw [hopen, hlisted]; rfl) rfl : ∃ t, execBypass dt code bits s = .next t ∧ t.agrees _)

end Sys2Proof.Machine
end

section
/-! The features and the encoding stage (08_signal_engine.md, 09_encoding.md). -/

namespace Sys2Proof.Machine

/-! ### Pages -/

/-- A page that becomes free outside a pause, when no close of this timebase period is to be decided again (R154). -/
theorem State.freePage_eq {v : State} (page : Nat) (hp : v.volt.pauseAt = none)
    (h : ∀ w, v.sync.turn = some w → w.clock ≠ v.clock) :
    v.freePage page = { v with
      pages := withoutPage v.pages page
      sync := { v.sync with
        freed := (page, v.clock) :: v.sync.freed
        turn := v.sync.turn.map (fun w => { w with pages := withoutPage w.pages page }) } } := by
  have hrelease : v.releasePage page = { v.clearPage page with sync := { v.sync with
      turn := v.sync.turn.map (fun w => { w with pages := withoutPage w.pages page })
      freed := (page, v.clock) :: v.sync.freed } } := if_neg (by simp [State.paused, hp])
  unfold State.freePage
  rw [hrelease, State.redoTurn_of_other]
  · rfl
  · intro at_ hat
    obtain ⟨w, hw, rfl⟩ := Option.mem_map.1 hat
    obtain ⟨y, hy, rfl⟩ := Option.map_eq_some_iff.1 hw
    exact h y hy

/-! ### The features stage -/

theorem State.planPending_false {v : State} (hserving : v.lib.serving ≠ some .plan) (hqueue : Refetch.plan ∉ v.lib.queue) :
    v.planPending = false := by
  simp [State.planPending, hserving, hqueue]

theorem releasedTicks_append {before after : List Tick} {x : Tick} (hbefore : ∀ y ∈ before, ∀ g ∈ y.frames, g.stage ≠ .holdback)
    (hx : ∀ g ∈ x.frames, g.stage ≠ .holdback) :
    releasedTicks (before ++ x :: after) = before ++ x :: releasedTicks after := by
  induction before with
  | nil =>
    rw [List.nil_append, releasedTicks, if_neg (by simpa using hx)]
    rfl
  | cons y before ih =>
    rw [List.cons_append, releasedTicks, if_neg (by simpa using hbefore y (.head _)),
      ih fun z hz => hbefore z (.tail _ hz), List.cons_append]

theorem State.nextFrame_eq {v : State} {before after : List Tick} {x : Tick} {fb fa : List ChanFrame} {f : ChanFrame}
    (hticks : v.ticks = before ++ x :: after) (hframes : x.frames = fb ++ f :: fa)
    (hbefore : ∀ y ∈ before, ∀ g ∈ y.frames, g.stage ≠ .waiting ∧ g.stage ≠ .holdback)
    (hx : ∀ g ∈ x.frames, g.stage ≠ .holdback) (hfb : ∀ g ∈ fb, g.stage ≠ .waiting) (hf : f.stage = .waiting) :
    v.nextFrame = some (x.id, f.chan) := by
  have hnone : before.flatMap (fun t => (t.frames.filter (fun f => decide (f.stage = .waiting))).map
      (fun f => (t.id, f.chan))) = [] := by
    refine List.flatMap_eq_nil_iff.2 fun y hy => ?_
    rw [List.filter_eq_nil_iff.2 fun g hg => by simpa using (hbefore y hy g hg).1, List.map_nil]
  unfold State.nextFrame
  rw [hticks, releasedTicks_append (fun y hy g hg => (hbefore y hy g hg).2) hx, List.flatMap_append, hnone,
    List.nil_append, List.flatMap_cons, hframes, List.filter_append, List.filter_eq_nil_iff.2 fun g hg => by
    simpa using hfb g hg, List.nil_append, List.filter_cons_of_pos (by simpa using hf)]
  rfl

theorem levels_length (loose : Option Nat) (plan : Option (List Byte)) (d : Domain) (values : List Int) (overs : Nat) :
    (levels loose plan d values overs).length = 128 := by
  simp [levels, features, statistics]

theorem levelOf_le (pair : Int × Int) (f : Int) : levelOf pair f ≤ 255 := by
  unfold levelOf clampInt
  (repeat' split) <;> omega

theorem levels_le {loose : Option Nat} {plan : Option (List Byte)} {d : Domain} {values : List Int} {overs q : Nat}
    (hq : q ∈ levels loose plan d values overs) : q ≤ 255 := by
  obtain ⟨f, -, rfl⟩ := List.mem_map.1 hq
  exact levelOf_le _ _

/-- What extraction changes when no close of this timebase period is to be decided again (R154, R156). -/
theorem State.extract_eq {v : State} (array : Nat) (job : ArrayJob) (x : Tick) (f : ChanFrame) (hp : v.volt.pauseAt = none)
    (h : ∀ w, v.sync.turn = some w → w.clock ≠ v.clock) :
    v.extract array job x f = { v with
      freeCount := if job.loose then v.freeCount + 1 else v.freeCount
      arrays := v.arrays.set array none
      ticks := (v.editFrame job.tick job.chan (fun g => { g with
        stage := .done
        levels := levels (if job.loose then some v.freeCount else none) v.plan (v.domainOf x) (v.frameValues x f) f.overs
        loud := louderThanIdle (v.frameValues x f) })).ticks
      pages := withoutPage v.pages f.page
      sync := { v.sync with
        freed := (f.page, v.clock) :: v.sync.freed
        turn := v.sync.turn.map (fun w => { w with pages := withoutPage w.pages f.page }) } } := by
  unfold State.extract
  cases job.loose <;> exact State.freePage_eq _ hp h

theorem State.builtInPlan_badIn (v : State) : v.builtInPlan.badIn planAddr planLen = none := by
  unfold State.badIn
  rw [Option.map_eq_none_iff, List.find?_eq_none]
  intro e he
  have hwipe := (List.mem_filter.1 (List.mem_filter.1 he).1).2
  simp only [Bool.not_eq_true', Bool.and_eq_false_iff, decide_eq_false_iff_not, not_le, not_lt, Bool.and_eq_true,
    decide_eq_true_eq] at hwipe ⊢
  unfold planAddr at *
  unfold planLen
  omega

theorem State.request_eq {v : State} (x : Refetch) (hopen : v.flashOpen = true) (hqueue : v.lib.queue.length < 16) :
    v.request x = { v with lib := { v.lib with queue := v.lib.queue ++ [x] } } :=
  if_pos (by rw [hopen, decide_eq_true hqueue]; rfl)

theorem State.agreesButRecords_lib {t u : State} (l : Library → Library) (h : t.agreesButRecords u) :
    State.agreesButRecords { t with lib := l t.lib } { u with lib := l u.lib } := by
  obtain ⟨hfields, hfree, hmem, hecc⟩ := h
  exact ⟨congrArg (fun x : State => { x with lib := l x.lib }) hfields, hfree, hmem, hecc⟩

/-- Settles O46: the start of a frame, and its end with no bad word and with each of the three. -/
theorem featureStage : Obligations.FeatureStage := by
  unfold Obligations.FeatureStage
  intro s dt array us hm hpause hserving hqueue now edit
  have hcore : (s.elapse dt).coreRuns = true := by simp [State.coreRuns, State.paused, hm, hpause]
  have hplan : (s.elapse dt).planPending = false := State.planPending_false (v := s.elapse dt) hserving hqueue
  refine ⟨fun before after x fb fa f hfree hticks hframes hbefore hx hfb hf => ?start, ?done⟩
  case start =>
    have hnext : (s.elapse dt).nextFrame = some (x.id, f.chan) :=
      State.nextFrame_eq (v := s.elapse dt) hticks hframes hbefore hx hfb hf
    refine (event_agrees (by rw [hcore, hplan, hnext]; simp only [State.elapse_arrays, hfree]; rfl) ?_ :
      ∃ t, execFeatureExtractionStart dt array s = .next t ∧ t.agrees _)
    rw [hnext]
    rfl
  case done =>
    intro job x f hform hjob hx hf hturn work sync r page freed
    have hexec : execFeatureExtractionDone dt array us s = _ :=
      eventOf_next _ _ _ _ _ hform (by rw [hcore, hplan]; simp only [State.elapse_arrays, hjob]; rfl)
    have hframe : ((r.ticks.find? (fun t => decide (t.id = job.tick))).bind
        (fun t => (t.frames.find? (fun f => decide (f.chan = job.chan))).map (fun f => (t, f)))) = some (x, f) := by
      rw [show r.ticks = s.ticks from rfl, hx, Option.bind_some, hf]
      rfl
    dsimp only at hexec
    change exec (.featureExtractionDone dt array us) s = _ at hexec
    rw [show (s.elapse dt).upset us = r from rfl, show r.arrays.getD array.val none = some job from hjob] at hexec
    dsimp only at hexec
    rw [hframe] at hexec
    dsimp only at hexec
    have hrecorded {t v : State} (a : Nat) (ht : v.wordEvent 0x01 .sig a = t) (hmode : v.mode = .run)
        (hflue : v.flue = s.flue) (hash : v.ash = s.ash) :
        s.recordedBoth t.settle 0x0A (memoryPayload 1 .sig a 0xFFFF 0xFF 0 0) := by
      subst ht
      exact State.recordedBoth_of (State.memoryEvent_recordedBoth v 1 .sig a 0xFFFF 0xFF 0 0 (v.dumpHolds_run hmode)) hflue hash
    have hextract := State.extract_eq (v := r) array.val job x f hpause hturn
    refine ⟨fun hpage hplanOk hwork => ?whole, fun a hpage => ?sample, fun a hpage hplanOk hwork => ?working,
      fun a hpage hplanBad => ?plan⟩
    case whole =>
      rw [show r.badIn (pageAddr f.page) (4 * x.len) = none from hpage, show r.badIn planAddr planLen = none from hplanOk,
        show r.badIn (workAddr array.val) workSize = none from hwork] at hexec
      dsimp only at hexec
      rw [hextract] at hexec
      exact ⟨_, _, _, hexec, levels_length _ _ _ _ _, fun q hq => levels_le hq, rfl, State.settle_agrees _⟩
    case sample =>
      rw [show r.badIn (pageAddr f.page) (4 * x.len) = some a from hpage] at hexec
      dsimp only at hexec
      rw [State.freePage_eq] at hexec
      · exact ⟨_, hexec, hrecorded a rfl hm rfl rfl, State.agreesButRecords_settle (State.memoryEvent_records _ _ _ _ _ _ _ _)⟩
      · exact hpause
      · exact hturn
    case working =>
      rw [show r.badIn (pageAddr f.page) (4 * x.len) = none from hpage, show r.badIn planAddr planLen = none from hplanOk,
        show r.badIn (workAddr array.val) workSize = some a from hwork] at hexec
      dsimp only at hexec
      refine ⟨_, hexec, hrecorded a rfl hm rfl rfl, ?_⟩
      have hrestart : (r.wipe (wordOf a) 8).restartJob array.val = { r.wipe (a / 8 * 8) 8 with
          arrays := s.arrays.set array.val (some { job with loose := decide (3 ≤ s.power.vset) }) } := by
        unfold State.restartJob
        rw [show (r.wipe (wordOf a) 8).arrays.getD array.val none = some job from hjob]
        rfl
      rw [hrestart]
      exact State.agreesButRecords_settle (State.memoryEvent_records _ _ _ _ _ _ _ _)
    case plan =>
      rw [show r.badIn (pageAddr f.page) (4 * x.len) = none from hpage, show r.badIn planAddr planLen = some a from hplanBad]
        at hexec
      dsimp only at hexec
      unfold State.planBad at hexec
      dsimp only at hexec
      have hrec := hrecorded (v := r) a rfl hm rfl rfl
      have hbut : (r.wordEvent 0x01 .sig a).agreesButRecords r := State.memoryEvent_records _ _ _ _ _ _ _ _
      generalize r.wordEvent 0x01 .sig a = v at hexec hrec hbut
      obtain ⟨hfields, -⟩ := id hbut
      have hlib : v.lib = s.lib := (congrArg State.lib hfields :)
      have hdeclared : v.libDeclared = s.libDeclared := (congrArg State.libDeclared hfields :)
      have hvplan : v.planPending = false := State.planPending_false (by rw [hlib]; exact hserving) (by rw [hlib]; exact hqueue)
      refine ⟨fun hdecl hacc hclosed hlen => ?asked, fun hshut => ?builtIn⟩
      case asked =>
        have hopen : v.flashOpen = true := by simp [State.flashOpen, hdeclared, hlib, hdecl, hacc, hclosed]
        rw [if_pos hopen, hvplan, if_neg Bool.false_ne_true, State.request_eq .plan hopen (by rw [hlib]; exact hlen)] at hexec
        rw [if_pos (by simp [State.planPending])] at hexec
        refine ⟨_, hexec, hrec, State.agreesButRecords_settle ?_⟩
        exact State.agreesButRecords_lib (fun l => { l with queue := l.queue ++ [.plan] }) hbut
      case builtIn =>
        have hopen : v.flashOpen = false := by
          simp only [State.flashOpen, hdeclared, hlib]
          rcases hshut with h | h | h <;> simp [h]
        rw [if_neg (ne_true_of_eq_false hopen), State.builtInPlan_badIn,
          show v.builtInPlan.planPending = false from hvplan, if_neg (by decide), State.extract_eq] at hexec
        · refine ⟨_, hexec, rfl, ?_, ?_⟩
          · exact (congrArg (fun u : State => u.arrays.set array.val none) hfields :)
          · exact (congrArg (fun u : State => withoutPage u.pages f.page) hfields :)
        · exact (congrArg (fun u : State => u.volt.pauseAt) hfields :).trans hpause
        · intro w hw
          have hsync : v.sync = s.sync := (congrArg State.sync hfields :)
          have hclock : v.clock = now := (congrArg State.clock hfields :)
          exact hclock ▸ hturn w (hsync ▸ hw)

end Sys2Proof.Machine
end

section
/-! The encoding stage (09_encoding.md). -/

namespace Sys2Proof.Machine

/-! ### What a write and a wipe leave -/

theorem State.sameMemoryBut_poke (v : State) {a n : Nat} {bs : List Byte} (h : bs.length ≤ n) :
    (v.poke a bs).sameMemoryBut v a n := by
  refine ⟨fun x hx => ?_, fun w hw => ?_⟩
  · rw [State.poke, Memory.read_writeBytes, if_neg (by omega)]
  · exact errorsAt_poke v a bs w (by omega)

theorem State.errorsAt_poke_within (v : State) {a w : Nat} {bs : List Byte} (hlow : a < w + 8) (hhigh : w < a + bs.length) :
    errorsAt (v.poke a bs).ecc w = 0 := by
  rw [State.poke, errorsAt_filter v.ecc (fun x => !(decide (a < x + 8) && decide (x < a + bs.length))), if_neg]
  simp [hlow, hhigh]

theorem State.sameMemoryBut_wipe (v : State) (a n : Nat) : (v.wipe a n).sameMemoryBut v a n := by
  refine ⟨fun x hx => ?_, fun w hw => ?_⟩
  · rw [State.wipe, Memory.read_clear, if_neg (by omega)]
  · rw [State.wipe, errorsAt_filter v.ecc (fun x => !(decide (a ≤ x) && decide (x < a + n))), if_pos]
    simp only [Bool.not_eq_true', Bool.and_eq_false_iff, decide_eq_false_iff_not]
    omega

theorem State.read_wipe_within (v : State) {a n x : Nat} (hlow : a ≤ x) (hhigh : x < a + n) :
    Memory.read (v.wipe a n).mem x = 0 := by
  rw [State.wipe, Memory.read_clear, if_pos ⟨hlow, hhigh⟩]
  rfl

/-- The first hypervector of a run just written is read back. -/
theorem State.vectorAt_poke_first (v : State) (a : Nat) (m : HV) (rest : List Byte) (hs : Memory.wf v.mem) :
    (v.poke a (hvBytes m ++ rest)).vectorAt a = m := by
  have hpeek : (v.poke a (hvBytes m ++ rest)).peek a 1024 = hvBytes m := by
    rw [State.peek, Memory.readBytes_eq _ _ _ (v.poke_wf a _ hs)]
    refine List.ext_getElem (by simp) fun i hi hi' => ?_
    have hlen : i < 1024 := by simpa using hi
    rw [List.getElem_map, List.getElem_range, State.poke, Memory.read_writeBytes, if_pos (by simp; omega),
      Nat.add_sub_cancel_left, List.getD_eq_getElem _ _ (by simp; omega), List.getElem_append_left]
  rw [State.vectorAt, State.peekNat, hpeek]
  exact hvOfBytes_hvBytes m

/-! ### Majority -/

theorem bitsFrom_testBit (f : Nat → Bool) (n i k : Nat) : (bitsFrom f n i).testBit k = (decide (k < n) && f (i + k)) := by
  induction n generalizing i k with
  | zero => simp [bitsFrom]
  | succ n ih =>
    have hbit : bitsFrom f (n + 1) i = Nat.bit (f i) (bitsFrom f n (i + 1)) := by
      rw [bitsFrom, Nat.bit_val, Nat.add_comm]
      cases f i <;> rfl
    rw [hbit]
    cases k with
    | zero => simp
    | succ k =>
      rw [Nat.testBit_bit_succ, ih, Nat.add_right_comm, Nat.add_assoc]
      simp

theorem majority_getLsbD (terms : List HV) (tie : HV) {i : Nat} (hi : i < 8192) :
    (majority terms tie).getLsbD i = majBit terms tie i := by
  rw [majority, BitVec.getLsbD_ofNat, bitsFrom_testBit, decide_eq_true hi, Bool.true_and, Bool.true_and, Nat.zero_add]

/-! ### The item memory -/

theorem draw_length (n : Nat) (x : Word64) : (draw n x).1.length = n := by
  induction n generalizing x with
  | zero => rfl
  | succ n ih => simp [draw, ih]

theorem drawnBytes_length (ws : List Word64) : (drawnBytes ws).length = 8 * ws.length := by
  simp [drawnBytes, List.length_flatMap, Nat.mul_comm]

theorem shuffle_size (i : Nat) (rs : List Word64) (p : Array Nat) : (shuffle i rs p).size = p.size := by
  induction rs generalizing i p with
  | nil => rfl
  | cons r rs ih => rw [shuffle, ih]; simp [shuffleStep]

theorem length_of_draw {n : Nat} {x y : Word64} {ws : List Word64} (h : draw n x = (ws, y)) : ws.length = n := by
  rw [← draw_length n x, h]

theorem itemMemory_length (seed : Nat) : (itemMemory seed).length = 190432 := by
  unfold itemMemory
  split
  next ch x hch =>
  split
  next ids x' hids =>
  split
  next level y hlevel =>
  split
  next perm y' hperm =>
  split
  next t1 z ht1 =>
  split
  next t2 z' ht2 =>
  simp only [List.length_append, drawnBytes_length, length_of_draw hch,
    length_of_draw hids, length_of_draw ht1, length_of_draw ht2, List.length_flatMap, hvBytes_length, leBytes_length,
    List.map_const', List.sum_replicate, List.length_take, Array.length_toList, shuffle_size, Array.size_range,
    List.length_range, smul_eq_mul]
  omega

/-! ### The tick that is encoded -/

theorem State.encodeTick_eq {v : State} {before after : List Tick} {x : Tick} (hticks : v.ticks = before ++ x :: after)
    (hbefore : ∀ y ∈ before, y.stage ≠ .features) (hx : x.stage = .features)
    (hdone : ∀ f ∈ x.frames, f.stage = .done ∨ f.stage = .discarded) : v.encodeTick = some x := by
  have hfind : v.ticks.find? (fun t => decide (t.stage = .features)) = some x := by
    rw [hticks, List.find?_append, List.find?_eq_none.2 (fun y hy => by simpa using hbefore y hy),
      List.find?_cons_of_pos (by simpa using hx)]
    rfl
  unfold State.encodeTick
  rw [hfind]
  exact if_pos (by simpa [Tick.featuresDone] using hdone)

theorem Tick.valid_eq {x : Tick} (hdone : ∀ f ∈ x.frames, f.stage = .done ∨ f.stage = .discarded) :
    x.valid = x.frames.filter (fun f => decide (f.stage = .done)) := by
  refine List.filter_congr fun f hf => ?_
  rcases hdone f hf with h | h <;> simp [h]

theorem State.channelVector_congr {u v : State} (hmem : u.mem = v.mem) (l : List Nat) :
    u.channelVector l = v.channelVector l := by
  simp only [State.channelVector, State.levelVector, State.vectorAt, State.peekNat, State.peek, hmem]

theorem State.machineVector_congr {u v : State} (hmem : u.mem = v.mem) (l : List (Nat × HV)) :
    u.machineVector l = v.machineVector l := by
  simp only [State.machineVector, State.vectorAt, State.peekNat, State.peek, hmem]

theorem State.machineQuery_congr {u v : State} (hmem : u.mem = v.mem) (hdepth : u.depth = v.depth)
    (hhistory : u.learn.history = v.learn.history) (m : HV) : u.machineQuery m = v.machineQuery m := by
  simp only [State.machineQuery, State.vectorAt, State.peekNat, State.peek, hmem, hdepth, hhistory]

/-- The bytes of the machine history once a machine vector has entered it (R189). -/
def State.historyBytes (v : State) (m : HV) : List Byte :=
  ((m :: (List.range v.learn.history).map (fun a => v.vectorAt (historyAddr (a + 1)))).take
    (min (v.depth - 1) (v.learn.history + 1))).flatMap hvBytes

theorem State.historyBytes_length (v : State) (m : HV) :
    (v.historyBytes m).length = 1024 * min (v.depth - 1) (v.learn.history + 1) := by
  simp only [State.historyBytes, List.length_flatMap, hvBytes_length, List.map_const', List.sum_replicate, List.length_take,
    List.length_cons, List.length_map, List.length_range, smul_eq_mul]
  omega

theorem State.encode_none {v : State} {x : Tick} (h : x.valid = []) :
    v.encode x = { v.wipe 0x050AE800 0xC00 with
      learn := { v.learn with history := 0 }
      ticks := v.ticks.map (fun u => if u.id = x.id then
        { u with stage := .recall, queries := [], ngramShort := false } else u) } :=
  if_pos h

theorem State.encode_some {v : State} {x : Tick} (h : x.valid ≠ []) :
    v.encode x = { v.poke 0x050AE800 (v.historyBytes (v.tickQueries x.valid).2) with
      learn := { v.learn with history := min (v.depth - 1) (v.learn.history + 1) }
      ticks := v.ticks.map (fun u => if u.id = x.id then
        { u with stage := .recall, queries := (v.tickQueries x.valid).1
                 ngramShort := decide (v.learn.history < v.depth - 1) } else u) } :=
  if_neg h

theorem State.tickQueries_congr {u v : State} (hmem : u.mem = v.mem) (hdepth : u.depth = v.depth)
    (hhistory : u.learn.history = v.learn.history) (fs : List ChanFrame) : u.tickQueries fs = v.tickQueries fs := by
  have hchannel : u.channelVector = v.channelVector := funext (State.channelVector_congr hmem)
  have hmachine : u.machineVector = v.machineVector := funext (State.machineVector_congr hmem)
  have hquery : u.machineQuery = v.machineQuery := funext (State.machineQuery_congr hmem hdepth hhistory)
  simp only [State.tickQueries, hchannel, hmachine, hquery]

theorem State.tickQueries_vec (v : State) (fs : List ChanFrame) :
    (v.tickQueries fs).1.map Query.vec = fs.map (fun f => v.channelVector f.levels) ++
      [v.machineQuery (v.tickQueries fs).2] := by
  simp [State.tickQueries, Function.comp_def]

theorem State.tickQueries_scope (v : State) (fs : List ChanFrame) :
    (v.tickQueries fs).1.map Query.scope = fs.map ChanFrame.chan ++ [32] := by
  simp [State.tickQueries, Function.comp_def]

/-- Settles O47: one query for each valid channel and one for the machine, the two bad words, and the rebuild. -/
theorem encodingStage : Obligations.EncodingStage := by
  unfold Obligations.EncodingStage
  refine ⟨fun terms tie i hi => majority_getLsbD terms tie hi, fun s dt hm hpause => ?_⟩
  intro now
  have hcore : (s.elapse dt).coreRuns = true := by simp [State.coreRuns, State.paused, hm, hpause]
  refine ⟨?encoding, fun hrebuilding => ?rebuilt⟩
  case encoding =>
    intro us before after x hform hrebuilding hticks hbefore hx hdone fs r put
    have htick : r.encodeTick = some x := State.encodeTick_eq (v := r) hticks hbefore hx hdone
    have hvalid : x.valid = fs := Tick.valid_eq hdone
    have hexec : execTickEncoding dt us s = _ := eventOf_next _ _ _ _ _ hform (by
      rw [hcore, State.elapse_lib, hrebuilding, show (s.elapse dt).encodeTick = r.encodeTick from rfl, htick]
      rfl)
    dsimp only at hexec
    change exec (.tickEncoding dt us) s = _ at hexec
    rw [show (s.elapse dt).upset us = r from rfl, htick] at hexec
    dsimp only at hexec
    refine ⟨fun hnone => ?silent, fun hsome hitems hhistory hdepth hs => ?whole, fun a hsome hitems => ?itemWord,
      fun a hsome hitems hhistory => ?historyWord⟩
    case silent =>
      rw [if_pos (hvalid.trans hnone), State.encode_none (hvalid.trans hnone)] at hexec
      exact ⟨_, hexec, State.settle_agrees _, r.sameMemoryBut_wipe _ _, fun a hlow hhigh => r.read_wipe_within hlow hhigh⟩
    case whole =>
      intro vecs machine
      have hnot : x.valid ≠ [] := by rw [hvalid]; exact hsome
      have hqueries : r.tickQueries x.valid = s.tickQueries fs := by
        rw [hvalid]
        exact State.tickQueries_congr rfl rfl rfl fs
      rw [if_neg hnot, hvalid, hitems] at hexec
      dsimp only at hexec
      rw [show r.badIn (historyAddr 1) (1024 * min (r.depth - 1) r.learn.history) = none from hhistory] at hexec
      dsimp only at hexec
      rw [State.encode_some hnot, hqueries] at hexec
      refine ⟨_, (s.tickQueries fs).1, hexec, State.settle_agrees _, r.sameMemoryBut_poke ?_, s.tickQueries_scope fs,
        s.tickQueries_vec fs, ?_, fun h => ?_, fun h => ?_⟩
      · rw [State.historyBytes_length]
        have hd : r.depth ≤ 4 := hdepth
        omega
      · intro q hq
        simp only [State.tickQueries, List.mem_append, List.mem_map, List.mem_singleton] at hq
        rcases hq with ⟨v, -, rfl⟩ | rfl <;> exact ⟨rfl, rfl⟩
      · simp [State.machineQuery, h]
      · have hfirst : ∃ rest, r.historyBytes machine = hvBytes machine ++ rest := by
          obtain ⟨n, hn⟩ : ∃ n, min (r.depth - 1) (r.learn.history + 1) = n + 1 :=
            ⟨min (r.depth - 1) (r.learn.history + 1) - 1, by have hd : 2 ≤ r.depth := h; omega⟩
          rw [State.historyBytes, hn, List.take_succ_cons, List.flatMap_cons]
          exact ⟨_, rfl⟩
        obtain ⟨rest, hrest⟩ := hfirst
        have hread := r.vectorAt_poke_first 0x050AE800 machine rest hs
        rw [← hrest] at hread
        exact hread
    case itemWord =>
      rw [if_neg (by rw [hvalid]; exact hsome), hvalid, hitems] at hexec
      dsimp only at hexec
      refine ⟨_, hexec, ?_, State.agreesButRecords_settle (State.memoryEvent_records _ _ _ _ _ _ _ _)⟩
      exact State.memoryEvent_recordedBoth { r with lib := { s.lib with rebuilding := true } } 4 .enc a 0xFFFF 0xFF 0 0
        (State.dumpHolds_run _ hm)
    case historyWord =>
      have hnot : x.valid ≠ [] := by rw [hvalid]; exact hsome
      rw [if_neg hnot, hvalid, hitems] at hexec
      dsimp only at hexec
      rw [show r.badIn (historyAddr 1) (1024 * min (r.depth - 1) r.learn.history) = some a from hhistory] at hexec
      dsimp only at hexec
      have hrec : s.recordedBoth (r.clearHistory.wordEvent 5 .enc a) 0x0A (memoryPayload 5 .enc a 0xFFFF 0xFF 0 0) :=
        State.memoryEvent_recordedBoth r.clearHistory 5 .enc a 0xFFFF 0xFF 0 0 (State.dumpHolds_run _ hm)
      have hbut : (r.clearHistory.wordEvent 5 .enc a).agreesButRecords r.clearHistory := State.memoryEvent_records _ _ _ _ _ _ _ _
      generalize r.clearHistory.wordEvent 5 .enc a = v at hexec hrec hbut
      obtain ⟨hfields, -⟩ := hbut
      have hticks : v.ticks = s.ticks := (congrArg State.ticks hfields :)
      have hdepth : v.depth = s.depth := (congrArg State.depth hfields :)
      have hhist : v.learn.history = 0 := (congrArg (fun u : State => u.learn.history) hfields :)
      rw [State.encode_some hnot] at hexec
      refine ⟨_, (v.tickQueries x.valid).1, hexec, hrec, ?_, ?_, ?_⟩
      · simp only [State.settle_ticks, hticks, hdepth, hhist, put]
      · simp only [State.settle_learn, hdepth, hhist]
      · rw [State.tickQueries_scope, hvalid]
  case rebuilt =>
    have hexec : execItemMemoryRebuildEnd dt s = _ := event_next _ _ _ _ (by
      rw [hcore, State.elapse_lib, hrebuilding]
      rfl)
    have hlen := itemMemory_length s.lib.seed
    generalize hitems : itemMemory s.lib.seed = items at hlen
    have hbuild : (s.elapse dt).buildItems = { (s.elapse dt).poke encBase items with
        lib := { s.lib with built := true, rebuilding := false } } := by rw [← hitems]; rfl
    rw [hbuild] at hexec
    refine ⟨_, hexec, State.settle_agrees _, (s.elapse dt).sameMemoryBut_poke (le_of_eq hlen), hlen, fun w hlow hhigh => ?_,
      fun hs => ?_⟩
    · exact (s.elapse dt).errorsAt_poke_within (by unfold encBase; omega) (by unfold encBase; omega)
    · exact (s.elapse dt).peek_poke encBase hs hlen

end Sys2Proof.Machine
end

section
/-! The recall stage (10_hearth.md): a held query frame that cannot be read. -/

namespace Sys2Proof.Machine

/-- A query frame of the fleet, held in cell 0. -/
def heldQuery : Job :=
  { frame := { cls := 1, dst := 0, src := 1, e2e := 0, payload := [] }, source := .a, cells := [0], at_ := 0 }

/-- Two held query frames carry one number, and the cell that they lie in holds an uncorrectable word. -/
def twinQueries : State :=
  { mode := .run, ecc := [(0x04000000, 2)], fleet := { jobs := [heldQuery, heldQuery] } }

/-- The first of the two is discarded, and no other (R269). -/
theorem twinQueries_queryStart {t : State} (h : exec (.queryStart 0 0 []) twinQueries = .next t) :
    t.fleet.jobs.length = 1 := by
  have hrun : (match exec (.queryStart 0 0 []) twinQueries with
      | .next t => t.fleet.jobs.length
      | _ => 0) = 1 := by decide
  rwa [h] at hrun

/-- Refutes O48: of two held query frames with one number, a start that cannot read the first discards that one alone, where
the statement takes every frame of the number away. The state is not one that the ring forms; the statement does not leave it
out. -/
theorem not_recallStage : ¬ Obligations.RecallStage := by
  unfold Obligations.RecallStage
  intro h
  obtain ⟨hstart, -⟩ := h twinQueries 0 rfl rfl
  obtain ⟨-, hfleet, -⟩ := hstart [] 0 0 rfl (by decide) rfl le_rfl nofun
  obtain ⟨-, hbad⟩ := hfleet [] [heldQuery] heldQuery rfl nofun rfl rfl (.inl nofun)
  obtain ⟨t, hexec, -, hjobs⟩ := hbad 0x04000000 rfl
  have hlen := twinQueries_queryStart hexec
  rw [hjobs] at hlen
  exact absurd hlen (by decide)

end Sys2Proof.Machine
end

section
/-! Records on their way out (12_outputs_and_flue.md): a report queue that goes on past its end. -/

namespace Sys2Proof.Machine

/-- An ash dump has its end record still to form, the next record is to begin past the 64 KiB of the report queue, and a word
of the report queue is uncorrectable. -/
def dumpPastQueue : State :=
  { mode := .strapRead, ecc := [(0x05100000, 2)], straps := { dumping := true, dumpSent := 8192 }, flue := { tail := 131072 } }

/-- The words of a record that begins there are not taken as written, so the end record reads bad and is discarded (R269). -/
theorem dumpPastQueue_send {t : State} (h : exec (.flueRecordSend 0 false) dumpPastQueue = .next t) : t.flue.wire = [] := by
  have hrun : (match exec (.flueRecordSend 0 false) dumpPastQueue with
      | .next t => t.flue.wire
      | _ => []) = [] := by decide
  rwa [h] at hrun

/-- Refutes O56: where the offset of the next record lies past the end of the report queue, the end record of an ash dump can
meet the uncorrectable word of an old one, is discarded and never goes on the wire. The offset stays below 65,536 in every state
that the flue forms; the statement does not say so. -/
theorem not_recordsOut : ¬ Obligations.RecordsOut := by
  unfold Obligations.RecordsOut
  intro h
  obtain ⟨-, -, -, -, -, hsend⟩ := h dumpPastQueue 0
  obtain ⟨-, hend, -⟩ := hsend (by decide) (by decide) (by decide) rfl (by decide)
  obtain ⟨t, x, hexec, hwire, -⟩ := hend ⟨.inl rfl, rfl, rfl⟩ rfl (by decide)
  rw [dumpPastQueue_send hexec] at hwire
  exact absurd hwire.symm (by simp)

end Sys2Proof.Machine
end

section
/-! Sleep entry (03_power_reset_ember.md): an accumulator of a retired row. -/

namespace Sys2Proof.Machine

/-- Sleep entry into EMBER is due, and an accumulator with one admission stands open for row 8192, whose tag reads uncorrectable
and whose bank is retired. -/
def openOnRetired : State :=
  { mode := .run, power := { sleepDue := true }, straps := { codes := List.replicate 11 0 ++ [4] }
    ecc := [(0x01040000, 2)], hearth := { retired := [128] }, learn := { accums := [{ idx := 0, row := 8192, k := 1 }] } }

theorem State.commitOpen_of_kept {v : State} (h : ∀ x ∈ v.learn.accums, v.commitAccum x = v) : v.commitOpen = v := by
  refine List.foldlRecOn (motive := fun u => u = v) (List.range 512) _ rfl fun u hu i _ => ?_
  subst hu
  split
  next x hx => exact h x (List.mem_of_find?_eq_some hx)
  · rfl

/-- The find in the tag of a retired row changes nothing (R196, R268). -/
theorem State.commitAccum_of_retired {v : State} {x : Accum} (hcounters : v.counterBad x.idx = none)
    (htag : v.tagBad x.row = true) (hretired : v.isRetired x.row = true) : v.commitAccum x = v := by
  unfold State.commitAccum State.tagFound
  rw [hcounters, if_pos htag, if_pos hretired]

/-- The commits before EMBER leave the accumulator its admission. -/
theorem openOnRetired_commitOpen :
    (((((openOnRetired.elapse 0).upset []).abandonTeach 6).abandonRecovery).stopWork.commitOpen).learn.accums =
      [{ idx := 0, row := 8192, k := 1 }] := by
  rw [State.commitOpen_of_kept]
  · rfl
  · intro x hx
    obtain rfl := List.mem_singleton.1 (show x ∈ [{ idx := 0, row := 8192, k := 1 }] from hx)
    exact State.commitAccum_of_retired (by decide) (by decide) (by decide)

/-- Refutes O35: before EMBER an accumulator on a retired row whose tag reads uncorrectable is not committed, nor freed, and so
keeps the admission that the statement says is gone. No accumulator is opened for a retired row; the statement does not leave
such a state out. -/
theorem not_sleepEntered : ¬ Obligations.SleepEntered := by
  unfold Obligations.SleepEntered
  intro h
  obtain ⟨-, hember⟩ := h openOnRetired 0 [] rfl rfl rfl rfl rfl rfl rfl rfl rfl rfl
  obtain ⟨t, -, -, -, -, -, -, -, -, -, -, -, hcommitted, -⟩ := hember rfl
  rw [openOnRetired_commitOpen] at hcommitted
  exact absurd (hcommitted _ (.head _) (by decide)) (by decide)

end Sys2Proof.Machine
end

section
/-! An output of the decimators (05_acquisition.md, 07_sync_and_frames.md): a drop counter past its limit. -/

namespace Sys2Proof.Machine

/-- A free-run frame of 1,024 samples is full, and the drop counter of channel 0 stands above 65,535. -/
def dropsPastLimit : State :=
  { mode := .run, chans := { drops := 65536 } :: List.replicate 31 {}, sync := { settling := 0, count := 1024 } }

/-- A close that drops no frame of the channel leaves its counter as it is (R153). -/
theorem dropsPastLimit_output {t : State}
    (h : exec (.decimatorOutput 0 [{ value := 0, limited := false }]) dropsPastLimit = .next t) :
    (t.chans.getD 0 {}).drops = 65536 := by
  have hrun : (match exec (.decimatorOutput 0 [{ value := 0, limited := false }]) dropsPastLimit with
      | .next t => (t.chans.getD 0 {}).drops
      | _ => 65536) = 65536 := by decide
  rwa [h] at hrun

/-- Refutes O39: a close at which a channel drops nothing leaves a drop counter above 65,535 as it stands, where the statement
limits it to 65,535. The counter saturates at 65,535 in every state that is reached; the statement does not say so. -/
theorem not_outputSample : ¬ Obligations.OutputSample := by
  unfold Obligations.OutputSample
  intro h
  obtain ⟨-, -, -, hclose, -⟩ := h dropsPastLimit 0 [{ value := 0, limited := false }] rfl (by decide) rfl
  obtain ⟨t, x, news, hexec, -, -, -, -, -, -, -, -, -, -, -, -, -, -, -, -, hpages⟩ :=
    hclose ⟨rfl, .inl rfl⟩ ⟨rfl, .inl rfl⟩ rfl (by decide) (by decide)
  obtain ⟨-, -, -, hchans⟩ := hpages (by decide) (by decide)
  obtain ⟨-, hkept⟩ := hchans 0 (by decide) (by decide)
  obtain ⟨hpage, -⟩ := hkept rfl
  obtain ⟨-, -, hdrops, -⟩ := hpage 0 (by simp [dropsPastLimit])
  rw [dropsPastLimit_output hexec] at hdrops
  exact absurd hdrops (by decide)

end Sys2Proof.Machine
end

section
/-! The vault mover and the commits of its entries (14_vault_and_ash.md; R214, R275, R277, R280, R281, R366). -/

namespace Sys2Proof.Machine

/-! ### Parts of what is read -/

theorem State.peek_part (s : State) {a i m n : Nat} (hs : Memory.wf s.mem) (h : i + m ≤ n) :
    s.peek (a + i) m = slice (s.peek a n) i m := by
  rw [State.peek, State.peek, Memory.readBytes_eq _ _ _ hs, Memory.readBytes_eq _ _ _ hs]
  refine List.ext_getElem (by simp [slice]; omega) fun j hj hj' => ?_
  simp only [slice, List.getElem_map, List.getElem_range, List.getElem_take, List.getElem_drop, Nat.add_assoc]

/-- Bytes that no word of the list covers read as before. -/
theorem State.peek_writeAll_of_apart (s : State) {ws : List (Nat × List Byte)} {a n : Nat} (hs : Memory.wf s.mem)
    (h : ∀ w ∈ ws, w.1 + w.2.length ≤ a ∨ a + n ≤ w.1) : (s.writeAll ws).peek a n = s.peek a n :=
  Memory.readBytes_congr (s.writeAll_wf ws hs) hs fun x hx hx' => s.read_writeAll ws x fun w hw => by
    have := h w hw
    omega

theorem asWords_within {k a : Nat} {bs : List Byte} {w : Nat × List Byte} (h : w ∈ asWords k bs a) :
    a ≤ w.1 ∧ w.1 + w.2.length ≤ a + 8 * k := by
  obtain ⟨i, hi, rfl⟩ := mem_asWords.1 h
  simp only [List.length_take]
  omega

theorem State.peek_writeAll_asWords (s : State) {bs : List Byte} {a k n : Nat} (hs : Memory.wf s.mem) (hlen : bs.length = n)
    (hk : 8 * k = n) : (s.writeAll (asWords k bs a)).peek a n = bs :=
  s.peek_writeAll_words hs (fun _ => Iff.rfl) hlen hk

/-- One of several copies of a byte string that follow each other. -/
theorem slice_flatten_replicate (bs : List Byte) {n i : Nat} (h : i < n) :
    slice (List.replicate n bs).flatten (bs.length * i) bs.length = bs := by
  induction n generalizing i with
  | zero => omega
  | succ n ih =>
    rw [List.replicate_succ, List.flatten_cons]
    cases i with
    | zero => exact (slice_append_left bs _ 0 _ (by omega)).trans (slice_full bs _ rfl)
    | succ i =>
      have hdrop : slice (bs ++ (List.replicate n bs).flatten) (bs.length * (i + 1)) bs.length =
          slice (List.replicate n bs).flatten (bs.length * i) bs.length := by
        rw [slice, slice, Nat.mul_succ, Nat.add_comm, ← List.drop_drop, List.drop_left]
      rw [hdrop, ih (by omega)]

/-- What is zeroed reads zero. -/
theorem State.peek_wipe_within (v : State) {a n x m : Nat} (hs : Memory.wf v.mem) (hlow : a ≤ x) (hhigh : x + m ≤ a + n) :
    (v.wipe a n).peek x m = List.replicate m 0#8 :=
  Memory.readBytes_of_read (Memory.wf_clear _ _ _ hs) (List.length_replicate ..) fun i hi => by
    rw [v.read_wipe_within (by omega) (by omega), List.getD_eq_getElem _ _ (by simpa using hi), List.getElem_replicate]
    rfl

/-! ### The entry in its slot -/

theorem Entry.head_length (e : Entry) (seq : Nat) : (e.head seq).length = 48 := by
  simp [Entry.head]

theorem Entry.crc_length (e : Entry) (seq : Nat) : (e.crc seq).length = 4 := leBytes_length _ _

theorem Entry.head_fields (e : Entry) (seq : Nat) :
    fieldAt (e.head seq) 0 4 = seq % 2 ^ 32 ∧ fieldAt (e.head seq) 4 1 = e.kind % 2 ^ 8 :=
  ⟨leNat_leBytes 4 seq, by simp [fieldAt, slice, Entry.head, leBytes, leNat]⟩

theorem Entry.journalWrites_within {e : Entry} {seq slot : Nat} {w : Nat × List Byte} (h : w ∈ e.journalWrites seq slot) :
    slotAddr slot ≤ w.1 ∧ w.1 + w.2.length ≤ slotAddr slot + 1080 := by
  unfold Entry.journalWrites at h
  dsimp only at h
  split at h
  · exact asWords_within h
  · obtain h | h := List.mem_append.1 h
    · have := asWords_within h
      omega
    · rw [List.mem_singleton.1 h, List.length_append, e.crc_length, leBytes_length]
      omega

/-- The head of an entry reads back from its slot, whatever its kind. -/
theorem State.peek_journalWrites (s : State) (e : Entry) (seq slot : Nat) (hs : Memory.wf s.mem) :
    (s.writeAll (e.journalWrites seq slot)).peek (slotAddr slot) 48 = e.head seq := by
  unfold Entry.journalWrites
  dsimp only
  split
  · have hwhole := s.peek_writeAll_asWords (a := slotAddr slot) (k := 135) (n := 1080)
      (bs := e.head seq ++ hvBytes e.data ++ (e.crc seq ++ leBytes 4 0)) hs
      (by simp [e.head_length, e.crc_length]) rfl
    have hpart := (s.writeAll (asWords 135 (e.head seq ++ hvBytes e.data ++ (e.crc seq ++ leBytes 4 0)) (slotAddr slot))).peek_part
      (a := slotAddr slot) (i := 0) (m := 48) (n := 1080) (s.writeAll_wf _ hs) (by omega)
    rw [hwhole] at hpart
    refine hpart.trans ?_
    rw [List.append_assoc, slice_append_left _ _ _ _ (by simp [e.head_length]), slice_full _ _ (e.head_length seq)]
  · rw [State.writeAll_append]
    refine (State.peek_writeAll_of_apart _ (s.writeAll_wf _ hs) fun w hw => ?_).trans
      (s.peek_writeAll_asWords hs (e.head_length seq) rfl)
    rw [List.mem_singleton.1 hw]
    exact .inr (by omega)

/-! ### The vault's words -/

/-- Every word of a row's commit lies in the row, its tag or its spawn time. -/
theorem Entry.vaultWrites_within {e : Entry} (hk : e.kind = 1 ∨ e.kind = 2 ∨ e.kind = 3) {w : Nat × List Byte} (h : w ∈ e.vaultWrites) :
    (vaultAddr e.row ≤ w.1 ∧ w.1 + w.2.length ≤ vaultAddr e.row + 1024) ∨
    (vaultTagAddr e.row ≤ w.1 ∧ w.1 + w.2.length ≤ vaultTagAddr e.row + 32) ∨
    (e.row < 15360 ∧ spawnAddr e.row ≤ w.1 ∧ w.1 + w.2.length ≤ spawnAddr e.row + 4) := by
  have hspawn {n : Nat} (hw : w ∈ (if e.row < 15360 then [(spawnAddr e.row, leBytes 4 n)] else [])) :
      e.row < 15360 ∧ spawnAddr e.row ≤ w.1 ∧ w.1 + w.2.length ≤ spawnAddr e.row + 4 := by
    split at hw
    case isTrue hr =>
      rw [List.mem_singleton.1 hw, leBytes_length]
      exact ⟨hr, le_rfl, le_rfl⟩
    case isFalse => exact absurd hw List.not_mem_nil
  unfold Entry.vaultWrites at h
  obtain hk | hk | hk := hk
  · rw [if_pos hk] at h
    obtain h | h := List.mem_append.1 h
    · exact (List.mem_append.1 h).imp asWords_within fun h => .inl (asWords_within h)
    · exact .inr (.inr (hspawn h))
  · rw [if_neg (by omega), if_pos hk] at h
    exact .inr (.inl (asWords_within h))
  · rw [if_neg (by omega), if_neg (by omega), if_pos hk] at h
    exact .inr ((List.mem_append.1 h).imp asWords_within hspawn)

/-- What stands in the slot, the vault or the persistent state lies apart. -/
theorem vault_apart {row slot : Nat} (h1 : 8192 ≤ row) (h2 : row < 16384) (h3 : slot < 2) :
    mramBase ≤ vaultAddr row ∧ vaultAddr row + 1024 ≤ vaultTagAddr 8192 ∧ vaultTagAddr 8192 ≤ vaultTagAddr row ∧
    vaultTagAddr row + 32 ≤ slotAddr 0 ∧ slotAddr 0 ≤ slotAddr slot ∧ slotAddr slot + 2048 ≤ kindlingAddr 0 ∧
    kindlingAddr 0 + 33792 ≤ spawnAddr row := by
  unfold mramBase vaultAddr vaultTagAddr slotAddr kindlingAddr spawnAddr persistBase
  omega

theorem Tag.ofNat_bytes (t : Tag) : Tag.ofNat (leNat t.bytes) = t := by
  rw [Tag.leNat_bytes, Tag.ofNat_toNat]

/-- A spawn time written alone or last reads back. -/
theorem State.peek_spawn (s : State) {row n : Nat} (hs : Memory.wf s.mem) (hr : row < 15360) :
    (s.writeAll (if row < 15360 then [(spawnAddr row, leBytes 4 n)] else [])).peekNat (spawnAddr row) 4 = n % 2 ^ 32 := by
  rw [if_pos hr]
  exact (congrArg leNat (s.peek_poke (spawnAddr row) hs (leBytes_length 4 n))).trans (leNat_leBytes 4 n)

theorem State.peek_of_spawn (s : State) {row n a w : Nat} (hs : Memory.wf s.mem)
    (h : spawnAddr row + 4 ≤ a ∨ a + w ≤ spawnAddr row) :
    (s.writeAll (if row < 15360 then [(spawnAddr row, leBytes 4 n)] else [])).peek a w = s.peek a w :=
  s.peek_writeAll_of_apart hs fun v hv => by
    split at hv
    · rw [List.mem_singleton.1 hv, leBytes_length]
      exact h
    · exact absurd hv List.not_mem_nil

/-! ### A commit -/

theorem State.writeAll_kept (s : State) (ws : List (Nat × List Byte)) : ∃ m e, s.writeAll ws = { s with mem := m, ecc := e } :=
  ⟨_, _, s.writeAll_fields ws⟩

theorem State.applyEntry_kept (s : State) (e : Entry) : ∃ m l, s.applyEntry e = { s with mem := m, ecc := l } := by
  unfold State.applyEntry
  split
  · exact ⟨_, _, rfl⟩
  · exact s.writeAll_kept _

/-- A commit writes memory and steps the vault's counters. -/
theorem State.commitEntry_kept (v : State) (e : Entry) : ∃ m l c, v.commitEntry e = { v with
    mem := m, ecc := l, vault := { v.vault with
      entries := v.vault.entries.drop 1, nextSeq := (v.vault.nextSeq + 1) % 2 ^ 32, nextSlot := 1 - v.vault.nextSlot
      slots := v.vault.slots.set v.vault.nextSlot (some c) } } := by
  unfold State.commitEntry
  dsimp only
  obtain ⟨m, l, hw⟩ := v.writeAll_kept (e.journalWrites v.vault.nextSeq v.vault.nextSlot)
  obtain ⟨m', l', ha⟩ := (v.writeAll (e.journalWrites v.vault.nextSeq v.vault.nextSlot)).applyEntry_kept e
  rw [ha, hw]
  exact ⟨_, _, _, rfl⟩

theorem State.commitEntry_mem (v : State) (e : Entry) : (v.commitEntry e).mem =
    ((v.writeAll (e.journalWrites v.vault.nextSeq v.vault.nextSlot)).applyEntry e).mem := rfl

theorem State.commitEntry_mem_row (v : State) {e : Entry} (hk : e.kind = 1 ∨ e.kind = 2 ∨ e.kind = 3) :
    (v.commitEntry e).mem = ((v.writeAll (e.journalWrites v.vault.nextSeq v.vault.nextSlot)).writeAll e.vaultWrites).mem := by
  rw [State.commitEntry_mem, State.applyEntry, if_neg (by omega)]

theorem State.wipe_wf (s : State) (a n : Nat) (hs : Memory.wf s.mem) : Memory.wf (s.wipe a n).mem := Memory.wf_clear _ _ _ hs

theorem State.applyEntry_wf {s : State} (e : Entry) (hs : Memory.wf s.mem) : Memory.wf (s.applyEntry e).mem := by
  unfold State.applyEntry
  split
  · exact State.wipe_wf _ _ _ (State.wipe_wf _ _ _ (s.poke_wf _ _ hs))
  · exact s.writeAll_wf _ hs

theorem State.commitEntry_wf {v : State} (e : Entry) (hs : Memory.wf v.mem) : Memory.wf (v.commitEntry e).mem :=
  State.applyEntry_wf e (v.writeAll_wf _ hs)

/-- What a commit of a row leaves, and the entry in its slot. -/
theorem State.commitEntry_row {v : State} {e : Entry} (hs : Memory.wf v.mem) (hk : e.kind = 1 ∨ e.kind = 2 ∨ e.kind = 3)
    (h1 : 8192 ≤ e.row) (h2 : e.row < 16384) (h3 : v.vault.nextSlot < 2) :
    (v.commitEntry e).peek (slotAddr v.vault.nextSlot) 48 = e.head v.vault.nextSeq ∧
    (∀ a, a < mramBase → Memory.read (v.commitEntry e).mem a = Memory.read v.mem a) ∧
    (∀ k, 8192 ≤ k → k < 16384 → k ≠ e.row →
      (v.commitEntry e).peek (vaultAddr k) 1024 = v.peek (vaultAddr k) 1024 ∧
      (v.commitEntry e).peek (vaultTagAddr k) 32 = v.peek (vaultTagAddr k) 32) := by
  have hslot := v.writeAll_wf (e.journalWrites v.vault.nextSeq v.vault.nextSlot) hs
  obtain ⟨_, _, _, _, _, _, _⟩ := vault_apart h1 h2 h3
  have hread {a : Nat} (ha : a < mramBase) (w : Nat × List Byte)
      (hw : w ∈ e.journalWrites v.vault.nextSeq v.vault.nextSlot ∨ w ∈ e.vaultWrites) : a < w.1 := by
    obtain hw | hw := hw
    · have := Entry.journalWrites_within hw
      omega
    · have := Entry.vaultWrites_within hk hw
      omega
  simp only [State.peek_of_mem (v.commitEntry_mem_row hk), v.commitEntry_mem_row hk]
  refine ⟨?slot, fun a ha => ?read, fun k hk1 hk2 hne => ?rows⟩
  case slot =>
    refine (State.peek_writeAll_of_apart _ hslot fun w hw => ?_).trans (v.peek_journalWrites e _ _ hs)
    have := Entry.vaultWrites_within hk hw
    omega
  case read =>
    rw [State.read_writeAll _ _ _ fun w hw => .inl (hread ha w (.inr hw)),
      State.read_writeAll _ _ _ fun w hw => .inl (hread ha w (.inl hw))]
  case rows =>
    obtain ⟨_, _, _, _, _, _, _⟩ := vault_apart hk1 hk2 h3
    have hrows : vaultAddr k + 1024 ≤ vaultAddr e.row ∧ vaultTagAddr k + 32 ≤ vaultTagAddr e.row ∨
        vaultAddr e.row + 1024 ≤ vaultAddr k ∧ vaultTagAddr e.row + 32 ≤ vaultTagAddr k := by
      unfold vaultAddr vaultTagAddr
      omega
    constructor <;>
    · rw [State.peek_writeAll_of_apart _ hslot fun w hw => by have := Entry.vaultWrites_within hk hw; omega,
        State.peek_writeAll_of_apart _ hs fun w hw => by have := Entry.journalWrites_within hw; omega]

/-- The vault after a commit of a whole row (R281). -/
theorem State.commitEntry_whole {v : State} {e : Entry} (hs : Memory.wf v.mem) (hk : e.kind = 1) (h1 : 8192 ≤ e.row)
    (h2 : e.row < 16384) :
    (v.commitEntry e).peek (vaultTagAddr e.row) 32 = e.tag.bytes ∧
    (v.commitEntry e).peek (vaultAddr e.row) 1024 = hvBytes e.data ∧
    (e.row < 15360 → (v.commitEntry e).peekNat (spawnAddr e.row) 4 = e.spawn % 2 ^ 32) := by
  have hslot := v.writeAll_wf (e.journalWrites v.vault.nextSeq v.vault.nextSlot) hs
  obtain ⟨_, _, _, _, _, _, _⟩ := vault_apart h1 h2 (show 0 < 2 by omega)
  simp only [State.peekNat, State.peek_of_mem (v.commitEntry_mem_row (.inl hk)), Entry.vaultWrites, if_pos hk,
    State.writeAll_append]
  generalize v.writeAll (e.journalWrites v.vault.nextSeq v.vault.nextSlot) = u at hslot
  have hdata := u.writeAll_wf (asWords 128 (hvBytes e.data) (vaultAddr e.row)) hslot
  refine ⟨?tag, ?data, State.peek_spawn _ (State.writeAll_wf _ _ hdata)⟩
  case tag =>
    rw [State.peek_of_spawn _ (State.writeAll_wf _ _ hdata) (.inr (by omega)),
      State.peek_writeAll_asWords _ hdata e.tag.bytes_length rfl]
  case data =>
    rw [State.peek_of_spawn _ (State.writeAll_wf _ _ hdata) (.inr (by omega)),
      State.peek_writeAll_of_apart _ hdata fun w hw => by have := asWords_within hw; omega,
      State.peek_writeAll_asWords _ hslot (by simp) rfl]

/-- The vault after a commit of a row's tag (R281). -/
theorem State.commitEntry_tag {v : State} {e : Entry} (hs : Memory.wf v.mem) (hk : e.kind = 2) (h1 : 8192 ≤ e.row)
    (h2 : e.row < 16384) (h3 : v.vault.nextSlot < 2) :
    (v.commitEntry e).peek (vaultTagAddr e.row) 32 = e.tag.bytes ∧
    (v.commitEntry e).peek (vaultAddr e.row) 1024 = v.peek (vaultAddr e.row) 1024 := by
  have hslot := v.writeAll_wf (e.journalWrites v.vault.nextSeq v.vault.nextSlot) hs
  obtain ⟨_, _, _, _, _, _, _⟩ := vault_apart h1 h2 h3
  simp only [State.peek_of_mem (v.commitEntry_mem_row (.inr (.inl hk))), Entry.vaultWrites, hk,
    if_neg (show ¬(2 = 1) by decide), if_true]
  refine ⟨State.peek_writeAll_asWords _ hslot e.tag.bytes_length rfl, ?_⟩
  rw [State.peek_writeAll_of_apart _ hslot fun w hw => by have := asWords_within hw; omega,
    State.peek_writeAll_of_apart _ hs fun w hw => by have := Entry.journalWrites_within hw; omega]

/-- The vault after a commit of a freed row (R281). -/
theorem State.commitEntry_freed {v : State} {e : Entry} (hs : Memory.wf v.mem) (hk : e.kind = 3) (h1 : 8192 ≤ e.row)
    (h2 : e.row < 16384) :
    (v.commitEntry e).peek (vaultTagAddr e.row) 32 = (freedTag e.tag.cls).bytes ∧
    (e.row < 15360 → (v.commitEntry e).peekNat (spawnAddr e.row) 4 = 0) := by
  have hslot := v.writeAll_wf (e.journalWrites v.vault.nextSeq v.vault.nextSlot) hs
  obtain ⟨_, _, _, _, _, _, _⟩ := vault_apart h1 h2 (show 0 < 2 by omega)
  simp only [State.peekNat, State.peek_of_mem (v.commitEntry_mem_row (.inr (.inr hk))), Entry.vaultWrites, hk,
    if_neg (show ¬(3 = 1) by decide), if_neg (show ¬(3 = 2) by decide), if_true, freeWrites, State.writeAll_append]
  have htag := State.writeAll_wf _ (asWords 4 (freedTag e.tag.cls).bytes (vaultTagAddr e.row)) hslot
  refine ⟨?_, State.peek_spawn _ htag⟩
  rw [State.peek_of_spawn _ htag (.inr (by omega)), State.peek_writeAll_asWords _ hslot (Tag.bytes_length _) rfl]

/-- The vault after a commit of a rekindle (R278, R281). -/
theorem State.applyEntry_rekindle {v : State} {e : Entry} (hs : Memory.wf v.mem) (hk : e.kind = 4) :
    (∀ k, 8192 ≤ k → k < 15360 → (v.applyEntry e).peek (vaultTagAddr k) 32 = (freedTag 1).bytes ∧
      (v.applyEntry e).peek (spawnAddr k) 4 = List.replicate 4 0#8) ∧
    (∀ c, c < 4224 → (v.applyEntry e).peek (kindlingAddr c) 8 = List.replicate 8 0#8) ∧
    (∀ a n, a + n ≤ vaultTagAddr 8192 ∨ vaultTagAddr 15360 ≤ a ∧ a + n ≤ kindlingAddr 0 →
      (v.applyEntry e).peek a n = v.peek a n) ∧
    (∀ a, a < vaultTagAddr 8192 → Memory.read (v.applyEntry e).mem a = Memory.read v.mem a) := by
  have hlen : ((List.replicate 7168 (freedTag 1).bytes).flatten).length = 229376 := by
    rw [List.length_flatten, List.map_replicate, List.sum_replicate, Tag.bytes_length]
    rfl
  rw [State.applyEntry, if_pos hk]
  generalize hflat : (List.replicate 7168 (freedTag 1).bytes).flatten = flat at hlen
  have hpoke := v.poke_wf (vaultTagAddr 8192) flat hs
  have hwipe := State.wipe_wf _ (spawnAddr 8192) 28672 hpoke
  have haddr : vaultTagAddr 8192 + 262144 = slotAddr 0 ∧ slotAddr 0 + 8192 = kindlingAddr 0 ∧
      kindlingAddr 0 + 36864 = spawnAddr 8192 ∧ vaultTagAddr 15360 = vaultTagAddr 8192 + 229376 := by decide
  obtain ⟨hslot, hkind, hspawn, hlast⟩ := haddr
  refine ⟨fun k hk1 hk2 => ⟨?tag, ?spawn⟩, fun c hc => ?cell, fun a n ha => ?rest, fun a ha => ?read⟩
  case tag =>
    have haddr : vaultTagAddr k = vaultTagAddr 8192 + 32 * (k - 8192) := by
      unfold vaultTagAddr
      omega
    rw [haddr, State.peek_wipe_of_apart _ hwipe (.inl (by omega)), State.peek_wipe_of_apart _ hpoke (.inl (by omega)),
      State.peek_part _ hpoke (n := 229376) (by omega), v.peek_poke _ hs hlen, ← hflat]
    simpa only [Tag.bytes_length] using slice_flatten_replicate (freedTag 1).bytes (n := 7168) (i := k - 8192) (by omega)
  case spawn =>
    have haddr : spawnAddr k = spawnAddr 8192 + 4 * (k - 8192) := by
      unfold spawnAddr persistBase
      omega
    rw [State.peek_wipe_of_apart _ hwipe (.inr (by omega))]
    exact State.peek_wipe_within _ hpoke (by omega) (by omega)
  case cell =>
    have haddr : kindlingAddr c = kindlingAddr 0 + 8 * c := by
      unfold kindlingAddr persistBase
      omega
    exact State.peek_wipe_within _ hwipe (by omega) (by omega)
  case rest =>
    rw [State.peek_wipe_of_apart _ hwipe (.inl (by omega)), State.peek_wipe_of_apart _ hpoke (.inl (by omega)),
      State.peek_poke_of_apart _ hs (by omega)]
  case read =>
    rw [State.wipe, Memory.read_clear, if_neg (by omega), State.wipe, Memory.read_clear, if_neg (by omega), State.poke_mem,
      Memory.read_writeBytes, if_neg (by omega)]

/-- A rekindle's commit leaves the slot's entry as it was written, and all that lies below the MRAM. -/
theorem State.commitEntry_rekindle {v : State} {e : Entry} (hs : Memory.wf v.mem) (hk : e.kind = 4) (h3 : v.vault.nextSlot < 2) :
    (v.commitEntry e).peek (slotAddr v.vault.nextSlot) 48 = e.head v.vault.nextSeq ∧
    (∀ a, a < mramBase → Memory.read (v.commitEntry e).mem a = Memory.read v.mem a) ∧
    (∀ k, 15360 ≤ k → k < 16384 → (v.commitEntry e).peek (vaultTagAddr k) 32 = v.peek (vaultTagAddr k) 32) := by
  have hslot := v.writeAll_wf (e.journalWrites v.vault.nextSeq v.vault.nextSlot) hs
  have hjournal {w : Nat × List Byte} (hw : w ∈ e.journalWrites v.vault.nextSeq v.vault.nextSlot) :=
    Entry.journalWrites_within hw
  obtain ⟨-, -, hrest, hread⟩ := State.applyEntry_rekindle hslot hk
  have hslots : slotAddr 0 = vaultTagAddr 15360 + 32768 ∧ slotAddr 0 + 8192 = kindlingAddr 0 ∧
      mramBase + 8388608 = vaultTagAddr 8192 ∧
      vaultTagAddr 15360 = vaultTagAddr 8192 + 229376 := by decide
  have hown : slotAddr 0 ≤ slotAddr v.vault.nextSlot ∧ slotAddr v.vault.nextSlot ≤ slotAddr 0 + 2048 := by
    unfold slotAddr persistBase
    omega
  simp only [State.peek_of_mem (v.commitEntry_mem e), v.commitEntry_mem e]
  refine ⟨?slot, fun a ha => ?read, fun k hk1 hk2 => ?rows⟩
  case slot => rw [hrest _ _ (.inr (by omega)), v.peek_journalWrites e _ _ hs]
  case read =>
    rw [hread a (by omega), v.read_writeAll _ a fun w hw => .inl (by have := hjournal hw; omega)]
  case rows =>
    have haddr : vaultTagAddr k = vaultTagAddr 15360 + 32 * (k - 15360) := by
      unfold vaultTagAddr
      omega
    rw [hrest _ _ (.inr (by omega)), State.peek_writeAll_of_apart _ hs fun w hw => by have := hjournal hw; omega]

/-! ### The mirror -/

theorem State.elapse_upset (s : State) (dt : Nat) (us : List Upset) :
    (s.elapse dt).upset us = { s.upset us with clock := s.clock + dt } := rfl

/-- A mirror whose reads find no error is handed over as one entry (R277). -/
theorem State.mirrorRow_eq {r : State} {d : Dirty} {rest : List Dirty} (hdirty : r.vault.dirty = d :: rest)
    (htag : r.tagBad d.row = false) (hsegs : r.badSegments d.row = []) : r.mirrorRow d.row = { r with
      vault := { r.vault with
        dirty := r.vault.dirty.filter (fun x => !decide (x.row = d.row))
        entries := r.vault.entries ++ [r.mirrorEntry d] }
      learn := if (r.mirrorEntry d).kind = 3 then { r.learn with spawned := setSparse r.learn.spawned d.row 0 }
        else r.learn } := by
  have hfinds : r.mirrorFinds d.row = r := by
    rw [State.mirrorFinds, htag, hsegs]
    rfl
  have hfind : r.vault.dirty.find? (fun x => decide (x.row = d.row)) = some d := by
    rw [hdirty]
    exact List.find?_cons_of_pos (by simp)
  unfold State.mirrorRow
  dsimp only
  rw [hfinds, hfind]

theorem State.mirrorEntry_data (r : State) (d : Dirty) {i : Nat} (hi : i < 8192) :
    (r.mirrorEntry d).data.getLsbD i = (!(r.tag d.row).isErased (i / 64) && (r.row d.row).getLsbD i) := by
  rw [State.mirrorEntry, BitVec.getLsbD_and, BitVec.getLsbD_not, erasedMask_getLsbD _ hi, decide_eq_true hi, Bool.true_and,
    Bool.and_comm]

/-- Settles O55: the mirror by its entry, each kind of commit by its words. -/
theorem vaultFollows : Obligations.VaultFollows := by
  unfold Obligations.VaultFollows
  intro s dt hm hwf
  refine ⟨fun us d rest hform hpause hdirty => ⟨fun h => ?early, fun hscan hgap => ?mirror⟩, fun h => ?ash,
    fun e rest hentries hash hslot => ?commit⟩
  case early =>
    refine (eventOf_idle _ _ _ _ s hform ?_ : execVaultMirror dt us s = _)
    obtain h | ⟨a, ha, h⟩ := h
    · simp [State.banksFree, not_le.2 h]
    · simp [ha, per5ms, not_le.2 h]
  case mirror =>
    intro r htag hsegs tag
    have hcond : ((s.elapse dt).coreRuns && (s.elapse dt).banksFree && !(s.elapse dt).vault.dirty.isEmpty &&
        (match (s.elapse dt).vault.mirrorAt with
          | none => true
          | some t => decide (t + per5ms ≤ (s.elapse dt).clock))) = true := by
      have hgap' : (match s.vault.mirrorAt with | none => true | some t => decide (t + per5ms ≤ s.clock + dt)) = true := by
        split
        · rfl
        · exact decide_eq_true (hgap _ ‹_›)
      simp [State.coreRuns, State.paused, State.banksFree, hm, hpause, hscan, hdirty]
      exact hgap'
    have hmirror := State.mirrorRow_eq (r := r) (d := d) (rest := rest) hdirty htag hsegs
    have hexec := (eventOf_next _ _ _ _ s hform hcond : execVaultMirror dt us s = _)
    dsimp only at hexec
    rw [show ((s.elapse dt).upset us) = r from rfl, show r.vault.dirty.head? = some d from by
      rw [show r.vault.dirty = _ from hdirty]; rfl] at hexec
    dsimp only at hexec
    rw [hmirror] at hexec
    refine ⟨_, r.mirrorEntry d, hexec, rfl, ?_, rfl, rfl, rfl, fun i hi => r.mirrorEntry_data d hi, State.settle_agrees _⟩
    have hkind : (!tag.valid || tag.spent) = true ↔ tag.valid = false ∨ tag.spent = true := by
      rw [Bool.or_eq_true, Bool.not_eq_true']
    exact ite_congr (propext hkind) (fun _ => rfl) (fun _ => rfl)
  case ash =>
    refine (event_idle _ _ _ s ?_ : execJournalCommit dt s = _)
    obtain h | h := h
    · simp [h]
    · simp [h]
  case commit =>
    intro slot held tagged
    have hexec : exec (.journalCommit dt) s = .next ((s.elapse dt).commitEntry e).settle := by
      have hexec := (event_next _ _ _ s (by simp [hm, hentries, hash]) : execJournalCommit dt s = _)
      rwa [show (s.elapse dt).vault.entries = e :: rest from hentries] at hexec
    have hwfv : Memory.wf (s.elapse dt).mem := hwf
    have hslotv : (s.elapse dt).vault.nextSlot < 2 := hslot
    have hcommit := State.commitEntry_wf e hwfv
    obtain ⟨m, l, c, hfields⟩ := (s.elapse dt).commitEntry_kept e
    have hheld (hkind : e.kind < 256)
        (hhead : ((s.elapse dt).commitEntry e).peek slot 48 = e.head s.vault.nextSeq)
        (hread : ∀ a, a < mramBase → Memory.read ((s.elapse dt).commitEntry e).mem a = Memory.read s.mem a)
        (hrows : ∀ k, 8192 ≤ k → k < 16384 → k ≠ e.row → e.kind ≠ 4 →
          ((s.elapse dt).commitEntry e).peek (vaultAddr k) 1024 = s.peek (vaultAddr k) 1024 ∧
          ((s.elapse dt).commitEntry e).peek (vaultTagAddr k) 32 = s.peek (vaultTagAddr k) 32) :
        held ((s.elapse dt).commitEntry e).settle := by
      have hpart {i n : Nat} (h : i + n ≤ 48) :
          ((s.elapse dt).commitEntry e).settle.peekNat (slot + i) n = fieldAt (e.head s.vault.nextSeq) i n := by
        rw [fieldAt, ← hhead, ← State.peek_part _ (hcommit) h]
        rfl
      obtain ⟨hseq, hkindAt⟩ := e.head_fields s.vault.nextSeq
      refine ⟨hexec, ?_, ?_, ?_, (hpart (i := 0) (by omega)).trans hseq,
        (hpart (i := 4) (by omega)).trans (hkindAt.trans (Nat.mod_eq_of_lt hkind)), ?_, ?_, ?_, hread, hrows⟩
      · exact (congrArg (fun u : State => u.vault.entries) hfields :).trans (congrArg (List.drop 1) hentries)
      · exact (congrArg (fun u : State => u.vault.nextSeq) hfields :)
      · exact (congrArg (fun u : State => u.vault.nextSlot) hfields :)
      · exact (congrArg State.hearth hfields :)
      · exact (congrArg State.learn hfields :)
      · exact (congrArg State.ash hfields :)
    have hheldRow (hk : e.kind = 1 ∨ e.kind = 2 ∨ e.kind = 3) (h1 : 8192 ≤ e.row) (h2 : e.row < 16384) :
        held ((s.elapse dt).commitEntry e).settle := by
      obtain ⟨hhead, hread, hrows⟩ := State.commitEntry_row hwfv hk h1 h2 hslotv
      exact hheld (by omega) hhead hread fun k hk1 hk2 hne _ => hrows k hk1 hk2 hne
    have htag {row : Nat} {tag : Tag} (h : ((s.elapse dt).commitEntry e).peek (vaultTagAddr row) 32 = tag.bytes) :
        Tag.ofNat (((s.elapse dt).commitEntry e).settle.peekNat (vaultTagAddr row) 32) = tag :=
      (congrArg (fun bs => Tag.ofNat (leNat bs)) h).trans tag.ofNat_bytes
    refine ⟨fun hk h1 h2 => ?whole, fun hk h1 h2 => ?tagOnly, fun hk h1 h2 => ?freed, fun hk => ?rekindle⟩
    case whole =>
      obtain ⟨htagAt, hdata, hspawn⟩ := State.commitEntry_whole hwfv hk h1 h2
      exact ⟨_, hheldRow (.inl hk) h1 h2, htag htagAt, hdata, hspawn⟩
    case tagOnly =>
      obtain ⟨htagAt, hdata⟩ := State.commitEntry_tag hwfv hk h1 h2 hslotv
      exact ⟨_, hheldRow (.inr (.inl hk)) h1 h2, htag htagAt, hdata⟩
    case freed =>
      obtain ⟨htagAt, hspawn⟩ := State.commitEntry_freed hwfv hk h1 h2
      exact ⟨_, hheldRow (.inr (.inr hk)) h1 h2, htag htagAt, hspawn⟩
    case rekindle =>
      obtain ⟨hhead, hread, htaught⟩ := State.commitEntry_rekindle hwfv hk hslotv
      obtain ⟨hfree, hcell, -⟩ := State.applyEntry_rekindle (State.writeAll_wf _ _ hwfv) hk
      have hzero (n : Nat) : leNat (List.replicate n 0#8) = 0 := leNat_replicate_zero n
      refine ⟨_, hheld (by omega) hhead hread fun k _ _ _ hne => absurd hk hne, fun k hk1 hk2 => ?_, htaught, fun c hc => ?_⟩
      · obtain ⟨htagAt, hspawn⟩ := hfree k hk1 hk2
        exact ⟨htag htagAt, (congrArg leNat hspawn).trans (hzero 4)⟩
      · rw [show 0x08842000 + 8 * c = kindlingAddr c by unfold kindlingAddr persistBase; omega]
        exact (congrArg leNat (hcell c hc)).trans (hzero 8)

end Sys2Proof.Machine
end

section
/-! The outputs of a tick, the heartbeat, the persistent counters and the LEDs (R65, R71, R91, R216, R238 to R244, R248 to
R250, R254, R286). -/

namespace Sys2Proof.Machine

/-! ### Records leave the router alone -/

@[simp] theorem State.originate_router (s : State) (type chan dst dir : Nat) (payload : List Byte) :
    (s.originate type chan dst dir payload).router = s.router := by
  have htake : s.takeE2e.2.router = s.router := by
    unfold State.takeE2e
    dsimp only
    split <;> rfl
  refine Eq.trans ?_ htake
  unfold State.originate State.offerLocal
  dsimp only
  split
  · rfl
  · split
    · rfl
    · split <;> rfl

@[simp] theorem State.report_router (s : State) (type time : Nat) (payload : List Byte) (tier : Nat) :
    (s.report type time payload tier).router = s.router := by
  unfold State.report
  split
  · rfl
  · dsimp only
    split
    · rw [State.foldl_kept State.router _ (fun _ _ => State.originate_router ..)]
      rfl
    · rfl

/-! ### The time of the next heartbeat -/

theorem Flue.tally_heartbeatAt (f : Flue) (r : FlueRec) : (f.tally r).heartbeatAt = f.heartbeatAt := by
  unfold Flue.tally Flue.owe
  split
  · rfl
  · dsimp only
    split <;> rfl

theorem Flue.makeRoom_heartbeatAt (f : Flue) (r : FlueRec) (n : Nat) : (f.makeRoom r n).heartbeatAt = f.heartbeatAt := by
  induction n generalizing f with
  | zero => rfl
  | succ n ih =>
    unfold Flue.makeRoom
    split
    · rfl
    · split
      · rfl
      · rw [ih, Flue.tally_heartbeatAt]

theorem Flue.putGap_heartbeatAt (f : Flue) (time : Nat) : (f.putGap time).heartbeatAt = f.heartbeatAt := by
  unfold Flue.putGap
  split <;> rfl

theorem Flue.enter_heartbeatAt (f : Flue) (now type time : Nat) (payload : List Byte) (tier : Nat) :
    (f.enter now type time payload tier).heartbeatAt = f.heartbeatAt := by
  have hroom := f.makeRoom_heartbeatAt { type := type, seq := f.nextSeq, time := time, payload := payload, tier := tier }
    f.queue.length
  unfold Flue.enter
  dsimp only
  split
  · refine Eq.trans ?_ hroom
    unfold Flue.push
    dsimp only
    split
    · rfl
    · exact Flue.putGap_heartbeatAt _ _
  · exact (Flue.tally_heartbeatAt _ _).trans hroom

/-! ### The records of a tick -/

theorem State.reportTick_records (s : State) (x : Tick) : (s.reportTick x).agreesButRecords s := by
  unfold State.reportTick
  dsimp only
  split
  · exact State.agreesButRecords_trans (State.report_records ..) (State.report_records ..)
  · exact State.report_records ..

theorem State.reportTick_router (s : State) (x : Tick) : (s.reportTick x).router = s.router := by
  unfold State.reportTick
  dsimp only
  split <;> simp

theorem State.reportTick_ash (s : State) (x : Tick) : (s.reportTick x).ash = s.ash := by
  unfold State.reportTick
  dsimp only
  split <;> simp

theorem State.reportTick_flue (s : State) (x : Tick) : (s.reportTick x).flue =
    (let summed := if s.alarmsOnly then s.flue else s.flue.enter s.ts 0x04 x.close x.summaryPayload 3
    match x.diag with
    | some d => summed.enter s.ts 0x05 x.close (diagnosisPayload d x.diagHits) 1
    | none => summed) := by
  have hsum : (s.report 0x04 x.close x.summaryPayload 3).flue =
      if s.alarmsOnly then s.flue else s.flue.enter s.ts 0x04 x.close x.summaryPayload 3 := by
    rw [State.report_flue]
    simp [suppressed]
  unfold State.reportTick
  dsimp only
  cases x.diag with
  | none => exact hsum
  | some d =>
    dsimp only
    rw [State.report_flue, State.records_ts (State.report_records ..), hsum, if_neg (by simp [suppressed])]

/-! ### The pins -/

/-- The alarm change record of a tick, when the pins differ from those reported (R135, R250). -/
theorem State.reportPins_eq (s : State) (x : Tick) : ∃ f r, s.reportPins x = { s with
      flue := f, router := r, out := { s.out with reported := s.out.pins } } ∧
    (s.router.flue.length < 32 ∨ s.out.pins = s.out.reported → f = s.flue) ∧
    (s.out.pins = s.out.reported → r = s.router) ∧
    (s.out.pins ≠ s.out.reported → s.router.flue.length < 32 → s.router.ash.length < 32 →
      let p := s.alarmPayload s.out.pins s.out.reported x.levels x.tickHealth ((x.diag.map Diag.code).getD 0)
      r = { s.router with
        flue := s.router.flue ++ [{ time := x.close, rank := 7, type := 0x06, payload := p }]
        ash := s.router.ash ++ [{ time := x.close, rank := 7, type := 0x08, payload := p }] }) := by
  unfold State.reportPins
  dsimp only
  split
  case isTrue heq =>
    refine ⟨s.flue, s.router, ?_, fun _ => rfl, fun _ => rfl, fun hne => absurd heq hne⟩
    rw [show ({ s.out with reported := s.out.pins } : Outputs) = s.out by rw [heq]]
  case isFalse hne =>
    generalize s.alarmPayload s.out.pins s.out.reported x.levels x.tickHealth ((x.diag.map Diag.code).getD 0) = p
    generalize hflueEvent : ({ time := x.close, rank := rankAlarm, type := 0x06, payload := p } : Event) = ef
    generalize hashEvent : ({ time := x.close, rank := rankAlarm, type := 0x08, payload := p } : Event) = ea
    refine ⟨((s.routeFlue ef).routeAsh ea).flue, ((s.routeFlue ef).routeAsh ea).router, ?_, ?_, fun h => absurd h hne, ?_⟩
    · obtain ⟨-, hf⟩ | ⟨-, hf⟩ := s.routeFlue_cases ef <;> obtain ⟨-, ha⟩ | ⟨-, ha⟩ := (s.routeFlue ef).routeAsh_cases ea <;>
        rw [ha, hf]
    · rintro (hlen | h)
      · obtain ⟨-, hf⟩ | ⟨hfull, -⟩ := s.routeFlue_cases ef
        · obtain ⟨-, ha⟩ | ⟨-, ha⟩ := (s.routeFlue ef).routeAsh_cases ea <;> rw [ha, hf]
        · omega
      · exact absurd h hne
    · intro _ hflue hash
      unfold State.routeFlue
      rw [if_pos hflue]
      unfold State.routeAsh
      dsimp only
      rw [if_pos hash, ← hflueEvent, ← hashEvent]
      rfl

/-- The deadline monitor at a tick's outputs touches the ticks of its number, the voltage controller and the ash (R91). -/
theorem State.judgeDeadline_eq (s : State) (x : Tick) : ∃ f : Tick → Tick, ∃ vo a, s.judgeDeadline x = { s with
      ticks := s.ticks.map f, volt := vo, ash := a } ∧
    (∀ y : Tick, y.id ≠ x.id → f y = y) ∧
    (x.deadlineFailed = false → s.deadlinePassed x = false →
      vo.monitorFailed = false ∧ vo.canaryFails = s.volt.canaryFails ∧ a = s.ash) := by
  have hmonitor : ∃ f : Tick → Tick, ∃ vo a, (if x.deadlineFailed then s
      else if s.deadlinePassed x then s.failMonitor x
      else { s with volt := { s.volt with monitorFailed := false } }) = { s with
        ticks := s.ticks.map f, volt := vo, ash := a } ∧
      (∀ y : Tick, y.id ≠ x.id → f y = y) ∧
      (x.deadlineFailed = false → s.deadlinePassed x = false →
        vo.monitorFailed = false ∧ vo.canaryFails = s.volt.canaryFails ∧ a = s.ash) := by
    split
    case isTrue hfailed =>
      exact ⟨id, _, _, by rw [List.map_id], fun _ _ => rfl, fun h => by simp [h] at hfailed⟩
    split
    case isTrue hpassed =>
      unfold State.failMonitor
      dsimp only
      rw [State.askStepUp_eq, State.canaryRecord_eq]
      refine ⟨fun u => if u.id = x.id then { u with deadlineFailed := true } else u, ?_⟩
      split <;>
      exact ⟨_, _, rfl, fun y hy => if_neg hy, fun _ h => absurd hpassed (ne_true_of_eq_false h)⟩
    case isFalse =>
      exact ⟨id, { s.volt with monitorFailed := false }, s.ash, by rw [List.map_id], fun _ _ => rfl,
        fun _ _ => ⟨rfl, rfl, rfl⟩⟩
  obtain ⟨f, vo, a, hmonitor, hid, hgood⟩ := hmonitor
  unfold State.judgeDeadline
  dsimp only
  rw [hmonitor, State.restartWindow_if]
  exact ⟨f, _, a, rfl, hid, hgood⟩

/-- A tick's outputs: its pins and `HEALTH`, its records, the alarm change, the monitor and the idle timer. -/
theorem State.shownTick_eq (v : State) (x : Tick) : ∃ r : State, ∃ f, ∃ g : Tick → Tick, ∃ rt vo a,
    ((((v.drivePins x).reportTick x).reportPins x).judgeDeadline x).judgeIdle x = { r with
      flue := f, router := rt, ticks := r.ticks.map g, volt := vo, ash := a
      out := { r.out with reported := (v.drivePins x).out.pins }
      power := { r.power with
        idle := if x.quiet then r.power.idle else if r.power.idle.since.isSome then Stopwatch.start r.clock else {}
        spotTicks := if x.quiet && decide (x.valid ≠ []) then r.power.spotTicks + 1 else 0 } } ∧
    r.agreesButRecords (v.drivePins x) ∧
    (v.router.flue.length < 32 ∨ (v.drivePins x).out.pins = v.out.reported → f = ((v.drivePins x).reportTick x).flue) ∧
    ((v.drivePins x).out.pins = v.out.reported → rt = v.router) ∧
    ((v.drivePins x).out.pins ≠ v.out.reported → v.router.flue.length < 32 → v.router.ash.length < 32 →
      let p := (v.drivePins x).alarmPayload (v.drivePins x).out.pins v.out.reported x.levels x.tickHealth
        ((x.diag.map Diag.code).getD 0)
      rt = { v.router with
        flue := v.router.flue ++ [{ time := x.close, rank := 7, type := 0x06, payload := p }]
        ash := v.router.ash ++ [{ time := x.close, rank := 7, type := 0x08, payload := p }] }) ∧
    (∀ y : Tick, y.id ≠ x.id → g y = y) ∧
    (x.deadlineFailed = false → v.deadlinePassed x = false →
      vo.monitorFailed = false ∧ vo.canaryFails = v.volt.canaryFails ∧ a = v.ash) := by
  have hrec := (v.drivePins x).reportTick_records x
  have hrouter := (v.drivePins x).reportTick_router x
  have hash := (v.drivePins x).reportTick_ash x
  generalize (v.drivePins x).reportTick x = r at hrec hrouter hash
  have hr := hrec.1
  obtain ⟨f, rt, hpins, hflue, hsame, hnew⟩ := r.reportPins_eq x
  obtain ⟨g, vo, a, hdead, hid, hgood⟩ := (r.reportPins x).judgeDeadline_eq x
  rw [hdead, hpins]
  have hout : r.out.pins = (v.drivePins x).out.pins := congrArg (fun s => s.out.pins) hr
  have hreported : r.out.reported = v.out.reported := congrArg (fun s => s.out.reported) hr
  have hpayload : ∀ n p l h d, r.alarmPayload n p l h d = (v.drivePins x).alarmPayload n p l h d := by
    intro n p l h d
    rw [hr]
    rfl
  rw [hout, hreported, hrouter] at hflue hsame hnew
  refine ⟨r, f, g, rt, vo, a, ?_, hrec, hflue, hsame, ?_, hid, ?_⟩
  · rw [← hout]
    rfl
  · intro hne hlf hla
    rw [← hpayload]
    exact hnew hne hlf hla
  · have hpassed : (r.reportPins x).deadlinePassed x = v.deadlinePassed x := by
      rw [hpins, hr]
      rfl
    have hvolt : (r.reportPins x).volt = v.volt := by
      rw [hpins, hr]
      rfl
    have hashes : (r.reportPins x).ash = v.ash := by
      rw [hpins]
      exact hash
    rwa [hpassed, hvolt, hashes] at hgood

theorem Tick.quiet_iff (x : Tick) :
    x.quiet = true ↔ x.edge = false ∧ ∀ f ∈ x.frames, f.stage ≠ .discarded → f.loud = false := by
  simp only [Tick.quiet, Tick.valid, Bool.and_eq_true, Bool.not_eq_true', List.any_eq_false, List.mem_filter,
    decide_eq_false_iff_not, and_imp, Bool.not_eq_true]

theorem Tick.valid_ne_nil_iff (x : Tick) : x.valid ≠ [] ↔ ∃ f ∈ x.frames, f.stage ≠ .discarded := by
  rw [Tick.valid, ne_eq, List.filter_eq_nil_iff]
  simp

theorem State.drivePins_out (s : State) (x : Tick) : (s.drivePins x).out = { s.out with
    alert := (s.alarmPins x).1, alarm := (s.alarmPins x).2
    faultCauses := 2 * b2n x.loadFault + 4 * b2n (x.queries = [])
    fault := s.anyWithdrawn || decide (0 < 2 * b2n x.loadFault + 4 * b2n (x.queries = []))
    health := some (if x.queries = [] then healthLow else healthCode x.tickHealth), tickHealth := x.tickHealth } := rfl

theorem State.alarmPins_eq (s : State) (x : Tick) : s.alarmPins x =
    (if x.queries = [] then s.out.alert else pinLogic (levelsAtLeast x.levels 1) s.persistence s.out.alert,
     if x.queries = [] then s.out.alarm else pinLogic (levelsAtLeast x.levels 2) s.persistence s.out.alarm) := by
  unfold State.alarmPins
  split <;> rfl

/-! ### The persistent counters -/

theorem State.persistCounters_eq (s : State) : ∃ m e, s.persistCounters = { s with mem := m, ecc := e } := by
  unfold State.persistCounters
  dsimp only
  have hcells (l : List (Nat × Nat)) (u : State) : ∃ m e,
      l.foldl (fun s p => s.poke (kindlingAddr p.1) (leBytes 8 p.2)) u = { u with mem := m, ecc := e } := by
    induction l generalizing u with
    | nil => exact ⟨_, _, rfl⟩
    | cons p l ih =>
      obtain ⟨m, e, h⟩ := ih (u.poke (kindlingAddr p.1) (leBytes 8 p.2))
      exact ⟨m, e, h⟩
  obtain ⟨m, e, h⟩ := hcells s.learn.kindling ((s.poke runSecondsAddr (leBytes 8 s.runSeconds)).wipe (kindlingAddr 0) 33792)
  exact ⟨m, e, h⟩

/-- The words that hold the kindling counters of a list. -/
def kindlingWords (l : List (Nat × Nat)) : List (Nat × List Byte) := l.map fun p => (kindlingAddr p.1, leBytes 8 p.2)

theorem State.persistCounters_mem (s : State) : s.persistCounters.mem = (((s.poke runSecondsAddr (leBytes 8 s.runSeconds)).wipe
    (kindlingAddr 0) 33792).writeAll (kindlingWords s.learn.kindling)).mem := by
  rw [State.writeAll, kindlingWords, List.foldl_map]
  rfl

/-! ### The LEDs -/

theorem Led.show_same {l : Led} {p : Pattern} (h : l.pattern = p) (clock : Nat) : l.show p clock = l := if_pos h

/-- Nothing is to settle where the LEDs show what they are to. -/
theorem State.settle_of_ledsRight {s : State} (h : s.ledsRight) : s.settle = s := by
  have hled1 : s.led1Pattern = s.out.led1.pattern := by
    refine Eq.trans ?_ h.2.symm
    unfold State.led1Pattern State.anyWithdrawn State.enabled
    simp only [withdrawn_eq]
    rfl
  have hled0 : s.out.led0.pattern = s.led0Pattern := h.1
  unfold State.settle
  rw [Led.show_same hled0, Led.show_same hled1.symm]

theorem Led.turn_flash {l : Led} {hz : Nat} (h : l.pattern = .flash hz) : l.turn = { l with
    phase := 1 - l.phase, since := l.since + 24576000 / (2 * hz), lit := decide (l.phase ≠ 0) } := by
  have hlit : decide (1 - l.phase = 0) = decide (l.phase ≠ 0) := decide_eq_decide.2 (by omega)
  unfold Led.turn
  simp only [h, nextPhase, phaseLength, phaseLit, Option.getD_some, hlit]

theorem Led.turn_blink {l : Led} {n : Nat} (h : l.pattern = .blink n) : l.turn =
    (let next := if l.phase = 2 * n then 0 else l.phase + 1
    { l with
      phase := next, since := l.since + (if l.phase = 2 * n then 29491200 else 4915200)
      lit := decide (next < 2 * n) && decide (next % 2 = 0) }) := by
  unfold Led.turn
  simp only [h, nextPhase, phaseLength, phaseLit, Option.getD_some]

/-- An LED whose phase is over turns, and nothing else changes. -/
theorem exec_ledFlash {s : State} {led : Bool} {dt n : Nat} (hleds : s.ledsRight)
    (hlength : phaseLength (s.out.led led).pattern (s.out.led led).phase = some n)
    (hover : (s.out.led led).since + n ≤ s.clock + dt) : exec (.ledFlash dt led) s = .next { s with
      clock := s.clock + dt
      out := if led then { s.out with led1 := s.out.led1.turn } else { s.out with led0 := s.out.led0.turn } } := by
  have hcond : ((s.elapse dt).out.led led).phaseOver (s.elapse dt).clock = true := by
    unfold Led.phaseOver
    rw [State.elapse_out, hlength]
    exact decide_eq_true hover
  refine ((event_next _ _ _ s hcond : execLedFlash dt led s = _)).trans ?_
  rw [State.settle_of_ledsRight]
  · rfl
  · cases led <;> exact hleds

/-- Settles O51: the oldest tick's outputs, the heartbeat, the counters' words and the turn of an LED. -/
theorem tickShown : Obligations.TickShown := by
  unfold Obligations.TickShown
  intro s dt
  refine ⟨fun h => ?noOutput, fun x rest hm hpause hrank hticks hstage => ?outputs, fun hm hpause hdue => ?heartbeat,
    fun h => ?noWrite, fun hm hpause hash hentries hdue hwf => ?persist, fun led hleds => ?leds⟩
  case noOutput =>
    refine (event_idle _ _ _ s ?_ : execTickOutputs dt s = _)
    rw [Bool.and_eq_false_iff]
    obtain h | h | h | ⟨e, he, hrank⟩ | ⟨x, rest, hticks, hstage⟩ := h
    · exact .inl (by simp [State.coreRuns, h])
    · exact .inl (by simp [State.coreRuns, State.paused, Option.isSome_iff_ne_none.2 h])
    · exact .inr (by simp [State.outputTick, h])
    · have hany : s.router.flue.any (fun e => decide (e.rank = rankAlarm)) = true :=
        List.any_eq_true.2 ⟨e, he, decide_eq_true hrank⟩
      exact .inr (by simp [State.outputTick, hany])
    · exact .inr (by simp [State.outputTick, hticks, hstage])
  case outputs =>
    intro k pin alert alarm causes broken fault quiet
    have hout : (s.elapse dt).outputTick = some x := by
      have hany : s.router.flue.any (fun e => decide (e.rank = rankAlarm)) = false :=
        List.any_eq_false.2 fun e he => by simp [rankAlarm, hrank e he]
      simp [State.outputTick, hticks, hstage, hany]
    obtain ⟨r, f, g, rt, vo, a, heq, hrec, hflue, hsame, hnew, hid, hgood⟩ := (s.elapse dt).shownTick_eq x
    have hexec := (event_next _ _ _ s (by simp [State.coreRuns, State.paused, hm, hpause, hout]) : execTickOutputs dt s = _)
    rw [hout] at hexec
    dsimp only at hexec
    rw [heq] at hexec
    have hcauses : 2 * b2n x.loadFault + 4 * b2n (x.queries = []) = causes := by
      simp only [mul_b2n, causes, decide_eq_true_eq]
    have hdrive : ((s.elapse dt).drivePins x).out = { s.out with
        alert := alert, alarm := alarm, fault := fault, faultCauses := causes, tickHealth := x.tickHealth
        health := some (if x.queries = [] then 720 else 800 + (16 * x.tickHealth + 2) / 5) } := by
      rw [State.drivePins_out, State.alarmPins_eq, hcauses]
      rfl
    have hpins : ((s.elapse dt).drivePins x).out.pins =
        (if alert then 1 else 0) + (if alarm then 2 else 0) + (if fault then 4 else 0) := by
      rw [hdrive, Outputs.pins, mul_b2n, mul_b2n, b2n]
    have hfields := hrec.1
    have hpower : r.power = s.power := (congrArg State.power hfields :)
    have hclock : r.clock = s.clock + dt := (congrArg State.clock hfields :)
    refine ⟨_, hexec, fun hne => ?ticks, ?out, fun hq => ?idleKept, fun hq => ?idleNew, fun hq hv => ?calm, fun hq => ?stir,
      fun hfailed hnow hlast => ?deadline, ⟨fun heq => ?routerKept, fun hne hlf hla => ?routerNew⟩, fun hroom => ?flue,
      ?learn, ?hearth, ?chans, ?panel, ?sync, fun b hb => ?read⟩
    case ticks =>
      have hrticks : r.ticks = x :: rest := (congrArg State.ticks hfields :).trans hticks
      have hmap : rest.map g = rest := (List.map_congr_left fun y hy => hid y (hne y hy)).trans (List.map_id' _)
      simp only [State.settle_ticks, hrticks, List.map_cons, List.drop_one, List.tail_cons, hmap]
    case out =>
      have hrout : r.out = { ((s.elapse dt).drivePins x).out with led0 := r.out.led0, led1 := r.out.led1 } :=
        (congrArg State.out hfields :)
      rw [State.settle]
      dsimp only
      rw [hrout, hpins, hdrive]
    case idleKept =>
      rw [State.settle_power]
      exact (if_pos (x.quiet_iff.2 hq)).trans (by rw [hpower])
    case idleNew =>
      rw [State.settle_power]
      refine (if_neg (mt x.quiet_iff.1 hq)).trans ?_
      rw [hpower, hclock]
      rfl
    case calm =>
      have hcalm : (x.quiet && decide (x.valid ≠ [])) = true := by
        rw [x.quiet_iff.2 hq, decide_eq_true (x.valid_ne_nil_iff.2 hv)]
        rfl
      rw [State.settle_power]
      exact (if_pos hcalm).trans (by rw [hpower])
    case stir =>
      rw [State.settle_power]
      refine if_neg ?_
      rw [Bool.and_eq_true, decide_eq_true_eq, x.quiet_iff, x.valid_ne_nil_iff]
      rintro ⟨hquiet, f, hf, hvalid⟩
      obtain hq | hq := hq
      · exact hq hquiet
      · exact hvalid (hq f hf)
    case deadline =>
      refine hgood hfailed ?_
      unfold State.deadlinePassed State.clockOf
      rw [Bool.or_eq_false_iff, List.any_eq_false]
      exact ⟨decide_eq_false (not_le.2 hnow), fun y hy => by simpa using hlast y hy⟩
    case routerKept => exact hsame heq
    case routerNew =>
      have hcode : (x.diag.map Diag.code).getD 0 =
          (match x.diag with | some d => d.severity % 4 + 4 * (d.cls % 4) + 16 * (d.label % 16) | none => 0) := by
        cases x.diag <;> rfl
      have hwithdrawn : ((s.elapse dt).drivePins x).faultCauses = (if broken then 1 else 0) + causes := by
        rw [State.faultCauses, hdrive]
        rfl
      refine (hnew hne hlf hla).trans ?_
      dsimp only
      rw [State.alarmPayload, hwithdrawn, hcode]
      rfl
    case flue =>
      have hts : r.ts = ((s.elapse dt).drivePins x).ts := State.records_ts hrec
      intro summed
      refine (hflue (hroom.imp_right id)).trans (((s.elapse dt).drivePins x).reportTick_flue x |>.trans ?_)
      dsimp only [summed]
      rw [← hts]
      rfl
    case learn => exact (congrArg State.learn hfields :)
    case hearth => exact (congrArg State.hearth hfields :)
    case chans => exact (congrArg State.chans hfields :)
    case panel => exact (congrArg State.panel hfields :)
    case sync => exact (congrArg State.sync hfields :)
    case read => exact hrec.2.2.1 b hb
  case heartbeat =>
    have hexec := (event_next _ _ _ s (by simp [State.coreRuns, State.paused, hm, hpause, hdue]) : execHeartbeat dt s = _)
    have hrecord := State.report_records (s.elapse dt) 0x03 (s.elapse dt).ts ((s.elapse dt).heartbeatPayload false) 2
    have hash := State.report_ash (s.elapse dt) 0x03 (s.elapse dt).ts ((s.elapse dt).heartbeatPayload false) 2
    have hrouter := State.report_router (s.elapse dt) 0x03 (s.elapse dt).ts ((s.elapse dt).heartbeatPayload false) 2
    have hflue := State.report_flue (s.elapse dt) 0x03 (s.elapse dt).ts ((s.elapse dt).heartbeatPayload false) 2
    generalize (s.elapse dt).report 0x03 (s.elapse dt).ts ((s.elapse dt).heartbeatPayload false) 2 = r at *
    have hts := State.records_ts hrecord
    refine ⟨_, hexec, ?records, hash, hrouter, ?flue⟩
    case records =>
      obtain ⟨hfields, hfree, hread, herrors⟩ := hrecord
      have hsteps := congrArg (fun w : State => { w with
        flue := { w.flue with heartbeatAt := w.flue.heartbeatAt + perSec, wakeMask := none }
        volt := { w.volt with lowest := w.power.vset }
        sync := { w.sync with auxSums := List.replicate 8 (0, 0) } }) hfields
      exact State.agreesButRecords_settle ⟨hsteps, hfree, hread, herrors⟩
    case flue =>
      have hflue : r.flue = s.flue.enter (s.elapse dt).ts 0x03 (s.elapse dt).ts ((s.elapse dt).heartbeatPayload false) 2 :=
        hflue.trans (if_neg (by simp [suppressed]))
      have hat : r.flue.heartbeatAt = s.flue.heartbeatAt := by rw [hflue, Flue.enter_heartbeatAt]
      refine (congrArg (fun f : Flue => { f with heartbeatAt := r.flue.heartbeatAt + perSec, wakeMask := none }) hflue).trans ?_
      rw [hat, ← hts]
      rfl
  case noWrite =>
    refine (event_idle _ _ _ s ?_ : execKindlingCounterPersist dt s = _)
    obtain h | h | h | h | h := h
    · simp [State.persistDue, h]
    · simp [State.coreRuns, State.paused, Option.isSome_iff_ne_none.2 h]
    · simp [h]
    · simp [h]
    · simp [State.persistDue, perSec, not_le.2 h]
  case persist =>
    have hexec := (event_next _ _ _ s (by simp [State.persistDue, State.coreRuns, State.paused, hm, hpause, hash, hentries,
      perSec, hdue]) : execKindlingCounterPersist dt s = _)
    obtain ⟨m, e, hpersist⟩ := (s.elapse dt).persistCounters_eq
    have hmem := (s.elapse dt).persistCounters_mem
    have hpoke := (s.elapse dt).poke_wf runSecondsAddr (leBytes 8 (s.elapse dt).runSeconds) hwf
    have hwipe := State.wipe_wf _ (kindlingAddr 0) 33792 hpoke
    have hrun : runSecondsAddr + 8 ≤ kindlingAddr 0 := by decide
    have hwords {w : Nat × List Byte} {l : List (Nat × Nat)} (hw : w ∈ kindlingWords l) :
        ∃ p ∈ l, w.1 = kindlingAddr 0 + 8 * p.1 ∧ w.2.length = 8 := by
      obtain ⟨p, hp, rfl⟩ := List.mem_map.1 hw
      refine ⟨p, hp, ?_, leBytes_length _ _⟩
      unfold kindlingAddr
      omega
    have hfinal {a n : Nat} : State.peek (State.settle { (s.elapse dt).persistCounters with
        vault := { (s.elapse dt).persistCounters.vault with
          persistAt := (s.elapse dt).persistCounters.vault.persistAt + 60 * perSec } }) a n =
        ((((s.elapse dt).poke runSecondsAddr (leBytes 8 (s.elapse dt).runSeconds)).wipe (kindlingAddr 0) 33792).writeAll
          (kindlingWords s.learn.kindling)).peek a n := State.peek_of_mem hmem a n
    refine ⟨_, hexec, ?agrees, fun hcells => ⟨?seconds, fun b hb => ?read⟩, fun kb ka c n hk hlast hn => ?cell,
      fun c hc hnone => ?empty⟩
    case agrees =>
      rw [hpersist]
      exact State.settle_agrees _
    case seconds =>
      rw [State.peekNat, hfinal, State.peek_writeAll_of_apart _ hwipe fun w hw => ?_,
        State.peek_wipe_of_apart _ hpoke (.inl hrun)]
      · exact (congrArg leNat (State.peek_poke (s.elapse dt) _ hwf (leBytes_length 8 _))).trans (leNat_leBytes 8 _)
      · obtain ⟨p, -, hp, -⟩ := hwords hw
        omega
    case read =>
      have hread := State.read_writeAll (((s.elapse dt).poke runSecondsAddr (leBytes 8 (s.elapse dt).runSeconds)).wipe
        (kindlingAddr 0) 33792) (kindlingWords s.learn.kindling) b fun w hw => by
          obtain ⟨p, hp, hat, hlen⟩ := hwords hw
          have := hcells p hp
          have : kindlingAddr 0 = 0x08842000 := rfl
          omega
      refine (congrArg (fun m => Memory.read m b) hmem).trans (hread.trans ?_)
      have : kindlingAddr 0 = 0x08842000 := rfl
      rw [State.wipe, Memory.read_clear, if_neg (by omega), State.poke_mem, Memory.read_writeBytes, leBytes_length,
        if_neg (by omega)]
      rfl
    case cell =>
      rw [show 0x08842000 + 8 * c = kindlingAddr c by unfold kindlingAddr persistBase; omega, State.peekNat, hfinal, hk,
        kindlingWords, List.map_append, List.map_cons, State.writeAll_append]
      have hkb := State.writeAll_wf _ (kb.map fun p => (kindlingAddr p.1, leBytes 8 p.2)) hwipe
      refine (congrArg leNat ((State.peek_writeAll_of_apart _ (State.poke_wf _ _ _ hkb) fun w hw => ?_).trans
        (State.peek_poke _ _ hkb (leBytes_length 8 n)))).trans ((leNat_leBytes 8 n).trans (Nat.mod_eq_of_lt hn))
      obtain ⟨p, hp, hat, hlen⟩ := hwords hw
      have := hlast p hp
      rw [hat, hlen, show kindlingAddr c = kindlingAddr 0 + 8 * c by unfold kindlingAddr; omega]
      omega
    case empty =>
      have haddr : kindlingAddr c = kindlingAddr 0 + 8 * c := by
        unfold kindlingAddr
        omega
      rw [show 0x08842000 + 8 * c = kindlingAddr c by unfold kindlingAddr persistBase; omega, State.peekNat, hfinal,
        State.peek_writeAll_of_apart _ hwipe fun w hw => ?_, State.peek_wipe_within _ hpoke (by omega) (by omega)]
      · exact leNat_replicate_zero 8
      · obtain ⟨p, hp, hat, hlen⟩ := hwords hw
        have := hnone p hp
        omega
  case leds =>
    intro old show_
    refine ⟨fun hz hpat hover => ?flash, fun n hpat => ?blink⟩
    case flash =>
      have hexec := exec_ledFlash (led := led) (dt := dt) hleds (by cases led <;> exact congrArg (phaseLength · _) hpat) hover
      refine ⟨_, hexec, ?_⟩
      have hturn := Led.turn_flash hpat
      cases led
      · exact congrArg (fun l => ({ s with clock := s.clock + dt, out := { s.out with led0 := l } } : State)) hturn
      · exact congrArg (fun l => ({ s with clock := s.clock + dt, out := { s.out with led1 := l } } : State)) hturn
    case blink =>
      intro length next hover
      have hexec := exec_ledFlash (led := led) (dt := dt) hleds (by cases led <;> exact congrArg (phaseLength · _) hpat) hover
      refine ⟨_, hexec, ?_⟩
      have hturn := Led.turn_blink hpat
      cases led
      · exact congrArg (fun l => ({ s with clock := s.clock + dt, out := { s.out with led0 := l } } : State)) hturn
      · exact congrArg (fun l => ({ s with clock := s.clock + dt, out := { s.out with led1 := l } } : State)) hturn

end Sys2Proof.Machine
end

section
/-! Rows and what is found of them (10_hearth.md, 13_memories_and_smoulder.md; R265 to R268): dirty flags, spent rows, and
what a record leaves of the hearth. -/

namespace Sys2Proof.Machine

/-! ### Dirty flags -/

/-- The dirty rows once a row has been flagged (R276). -/
def flagDirty (old : List Dirty) (row : Nat) (data tag : Bool) : List Dirty :=
  if row < 8192 then old
  else if old.any (fun d => decide (d.row = row)) then
    old.map (fun d => if d.row = row then { d with data := d.data || data, tag := d.tag || tag } else d)
  else old ++ [⟨row, data, tag⟩]

theorem State.markDirty_eq (s : State) (row : Nat) (data tag : Bool) :
    s.markDirty row data tag = { s with vault := { s.vault with dirty := flagDirty s.vault.dirty row data tag } } := by
  unfold State.markDirty flagDirty
  split
  · rfl
  · rfl

theorem flagDirty_any {l : List Dirty} {row : Nat} {data tag : Bool} (h : 8192 ≤ row) :
    ∃ d ∈ flagDirty l row data tag, d.row = row ∧ (data = true → d.data = true) ∧ (tag = true → d.tag = true) := by
  unfold flagDirty
  rw [if_neg (not_lt.2 h)]
  split
  next hany =>
    obtain ⟨d, hd, hrow⟩ := List.any_eq_true.1 hany
    refine ⟨_, List.mem_map_of_mem hd, ?_⟩
    rw [if_pos (of_decide_eq_true hrow)]
    exact ⟨of_decide_eq_true hrow, fun h => by simp [h], fun h => by simp [h]⟩
  next => exact ⟨⟨row, data, tag⟩, by simp, rfl, id, id⟩

theorem dataFlagged_flagDirty {l : List Dirty} {row : Nat} {tag : Bool} (h : 8192 ≤ row) :
    (flagDirty l row true tag).any (fun d => decide (d.row = row) && d.data) = true := by
  obtain ⟨d, hd, hrow, hdata, -⟩ := flagDirty_any (l := l) (data := true) (tag := tag) h
  exact List.any_eq_true.2 ⟨d, hd, by rw [hrow, hdata rfl]; simp⟩

/-! ### Records and the hearth -/

theorem State.agreesButRecords_learn {t u : State} (l : Learn → Learn) (h : t.agreesButRecords u) :
    State.agreesButRecords { t with learn := l t.learn } { u with learn := l u.learn } := by
  obtain ⟨hfields, hfree, hmem, hecc⟩ := h
  exact ⟨congrArg (fun x : State => { x with learn := l x.learn }) hfields, hfree, hmem, hecc⟩

theorem State.agreesButRecords_smoulder {t u : State} (l : Smoulder → Smoulder) (h : t.agreesButRecords u) :
    State.agreesButRecords { t with smoulder := l t.smoulder } { u with smoulder := l u.smoulder } := by
  obtain ⟨hfields, hfree, hmem, hecc⟩ := h
  exact ⟨congrArg (fun x : State => { x with smoulder := l x.smoulder }) hfields, hfree, hmem, hecc⟩

/-- The library state once a request has been offered (R307, R308). -/
def Library.asked (l : Library) (isOpen : Bool) (x : Refetch) : Library :=
  if isOpen && decide (l.queue.length < 16) then { l with queue := l.queue ++ [x] } else l

theorem State.request_lib (s : State) (x : Refetch) : s.request x = { s with lib := s.lib.asked s.flashOpen x } := by
  unfold State.request Library.asked
  split <;> rfl

theorem State.request_records {t u : State} (x : Refetch) (h : t.agreesButRecords u) :
    (t.request x).agreesButRecords (u.request x) := by
  have hopen : t.flashOpen = u.flashOpen := by
    rw [h.1]
    rfl
  rw [t.request_lib, u.request_lib, hopen]
  exact State.agreesButRecords_lib (fun l => l.asked u.flashOpen x) h

/-- A segment that reads correctly goes on doing so. -/
theorem State.records_segBad {t u : State} (h : t.agreesButRecords u) {row g : Nat} (hr : row < 16384) (hg : g < 128)
    (hgood : u.segBad row g = false) : t.segBad row g = false := by
  have hword : wordOf (rowAddr row + 8 * g) + 8 ≤ e2eMarkAddr := by
    unfold wordOf rowAddr e2eMarkAddr persistBase
    omega
  have hfatal : 0 < fatalErrors (rowAddr row + 8 * g) := by
    unfold fatalErrors
    split <;> omega
  obtain ⟨-, -, -, herrors⟩ := h
  unfold State.segBad State.bad at hgood ⊢
  obtain h | ⟨-, h⟩ := herrors _ (.inl hword)
  · rw [h, hgood]
  · rw [h]
    exact decide_eq_false (by omega)

theorem State.records_badSegments {t u : State} (h : t.agreesButRecords u) {row : Nat} (hr : row < 16384)
    (hgood : u.badSegments row = []) : t.badSegments row = [] := by
  unfold State.badSegments at hgood ⊢
  rw [List.filter_eq_nil_iff] at hgood ⊢
  intro g hg
  rw [State.records_segBad h hr (List.mem_range.1 hg) (Bool.eq_false_iff.2 (hgood g hg))]
  exact Bool.false_ne_true

theorem State.metErrors_nil (s : State) (m : Master) : s.metErrors [] m = s := rfl

/-! ### Rows made spent -/

/-- What is left when a row's tag has been found uncorrectable, but for the records (R268). -/
def State.withSpentTag (s : State) (row : Nat) : State :=
  let u := (s.setTag row (spentTag (s.partition row))).markDirty row false true
  let u := (u.freeAccum row).bumpLife row
  if s.partition row = 0 then u.request (.full row 0 false) else u

theorem spentTag_gen (cls : Nat) : (spentTag cls).gen.toNat = 0 := rfl

theorem State.markDirty_mem (s : State) (row : Nat) (data tag : Bool) : (s.markDirty row data tag).mem = s.mem := by
  rw [s.markDirty_eq]

theorem State.tagFound_records {s : State} {row : Nat} (hs : Memory.wf s.mem) (hr : row < 16384)
    (hret : s.isRetired row = false) (m : Master) : (s.tagFound row m).agreesButRecords (s.withSpentTag row) ∧
      Memory.wf (s.tagFound row m).mem := by
  unfold State.tagFound State.withSpentTag
  rw [if_neg (ne_true_of_eq_false hret)]
  dsimp only
  have hu : Memory.wf ((s.setTag row (spentTag (s.partition row))).markDirty row false true).mem := by
    rw [State.markDirty_mem]
    exact s.setTag_wf _ _ hs
  have htag : (((s.setTag row (spentTag (s.partition row))).markDirty row false true).tag row).gen.toNat = 0 := by
    rw [State.tag_of_mem (State.markDirty_mem ..), s.tag_setTag row _ hs]
    rfl
  have hpart : ((s.setTag row (spentTag (s.partition row))).markDirty row false true).partition row = s.partition row := by
    rw [State.markDirty_eq]
    rfl
  generalize (s.setTag row (spentTag (s.partition row))).markDirty row false true = u at *
  have h1 := u.memoryEvent_records 0x08 m (tagAddr row) row 0xFF 0 0
  have hw1 := State.memoryEvent_wf 0x08 m (tagAddr row) row 0xFF 0 0 hu
  have h2 := (u.memoryEvent 0x08 m (tagAddr row) row 0xFF 0 0).memoryEvent_records 0x03 m (tagAddr row) row 0xFF 0 0
  have hw := State.memoryEvent_wf 0x03 m (tagAddr row) row 0xFF 0 0 hw1
  have h := State.agreesButRecords_trans h2 h1
  generalize (u.memoryEvent 0x08 m (tagAddr row) row 0xFF 0 0).memoryEvent 0x03 m (tagAddr row) row 0xFF 0 0 = v at *
  have hfreed : ((v.freeAccum row).bumpLife row).agreesButRecords ((u.freeAccum row).bumpLife row) :=
    State.agreesButRecords_learn (fun l => { l with
      accums := l.accums.filter (fun a => !decide (a.row = row))
      lives := setSparse l.lives row (sparse l.lives row + 1) }) h
  have hparts : ((v.freeAccum row).bumpLife row).partition row = s.partition row := by
    rw [← hpart, State.partition, State.partition, hfreed.1]
    rfl
  have hgen : (((v.freeAccum row).bumpLife row).tag row).gen.toNat = 0 := by
    rw [show ((v.freeAccum row).bumpLife row).tag row = v.tag row from rfl, State.records_tag h hw hu hr, htag]
  rw [hparts]
  split
  · unfold State.requestRow
    rw [hgen]
    refine ⟨State.request_records _ hfreed, ?_⟩
    rw [State.request_lib]
    exact hw
  · exact ⟨hfreed, hw⟩

theorem State.withSpentTag_eq (s : State) (row : Nat) : ∃ l, s.withSpentTag row =
    { s.setTag row (spentTag (s.partition row)) with
      vault := { s.vault with dirty := flagDirty s.vault.dirty row false true }
      learn := { s.learn with
        accums := s.learn.accums.filter (fun a => !decide (a.row = row))
        lives := setSparse s.learn.lives row (sparse s.learn.lives row + 1) }
      lib := l } := by
  unfold State.withSpentTag
  dsimp only
  rw [State.markDirty_eq]
  split
  · rw [State.request_lib]
    exact ⟨_, rfl⟩
  · exact ⟨_, rfl⟩

/-- The hearth once a tag has been found uncorrectable (R268). -/
theorem State.tagFound_rows {s : State} {row : Nat} (hs : Memory.wf s.mem) (hr : row < 16384)
    (hret : s.isRetired row = false) (m : Master) : (s.tagFound row m).tag row = spentTag (s.partition row) ∧
    (∀ g, g < 16384 → g ≠ row → (s.tagFound row m).tag g = s.tag g) ∧
    (∀ g, g < 16384 → (s.tagFound row m).row g = s.row g) := by
  obtain ⟨hrec, hw⟩ := State.tagFound_records hs hr hret m
  obtain ⟨l, heq⟩ := s.withSpentTag_eq row
  have hmem : (s.withSpentTag row).mem = (s.setTag row (spentTag (s.partition row))).mem := by rw [heq]
  have hu : Memory.wf (s.withSpentTag row).mem := hmem ▸ s.setTag_wf _ _ hs
  refine ⟨?own, fun g hg hne => ?tags, fun g hg => ?rows⟩
  case own => rw [State.records_tag hrec hw hu hr, State.tag_of_mem hmem, s.tag_setTag row _ hs]
  case tags => rw [State.records_tag hrec hw hu hg, State.tag_of_mem hmem, s.tag_setTag_of_ne _ hs hne]
  case rows => rw [State.records_row hrec hw hu hg, State.row_of_mem hmem, s.row_setTag _ hs hg]

theorem State.tagFound_accums {s : State} {row : Nat} (hs : Memory.wf s.mem) (hr : row < 16384)
    (hret : s.isRetired row = false) (m : Master) :
    (s.tagFound row m).learn.accums = s.learn.accums.filter (fun a => !decide (a.row = row)) := by
  obtain ⟨hrec, -⟩ := State.tagFound_records hs hr hret m
  obtain ⟨l, heq⟩ := s.withSpentTag_eq row
  have hlearn : (s.tagFound row m).learn = (s.withSpentTag row).learn := (congrArg State.learn hrec.1 :)
  rw [hlearn, heq]

end Sys2Proof.Machine
end

section
/-! Commits of accumulators to their rows (11_learning.md, 18_fault_interplay.md; R17, R223, R225, R226, R265, R268, R269). -/

namespace Sys2Proof.Machine

/-! ### Whether a commit waits -/

/-- Nothing of an earlier tick waits, when no write and no commit of one does (R226). -/
theorem State.earlierWaits_eq_false {s : State} {tick : Nat} (hwrites : ∀ w ∈ s.learn.writes, tick ≤ w.1)
    (hdue : ∀ a ∈ s.learn.accums, ∀ d, a.due = some d →
      (∀ y ∈ s.learn.accums, ∀ e, y.due = some e → d ≤ e) → tick ≤ d) : s.earlierWaits tick = false := by
  have hcommit : (match s.commitWaits with | some a => decide (a.due.getD 0 < tick) | none => false) = false := by
    split
    next a ha =>
      unfold State.commitWaits at ha
      split at ha
      case isTrue =>
        have hmem := List.mem_of_find?_eq_some ha
        have hmin := List.find?_some ha
        simp only [Bool.and_eq_true, decide_eq_true_eq] at hmin
        obtain ⟨hsome, hmin⟩ := hmin
        obtain ⟨d, hd⟩ := Option.isSome_iff_exists.1 hsome
        rw [hd] at hmin ⊢
        obtain ⟨-, hle⟩ := List.min?_eq_some_iff.1 hmin.symm
        refine decide_eq_false (not_lt.2 (hdue a hmem d hd fun y hy e he => hle e ?_))
        exact List.mem_filterMap.2 ⟨y, hy, he⟩
      case isFalse => cases ha
    next => rfl
  refine Bool.or_eq_false_iff.2 ⟨List.any_eq_false.2 fun w hw => ?_, hcommit⟩
  simpa using hwrites w hw

/-! ### The bits of a commit -/

/-- The row as a commit writes it (R225). -/
def State.committed (s : State) (x : Accum) (erased : BitVec 128) (full : Bool) : HV :=
  BitVec.ofNat 8192 (bitsFrom (commitBit (s.peek (counterAddr x.idx) 8192).toArray (s.row x.row) erased full) 8192 0)

theorem State.committed_getLsbD {s : State} (hs : Memory.wf s.mem) (x : Accum) (t : Tag) (full : Bool) {i : Nat} (hi : i < 8192) :
    (s.committed x t.erased full).getLsbD i =
      let c := (Memory.read s.mem (counterAddr x.idx + i)).toInt
      if t.isErased (i / 64) then (if full then decide (0 < c) else (s.row x.row).getLsbD i)
      else if 0 < c then true else if c < 0 then false else (s.row x.row).getLsbD i := by
  have hcounter : (s.peek (counterAddr x.idx) 8192).toArray.getD i 0#8 = Memory.read s.mem (counterAddr x.idx + i) := by
    rw [State.peek, Memory.readBytes_eq _ _ _ hs]
    simp [Array.getD_eq_getD_getElem?, hi]
  rw [State.committed, BitVec.getLsbD_ofNat, bitsFrom_testBit, decide_eq_true hi, Bool.true_and, Bool.true_and, Nat.zero_add,
    commitBit, hcounter]
  rfl

/-- The tag of a row as a commit writes it (R225). -/
def Tag.committed (t : Tag) (full : Bool) : Tag := { t with erased := if full then 0 else t.erased, gen := t.gen + 1 }

/-- The state that a commit leaves when no word of its row reads uncorrectable, but for the records (R225). -/
def State.withCommit (s : State) (x : Accum) : State :=
  let old := s.tag x.row
  let full := decide (64 ≤ x.n)
  let segs := (List.range 128).filter old.isErased
  let kept := if full then [] else segs.map (fun g => (rowAddr x.row + 8 * g, errorsAt s.ecc (rowAddr x.row + 8 * g)))
  let t := old.committed full
  let u := s.writeRow x.row (s.committed x old.erased full) t
  { u with
    ecc := kept.foldl (fun (l : List (Nat × Nat)) (e : Nat × Nat) => setErrors l e.1 e.2) u.ecc
    vault := { s.vault with dirty := flagDirty s.vault.dirty x.row true (decide (t.erased ≠ old.erased)) }
    learn := { s.learn with accums := s.learn.accums.map (fun a =>
      if a.idx = x.idx then { x with k := 0, timer := s.learnTime, due := none } else a) } }

theorem State.withCommit_mem (s : State) (x : Accum) : (s.withCommit x).mem = (s.writeRow x.row
    (s.committed x (s.tag x.row).erased (decide (64 ≤ x.n))) ((s.tag x.row).committed (decide (64 ≤ x.n)))).mem := rfl

theorem State.writeRow_wf {s : State} (k : Nat) (v : HV) (t : Tag) (hs : Memory.wf s.mem) : Memory.wf (s.writeRow k v t).mem :=
  State.setTag_wf _ _ _ (s.setRow_wf _ _ hs)

theorem State.commitRow_records {s : State} {x : Accum} (hs : Memory.wf s.mem) (hsegs : s.badSegments x.row = [])
    (herased : (s.tag x.row).erasures ≤ 32) :
    (s.commitRow x).agreesButRecords (s.withCommit x) ∧ Memory.wf (s.commitRow x).mem := by
  have hwf : Memory.wf (s.withCommit x).mem := State.writeRow_wf _ _ _ hs
  unfold State.commitRow
  extract_lets old bad t segs full counters data kept t' s1 s2 s3 s4 s5
  have hbad : bad = [] := congrArg (List.filter fun g => !old.isErased g) hsegs
  clear_value bad
  subst hbad
  have hs4 : s4 = s.withCommit x := by
    simp only [s4, s3, State.markDirty_eq]
    rfl
  rw [hs4]
  split
  case isTrue =>
    exact ⟨State.foldl_records _ (fun s g => s.memoryEvent_records ..) _ _,
      State.foldl_wf _ (fun _ _ h => State.memoryEvent_wf _ _ _ _ _ _ _ h) _ hwf⟩
  case isFalse hfull =>
    have hsame : t'.erasures = old.erasures := congrArg (fun b : BitVec 128 => popcount 128 b.toNat) (if_neg hfull)
    rw [if_neg (by rw [hsame]; exact not_lt.2 herased), show s5 = s4 from rfl, hs4]
    exact ⟨State.agreesButRecords_refl _, hwf⟩

theorem State.tag_writeRow_of_ne (s : State) {k g : Nat} (v : HV) (t : Tag) (hs : Memory.wf s.mem) (hk : k < 16384) (h : g ≠ k) :
    (s.writeRow k v t).tag g = s.tag g := by
  refine (State.tag_setTag_of_ne _ t (s.setRow_wf k v hs) h).trans (s.tag_poke_of_apart hs (.inr ?_))
  rw [hvBytes_length]
  unfold rowAddr tagAddr
  omega

theorem State.row_writeRow_of_ne (s : State) {k g : Nat} (v : HV) (t : Tag) (hs : Memory.wf s.mem) (hg : g < 16384) (h : g ≠ k) :
    (s.writeRow k v t).row g = s.row g := by
  refine (State.row_setTag _ t (s.setRow_wf k v hs) hg).trans (s.row_poke_of_apart hs ?_)
  rw [hvBytes_length]
  unfold rowAddr
  omega

/-- The hearth once an accumulator has been committed (R225). -/
theorem State.commitRow_rows {s : State} {x : Accum} (hs : Memory.wf s.mem) (hrow : x.row < 16384)
    (hsegs : s.badSegments x.row = []) (herased : (s.tag x.row).erasures ≤ 32) :
    (s.commitRow x).tag x.row = (s.tag x.row).committed (decide (64 ≤ x.n)) ∧
    (s.commitRow x).row x.row = s.committed x (s.tag x.row).erased (decide (64 ≤ x.n)) ∧
    ∀ g, g < 16384 → g ≠ x.row → (s.commitRow x).tag g = s.tag g ∧ (s.commitRow x).row g = s.row g := by
  obtain ⟨hrec, hw⟩ := State.commitRow_records hs hsegs herased
  have hmem := s.withCommit_mem x
  have hwc : Memory.wf (s.withCommit x).mem := hmem ▸ State.writeRow_wf _ _ _ hs
  refine ⟨?tag, ?row, fun g hg hne => ⟨?tags, ?rows⟩⟩
  case tag => rw [State.records_tag hrec hw hwc hrow, State.tag_of_mem hmem, State.tag_writeRow _ _ _ _ hs]
  case row => rw [State.records_row hrec hw hwc hrow, State.row_of_mem hmem, State.row_writeRow _ _ _ hs hrow]
  case tags => rw [State.records_tag hrec hw hwc hg, State.tag_of_mem hmem, State.tag_writeRow_of_ne _ _ _ hs hrow hne]
  case rows => rw [State.records_row hrec hw hwc hg, State.row_of_mem hmem, State.row_writeRow_of_ne _ _ _ hs hg hne]

/-! ### An accumulator seeded anew -/

/-- The state that a re-seeded accumulator leaves when no word of its row reads uncorrectable (R223, R269). -/
theorem State.reseedAccum_eq {s : State} {a addr : Nat} {x : Accum} {m : Master}
    (hfind : s.learn.accums.find? (fun y => decide (y.idx = a)) = some x) :
    s.reseedAccum a addr m = State.seedCounters ((s.setAccum { x with n := 0, k := 0, timer := s.learnTime, due := none }).memoryEvent
      0x09 m addr x.row 0xFF (s.tag x.row).erasures 0) a x.row := by
  unfold State.reseedAccum
  rw [hfind]

theorem State.seedCounters_of_good {s : State} {a row : Nat} (hsegs : s.badSegments row = []) : s.seedCounters a row =
    s.poke (counterAddr a) ((List.range 8192).map (seedByte (s.row row) (s.tag row).isErased)) := by
  have hbad : (s.badSegments row).filter (fun g => !(s.tag row).isErased g) = [] := by
    rw [hsegs]
    rfl
  unfold State.seedCounters
  dsimp only
  rw [hbad]
  refine congrArg (fun f => s.poke (counterAddr a) ((List.range 8192).map (seedByte (s.row row) f))) (funext fun g => ?_)
  exact Bool.or_false _

/-- Settles O50: the commit that waits, the one that is made, the one that re-seeds and the one that spends its row. -/
theorem commits : Obligations.Commits := by
  unfold Obligations.Commits
  intro s dt acc us x tick hform hm hpause hfind hdue now r old full late
  refine ⟨fun h => ?waits, fun hhold hburst hscan hlate hrow hwf => ?made⟩
  case waits =>
    refine (eventOf_idle _ _ _ _ s hform ?_ : execCommit dt acc us s = _)
    have hburst : (s.elapse dt).burst = s.burst := rfl
    obtain h | h | h := h
    · simp [h]
    · simp [hburst, h]
    · have hscan : (s.elapse dt).banksFree = false := decide_eq_false (not_le.2 h)
      simp [hscan]
  case made =>
    have hmem := List.mem_of_find?_eq_some hfind
    obtain ⟨hidx, -⟩ : x.idx = acc.val ∧ x.due.isSome = true := by simpa using List.find?_some hfind
    have hwaits : (s.elapse dt).earlierWaits tick = false := by
      refine State.earlierWaits_eq_false (fun w hw => ?_) fun a ha d hd hmin => ?_
      · exact not_lt.1 fun h => hlate (.inl ⟨w, hw, h⟩)
      · exact not_lt.1 fun h => hlate (.inr ⟨a, ha, d, hd, hmin, h⟩)
    have hexec : exec (.commit dt acc us) s = .next (r.commitAccum x).settle := by
      have hcond : ((s.elapse dt).coreRuns && decide ((s.elapse dt).panel.hold = some false) && !(s.elapse dt).burst &&
          (s.elapse dt).banksFree && (s.elapse dt).learn.accums.any (fun a => decide (a.idx = acc.val) &&
            (match a.due with | some t => !(s.elapse dt).earlierWaits t | none => false))) = true := by
        have hany : (s.elapse dt).learn.accums.any (fun a => decide (a.idx = acc.val) &&
            (match a.due with | some t => !(s.elapse dt).earlierWaits t | none => false)) = true :=
          List.any_eq_true.2 ⟨x, hmem, by rw [hidx, hdue]; simp [hwaits]⟩
        have hcore : (s.elapse dt).coreRuns = true := by simp [State.coreRuns, State.paused, hm, hpause]
        have hbanks : (s.elapse dt).banksFree = true := decide_eq_true hscan
        rw [hcore, hbanks, hany, show (s.elapse dt).burst = false from hburst,
          decide_eq_true (show (s.elapse dt).panel.hold = some false from hhold)]
        rfl
      have hexec := (eventOf_next _ _ _ _ s hform hcond : execCommit dt acc us s = _)
      dsimp only at hexec
      rwa [show ((s.elapse dt).upset us) = r from rfl, show r.learn = s.learn from rfl, hfind] at hexec
    have hwfr : Memory.wf r.mem := hwf
    have hbase : counterAddr x.idx = 0x02000000 + 8192 * acc.val := by
      unfold counterAddr
      omega
    unfold State.commitAccum State.counterBad at hexec
    rw [hbase] at hexec
    refine ⟨fun hgood htag hsegs herased => ?good, fun a hbad hsegs hone => ?reseeded, fun hgood htag hret => ?spent⟩
    case good =>
      rw [hgood] at hexec
      dsimp only at hexec
      rw [if_neg (ne_true_of_eq_false htag)] at hexec
      obtain ⟨hrec, hw⟩ := State.commitRow_records hwfr hsegs herased
      obtain ⟨htagAt, hrowAt, hothers⟩ := State.commitRow_rows hwfr hrow hsegs herased
      have hfields := hrec.1
      refine ⟨_, hexec, ?tag, fun i hi => ?bits, hothers, ?learn, fun hlow => ?dirty, ?hearth, ?ticks, ?panel⟩
      case tag =>
        refine htagAt.trans ?_
        simp only [Tag.committed, decide_eq_true_eq] <;> rfl
      case bits =>
        have hcommitted := State.committed_getLsbD hwfr x old (decide full) hi
        rw [hbase] at hcommitted
        refine (congrArg (fun v : HV => v.getLsbD i) hrowAt).trans (hcommitted.trans ?_)
        simp only [decide_eq_true_eq] <;> rfl
      case learn =>
        refine (congrArg State.learn hfields :).trans ?_
        rw [← hidx]
        rfl
      case dirty =>
        have hvault : (r.commitRow x).vault.dirty = (r.withCommit x).vault.dirty := (congrArg (fun u => u.vault.dirty) hfields :)
        rw [State.settle_vault, hvault]
        exact dataFlagged_flagDirty hlow
      case hearth => exact (congrArg State.hearth hfields :)
      case ticks => exact (congrArg State.ticks hfields :)
      case panel => exact (congrArg State.panel hfields :)
    case reseeded =>
      rw [hbad] at hexec
      dsimp only at hexec
      have hfindAny : r.learn.accums.find? (fun y => decide (y.idx = x.idx)) = some x := by
        cases h : r.learn.accums.find? (fun y => decide (y.idx = x.idx)) with
        | none => exact absurd (decide_eq_true rfl) (List.find?_eq_none.1 h x hmem)
        | some y =>
          have hy := List.find?_some h
          rw [hone y (List.mem_of_find?_eq_some h) ((of_decide_eq_true hy).trans hidx)]
      rw [State.reseedAccum_eq hfindAny] at hexec
      have hrec := State.memoryEvent_records (r.setAccum { x with n := 0, k := 0, timer := r.learnTime, due := none })
        0x09 .lrn a x.row 0xFF (r.tag x.row).erasures 0
      have hboth := State.memoryEvent_recordedBoth (r.setAccum { x with n := 0, k := 0, timer := r.learnTime, due := none })
        0x09 .lrn a x.row 0xFF (r.tag x.row).erasures 0 (State.dumpHolds_run _ hm)
      have hw := State.memoryEvent_wf (s := r.setAccum { x with n := 0, k := 0, timer := r.learnTime, due := none })
        0x09 .lrn a x.row 0xFF (r.tag x.row).erasures 0 hwfr
      generalize (r.setAccum { x with n := 0, k := 0, timer := r.learnTime, due := none }).memoryEvent
        0x09 .lrn a x.row 0xFF (r.tag x.row).erasures 0 = v at *
      have hsegsv : v.badSegments x.row = [] := State.records_badSegments hrec hrow hsegs
      rw [State.seedCounters_of_good hsegsv, hbase] at hexec
      have hfar : 16384 * 1024 ≤ 0x02000000 + 8192 * acc.val := by omega
      refine ⟨_, hexec, fun g hg => ⟨?tags, ?rows⟩, ?learn, ?recorded, fun i hi => ?counters⟩
      case tags =>
        refine (State.tag_poke_of_apart v hw (.inl ?_)).trans (State.records_tag hrec hw hwfr hg)
        unfold tagAddr
        omega
      case rows =>
        refine (State.row_poke_of_apart v hw (.inl ?_)).trans (State.records_row hrec hw hwfr hg)
        unfold rowAddr
        omega
      case learn =>
        refine (congrArg State.learn hrec.1 :).trans ?_
        rw [← hidx]
        rfl
      case recorded => exact State.recordedBoth_of hboth rfl rfl
      case counters =>
        have hseed : seedByte (v.row x.row) (v.tag x.row).isErased i =
            if old.isErased (i / 64) then 0#8 else if (s.row x.row).getLsbD i then 16#8 else 240#8 := by
          rw [State.records_row hrec hw hwfr hrow, State.records_tag hrec hw hwfr hrow]
          rfl
        refine Eq.trans ?_ hseed
        rw [State.settle_mem, State.poke_mem, Memory.read_writeBytes, if_pos (by simp; omega), Nat.add_sub_cancel_left,
          List.getD_eq_getElem _ _ (by simpa using hi), List.getElem_map, List.getElem_range]
    case spent =>
      rw [hgood] at hexec
      dsimp only at hexec
      rw [if_pos htag] at hexec
      obtain ⟨hown, htags, hrows⟩ := State.tagFound_rows hwfr hrow hret .lrn
      have haccums := State.tagFound_accums hwfr hrow hret .lrn
      refine ⟨_, hexec, hown, hrows x.row hrow, fun g hg hne => ⟨htags g hg hne, hrows g hg⟩, fun y hy => ?_⟩
      rw [State.settle_learn, haccums] at hy
      simpa using (List.mem_filter.1 hy).2

end Sys2Proof.Machine
end

section
/-! Tachometer captures and boundary candidates (06_comparators.md, 07_sync_and_frames.md; R126 to R133, R142 to R147, R150). -/

namespace Sys2Proof.Machine

/-! ### A sample that takes its place -/

theorem State.storeWord_kept (s : State) (j c word : Nat) :
    (s.storeWord j c word).sync = s.sync ∧ (s.storeWord j c word).ticks = s.ticks := by
  unfold State.storeWord State.crossWord
  dsimp only
  repeat' split
  all_goals exact ⟨rfl, rfl⟩

theorem State.storeWords_kept (s : State) (j : Nat) (words : List Nat) :
    (s.storeWords j words).sync = s.sync ∧ (s.storeWords j words).ticks = s.ticks :=
  ⟨State.foldl_kept State.sync (fun u (w : Nat × Nat) => u.storeWord j w.2 w.1) (fun u w => (u.storeWord_kept j w.2 w.1).1) _ s,
    State.foldl_kept State.ticks (fun u (w : Nat × Nat) => u.storeWord j w.2 w.1) (fun u w => (u.storeWord_kept j w.2 w.1).2) _ s⟩

theorem State.noteWords_kept (s : State) (words : List Nat) : ∃ w, s.noteWords words = { s with sync := { s.sync with turn := w } } := by
  unfold State.noteWords
  split
  next h => exact ⟨none, by rw [← h]⟩
  next w h =>
    split
    · exact ⟨some w, by rw [← h]⟩
    · exact ⟨_, rfl⟩

/-- A sample that fits the current frame (R141, R144). -/
theorem State.placeSample_kept {s : State} (h : s.sync.count < s.lMax) (t : Nat) (words : List Nat) :
    ∃ w c f p, (s.placeSample t words).sync = { s.sync with turn := w, count := c, first := f, phi := p } ∧
      (s.placeSample t words).ticks = s.ticks := by
  unfold State.placeSample
  by_cases hwords : words = []
  · rw [if_pos hwords]
    exact ⟨_, _, _, _, rfl, rfl⟩
  · rw [if_neg hwords]
    dsimp only
    rw [if_pos h]
    obtain ⟨w, hw⟩ : ∃ w, (if s.sync.count = 0 then s.noteWords words else s) = { s with sync := { s.sync with turn := w } } := by
      split
      · exact s.noteWords_kept words
      · exact ⟨s.sync.turn, rfl⟩
    rw [hw]
    obtain ⟨hsync, hticks⟩ := State.storeWords_kept { s with sync := { s.sync with turn := w } } s.sync.count words
    rw [hsync, hticks]
    exact ⟨_, _, _, _, rfl, rfl⟩

/-- The held sample takes its place in a frame that has room. -/
theorem State.placeHeld_kept {s : State} (h : s.sync.held = none ∨ s.sync.count < s.lMax) :
    ∃ hd w c f p, s.placeHeld.sync = { s.sync with held := hd, turn := w, count := c, first := f, phi := p } ∧
      s.placeHeld.ticks = s.ticks := by
  unfold State.placeHeld
  split
  next => exact ⟨_, _, _, _, _, rfl, rfl⟩
  next t words hheld =>
    split
    · exact ⟨_, _, _, _, _, rfl, rfl⟩
    · obtain h | h := h
      · rw [h] at hheld
        cases hheld
      · obtain ⟨w, c, f, p, hsync, hticks⟩ := State.placeSample_kept (s := { s with sync := { s.sync with held := none } }) h t words
        exact ⟨none, w, c, f, p, hsync, hticks⟩

/-! ### A close by an edge -/

theorem State.syncRecord_kept (s : State) (time old new : Nat) :
    (s.syncRecord time old new).sync = s.sync ∧ (s.syncRecord time old new).ticks = s.ticks := by
  unfold State.syncRecord State.routeFlue State.routeAsh
  dsimp only
  repeat' split
  all_goals exact ⟨rfl, rfl⟩

/-- The tick of a frame that an edge closes, and shaft sync as the next frame opens (R142 to R147). -/
theorem State.closeFrame_edge (s : State) (b n x : Nat) : ∃ (y : Tick) (z : Sync),
    ((s.closeFrame b n (.edge x)).ticks = s.ticks ++ [y] ∧ y.id = s.nextTick ∧ y.close = b ∧ y.len = n ∧ y.edge = true ∧
      y.tRef = b - s.sync.prevClose ∧ y.glitches = s.sync.glitches ∧
      y.tach0 = s.sync.captures.countP (fun c => decide (s.sync.prevClose < c.time) && decide (c.time ≤ b)) ∧
      y.tach1 = (s.sync.others.getD 0 []).countP (fun u => decide (u ≤ b)) ∧
      y.status = (s.frameStatus (.edge x)).1 ∧ (∀ e, s.sync.opener = .edge e → y.span = some (x - e))) ∧
    ((s.closeFrame b n (.edge x)).sync = z ∧ z.opener = .edge x ∧ z.edges = 0 ∧ z.candidates = s.sync.candidates ∧ z.prevClose = b ∧ z.prevStatus = some y.status ∧
      z.glitchTotal = s.sync.glitchTotal ∧ z.settling = (if s.syncMode = .hardAlign then 24 else s.sync.settling) ∧
      z.nextOut = (if s.syncMode = .hardAlign then some (x + 12 * s.period) else s.sync.nextOut) ∧ z.count = 0) := by
  unfold State.closeFrame
  extract_lets y span at_ turn
  split
  next status bin rpm16 hstatus =>
  split
  next sum codes haux =>
  extract_lets
  split
  next u frames dropped hturn =>
  extract_lets tick v
  have hkept : ∀ w : State, w = v ∨ (∃ old, w = v.syncRecord b old status) → w.ticks = v.ticks ∧ w.sync = v.sync := by
    rintro w (rfl | ⟨old, rfl⟩)
    · exact ⟨rfl, rfl⟩
    · exact ⟨(v.syncRecord_kept b old status).2, (v.syncRecord_kept b old status).1⟩
  have hfinal := hkept (match s.sync.prevStatus with
    | some old => if old = status then v else v.syncRecord b old status
    | none => v) (by
      split
      · split
        · exact .inl rfl
        · exact .inr ⟨_, rfl⟩
      · exact .inl rfl)
  refine ⟨tick, v.sync, ⟨hfinal.1, rfl, rfl, rfl, rfl, rfl, rfl, rfl, rfl, ?_, fun e he => ?_⟩, hfinal.2, rfl, rfl, rfl, rfl, rfl, rfl, rfl, rfl, rfl⟩
  · rw [hstatus]
  · have hspan : edgeSpan y.opener (.edge x) = some (e, x) := by
      rw [show y.opener = .edge e from he]
      rfl
    show span = some (x - e)
    simp only [span, hspan]

/-- The same once the held sample has taken its place in the frame that opens. -/
theorem State.closeFrame_placed (s : State) (b n x : Nat) : ∃ y : Tick,
    let u := (s.closeFrame b n (.edge x)).placeHeld
    (u.ticks = s.ticks ++ [y] ∧ y.id = s.nextTick ∧ y.close = b ∧ y.len = n ∧ y.edge = true ∧
      y.tRef = b - s.sync.prevClose ∧ y.glitches = s.sync.glitches ∧
      y.tach0 = s.sync.captures.countP (fun c => decide (s.sync.prevClose < c.time) && decide (c.time ≤ b)) ∧
      y.tach1 = (s.sync.others.getD 0 []).countP (fun u => decide (u ≤ b)) ∧
      y.status = (s.frameStatus (.edge x)).1 ∧ (∀ e, s.sync.opener = .edge e → y.span = some (x - e))) ∧
    u.sync.opener = .edge x ∧ u.sync.edges = 0 ∧ u.sync.candidates = s.sync.candidates ∧ u.sync.prevClose = b ∧
    u.sync.prevStatus = some y.status ∧ u.sync.glitchTotal = s.sync.glitchTotal ∧
    u.sync.settling = (if s.syncMode = .hardAlign then 24 else s.sync.settling) ∧
    u.sync.nextOut = (if s.syncMode = .hardAlign then some (x + 12 * s.period) else s.sync.nextOut) := by
  obtain ⟨y, z, ⟨hticks, htick⟩, hsync, hopener, hedges, hcands, hprev, hprevStatus, htotal, hsettling, hnext, hcount⟩ :=
    s.closeFrame_edge b n x
  generalize s.closeFrame b n (.edge x) = v at *
  have hroom : v.sync.held = none ∨ v.sync.count < v.lMax := by
    refine .inr ?_
    rw [hsync, hcount]
    unfold State.lMax
    positivity
  obtain ⟨hd, w, c, f, p, hplaced, hkept⟩ := State.placeHeld_kept hroom
  rw [hsync] at hplaced
  have hfield {α : Type} (g : Sync → α) (hg : g { z with held := hd, turn := w, count := c, first := f, phi := p } = g z) :
      g v.placeHeld.sync = g z := (congrArg g hplaced).trans hg
  exact ⟨y, ⟨hkept.trans hticks, htick⟩, (hfield Sync.opener rfl).trans hopener, (hfield Sync.edges rfl).trans hedges,
    (hfield Sync.candidates rfl).trans hcands, (hfield Sync.prevClose rfl).trans hprev,
    (hfield Sync.prevStatus rfl).trans hprevStatus, (hfield Sync.glitchTotal rfl).trans htotal,
    (hfield Sync.settling rfl).trans hsettling, (hfield Sync.nextOut rfl).trans hnext⟩

/-! ### Captures -/

theorem tachHigh_eq (latch : Option Bool) (uv : Nat) :
    tachHigh latch uv = decide ((if latch = some true then 800000 else 1600000) ≤ uv) := by
  unfold tachHigh dacMicrovolts
  split <;> rfl

theorem State.senseTach_eq (s : State) (i uv : Nat) : s.senseTach i uv =
    (let high := decide ((if s.sync.tach.getD i none = some true then 800000 else 1600000) ≤ uv)
    let u := { s with sync := { s.sync with tach := s.sync.tach.set i (some high) } }
    if s.sync.tach.getD i none = some false ∧ high = true then (if s.mode = .run then u.takeCapture i else u.wakeCapture)
    else u) := by
  unfold State.senseTach
  dsimp only
  rw [tachHigh_eq]

theorem State.takeCapture_eq (s : State) (i : Fin 4) : s.takeCapture i.val = { s with sync :=
    (if 16 ≤ (s.sync.queues.getD i.val []).length then { s.sync with tachDrops := min 65535 (s.sync.tachDrops + 1) }
    else if i.val ≠ 0 then { s.sync with others := s.sync.others.modify (i.val - 1) (fun l => l ++ [s.ts]) }
    else if s.syncMode = .free then { s.sync with captures := s.sync.captures ++ [{ time := s.ts, glitch := false }] }
    else { s.sync with
      captures := s.sync.captures ++ [{ time := s.ts, glitch := false }]
      edges := min s.edgesPerBoundary (s.sync.edges + 1)
      candidates := s.sync.candidates ++
        (if min s.edgesPerBoundary (s.sync.edges + 1) = s.edgesPerBoundary then [s.ts] else []) }) } := by
  unfold State.takeCapture
  dsimp only
  split
  · rw [satTo_eq_min]
  by_cases hi : i.val = 0
  · rw [if_pos hi, if_neg (not_not.2 hi)]
    split
    · rfl
    · split
      · rfl
      · rw [List.append_nil]
  · rw [if_neg hi, if_pos hi]
    rfl

/-- A capture of `TACH0` in sleep (R131 to R133). -/
theorem State.wakeCapture_eq {s : State} (hm : s.mode = .banked ∨ s.mode = .ember) :
    let recent := (s.clock :: s.power.wakeEdges).take 4
    let fourth : Bool := match recent[3]? with | some first => decide (s.clock ≤ first + 8 * 24576000) | none => false
    let spot := match s.spotSeconds with
      | some n => if s.power.sleepAt + n * 24576000 ≤ s.clock then 8 else 0
      | none => 0
    let fresh : Bool := decide (s.power.wakeMask = 0) && !s.power.waking
    let wakes : Bool := fourth && (fresh || decide (s.power.wakeMask ≠ 0) && decide (s.power.wakeAt = s.clock))
    s.wakeCapture = { s with power := { s.power with
      wakeEdges := recent
      wakeMask := if wakes then s.power.wakeMask ||| 1 ||| spot else s.power.wakeMask
      wakeAt := if wakes then s.clock else s.power.wakeAt } } := by
  intro recent fourth spot fresh wakes
  have hspot : 8 * b2n s.spotElapsed = spot := by
    simp only [mul_b2n, State.spotElapsed, spot]
    cases s.spotSeconds with
    | none => rfl
    | some n =>
      dsimp only
      by_cases h : s.power.sleepAt + n * perSec ≤ s.clock
      · exact (if_pos (decide_eq_true h)).trans (if_pos h).symm
      · exact (if_neg (by rw [decide_eq_false h]; exact Bool.false_ne_true)).trans (if_neg h).symm
  have hmay : State.mayRequest { s with power := { s.power with wakeEdges := recent } } =
      (fresh || decide (s.power.wakeMask ≠ 0) && decide (s.power.wakeAt = s.clock)) := by
    have hsleep : (decide (s.mode = .banked) || decide (s.mode = .ember)) = true := by
      obtain h | h := hm <;> rw [h] <;> rfl
    unfold State.mayRequest
    dsimp only
    rw [hsleep, Bool.true_and]
  unfold State.wakeCapture
  dsimp only
  cases h3 : recent[3]? with
  | none =>
    have hwakes : wakes = false := by simp only [wakes, fourth, h3, Bool.false_and]
    rw [hwakes]
    rfl
  | some first =>
    have hfourth : fourth = decide (s.clock ≤ first + 8 * 24576000) := by simp only [fourth, h3]
    dsimp only
    by_cases hle : s.clock ≤ first + 8 * perSec
    · have hwakes : wakes = (fresh || decide (s.power.wakeMask ≠ 0) && decide (s.power.wakeAt = s.clock)) := by
        simp only [wakes, hfourth, decide_eq_true (show s.clock ≤ first + 8 * 24576000 from hle), Bool.true_and]
      rw [if_pos hle, hwakes, ← hmay]
      unfold State.requestWake
      split
      · have helapsed : State.spotElapsed { s with power := { s.power with wakeEdges := recent } } = s.spotElapsed := rfl
        rw [helapsed, hspot]
      · rfl
    · have hwakes : wakes = false := by
        simp only [wakes, hfourth, decide_eq_false (show ¬s.clock ≤ first + 8 * 24576000 from hle), Bool.false_and]
      rw [if_neg hle, hwakes]
      rfl

/-! ### Candidates -/

/-- The oldest candidate closes the frame, or is a glitch (R142 to R146). -/
theorem State.decideCandidate_eq {s : State} {x : Nat} {rest : List Nat} (h : s.sync.candidates = x :: rest) :
    s.decideCandidate =
      (let u := { s with sync := { s.sync with candidates := rest } }
      let b := s.boundaryTime x
      let n := s.samplesBelow b
      if s.lMin ≤ n ∧ n ≤ s.lMax then u.closeFrame b n (.edge x)
      else { s with sync := { s.sync with
        candidates := rest, glitches := s.sync.glitches + 1
        glitchTotal := min 0xFFFFFFFF (s.sync.glitchTotal + 1)
        captures := s.sync.captures.map (fun c => if c.time = x then { c with glitch := true } else c) } }) := by
  unfold State.decideCandidate
  rw [h]
  dsimp only
  rw [satTo_eq_min]
  rfl

theorem State.frameStatus_edge {s : State} {e : Nat} (h : s.sync.opener = .edge e) (x : Nat) :
    (s.frameStatus (.edge x)).1 =
      if 12288000 * s.sync.captures.countP (fun c => !c.glitch && decide (e < c.time) && decide (c.time ≤ x)) <
        s.edgesPerRev * (x - e) then 2 else 1 := by
  unfold State.frameStatus
  rw [h]
  rfl

theorem State.frameStatus_opened {s : State} (h : ∀ e, s.sync.opener ≠ .edge e) (x : Nat) :
    (s.frameStatus (.edge x)).1 = 3 := by
  unfold State.frameStatus
  cases ho : s.sync.opener with
  | edge e => exact absurd ho (h e)
  | _ => rfl

/-- Settles O40: an evaluation by its latch, in RUN and in sleep; the oldest candidate by the samples before its boundary. -/
theorem captures : Obligations.Captures := by
  unfold Obligations.Captures
  intro s dt i uv now ts counted recent fourth spot latch high sensed fast rises
  refine ⟨fun h => ?idle, fun hfast hm => ?run, fun hfast hm hi => ?sleep, fun hm hsleep => ?off, fun x rest hm hcand hdue => ?due⟩
  case idle =>
    refine (event_idle _ _ _ s ?_ : execTachCapture dt i uv s = _)
    have htick : (s.elapse dt).onFastTick = false := decide_eq_false h
    rw [htick, Bool.and_false]
  case run =>
    have hpowered : (s.elapse dt).tachPowered i.val = true := by simp [State.tachPowered, hm]
    refine (event_agrees (by rw [hpowered, show (s.elapse dt).onFastTick = true from decide_eq_true hfast]; rfl) ?_ :
      ∃ t, execTachCapture dt i uv s = .next t ∧ t.agrees _)
    rw [State.senseTach_eq]
    by_cases hrises : rises
    · refine (if_pos hrises).trans (((if_pos hm).trans (State.takeCapture_eq _ i)).trans ?_)
      rw [if_neg (not_not.2 hrises)]
      rfl
    · refine (if_neg hrises).trans ?_
      rw [if_pos hrises]
      rfl
  case sleep =>
    intro fresh wakes
    have hpowered : (s.elapse dt).tachPowered i.val = true := by
      obtain h | h := hm <;> simp [State.tachPowered, h, hi]
    refine (event_agrees (by rw [hpowered, show (s.elapse dt).onFastTick = true from decide_eq_true hfast]; rfl) ?_ :
      ∃ t, execTachCapture dt i uv s = .next t ∧ t.agrees _)
    have hrun : s.mode ≠ .run := by
      obtain h | h := hm <;> rw [h] <;> decide
    rw [State.senseTach_eq]
    by_cases hrises : rises
    · refine (if_pos hrises).trans (((if_neg hrun).trans (State.wakeCapture_eq (s := { s.elapse dt with sync := sensed }) hm)).trans ?_)
      rw [if_neg (not_not.2 hrises)]
      rfl
    · refine (if_neg hrises).trans ?_
      rw [if_pos hrises]
      rfl
  case off =>
    refine (event_idle _ _ _ s ?_ : execTachCapture dt i uv s = _)
    have hpowered : (s.elapse dt).tachPowered i.val = false := by
      obtain h | ⟨h1, h2⟩ := hsleep
      · simp [State.tachPowered, hm, h]
      · simp [State.tachPowered, hm, h1, h2]
    rw [hpowered, Bool.false_and]
  case due =>
    intro b n
    have hdue : (s.elapse dt).candidateDue = true := by
      unfold State.candidateDue
      rw [State.elapse_sync, hcand]
      dsimp only
      obtain h | ⟨sample, hheld, hle⟩ := hdue
      · rw [show (s.elapse dt).syncMode = .hardAlign from h]
        rfl
      · rw [hheld, Bool.or_eq_true]
        exact .inr (decide_eq_true hle)
    have hexec := (event_next _ _ _ s (by rw [hdue, State.elapse_mode, hm]; rfl) : execCandidateDecision dt s = _)
    rw [State.decideCandidate_eq (s := s.elapse dt) hcand] at hexec
    dsimp only at hexec
    have hn : (s.elapse dt).samplesBelow ((s.elapse dt).boundaryTime x) = n := by
      unfold State.samplesBelow
      simp only [n, State.elapse_sync]
      cases s.sync.first <;> rfl
    rw [hn] at hexec
    refine ⟨fun hmin hmax => ?closes, fun hout hroom => ?glitch⟩
    case closes =>
      rw [if_pos (by exact ⟨hmin, hmax⟩)] at hexec
      obtain ⟨y, ⟨hticks, hid, hclose, hlen, hedge, htref, hglitches, htach0, htach1, hstatus, hspan⟩, hsync⟩ :=
        State.closeFrame_placed { s.elapse dt with sync := { s.sync with candidates := rest } } b n x
      exact ⟨_, y, hexec, hticks, hid, hclose, hlen, hedge, htref, hglitches, htach0, htach1,
        fun e he => ⟨hstatus.trans (State.frameStatus_edge he x), hspan e he⟩,
        fun ho => hstatus.trans (State.frameStatus_opened ho x), hsync⟩
    case glitch =>
      rw [if_neg (by rintro ⟨h1, h2⟩; exact absurd hout (by rw [not_or, not_lt, not_lt]; exact ⟨h1, h2⟩))] at hexec
      obtain ⟨hd, w, c, f, p, hsync, hticks⟩ := State.placeHeld_kept (s := { s.elapse dt with sync := { s.sync with
        candidates := rest, glitches := s.sync.glitches + 1
        glitchTotal := min 0xFFFFFFFF (s.sync.glitchTotal + 1)
        captures := s.sync.captures.map (fun c => if c.time = x then { c with glitch := true } else c) } }) hroom
      exact ⟨_, hexec, hticks, (congrArg Sync.candidates hsync :), (congrArg Sync.glitches hsync :),
        (congrArg Sync.glitchTotal hsync :), (congrArg Sync.edges hsync :), (congrArg Sync.opener hsync :),
        (congrArg Sync.prevClose hsync :), (congrArg Sync.captures hsync :)⟩

end Sys2Proof.Machine
end

section
/-! The fleet's own events (16_ring_link.md, 17_fleet.md; R332 to R334, R339, R343 to R347, R353, R356). -/

namespace Sys2Proof.Machine

/-! ### Ring events and own frames -/

/-- The payload of a ring event (R249). -/
def ringPayload (code port peer size epoch e2e value : Nat) : List Byte :=
  [BitVec.ofNat 8 code, BitVec.ofNat 8 port, BitVec.ofNat 8 peer, BitVec.ofNat 8 size, BitVec.ofNat 8 epoch] ++
    leBytes 2 e2e ++ leBytes 2 value

/-- A ring event is routed to the ash, where it enters a queue that has room, and to the flue (R135, R249). -/
theorem State.ringEvent_eq (s : State) (code port peer epoch e2e value : Nat) : ∃ f r,
    s.ringEvent code port peer epoch e2e value = { s with flue := f, router := r } ∧
    (s.router.ash.length < 32 → ∃ e : Event, r.ash = s.router.ash ++ [e] ∧ e.time = s.ts ∧ e.type = 0x0B ∧
      e.payload = ringPayload code port peer s.ringSize epoch e2e value) := by
  unfold State.ringEvent
  extract_lets payload e
  obtain ⟨hlen, ha⟩ | ⟨hlen, ha⟩ := s.routeAsh_cases e <;> rw [ha]
  · obtain ⟨-, hf⟩ | ⟨-, hf⟩ := State.routeFlue_cases { s with router := { s.router with ash := s.router.ash ++ [e] } } e <;>
      exact ⟨_, _, hf, fun _ => ⟨e, rfl, rfl, rfl, rfl⟩⟩
  · obtain ⟨-, hf⟩ | ⟨-, hf⟩ := State.routeFlue_cases { s with router := { s.router with ashDrops := s.router.ashDrops + 1 } } e <;>
      exact ⟨_, _, hf, fun h => absurd h (not_lt.2 hlen)⟩

theorem ringPayload_fields (code port peer size epoch e2e value : Nat) :
    byteAt (ringPayload code port peer size epoch e2e value) 0 = code % 256 ∧
    fieldAt (ringPayload code port peer size epoch e2e value) 5 2 = e2e % 65536 ∧
    fieldAt (ringPayload code port peer size epoch e2e value) 7 2 = value % 65536 :=
  ⟨(leNat_leBytes 1 code).trans rfl, leNat_leBytes 2 e2e, leNat_leBytes 2 value⟩

theorem State.takeE2e_fleet (s : State) : s.takeE2e.2.fleet = { s.fleet with e2e := (s.fleet.e2e + 1) % 65536 } := by
  unfold State.takeE2e
  dsimp only
  split <;> rfl

theorem State.takeE2e_ring (s : State) : s.takeE2e.2.ring = s.ring := by
  unfold State.takeE2e
  dsimp only
  split <;> rfl

theorem State.offerLocal_fleet (s : State) (since : Nat) (f : YFrame) : (s.offerLocal since f).fleet = s.fleet := by
  unfold State.offerLocal
  split
  · rfl
  · split
    · rfl
    · split <;> rfl

theorem State.originate_fleet (s : State) (type chan dst dir : Nat) (payload : List Byte) :
    (s.originate type chan dst dir payload).fleet = { s.fleet with e2e := (s.fleet.e2e + 1) % 65536 } :=
  (State.offerLocal_fleet _ _ _).trans s.takeE2e_fleet

/-- A frame of this unit before its tag is made. -/
def State.freshFrame (s : State) (type chan dst dir e2e : Nat) (payload : List Byte) : YFrame :=
  { auth := s.ringAuth, cls := classOf type chan, dst := dst, src := s.ringId, e2e := e2e, dir := dir, payload := payload }

theorem State.originate_eq (s : State) (type chan dst dir : Nat) (payload : List Byte) :
    s.originate type chan dst dir payload =
      (let u := s.takeE2e.2
      let f := u.freshFrame type chan dst dir s.fleet.e2e payload
      u.offerLocal u.clock (if u.ringAuth then { f with tag := u.frameTag f } else f)) := rfl

theorem turnFrame_up {r : Ring} {f : YFrame} {out : Port} (hup : (r.port out).up = true) (hturns : f.turns = 0) (own : Bool) :
    turnFrame r own f out = some (f, out) := by
  unfold turnFrame
  dsimp only
  rw [if_pos hup, hturns]
  simp

/-- An own frame that finds room leaves by the port of its direction (R328, R330). -/
theorem State.originate_ring {s : State} {type chan dst dir : Nat} {payload : List Byte}
    (hup : (s.ring.port (portOfDir dir)).up = true) (hauth : s.ringAuth = false) (hwait : s.ring.waiting = [])
    (hroom : s.localRoom (classOf type chan) (cellsOf payload.length false) = true) :
    (s.originate type chan dst dir payload).ring = { s.ring with
      free := s.ring.free.drop (cellsOf payload.length false)
      queue := s.ring.queue ++ [{ frame := s.freshFrame type chan dst dir s.fleet.e2e payload
                                  out := portOfDir dir, source := none, at_ := s.clock
                                  cells := s.ring.free.take (cellsOf payload.length false) }] } := by
  have hring := s.takeE2e_ring
  have hkept := s.takeE2e_records.1
  have hfleet := s.takeE2e_fleet
  rw [State.originate_eq]
  dsimp only
  have hauth' : s.takeE2e.2.ringAuth = false := by
    rw [hkept]
    exact hauth
  have hclock : s.takeE2e.2.clock = s.clock := by rw [hkept]
  have hframe : s.takeE2e.2.freshFrame type chan dst dir s.fleet.e2e payload = s.freshFrame type chan dst dir s.fleet.e2e payload := by
    rw [hkept]
    rfl
  have hroom' : s.takeE2e.2.localRoom (classOf type chan) (cellsOf payload.length false) = true := by
    unfold State.localRoom State.cellsHeld at hroom ⊢
    rw [hring, hfleet]
    exact hroom
  have hcells : (s.freshFrame type chan dst dir s.fleet.e2e payload).cellCount = cellsOf payload.length false :=
    congrArg (cellsOf payload.length) hauth
  rw [if_neg (ne_true_of_eq_false hauth'), hclock, hframe]
  have hturn : turnFrame s.takeE2e.2.ring true (s.freshFrame type chan dst dir s.fleet.e2e payload) (portOfDir dir) =
      some (s.freshFrame type chan dst dir s.fleet.e2e payload, portOfDir dir) :=
    turnFrame_up (by rw [hring]; exact hup) rfl true
  unfold State.offerLocal
  rw [show (s.freshFrame type chan dst dir s.fleet.e2e payload).dir = dir from rfl, hturn]
  dsimp only
  rw [hcells, show (s.freshFrame type chan dst dir s.fleet.e2e payload).cls = classOf type chan from rfl, hroom', hring, hwait]
  rw [if_pos (by rfl)]
  unfold State.enqueueFrame State.takeCells
  dsimp only
  rw [hcells, hring, hwait]

/-! ### Folding -/

theorem answerBlock_length (dbest : Bool) (responder : Nat) (l : Lane) : (answerBlock dbest responder l).length = 16 := by
  unfold answerBlock
  split
  · simp
  · cases dbest <;> simp

theorem foldBlock_length (dbest : Bool) (unit : Nat) (own : Lane) (inMask : Bool) {b : List Byte} (h : b.length = 16) :
    (foldBlock dbest unit own inMask b).length = 16 := by
  unfold foldBlock
  split
  · exact h
  · exact answerBlock_length _ _ _

theorem byteAt_eq (b : List Byte) (i : Nat) : byteAt b i = (b.getD i 0#8).toNat := by
  rw [byteAt, fieldAt, slice]
  by_cases hi : i < b.length
  · rw [List.drop_eq_getElem_cons hi, List.take_succ_cons, List.take_zero, List.getD_eq_getElem _ _ hi]
    simp [leNat]
  · rw [List.drop_of_length_le (not_lt.1 hi), List.getD_eq_default _ _ (not_lt.1 hi)]
    rfl

/-- The folded answers of a query payload (R342, R344). -/
def foldedCount (own : Lane × Lane) (b : List Byte) : Nat :=
  if (bitOf (byteAt b 3) 0 && !own.1.none) || (bitOf (byteAt b 3) 1 && !own.2.none) then min 65535 (fieldAt b 10 2 + 1)
  else fieldAt b 10 2

theorem foldPayload_eq (unit : Nat) (own : Lane × Lane) (b : List Byte) : foldPayload unit own b =
    b.take 10 ++ leBytes 2 (foldedCount own b) ++ slice b 12 1028 ++
      foldBlock false unit own.1 (bitOf (byteAt b 3) 0) (slice b 1040 16) ++
      foldBlock true unit own.2 (bitOf (byteAt b 3) 1) (slice b 1056 16) := by
  unfold foldPayload foldedCount
  dsimp only
  rw [satTo_eq_min]

theorem foldPayload_length (unit : Nat) (own : Lane × Lane) {b : List Byte} (h : b.length = 1072) :
    (foldPayload unit own b).length = 1072 := by
  have hn := foldBlock_length false unit own.1 (bitOf (byteAt b 3) 0) (slice_length b 1040 16 (by omega))
  have hd := foldBlock_length true unit own.2 (bitOf (byteAt b 3) 1) (slice_length b 1056 16 (by omega))
  rw [foldPayload_eq]
  simp only [List.length_append, List.length_take, leBytes_length, slice_length b 12 1028 (by omega), hn, hd]
  omega

/-- A fold leaves what stands before the answer blocks, but for the count (R344). -/
theorem foldPayload_byteAt (unit : Nat) (own : Lane × Lane) {b : List Byte} (h : b.length = 1072) {i : Nat} (hi : i < 1040)
    (h10 : i ≠ 10) (h11 : i ≠ 11) : byteAt (foldPayload unit own b) i = byteAt b i := by
  have hfront : (b.take 10 ++ leBytes 2 (foldedCount own b)).length = 12 := by simp; omega
  have hmid := slice_length b 12 1028 (by omega)
  rw [byteAt_eq, byteAt_eq, foldPayload_eq, List.append_assoc _ (foldBlock ..), List.getD_append _ _ _ _ (by
    rw [List.length_append, hfront, hmid]; omega)]
  by_cases hlow : i < 10
  · rw [List.getD_append _ _ _ _ (by omega), List.getD_append _ _ _ _ (by simp; omega)]
    simp [List.getD_eq_getElem?_getD, hlow]
  · rw [List.getD_append_right _ _ _ _ (by omega), hfront, slice]
    simp only [List.getD_eq_getElem?_getD, List.getElem?_take, List.getElem?_drop]
    rw [if_pos (by omega), show 12 + (i - 12) = i by omega]

theorem foldPayload_count (unit : Nat) (own : Lane × Lane) {b : List Byte} (h : b.length = 1072) :
    fieldAt (foldPayload unit own b) 10 2 = foldedCount own b % 65536 := by
  have htake : (b.take 10).length = 10 := by simp; omega
  rw [foldPayload_eq, fieldAt, List.append_assoc, List.append_assoc, List.append_assoc, slice_append_right _ _ _ _ htake,
    List.take_left' (leBytes_length 2 _)]
  exact leNat_leBytes 2 _

theorem leNat_lt (bs : List Byte) : leNat bs < 256 ^ bs.length := by
  induction bs with
  | nil => exact Nat.one_pos
  | cons b bs ih =>
    have hb := b.isLt
    rw [leNat, List.length_cons, Nat.pow_succ]
    omega

theorem foldedCount_lt (own : Lane × Lane) (b : List Byte) : foldedCount own b < 65536 := by
  have hold : fieldAt b 10 2 < 65536 := by
    refine (leNat_lt _).trans_le ((Nat.pow_le_pow_right (by omega) (show _ ≤ 2 from ?_)).trans_eq (by norm_num))
    simp [slice]
  unfold foldedCount
  split <;> omega

/-- A frame that goes on, with one hop more (R329). -/
theorem State.forward_eq {s : State} {p : Port} {f : YFrame} (hhops : f.hops + 1 < 512) (hsrc : f.src ≠ s.ringId)
    (hup : (s.ring.port (otherPort p)).up = true) (cells : List Nat) (since : Nat) : s.forward p f cells since =
      { s with ring := { s.ring with queue := s.ring.queue ++
        [{ frame := { f with hops := f.hops + 1 }, out := otherPort p, source := some p, at_ := since, cells := cells }] } } := by
  have hturn : turnFrame s.ring false { f with hops := f.hops + 1 } (otherPort p) =
      some ({ f with hops := f.hops + 1 }, otherPort p) := by
    unfold turnFrame
    dsimp only
    rw [if_pos hup]
    rfl
  unfold State.forward
  dsimp only
  rw [if_neg (by omega), decide_eq_false hsrc, hturn]

/-- A held query frame whose cells read correctly goes on (R334, R344). -/
theorem State.foldJob_eq {s : State} {j : Job} {l : List Job} {f : YFrame} (hcells : s.cellsBad j.cells = none)
    (herase : s.fleet.jobs.erase j = l) (hf : (match j.result with
      | some own => if s.ring.clashAt.isSome then j.frame else s.folded j.frame own
      | none => j.frame) = f) (hhops : f.hops + 1 < 512) (hsrc : f.src ≠ s.ringId)
    (hup : (s.ring.port (otherPort j.source)).up = true) : s.foldJob j = { s with
      fleet := { s.fleet with jobs := l }
      ring := { s.ring with queue := s.ring.queue ++ [{ frame := { f with hops := f.hops + 1 }
                                                        out := otherPort j.source
                                                        source := some j.source, at_ := j.at_, cells := j.cells }] } } := by
  have hfolded : ∀ own, State.folded { s with fleet := { s.fleet with jobs := l } } j.frame own = s.folded j.frame own :=
    fun _ => rfl
  unfold State.foldJob
  rw [hcells, herase]
  dsimp only
  simp only [hfolded]
  refine Eq.trans ?_ (State.forward_eq (s := { s with fleet := { s.fleet with jobs := l } }) hhops hsrc hup j.cells j.at_)
  rw [← hf] <;> rfl

/-- What a fold keeps of a frame (R337, R344). -/
theorem State.folded_kept (s : State) (f : YFrame) (own : Lane × Lane) :
    (s.folded f own).hops = f.hops ∧ (s.folded f own).dst = f.dst ∧ (s.folded f own).src = f.src ∧
    (s.folded f own).e2e = f.e2e ∧ (s.folded f own).cls = f.cls ∧
    (s.folded f own).payload = foldPayload s.ringId own f.payload ∧
    ((s.folded f own).payload = f.payload → (s.folded f own).tag = f.tag) := by
  unfold State.folded
  dsimp only
  split
  case isTrue h => exact ⟨rfl, rfl, rfl, rfl, rfl, h.symm, fun _ => rfl⟩
  case isFalse h =>
    have hkept : (s.retag { f with payload := foldPayload s.ringId own f.payload }).payload =
        foldPayload s.ringId own f.payload := by
      unfold State.retag
      split
      · rfl
      · split <;> rfl
    refine ⟨?_, ?_, ?_, ?_, ?_, hkept, fun he => absurd (hkept.symm.trans he) h⟩
    all_goals
      unfold State.retag
      split
      · rfl
      · split <;> rfl

/-- The oldest held query frame that is ready (R334, R343). -/
theorem State.answered_eq {s : State} {jb ja : List Job} {j : Job} (hjobs : s.fleet.jobs = jb ++ j :: ja)
    (hbefore : ∀ y ∈ jb, y.result = none ∧ (s.ring.clashAt.isSome = true → y.started = true))
    (hready : j.result.isSome = true ∨ (s.ring.clashAt.isSome = true ∧ j.started = false)) :
    s.answered = some j ∧ s.fleet.jobs.erase j = jb ++ ja := by
  have hnot : ∀ y ∈ jb, ¬(y.result.isSome || (s.ring.clashAt.isSome && !y.started)) = true := by
    intro y hy
    obtain ⟨hnone, hstarted⟩ := hbefore y hy
    rw [hnone]
    cases hc : s.ring.clashAt.isSome
    · simp
    · simp [hstarted hc]
  have hj : (j.result.isSome || (s.ring.clashAt.isSome && !j.started)) = true := by
    obtain h | ⟨h1, h2⟩ := hready
    · simp [h]
    · simp [h1, h2]
  constructor
  · unfold State.answered
    rw [hjobs, List.find?_append, List.find?_eq_none.2 hnot, Option.none_or]
    exact List.find?_cons_of_pos (p := fun j : Job => j.result.isSome || (s.ring.clashAt.isSome && !j.started)) hj
  · rw [hjobs, List.erase_append_right _ (fun hmem => hnot j hmem hj), List.erase_cons_head]

/-! ### Questions -/

/-- A query that is originated joins the unit's own queries (R342, R346). -/
theorem State.askFleet_fleet (s : State) (kind bin : Nat) (vec : HV) (row : Nat) (gen : Option Nat) (reissue : Bool) :
    (s.askFleet kind bin vec row gen reissue).fleet = { s.fleet with
      e2e := (s.fleet.e2e + 1) % 65536
      queries := s.fleet.queries ++ [{ e2e := s.fleet.e2e, stamp := s.ts % 2 ^ 32, kind := kind, bin := bin, vec := vec
                                       row := row, gen := gen, at_ := s.clock, limit := s.queryLimit, reissue := reissue }]
      askedAt := some s.clock } := by
  unfold State.askFleet
  extract_lets e stamp q p u
  have hfleet : u.fleet = { s.fleet with e2e := (s.fleet.e2e + 1) % 65536 } := s.originate_fleet ..
  have hclock : u.clock = s.clock := State.records_clock (s.originate_records ..)
  exact congrArg₂ (fun (f : Fleet) c => { f with queries := f.queries ++ [q], askedAt := some c }) hfleet hclock

/-! ### The sweep -/

/-- In ID clash nothing is sent (R334). -/
theorem State.sweepNext_of_clash {s : State} (h : s.mayOriginate = false) :
    s.sweepNext = { s with fleet := { s.fleet with sweepAt := s.fleet.sweepAt + per50ms } } := by
  refine if_pos (?_ : (!s.mayOriginate) = true)
  rw [h]
  rfl

/-- The slots as a sweep leaves them. -/
def Fleet.swept (f : Fleet) : Fleet := { f with sweepAt := f.sweepAt + per50ms, sweepSlot := (f.sweepSlot + 1) % 1024 }

theorem State.sweepNext_of_may {s : State} (h : s.mayOriginate = true) : s.sweepNext =
    if s.isRetired (15360 + s.fleet.sweepSlot) then { s with fleet := s.fleet.swept }
    else State.originate { s with fleet := s.fleet.swept } 4 32 s.ringId 0
      (sweepPayload s.mclass s.fleet.sweepSlot (sparse s.vault.slotSeq s.fleet.sweepSlot) s.eventCounter s.seedHash
        (s.slotRow s.fleet.sweepSlot)) := by
  refine if_neg (?_ : ¬(!s.mayOriginate) = true)
  rw [h]
  exact Bool.false_ne_true

theorem sweepPayload_fields (mclass slot q fsend seedHash : Nat) (row : Option (Tag × HV)) :
    byteAt (sweepPayload mclass slot q fsend seedHash row) 0 = b2n row.isSome ∧
    fieldAt (sweepPayload mclass slot q fsend seedHash row) 2 2 = slot % 65536 ∧
    (sweepPayload mclass slot q fsend seedHash none).length = 16 := by
  refine ⟨?_, leNat_leBytes 2 slot, ?_⟩
  · refine (leNat_leBytes 1 (b2n row.isSome)).trans ?_
    cases row <;> rfl
  · simp [sweepPayload]

theorem sweepPayload_length (mclass slot q fsend seedHash : Nat) (row : Option (Tag × HV)) :
    (sweepPayload mclass slot q fsend seedHash row).length = if row.isSome then 1072 else 16 := by
  cases row <;> simp [sweepPayload]

theorem sweepPayload_tag (mclass slot q fsend seedHash : Nat) (t : Tag) (v : HV) :
    slice (sweepPayload mclass slot q fsend seedHash (some (t, v))) 16 32 = t.bytes := by
  unfold sweepPayload
  rw [slice_append_right _ _ _ _ (by simp), List.take_left' t.bytes_length]

/-- A slot that is taught is told with its tag and row, any other one as free (R268, R356). -/
theorem State.slotRow_eq (s : State) (slot : Nat) : s.slotRow slot =
    if s.tagBad (15360 + slot) = false ∧ (s.tag (15360 + slot)).valid = true ∧ (s.tag (15360 + slot)).spent = false
    then some (s.tag (15360 + slot), s.row (15360 + slot)) else none := by
  unfold State.slotRow
  dsimp only
  refine if_congr ?_ rfl rfl
  rw [Bool.and_eq_true, Bool.and_eq_true, Bool.not_eq_true', Bool.not_eq_true', and_assoc]

/-- The frame of a sweep (R353, R356). -/
theorem State.sweepNext_spec {s : State} (hmay : s.mayOriginate = true) :
    s.sweepNext.fleet.sweepAt = s.fleet.sweepAt + 1228800 ∧ s.sweepNext.fleet.sweepSlot = (s.fleet.sweepSlot + 1) % 1024 ∧
    (s.isRetired (15360 + s.fleet.sweepSlot) = true → s.sweepNext.ring = s.ring ∧ s.sweepNext.mem = s.mem) ∧
    (s.isRetired (15360 + s.fleet.sweepSlot) = false → s.ring.portA.up = true → s.ringAuth = false → s.ring.waiting = [] →
      s.cellsHeld none 36 ≤ 3 → 5 ≤ s.ring.free.length →
      ∃ q : QFrame, s.sweepNext.ring.queue = s.ring.queue ++ [q] ∧ q.out = .a ∧ q.source = none ∧ q.frame.cls = 36 ∧
        q.frame.dst = s.ringId ∧ q.frame.src = s.ringId ∧ q.frame.dir = 0 ∧ q.frame.e2e = s.fleet.e2e ∧
        fieldAt q.frame.payload 2 2 = s.fleet.sweepSlot % 65536 ∧
        (s.tagBad (15360 + s.fleet.sweepSlot) = false → (s.tag (15360 + s.fleet.sweepSlot)).valid = true →
          (s.tag (15360 + s.fleet.sweepSlot)).spent = false → byteAt q.frame.payload 0 = 1 ∧
          slice q.frame.payload 16 32 = (s.tag (15360 + s.fleet.sweepSlot)).bytes ∧
          slice q.frame.payload 48 1024 = hvBytes (s.row (15360 + s.fleet.sweepSlot))) ∧
        (s.tagBad (15360 + s.fleet.sweepSlot) = true ∨ (s.tag (15360 + s.fleet.sweepSlot)).valid = false ∨
            (s.tag (15360 + s.fleet.sweepSlot)).spent = true →
          byteAt q.frame.payload 0 = 0 ∧ q.frame.payload.length = 16)) := by
  have hnext := State.sweepNext_of_may hmay
  by_cases hretired : s.isRetired (15360 + s.fleet.sweepSlot) = true
  · rw [if_pos hretired] at hnext
    rw [hnext]
    exact ⟨rfl, rfl, fun _ => ⟨rfl, rfl⟩, fun h => absurd hretired (ne_true_of_eq_false h)⟩
  rw [if_neg hretired] at hnext
  obtain ⟨hfirst, hslot, -⟩ := sweepPayload_fields s.mclass s.fleet.sweepSlot (sparse s.vault.slotSeq s.fleet.sweepSlot)
    s.eventCounter s.seedHash (s.slotRow s.fleet.sweepSlot)
  have hlen := sweepPayload_length s.mclass s.fleet.sweepSlot (sparse s.vault.slotSeq s.fleet.sweepSlot)
    s.eventCounter s.seedHash (s.slotRow s.fleet.sweepSlot)
  have htaught : ∀ t v, s.slotRow s.fleet.sweepSlot = some (t, v) →
      slice (sweepPayload s.mclass s.fleet.sweepSlot (sparse s.vault.slotSeq s.fleet.sweepSlot) s.eventCounter s.seedHash
        (s.slotRow s.fleet.sweepSlot)) 16 32 = t.bytes ∧
      slice (sweepPayload s.mclass s.fleet.sweepSlot (sparse s.vault.slotSeq s.fleet.sweepSlot) s.eventCounter s.seedHash
        (s.slotRow s.fleet.sweepSlot)) 48 1024 = hvBytes v := by
    intro t v h
    rw [h]
    exact ⟨sweepPayload_tag .., slice_sweepPayload ..⟩
  generalize sweepPayload s.mclass s.fleet.sweepSlot (sparse s.vault.slotSeq s.fleet.sweepSlot) s.eventCounter s.seedHash
    (s.slotRow s.fleet.sweepSlot) = payload at *
  have hfleet := State.originate_fleet { s with fleet := s.fleet.swept } 4 32 s.ringId 0 payload
  rw [hnext]
  refine ⟨congrArg Fleet.sweepAt hfleet, congrArg Fleet.sweepSlot hfleet, fun h => absurd h hretired,
    fun _ hup hauth hwait hheld hfree => ?_⟩
  have hroom : State.localRoom { s with fleet := s.fleet.swept } (classOf 4 32) (cellsOf payload.length false) = true := by
    have hcells : cellsOf payload.length false ≤ 5 := by
      rw [hlen]
      split <;> decide
    have hheld : State.cellsHeld { s with fleet := s.fleet.swept } none (classOf 4 32) ≤ 3 := hheld
    unfold State.localRoom
    rw [Bool.and_eq_true, decide_eq_true_eq, decide_eq_true_eq]
    exact ⟨by omega, hcells.trans hfree⟩
  have hring := State.originate_ring (s := { s with fleet := s.fleet.swept }) (dst := s.ringId) (dir := 0) hup hauth hwait hroom
  have hslotRow := s.slotRow_eq s.fleet.sweepSlot
  refine ⟨_, (congrArg Ring.queue hring :), rfl, rfl, rfl, rfl, rfl, rfl, rfl, hslot, fun hgood hvalid hspent => ?_, fun hbad => ?_⟩
  · rw [if_pos ⟨hgood, hvalid, hspent⟩] at hslotRow
    rw [hslotRow] at hfirst
    exact ⟨hfirst, htaught _ _ hslotRow⟩
  · rw [if_neg (by rintro ⟨h1, h2, h3⟩; simp [h1, h2, h3] at hbad)] at hslotRow
    rw [hslotRow] at hfirst hlen
    exact ⟨hfirst, hlen⟩

/-- The next census is timed and its stamp kept (R332). -/
def State.censusStart (s : State) : State :=
  { s with ring := { s.ring with censusAt := s.ring.censusAt + perSec, stamps := (s.ts % 2 ^ 32 :: s.ring.stamps).take 3 } }

theorem State.censusStart_cellsHeld (s : State) (source : Option Port) (cls : Nat) :
    s.censusStart.cellsHeld source cls = s.cellsHeld source cls := by
  unfold State.cellsHeld State.censusStart
  rfl

/-- The two frames of a census (R332, R339). -/
theorem State.census_spec (u : State) (payload : List Byte) :
    let t := (u.originate 0 32 u.ringId 0 payload).originate 0 32 u.ringId 1 payload
    let frame (e dir : Nat) : YFrame :=
      { cls := 4, dst := u.ringId, src := u.ringId, e2e := e % 65536, dir := dir, payload := payload }
    t.ring.censusAt = u.ring.censusAt ∧ t.ring.stamps = u.ring.stamps ∧ t.fleet.e2e = (u.fleet.e2e + 2) % 65536 ∧
    (∀ c0 c1 rest, u.ring.portA.up = true → u.ring.portB.up = true → u.ringAuth = false → u.ring.waiting = [] →
      u.ring.free = c0 :: c1 :: rest → u.cellsHeld none 4 ≤ 6 → u.fleet.e2e < 65536 → payload.length = 12 →
      t.ring.free = rest ∧ t.ring.queue = u.ring.queue ++
        [{ frame := frame u.fleet.e2e 0, out := .a, source := none, at_ := u.clock, cells := [c0] },
         { frame := frame (u.fleet.e2e + 1) 1, out := .b, source := none, at_ := u.clock, cells := [c1] }]) := by
  intro t frame
  have hrec1 := u.originate_records 0 32 u.ringId 0 payload
  have hrec := State.agreesButRecords_trans (State.originate_records (u.originate 0 32 u.ringId 0 payload) 0 32 u.ringId 1 payload)
    hrec1
  have hfleet1 := u.originate_fleet 0 32 u.ringId 0 payload
  refine ⟨(congrArg (fun v : State => v.ring.censusAt) hrec.1 :), (congrArg (fun v : State => v.ring.stamps) hrec.1 :), ?_,
    fun c0 c1 rest hupA hupB hauth hwait hfree hheld he2e hlen => ?_⟩
  · refine (congrArg Fleet.e2e (State.originate_fleet ..)).trans ?_
    rw [hfleet1]
    dsimp only
    omega
  · have hk : cellsOf payload.length false = 1 := by
      rw [hlen]
      rfl
    have hring1 := State.originate_ring (s := u) (type := 0) (chan := 32) (dst := u.ringId) (dir := 0) (payload := payload)
      hupA hauth hwait (by
        rw [hk, State.localRoom, hfree, Bool.and_eq_true, decide_eq_true_eq, decide_eq_true_eq]
        exact ⟨Nat.succ_le_succ hheld |>.trans (by omega), by simp⟩)
    rw [hk, hfree] at hring1
    have hauth1 : (u.originate 0 32 u.ringId 0 payload).ringAuth = false := by
      rw [hrec1.1]
      exact hauth
    have hid1 : (u.originate 0 32 u.ringId 0 payload).ringId = u.ringId := by
      rw [hrec1.1]
      rfl
    have hclock1 := State.records_clock hrec1
    have ht : t = (u.originate 0 32 u.ringId 0 payload).originate 0 32 u.ringId 1 payload := rfl
    clear_value t
    clear hrec hrec1
    generalize u.originate 0 32 u.ringId 0 payload = v at *
    have hheld1 : v.cellsHeld none 4 ≤ 7 := by
      unfold State.cellsHeld at hheld ⊢
      rw [hring1, hfleet1]
      simp only [List.filter_append, List.map_append, List.sum_append] at hheld ⊢
      have hone : ((([{ frame := u.freshFrame 0 32 u.ringId 0 u.fleet.e2e payload, out := portOfDir 0, source := none
                        at_ := u.clock, cells := List.take 1 (c0 :: c1 :: rest) }] : List QFrame).filter
          (fun q => decide (q.source = none) && decide (q.frame.cls = 4))).map (fun q => q.cells.length)).sum = 1 := rfl
      omega
    have hring := State.originate_ring (s := v) (type := 0) (chan := 32) (dst := u.ringId) (dir := 1) (payload := payload)
      (by rw [hring1]; exact hupB) hauth1 (by rw [hring1]; exact hwait) (by
        rw [hk, State.localRoom, hring1, Bool.and_eq_true, decide_eq_true_eq, decide_eq_true_eq]
        exact ⟨Nat.succ_le_succ hheld1, by simp⟩)
    rw [← ht] at hring
    rw [hk, hring1] at hring
    refine ⟨(congrArg Ring.free hring :), (congrArg Ring.queue hring :).trans ?_⟩
    have hmod : u.fleet.e2e % 65536 = u.fleet.e2e := Nat.mod_eq_of_lt he2e
    have hfirst : u.freshFrame 0 32 u.ringId 0 u.fleet.e2e payload = frame u.fleet.e2e 0 := by
      simp only [State.freshFrame, frame, hauth, hmod]
      rfl
    have hsecond : v.freshFrame 0 32 u.ringId 1 v.fleet.e2e payload = frame (u.fleet.e2e + 1) 1 := by
      simp only [State.freshFrame, frame, hauth1, hid1, hfleet1]
      rfl
    rw [hfirst, hsecond, hclock1]
    exact List.append_assoc _ _ _

/-- The device runs its ring: the events of the fleet take effect (R311). -/
def State.fleetRuns (s : State) (dt : Nat) : Prop := ((s.elapse dt).ringOn && (s.elapse dt).coreRuns) = true

theorem exec_census {s : State} {dt : Nat} (hruns : s.fleetRuns dt) (hdue : s.ring.censusAt + 24576000 ≤ s.clock + dt) :
    let ts := (s.clock + dt - s.tsStart) / 4 % 2 ^ 56
    let payload := censusPayload (ts % 2 ^ 32) s.seedHash s.mclass s.censusFlags
    let frame (e dir : Nat) : YFrame :=
      { cls := 4, dst := s.ringId, src := s.ringId, e2e := e % 65536, dir := dir, payload := payload }
    ∃ t, exec (.censusOriginate dt) s = .next t ∧ t.ring.censusAt = s.ring.censusAt + 24576000 ∧
      t.ring.stamps = (ts % 2 ^ 32 :: s.ring.stamps).take 3 ∧
      (s.fleet.e2e < 65536 → t.fleet.e2e = (s.fleet.e2e + 2) % 65536) ∧
      (∀ c0 c1 rest, s.ring.portA.up = true → s.ring.portB.up = true → s.ringAuth = false → s.ring.waiting = [] →
        s.ring.free = c0 :: c1 :: rest → s.cellsHeld none 4 ≤ 6 → s.fleet.e2e < 65536 →
        t.ring.free = rest ∧ t.ring.queue = s.ring.queue ++
          [{ frame := frame s.fleet.e2e 0, out := .a, source := none, at_ := s.clock + dt, cells := [c0] },
           { frame := frame (s.fleet.e2e + 1) 1, out := .b, source := none, at_ := s.clock + dt, cells := [c1] }]) := by
  intro ts payload frame
  have hlen : payload.length = 12 := by simp [payload, censusPayload]
  have hexec : exec (.censusOriginate dt) s = .next (State.settle (((s.elapse dt).censusStart.originate 0 32
      (s.elapse dt).censusStart.ringId 0 payload).originate 0 32 (s.elapse dt).censusStart.ringId 1 payload)) :=
    (event_next _ _ _ s (by rw [hruns, Bool.true_and]; exact decide_eq_true hdue) : execCensusOriginate dt s = _)
  obtain ⟨u, hu⟩ : ∃ u, u = (s.elapse dt).censusStart := ⟨_, rfl⟩
  rw [← hu] at hexec
  have hid : u.ringId = s.ringId := hu ▸ rfl
  have hauth' : u.ringAuth = s.ringAuth := hu ▸ rfl
  have hclock : u.clock = s.clock + dt := hu ▸ rfl
  have hfleet : u.fleet = s.fleet := hu ▸ rfl
  have hring : u.ring = { s.ring with censusAt := s.ring.censusAt + 24576000, stamps := (ts % 2 ^ 32 :: s.ring.stamps).take 3 } :=
    hu ▸ rfl
  have hcells : u.cellsHeld none 4 = s.cellsHeld none 4 := hu ▸ State.censusStart_cellsHeld _ _ _
  clear_value ts payload
  clear hu
  obtain ⟨hat, hstamps, he2e, hframes⟩ := u.census_spec payload
  rw [hring] at hat hstamps hframes
  rw [hfleet] at he2e hframes
  rw [hcells, hauth', hid, hclock] at hframes
  rw [hid] at hexec hat hstamps he2e
  generalize (u.originate 0 32 s.ringId 0 payload).originate 0 32 s.ringId 1 payload = t at *
  exact ⟨t.settle, hexec, hat, hstamps, fun _ => he2e, fun c0 c1 rest hupA hupB hauth hwait hfree hheld hlt =>
    hframes c0 c1 rest hupA hupB hauth hwait hfree hheld hlt hlen⟩

theorem exec_mapExpiry {s : State} {dt : Nat} (hruns : s.fleetRuns dt) (id : BitVec 8)
    (hold : ∃ m ∈ s.ring.map, m.id = id.toNat ∧ m.at_ + 73728000 ≤ s.clock + dt) :
    let left := s.ring.map.filter (fun m => !decide (m.id = id.toNat))
    ∃ t, exec (.ringMapEntryExpiry dt id) s = .next t ∧ t.ring.map = left ∧ sparse t.vault.fleetSeq id.toNat = 0 ∧
      (∀ k, k ≠ id.toNat → sparse t.vault.fleetSeq k = sparse s.vault.fleetSeq k) ∧
      (Memory.wf s.mem → t.peekNat (fleetSeqAddr id.toNat) 4 = 0) ∧
      (s.router.ash.length < 32 → ∃ e, t.router.ash = s.router.ash ++ [e] ∧ e.type = 0x0B ∧
        e.time = (s.clock + dt - s.tsStart) / 4 % 2 ^ 56 ∧ byteAt e.payload 0 = 6 ∧
        fieldAt e.payload 7 2 = (left.length + 1) % 65536) := by
  intro left
  have hany : (s.elapse dt).ring.map.any (fun m => decide (m.id = id.toNat) &&
      decide (m.at_ + 3 * perSec ≤ (s.elapse dt).clock)) = true := by
    obtain ⟨m, hmem, hid, hle⟩ := hold
    refine List.any_eq_true.2 ⟨m, hmem, ?_⟩
    rw [Bool.and_eq_true]
    exact ⟨decide_eq_true hid, decide_eq_true hle⟩
  have hexec := (event_next _ _ _ s (by rw [hruns, hany]; rfl) : execRingMapEntryExpiry dt id s = _)
  dsimp only at hexec
  obtain ⟨f, r, hevent, hash⟩ := State.ringEvent_eq (State.setFleetSeq { s.elapse dt with ring := { s.ring with map := left } }
    id.toNat 0) 0x06 0xFF 0xFF 0xFF 0xFFFF (left.length + 1)
  have hexec : exec (.ringMapEntryExpiry dt id) s = .next (State.settle { State.setFleetSeq { s.elapse dt with
      ring := { s.ring with map := left } } id.toNat 0 with flue := f, router := r }) :=
    hexec.trans (congrArg (fun u : State => Host.Outcome.next u.settle) hevent)
  refine ⟨_, hexec, rfl, ?_, fun k hk => ?_, fun hwf => ?_, fun hroom => ?_⟩
  · exact (sparse_setSparse s.vault.fleetSeq id.toNat 0 id.toNat).trans (if_pos rfl)
  · exact (sparse_setSparse s.vault.fleetSeq id.toNat 0 k).trans (if_neg hk)
  · exact (congrArg leNat (State.peek_poke _ (fleetSeqAddr id.toNat) hwf (leBytes_length 4 0))).trans (leNat_leBytes 4 0)
  · obtain ⟨e, hat, htime, htype, hpayload⟩ := hash hroom
    obtain ⟨hcode, -, hvalue⟩ := ringPayload_fields 0x06 0xFF 0xFF (State.ringSize (State.setFleetSeq { s.elapse dt with
      ring := { s.ring with map := left } } id.toNat 0)) 0xFF 0xFFFF (left.length + 1)
    exact ⟨e, hat, htype, htime, (congrArg (byteAt · 0) hpayload).trans hcode, (congrArg (fieldAt · 7 2) hpayload).trans hvalue⟩

theorem exec_fold {s : State} {dt : Nat} (hruns : s.fleetRuns dt) {jb ja : List Job} {j : Job} {own : Lane × Lane}
    (hjobs : s.fleet.jobs = jb ++ j :: ja)
    (hbefore : ∀ y ∈ jb, y.result = none ∧ (s.ring.clashAt.isSome = true → y.started = true)) (hcells : s.cellsBad j.cells = none)
    (hres : j.result = some own) (hhops : j.frame.hops + 1 < 512) (hsrc : j.frame.src ≠ s.ringId)
    (hup : (s.ring.port (otherPort j.source)).up = true) (hlen : j.frame.payload.length = 1072) :
    let answers := (bitOf (byteAt j.frame.payload 3) 0 = true ∧ own.1.none = false) ∨
      (bitOf (byteAt j.frame.payload 3) 1 = true ∧ own.2.none = false)
    let old := fieldAt j.frame.payload 10 2
    ∃ t f, exec (.fleetFold dt) s = .next t ∧ t.agrees { s with
        clock := s.clock + dt
        fleet := { s.fleet with jobs := jb ++ ja }
        ring := { s.ring with queue := s.ring.queue ++ [{ frame := f, out := otherPort j.source
                                                          source := some j.source, at_ := j.at_, cells := j.cells }] } } ∧
      f.hops = j.frame.hops + 1 ∧ f.dst = j.frame.dst ∧ f.src = j.frame.src ∧ f.e2e = j.frame.e2e ∧
      f.cls = j.frame.cls ∧ f.payload.length = 1072 ∧ (f.payload = j.frame.payload → f.tag = j.frame.tag) ∧
      (∀ i, i < 1040 → i ≠ 10 → i ≠ 11 → byteAt f.payload i = byteAt j.frame.payload i) ∧
      (s.ring.clashAt.isSome = true → f.payload = j.frame.payload) ∧
      (s.ring.clashAt = none → fieldAt f.payload 10 2 = if answers then min 65535 (old + 1) else old) := by
  intro answers old
  obtain ⟨hanswered, herase⟩ := State.answered_eq (s := s.elapse dt) hjobs hbefore (.inl (by rw [hres]; rfl))
  have hexec := (event_next _ _ _ s (by rw [hruns, hanswered]; rfl) : execFleetFold dt s = _)
  rw [hanswered] at hexec
  dsimp only at hexec
  cases hclash : s.ring.clashAt with
  | some since =>
    rw [State.foldJob_eq (s := s.elapse dt) (f := j.frame) hcells herase (by rw [hres, State.elapse_ring, hclash]; rfl) hhops hsrc hup] at hexec
    exact ⟨_, { j.frame with hops := j.frame.hops + 1 }, hexec, State.settle_agrees _, rfl, rfl, rfl, rfl, rfl, hlen,
      fun _ => rfl, fun _ _ _ _ => rfl, fun _ => rfl, fun h => by cases h⟩
  | none =>
    obtain ⟨hfhops, hdst, hfsrc, he2e, hcls, hpayload, htag⟩ := (s.elapse dt).folded_kept j.frame own
    rw [State.foldJob_eq (s := s.elapse dt) (f := (s.elapse dt).folded j.frame own) hcells herase (by rw [hres, State.elapse_ring, hclash]; rfl)
      (hfhops ▸ hhops) (hfsrc ▸ hsrc) hup] at hexec
    refine ⟨_, { (s.elapse dt).folded j.frame own with hops := ((s.elapse dt).folded j.frame own).hops + 1 }, hexec,
      State.settle_agrees _, congrArg (· + 1) hfhops, hdst, hfsrc, he2e, hcls, ?_, htag, fun i hi h10 h11 => ?_,
      fun h => absurd h Bool.false_ne_true, fun _ => ?_⟩
    · exact (congrArg List.length hpayload).trans (foldPayload_length _ _ hlen)
    · exact (congrArg (byteAt · i) hpayload).trans (foldPayload_byteAt _ _ hlen hi h10 h11)
    · refine (congrArg (fieldAt · 10 2) hpayload).trans ((foldPayload_count _ _ hlen).trans ?_)
      rw [Nat.mod_eq_of_lt (foldedCount_lt _ _), foldedCount]
      refine if_congr ?_ rfl rfl
      simp only [answers, Bool.or_eq_true, Bool.and_eq_true, Bool.not_eq_true']

theorem exec_queryTimeout {s : State} {dt : Nat} (hruns : s.fleetRuns dt) (hon : s.ringOn = true) (hm : s.mode = .run)
    {qb qa : List OwnQuery} {q : OwnQuery} (hqueries : s.fleet.queries = qb ++ q :: qa)
    (hbefore : ∀ y ∈ qb, s.clock + dt < y.at_ + y.limit) (hfired : q.at_ + q.limit ≤ s.clock + dt) :
    (q.reissue = true ∨ s.ring.clashAt.isSome = true →
      ∃ t, exec (.fleetQueryTimeout dt) s = .next t ∧ t.agrees { s with
          clock := s.clock + dt, fleet := { s.fleet with queries := qb ++ qa }, router := t.router, flue := t.flue } ∧
        (s.router.ash.length < 32 → ∃ e, t.router.ash = s.router.ash ++ [e] ∧ e.type = 0x0B ∧
          byteAt e.payload 0 = 8 ∧ fieldAt e.payload 5 2 = q.e2e % 65536)) ∧
    (q.reissue = false → s.ring.clashAt = none →
      ∃ t v, exec (.fleetQueryTimeout dt) s = .next t ∧ t.fleet.queries = qb ++ qa ++ [v] ∧ v.reissue = true ∧
        v.e2e = s.fleet.e2e ∧ v.kind = q.kind ∧ v.bin = q.bin ∧ v.vec = q.vec ∧ v.row = q.row ∧ v.gen = q.gen ∧
        v.at_ = s.clock + dt ∧ t.fleet.askedAt = some (s.clock + dt) ∧ t.fleet.e2e = (s.fleet.e2e + 1) % 65536) := by
  have hqfired : (s.elapse dt).firedQuery = some q := by
    have hnone : qb.find? (fun y => decide (y.at_ + y.limit ≤ (s.elapse dt).clock)) = none :=
      List.find?_eq_none.2 fun y hy h => absurd (of_decide_eq_true h) (not_le.2 (hbefore y hy))
    unfold State.firedQuery
    rw [show (s.elapse dt).fleet.queries = qb ++ q :: qa from hqueries, List.find?_append, hnone, Option.none_or]
    exact List.find?_cons_of_pos (p := fun y : OwnQuery => decide (y.at_ + y.limit ≤ s.clock + dt)) (decide_eq_true hfired)
  have herase : s.fleet.queries.erase q = qb ++ qa := by
    rw [hqueries, List.erase_append_right _ fun hq => absurd hfired (not_le.2 (hbefore q hq)), List.erase_cons_head]
  have hexec := (event_next _ _ _ s (by rw [hruns, hqfired]; rfl) : execFleetQueryTimeout dt s = _)
  rw [hqfired] at hexec
  dsimp only at hexec
  unfold State.queryFired at hexec
  rw [show (s.elapse dt).fleet.queries.erase q = qb ++ qa from herase] at hexec
  dsimp only at hexec
  have hmay : State.mayOriginate { s.elapse dt with fleet := { s.fleet with queries := qb ++ qa } } = s.ring.clashAt.isNone := by
    show (s.ringOn && decide (s.mode = .run) && s.ring.clashAt.isNone) = _
    rw [hon, hm]
    rfl
  refine ⟨fun hended => ?ended, fun hfirst hclash => ?again⟩
  case ended =>
    have hstop : (!q.reissue && State.mayOriginate { s.elapse dt with fleet := { s.fleet with queries := qb ++ qa } }) = false := by
      obtain h | h := hended
      · rw [h]
        rfl
      · rw [hmay, show s.ring.clashAt.isNone = false by simpa using h, Bool.and_false]
    obtain ⟨f, r, hevent, hash⟩ := State.ringEvent_eq { s.elapse dt with fleet := { s.fleet with queries := qb ++ qa } }
      0x08 0xFF 0xFF 0xFF q.e2e q.kind
    have hexec := hexec.trans (congrArg (fun u : State => Host.Outcome.next u.settle)
      ((if_neg (ne_true_of_eq_false hstop)).trans hevent))
    refine ⟨_, hexec, State.settle_agrees _, fun hroom => ?_⟩
    obtain ⟨e, hat, -, htype, hpayload⟩ := hash hroom
    obtain ⟨hcode, hseq, -⟩ := ringPayload_fields 0x08 0xFF 0xFF (State.ringSize { s.elapse dt with
      fleet := { s.fleet with queries := qb ++ qa } }) 0xFF q.e2e q.kind
    exact ⟨e, hat, htype, (congrArg (byteAt · 0) hpayload).trans hcode, (congrArg (fieldAt · 5 2) hpayload).trans hseq⟩
  case again =>
    have hgo : (!q.reissue && State.mayOriginate { s.elapse dt with fleet := { s.fleet with queries := qb ++ qa } }) = true := by
      rw [hmay, hfirst, hclash]
      rfl
    have hexec := hexec.trans (congrArg (fun u : State => Host.Outcome.next u.settle) (if_pos hgo))
    have hasked := State.askFleet_fleet { s.elapse dt with fleet := { s.fleet with queries := qb ++ qa } }
      q.kind q.bin q.vec q.row q.gen true
    refine ⟨_, _, hexec, congrArg Fleet.queries hasked, rfl, rfl, rfl, rfl, rfl, rfl, rfl, rfl, congrArg Fleet.askedAt hasked,
      congrArg Fleet.e2e hasked⟩

/-- Settles O59: each event of the fleet by its condition and its frame. -/
theorem fleetEvents : Obligations.FleetEvents := by
  unfold Obligations.FleetEvents
  intro s dt now ts
  have hruns (hon : s.ringOn = true) (hm : s.mode = .run) (hpause : s.volt.pauseAt = none) :
      ((s.elapse dt).ringOn && (s.elapse dt).coreRuns) = true := by
    rw [show (s.elapse dt).ringOn = true from hon, Bool.true_and]
    simp [State.coreRuns, State.paused, hm, hpause]
  refine ⟨fun hpause hold => ?visited, fun h => ?idle, fun hon hm hpause => ⟨fun hdue => ?census, fun id hold => ?expiry,
    fun since hclash hdue => ?clashEnd, fun jb ja j hjobs hbefore hcells hnone hstarted hclash hhops hsrc hup => ?unchanged,
    fun jb ja j own hjobs hbefore hcells hres hhops hsrc hup hlen => ?folded, fun qb qa q hqueries hbefore hfired => ?timeout,
    fun hdue => ?sweep⟩⟩
  case visited =>
    have hcond : (!(s.elapse dt).paused && (s.elapse dt).fleet.visited.any (fun v => v.old (s.elapse dt).clock)) = true := by
      obtain ⟨v, hv, hle⟩ := hold
      rw [show (s.elapse dt).paused = false by simp [State.paused, hpause], Bool.not_false, Bool.true_and]
      exact List.any_eq_true.2 ⟨v, hv, decide_eq_true hle⟩
    refine (event_agrees hcond ?_ : ∃ t, execVisitedCacheExpiry dt s = .next t ∧ t.agrees _)
    have hold : (fun v : Visit => !v.old now) = fun v => decide (now < v.at_ + 2457600) := by
      funext v
      rw [Visit.old, ← decide_not]
      exact decide_eq_decide.2 not_le
    exact congrArg (fun f => ({ s with clock := now, fleet := { s.fleet with visited := s.fleet.visited.filter f } } : State)) hold
  case idle =>
    have hrun : ((s.elapse dt).ringOn && (s.elapse dt).coreRuns) = false := by
      obtain h | h | h := h
      · simp [State.coreRuns, State.paused, Option.isSome_iff_ne_none.2 h]
      · simp [State.coreRuns, h]
      · rw [show (s.elapse dt).ringOn = false from h, Bool.false_and]
    intro c hc
    simp only [List.mem_cons, List.not_mem_nil, or_false] at hc
    obtain rfl | rfl | rfl | rfl | rfl | rfl := hc
    · exact (event_idle _ _ _ s (by rw [hrun, Bool.false_and]) : execCensusOriginate dt s = _)
    · exact (event_idle _ _ _ s (by rw [hrun, Bool.false_and]) : execIdClashEnd dt s = _)
    · exact (event_idle _ _ _ s (by rw [hrun, Bool.false_and]) : execFleetFold dt s = _)
    · exact (event_idle _ _ _ s (by rw [hrun, Bool.false_and]) : execFleetQueryTimeout dt s = _)
    · exact (event_idle _ _ _ s (by rw [hrun, Bool.false_and]) : execSweepOriginate dt s = _)
    · exact (event_idle _ _ _ s (by rw [hrun, Bool.false_and]) : execQueueAgeDiscard dt s = _)
  case census =>
    exact exec_census (hruns hon hm hpause) hdue
  case expiry =>
    exact exec_mapExpiry (hruns hon hm hpause) id hold
  case clashEnd =>
    refine (event_agrees (by rw [hruns hon hm hpause, Bool.true_and, State.elapse_ring, hclash]; exact decide_eq_true hdue) rfl :
      ∃ t, execIdClashEnd dt s = .next t ∧ t.agrees _)
  case unchanged =>
    intro q
    obtain ⟨hanswered, herase⟩ := State.answered_eq (s := s.elapse dt) hjobs hbefore (.inr ⟨hclash, hstarted⟩)
    refine (event_agrees (by rw [hruns hon hm hpause, hanswered]; rfl) ?_ : ∃ t, execFleetFold dt s = .next t ∧ t.agrees _)
    rw [hanswered]
    dsimp only
    rw [State.foldJob_eq (s := s.elapse dt) (f := j.frame) hcells herase (by rw [hnone]) hhops hsrc hup] <;> rfl
  case folded =>
    exact exec_fold (hruns hon hm hpause) hjobs hbefore hcells hres hhops hsrc hup hlen
  case timeout =>
    exact exec_queryTimeout (hruns hon hm hpause) hon hm hqueries hbefore hfired
  case sweep =>
    intro slot
    have hexec := (event_next _ _ _ s (by rw [hruns hon hm hpause, Bool.true_and]; exact decide_eq_true hdue) :
      execSweepOriginate dt s = _)
    have hmay : (s.elapse dt).mayOriginate = s.ring.clashAt.isNone := by
      show (s.ringOn && decide (s.mode = .run) && s.ring.clashAt.isNone) = _
      rw [hon, hm]
      rfl
    refine ⟨fun hclash => ?clash, fun hclash => ?sent⟩
    case clash =>
      rw [State.sweepNext_of_clash (by rw [hmay]; simpa using hclash)] at hexec
      exact ⟨_, hexec, State.settle_agrees _⟩
    case sent =>
      obtain ⟨hat, hslot, hretired, hsent⟩ := State.sweepNext_spec (s := s.elapse dt) (by rw [hmay, hclash]; rfl)
      exact ⟨_, hexec, hat, hslot, hretired, hsent⟩

end Sys2Proof.Machine
end

section
/-! Healed segments (13_memories_and_smoulder.md; R258, R265): the bits of a row as they lie in the memory, and what a heal
writes. -/

namespace Sys2Proof.Machine

/-! ### The bits of a row -/

theorem leNat_testBit (bs : List Byte) (k : Nat) : (leNat bs).testBit k = (bs.getD (k / 8) 0#8).getLsbD (k % 8) := by
  induction bs generalizing k with
  | nil => simp [leNat]
  | cons b bs ih =>
    have hsplit : leNat (b :: bs) = 2 ^ 8 * leNat bs + b.toNat := Nat.add_comm _ _
    rw [hsplit, Nat.testBit_two_pow_mul_add _ b.isLt]
    split
    next h => rw [Nat.div_eq_of_lt h, Nat.mod_eq_of_lt h, List.getD_cons_zero, BitVec.testBit_toNat]
    next h =>
      obtain ⟨j, rfl⟩ : ∃ j, k = j + 8 := ⟨k - 8, by omega⟩
      rw [Nat.add_sub_cancel, ih j, Nat.add_div_right j (by decide), List.getD_cons_succ, Nat.add_mod_right]

theorem hvOfBytes_getLsbD (bs : List Byte) {i : Nat} (hi : i < 8192) :
    (hvOfBytes bs).getLsbD i = (bs.getD (i / 8) 0#8).getLsbD (i % 8) := by
  rw [hvOfBytes, BitVec.getLsbD_ofNat, decide_eq_true hi, Bool.true_and, leNat_testBit]

/-- Bit `i` of a row lies in byte `i / 8` (R177, R194). -/
theorem State.row_getLsbD {s : State} (hs : Memory.wf s.mem) (r : Nat) {i : Nat} (hi : i < 8192) :
    (s.row r).getLsbD i = (Memory.read s.mem (rowAddr r + i / 8)).getLsbD (i % 8) := by
  rw [s.row_eq_hvOfBytes, hvOfBytes_getLsbD _ hi, State.peek, Memory.readBytes_eq _ _ _ hs,
    List.getD_eq_getElem _ _ (by simp; omega), List.getElem_map, List.getElem_range]

theorem recordData_getLsbD (it : List Byte) {i : Nat} (hi : i < 8192) :
    (recordData it).getLsbD i = (it.getD (i / 8) 0#8).getLsbD (i % 8) := by
  rw [recordData, hvOfBytes_getLsbD _ hi, slice, List.drop_zero, List.getD_eq_getElem?_getD,
    List.getElem?_take_of_lt (by omega), ← List.getD_eq_getElem?_getD]

/-! ### When a row may be written -/

/-- A row waits for the end of a scan, or for a write or a commit of the learning engine in its bank (R214, R256). -/
theorem State.gapFree_eq_false_iff (s : State) (dt bank : Nat) :
    ((s.elapse dt).banksFree && !(s.elapse dt).learnWaits bank) = false ↔
      s.clock + dt < s.hearth.scanEnd ∨ (∃ w ∈ s.learn.writes, bankOf w.2.row = bank) ∨
        (s.panel.hold = some false ∧ ∃ a ∈ s.learn.accums, a.due ≠ none ∧ bankOf a.row = bank) := by
  rw [Bool.and_eq_false_iff, Bool.not_eq_false', State.banksFree, decide_eq_false_iff_not, not_le, State.learnWaits,
    Bool.or_eq_true, Bool.and_eq_true, decide_eq_true_eq, List.any_eq_true, List.any_eq_true]
  simp only [decide_eq_true_eq, Bool.and_eq_true, Option.isSome_iff_ne_none]
  rfl

/-! ### Erasure bits cleared -/

theorem Tag.isErased_markErased (t : Tag) (g : Nat) (on : Bool) {k : Nat} (hk : k < 128) :
    (t.markErased g on).isErased k = if k = g then on else t.isErased k := by
  have hbit : (1#128 <<< g).getLsbD k = decide (k = g) := by
    rw [BitVec.getLsbD_shiftLeft, decide_eq_true hk, Bool.true_and, BitVec.getLsbD_one]
    by_cases h : k = g
    · simp [h]
    · simp [h]
      omega
  cases on with
  | true =>
    simp only [Tag.isErased, Tag.markErased, if_true, BitVec.getLsbD_or, hbit]
    split <;> simp [*]
  | false =>
    simp only [Tag.isErased, Tag.markErased, Bool.false_eq_true, if_false, BitVec.getLsbD_and, BitVec.getLsbD_not, hbit,
      decide_eq_true hk, Bool.true_and]
    split <;> simp [*]

/-- A change of `p` at one number of a list changes the count by one. -/
theorem countP_update {l : List Nat} (hl : l.Nodup) {g : Nat} (hg : g ∈ l) {p q : Nat → Bool}
    (h : ∀ k ∈ l, k ≠ g → p k = q k) : l.countP p + (q g).toNat = l.countP q + (p g).toNat := by
  have hrest : (l.erase g).countP p = (l.erase g).countP q := List.countP_congr fun k hk => by
    rw [h k (List.mem_of_mem_erase hk) (hl.mem_erase_iff.1 hk).1]
  rw [(List.perm_cons_erase hg).countP_eq p, (List.perm_cons_erase hg).countP_eq q, List.countP_cons, List.countP_cons, hrest]
  cases p g <;> cases q g <;> simp

theorem Tag.erasures_markErased (t : Tag) {g : Nat} (hg : g < 128) (on : Bool) :
    (t.markErased g on).erasures + (t.isErased g).toNat = t.erasures + on.toNat := by
  rw [Tag.erasures_eq_countP, Tag.erasures_eq_countP]
  have h := countP_update (List.nodup_range (n := 128)) (List.mem_range.2 hg) (p := (t.markErased g on).isErased)
    (q := t.isErased) fun k hk hne => by rw [t.isErased_markErased g on (List.mem_range.1 hk), if_neg hne]
  rwa [t.isErased_markErased g on hg, if_pos rfl] at h

/-- The erasure bits of the segments are cleared. -/
def Tag.withoutErased (t : Tag) (l : List Nat) : Tag := l.foldl (fun t g => t.markErased g false) t

theorem Tag.withoutErased_kept (t : Tag) (l : List Nat) : t.withoutErased l = { t with erased := (t.withoutErased l).erased } := by
  induction l generalizing t with
  | nil => rfl
  | cons g l ih => exact ih (t.markErased g false)

theorem Tag.isErased_withoutErased (t : Tag) (l : List Nat) {k : Nat} (hk : k < 128) :
    (t.withoutErased l).isErased k = (t.isErased k && decide (k ∉ l)) := by
  induction l generalizing t with
  | nil => simp [Tag.withoutErased]
  | cons g l ih =>
    refine (ih (t.markErased g false)).trans ?_
    rw [t.isErased_markErased g false hk]
    by_cases hkg : k = g
    · simp [hkg]
    · simp [hkg]

/-- With every erased segment among them no erasure bit is left. -/
theorem Tag.erased_withoutErased {t : Tag} {l : List Nat} (h : ∀ k, k < 128 → t.isErased k = true → k ∈ l) :
    (t.withoutErased l).erased = 0 := by
  refine BitVec.eq_of_getLsbD_eq fun k hk => ?_
  have hbit := t.isErased_withoutErased l hk
  rw [Tag.isErased] at hbit
  refine hbit.trans (Eq.trans ?_ BitVec.getLsbD_zero.symm)
  rw [Bool.and_eq_false_iff]
  cases he : t.isErased k with
  | false => exact .inl rfl
  | true => exact .inr (decide_eq_false (not_not.2 (h k hk he)))

/-! ### The words of a heal -/

/-- The segments are written over a row. -/
def State.pokeSegments (s : State) (row : Nat) (f : Nat → List Byte) (l : List Nat) : State :=
  l.foldl (fun s g => s.poke (rowAddr row + 8 * g) (f g)) s

theorem State.pokeSegments_kept (s : State) (row : Nat) (f : Nat → List Byte) (l : List Nat) :
    ∃ m e, s.pokeSegments row f l = { s with mem := m, ecc := e } := by
  induction l generalizing s with
  | nil => exact ⟨s.mem, s.ecc, rfl⟩
  | cons g l ih => exact ih (s.poke (rowAddr row + 8 * g) (f g))

theorem State.pokeSegments_wf {s : State} (row : Nat) (f : Nat → List Byte) (l : List Nat) (hs : Memory.wf s.mem) :
    Memory.wf (s.pokeSegments row f l).mem := by
  induction l generalizing s with
  | nil => exact hs
  | cons g l ih => exact ih (s.poke_wf _ _ hs)

theorem State.read_pokeSegments (s : State) (row : Nat) {f : Nat → List Byte} {l : List Nat} (hf : ∀ g ∈ l, (f g).length = 8)
    {g k : Nat} (hk : k < 8) : Memory.read (s.pokeSegments row f l).mem (rowAddr row + 8 * g + k) =
      if g ∈ l then (f g).getD k 0#8 else Memory.read s.mem (rowAddr row + 8 * g + k) := by
  induction l generalizing s with
  | nil => rfl
  | cons x l ih =>
    refine (ih (s.poke (rowAddr row + 8 * x) (f x)) fun g hg => hf g (List.mem_cons_of_mem _ hg)).trans ?_
    rw [State.poke, Memory.read_writeBytes, hf x List.mem_cons_self]
    by_cases hg : g ∈ l
    · rw [if_pos hg, if_pos (List.mem_cons_of_mem _ hg)]
    · by_cases hx : g = x
      · subst hx
        rw [if_neg hg, if_pos List.mem_cons_self, if_pos (by omega),
          show rowAddr row + 8 * g + k - (rowAddr row + 8 * g) = k by omega]
      · rw [if_neg hg, if_neg (by omega), if_neg (by simp [hg, hx])]

theorem State.pokeSegments_apart (s : State) (row : Nat) {f : Nat → List Byte} {l : List Nat}
    (hl : ∀ g ∈ l, g < 128 ∧ (f g).length = 8) : (s.pokeSegments row f l).sameMemoryBut s (rowAddr row) 1024 := by
  induction l generalizing s with
  | nil => exact ⟨fun _ _ => rfl, fun _ _ => rfl⟩
  | cons x l ih =>
    obtain ⟨hx, hlen⟩ := hl x List.mem_cons_self
    obtain ⟨hmem, hecc⟩ := ih (s.poke (rowAddr row + 8 * x) (f x)) fun g hg => hl g (List.mem_cons_of_mem _ hg)
    obtain ⟨hmem', hecc'⟩ := State.sameMemoryBut_poke s (a := rowAddr row + 8 * x) (n := 8) hlen.le
    exact ⟨fun a ha => (hmem a ha).trans (hmem' a (by omega)), fun w hw => (hecc w hw).trans (hecc' w (by omega))⟩

/-- The tag of a row whose segments are healed (R265). -/
def Tag.healed (t : Tag) (l : List Nat) : Tag := { t.withoutErased l with gen := t.gen + 1 }

theorem Tag.healed_eq {t : Tag} {l : List Nat} (h : ∀ k, k < 128 → t.isErased k = true → k ∈ l) :
    t.healed l = { t with erased := 0, gen := t.gen + 1 } := by
  rw [Tag.healed, Tag.withoutErased_kept, Tag.erased_withoutErased h]

/-- The row once its segments are healed, but for the records (R265, R276). -/
def State.withHealed (s : State) (row : Nat) (f : Nat → List Byte) (l : List Nat) : State :=
  ((s.pokeSegments row f l).setTag row ((s.tag row).healed l)).markDirty row true true

theorem State.withHealed_mem (s : State) (row : Nat) (f : Nat → List Byte) (l : List Nat) :
    (s.withHealed row f l).mem = ((s.pokeSegments row f l).setTag row ((s.tag row).healed l)).mem := State.markDirty_mem ..

theorem State.withHealed_wf {s : State} (row : Nat) (f : Nat → List Byte) (l : List Nat) (hs : Memory.wf s.mem) :
    Memory.wf (s.withHealed row f l).mem := by
  rw [State.withHealed_mem]
  exact State.setTag_wf _ _ _ (State.pokeSegments_wf row f l hs)

/-- A heal of the segments that are erased: its words, and a record for each (R265). -/
theorem State.healSegments_eq (s : State) (row : Nat) (f : Nat → List Byte) {l : List Nat} (m : Master) (source : Nat)
    (hl : ∀ g ∈ l, (s.tag row).isErased g = true) : s.healSegments row (l.map fun g => (g, f g)) m source =
      if l = [] then s
      else l.foldl (fun u g => u.memoryEvent 0x02 m (rowAddr row + 8 * g) row g ((s.tag row).healed l).erasures source)
        (s.withHealed row f l) := by
  have hlive : (l.map fun g => (g, f g)).filter (fun w => (s.tag row).isErased w.1) = l.map fun g => (g, f g) := by
    refine List.filter_eq_self.2 fun w hw => ?_
    obtain ⟨g, hg, rfl⟩ := List.mem_map.1 hw
    exact hl g hg
  unfold State.healSegments
  dsimp only
  rw [hlive]
  simp only [List.map_eq_nil_iff, List.foldl_map]
  rfl

theorem State.healSegments_records {s : State} (row : Nat) (f : Nat → List Byte) {l : List Nat} (m : Master) (source : Nat)
    (hl : ∀ g ∈ l, (s.tag row).isErased g = true) (hne : l ≠ []) (hs : Memory.wf s.mem) :
    (s.healSegments row (l.map fun g => (g, f g)) m source).agreesButRecords (s.withHealed row f l) ∧
      Memory.wf (s.healSegments row (l.map fun g => (g, f g)) m source).mem := by
  rw [s.healSegments_eq row f m source hl, if_neg hne]
  exact ⟨State.foldl_records _ (fun u g => u.memoryEvent_records ..) l _,
    State.foldl_wf _ (fun u g hu => State.memoryEvent_wf _ _ _ _ _ _ _ hu) l (State.withHealed_wf row f l hs)⟩

/-- The hearth once segments of a row are healed (R265). -/
theorem State.withHealed_rows {s : State} {row : Nat} {f : Nat → List Byte} {l : List Nat} (hs : Memory.wf s.mem)
    (hr : row < 16384) (hl : ∀ g ∈ l, g < 128 ∧ (f g).length = 8) :
    (s.withHealed row f l).tag row = (s.tag row).healed l ∧
    (∀ g, g < 16384 → g ≠ row → (s.withHealed row f l).tag g = s.tag g ∧ (s.withHealed row f l).row g = s.row g) ∧
    (∀ i, i < 8192 → ((s.withHealed row f l).row row).getLsbD i =
      if i / 64 ∈ l then ((f (i / 64)).getD (i / 8 % 8) 0#8).getLsbD (i % 8) else (s.row row).getLsbD i) := by
  have hwf := State.pokeSegments_wf row f l hs
  obtain ⟨hapart, -⟩ := s.pokeSegments_apart row hl
  have hrows {g : Nat} (hg : g < 16384) : (s.withHealed row f l).row g = (s.pokeSegments row f l).row g :=
    (State.row_of_mem (s.withHealed_mem row f l) g).trans (State.row_setTag _ _ hwf hg)
  refine ⟨?own, fun g hg hne => ⟨?tags, ?rows⟩, fun i hi => ?bits⟩
  case own => rw [State.tag_of_mem (s.withHealed_mem row f l), State.tag_setTag _ row _ hwf]
  case tags =>
    rw [State.tag_of_mem (s.withHealed_mem row f l), State.tag_setTag_of_ne _ _ hwf hne]
    refine congrArg (fun bs => Tag.ofNat (leNat bs)) (Memory.readBytes_congr hwf hs fun x hx hx' => hapart x (.inr ?_))
    unfold rowAddr
    unfold tagAddr at hx
    omega
  case rows =>
    rw [hrows hg]
    refine congrArg (fun bs => BitVec.ofNat 8192 (leNat bs)) (Memory.readBytes_congr hwf hs fun x hx hx' => hapart x ?_)
    unfold rowAddr at *
    omega
  case bits =>
    have haddr : rowAddr row + i / 8 = rowAddr row + 8 * (i / 64) + i / 8 % 8 := by omega
    rw [hrows hr, State.row_getLsbD hwf row hi, State.row_getLsbD hs row hi, haddr,
      s.read_pokeSegments row (fun g hg => (hl g hg).2) (Nat.mod_lt _ (by decide)), apply_ite (fun b : Byte => b.getLsbD (i % 8))]

end Sys2Proof.Machine
end

section
/-! The flash interface in RUN (15_library_image.md; R96, R258, R259, R302, R307, R308): the attempts at the band plan, and
the records that heal or refill a row. -/

namespace Sys2Proof.Machine

/-! ### The band plan -/

/-- The flash interface is free again (R307). -/
def Library.idle (l : Library) : Library := { l with serving := none, asleep := bitOf l.header.flags 0 }

theorem State.planAttempt_good {u : State} {it : List Byte} (hgood : planGood it = true) (hlen : it.length = 2048)
    (hs : Memory.wf u.mem) : ∃ m e, u.planAttempt it = { u with
        mem := m, ecc := e, lib := { u.lib.idle with planFails := 0, planBuiltIn := false }
        flash := u.flash ++ u.lib.header.sleepCmd } ∧
      State.peek { u with mem := m } 0x05070000 2048 = it ∧
      State.sameMemoryBut { u with mem := m, ecc := e } u 0x05070000 0x10000 := by
  have hwf := (u.wipe planAddr 0x10000).poke_wf planAddr it (u.wipe_wf planAddr 0x10000 hs)
  have hparams : (leBytes 8 u.lib.seed ++ [BitVec.ofNat 8 u.depth, BitVec.ofNat 8 u.mclass]).length = 10 := by simp
  obtain ⟨hmem, hecc⟩ := State.sameMemoryBut_wipe u planAddr 0x10000
  obtain ⟨hmem', hecc'⟩ := State.sameMemoryBut_poke (u.wipe planAddr 0x10000) (a := planAddr) (n := 2048) hlen.le
  obtain ⟨hmem'', hecc''⟩ := State.sameMemoryBut_poke ((u.wipe planAddr 0x10000).poke planAddr it) (a := paramAddr) (n := 10)
    hparams.le
  refine ⟨_, _, (if_pos hgood).trans rfl, ?_, fun x hx => ?_, fun w hw => ?_⟩
  · refine (State.peek_poke_of_apart ((u.wipe planAddr 0x10000).poke planAddr it) hwf (.inl (by unfold paramAddr; omega))).trans
      (State.peek_poke _ planAddr (u.wipe_wf planAddr 0x10000 hs) hlen)
  · exact (hmem'' x (by unfold paramAddr; omega)).trans ((hmem' x (by unfold planAddr; omega)).trans
      (hmem x (by unfold planAddr; omega)))
  · exact (hecc'' w (by unfold paramAddr; omega)).trans ((hecc' w (by unfold planAddr; omega)).trans
      (hecc w (by unfold planAddr; omega)))

/-- Every library row is invalidated, the rest of the hearth is as it was (R308). -/
theorem State.invalidateLibrary_rows {s : State} (hs : Memory.wf s.mem) :
    (∃ m e, s.invalidateLibrary = { s with mem := m, ecc := e }) ∧ ∀ g, g < 16384 → s.invalidateLibrary.row g = s.row g ∧
      s.invalidateLibrary.tag g = if g < s.libraryRows then { s.tag g with valid := false } else s.tag g := by
  have hpart (g : Nat) : s.partition g = 0 ↔ g < s.libraryRows := by
    unfold State.partition
    split
    next h => exact iff_of_true rfl h
    next h =>
      refine iff_of_false ?_ h
      split
      · decide
      · split <;> decide
  obtain ⟨-, hrow, hin, hout⟩ := State.foldl_editTag (f := fun t => { t with valid := false }) (fun _ => rfl)
    (s.taggedRows.filter (fun r => decide (s.partition r = 0))) hs
  have hfields := State.foldl_editTag_fields (fun t => { t with valid := false })
    (s.taggedRows.filter (fun r => decide (s.partition r = 0))) s
  refine ⟨⟨_, _, hfields⟩, fun g hg => ⟨hrow g hg, ?_⟩⟩
  split
  next h =>
    by_cases hmem : g ∈ s.taggedRows
    · exact hin g (List.mem_filter.2 ⟨hmem, decide_eq_true ((hpart g).2 h)⟩)
    · refine (hout g fun hg => hmem (List.mem_filter.1 hg).1).trans ?_
      rw [State.tag_of_not_tagged hs hg hmem]
  next h => exact hout g fun hg => h ((hpart g).1 (of_decide_eq_true (List.mem_filter.1 hg).2))

/-- After the fourth bad attempt the library is given up (R308). -/
theorem State.planAttempt_over {u : State} {it : List Byte} (hbad : planGood it = false) (hfails : 3 ≤ u.lib.planFails)
    (hs : Memory.wf u.mem) (hmode : u.mode = .run) :
    (u.planAttempt it).lib = { u.lib.idle with planBuiltIn := true, closed := true, queue := [], planFails := 0 } ∧
    (u.planAttempt it).flash = u.flash ++ u.lib.header.sleepCmd ∧
    (∀ g, g < 16384 → (u.planAttempt it).row g = u.row g ∧
      (u.planAttempt it).tag g = if g < u.libraryRows then { u.tag g with valid := false } else u.tag g) ∧
    u.recordedBoth (u.planAttempt it) 0x0A (memoryPayload 3 .lib 0x8FC 0xFFFF 7 0 1) := by
  have hattempt : u.planAttempt it = State.refusalEvent { u.served.builtInPlan.invalidateLibrary with
      lib := { u.served.builtInPlan.invalidateLibrary.lib with closed := true, queue := [], planFails := 0 } } 7 0x8FC :=
    (if_neg (ne_true_of_eq_false hbad)).trans (if_neg (not_lt.2 hfails))
  have hwipe : Memory.wf (u.served.wipe planAddr 0x10000).mem := u.served.wipe_wf _ _ hs
  have hplan : Memory.wf u.served.builtInPlan.mem := State.poke_wf _ _ _ hwipe
  have hbuilt {g : Nat} (hg : g < 16384) : u.served.builtInPlan.tag g = u.tag g ∧ u.served.builtInPlan.row g = u.row g := by
    have hread (x : Nat) (hx : x < planAddr) : Memory.read u.served.builtInPlan.mem x = Memory.read u.mem x := by
      refine (State.sameMemoryBut_poke (State.wipe u.served planAddr 0x10000) (a := paramAddr) (n := 10) ?_).1 x (.inl ?_) |>.trans
        ((State.sameMemoryBut_wipe u.served planAddr 0x10000).1 x (.inl hx))
      · simp
      · exact hx.trans (by decide)
    refine ⟨congrArg (fun bs => Tag.ofNat (leNat bs)) (Memory.readBytes_congr hplan hs fun x _ hx => hread x ?_),
      congrArg (fun bs => BitVec.ofNat 8192 (leNat bs)) (Memory.readBytes_congr hplan hs fun x _ hx => hread x ?_)⟩
    · unfold tagAddr at hx
      unfold planAddr
      omega
    · unfold rowAddr at hx
      unfold planAddr
      omega
  obtain ⟨⟨m, e, hfields⟩, hrows⟩ := State.invalidateLibrary_rows hplan
  have hwf : Memory.wf u.served.builtInPlan.invalidateLibrary.mem :=
    (State.foldl_editTag (f := fun t => { t with valid := false }) (fun _ => rfl) _ hplan).1
  generalize hv : u.served.builtInPlan.invalidateLibrary = v at *
  rw [hattempt]
  unfold State.refusalEvent
  have hrec := State.memoryEvent_records { v with lib := { v.lib with closed := true, queue := [], planFails := 0 } }
    3 .lib 0x8FC 0xFFFF 7 0 1
  have hboth := State.memoryEvent_recordedBoth { v with lib := { v.lib with closed := true, queue := [], planFails := 0 } }
    3 .lib 0x8FC 0xFFFF 7 0 1 (State.dumpHolds_run _ (by rw [hfields]; exact hmode))
  have hwf' := State.memoryEvent_wf (s := { v with lib := { v.lib with closed := true, queue := [], planFails := 0 } })
    3 .lib 0x8FC 0xFFFF 7 0 1 hwf
  refine ⟨(congrArg State.lib hrec.1 :).trans ?_, (congrArg State.flash hrec.1 :).trans ?_, fun g hg => ⟨?_, ?_⟩,
    State.recordedBoth_of hboth ?_ ?_⟩
  · rw [hfields]
    rfl
  · rw [hfields]
    rfl
  · exact (State.records_row hrec hwf' hwf hg).trans ((hrows g hg).1.trans (hbuilt hg).2)
  · refine (State.records_tag hrec hwf' hwf hg).trans ((hrows g hg).2.trans ?_)
    rw [(hbuilt hg).1]
    rfl
  · rw [hfields]
    rfl
  · rw [hfields]
    rfl

/-! ### Records of rows -/

theorem recordSegments_eq (it : List Byte) (segs : List Nat) :
    recordSegments it segs = segs.map fun g => (g, slice it (8 * g) 8) := rfl

/-- A record that heals: the erased segments of its row take its words (R259). -/
theorem State.applySegments_healed {u : State} {it : List Byte} {row lost : Nat} {again : Bool} (hs : Memory.wf u.mem)
    (hr : row < 16384) (hlen : it.length = 1064) (hbad : u.tagBad row = false) (hcrc : recordCrcGood it = true)
    (hvalid : (u.tag row).valid = true) (hspent : (u.tag row).spent = false) (hlost : lost < 2)
    (herased : (u.tag row).erased ≠ 0) :
    let t := u.applySegments it row (u.tag row).gen.toNat lost again
    t.tag row = { u.tag row with erased := 0, gen := (u.tag row).gen + 1 } ∧
    (∀ g, g < 16384 → g ≠ row → t.tag g = u.tag g ∧ t.row g = u.row g) ∧
    ∀ i, i < 8192 → (t.row row).getLsbD i =
      if (u.tag row).isErased (i / 64) then (recordData it).getLsbD i else (u.row row).getLsbD i := by
  intro t
  have ht : t = u.served.healSegments row (((List.range 128).filter (u.tag row).isErased).map
      fun g => (g, slice it (8 * g) 8)) .lib 1 := by
    refine (if_neg (ne_true_of_eq_false hbad)).trans ((if_neg ?_).trans ((if_neg (not_not.2 rfl)).trans
      ((if_neg (not_le.2 hlost)).trans rfl)))
    simp [hcrc, hvalid, hspent]
  generalize hsegs : (List.range 128).filter (u.tag row).isErased = l at ht
  have hl {g : Nat} : g ∈ l ↔ g < 128 ∧ (u.tag row).isErased g = true := by
    rw [← hsegs, List.mem_filter, List.mem_range]
  have hne : l ≠ [] := by
    rintro rfl
    refine herased (BitVec.eq_of_getLsbD_eq fun k hk => ?_)
    have hbit : ¬(u.tag row).isErased k = true := fun h => absurd (hl.2 ⟨hk, h⟩) List.not_mem_nil
    exact (Bool.eq_false_iff.2 hbit).trans BitVec.getLsbD_zero.symm
  obtain ⟨hrec, hwf⟩ := State.healSegments_records (s := u.served) row (fun g => slice it (8 * g) 8) .lib 1
    (fun g hg => (hl.1 hg).2) hne hs
  have hwf' := State.withHealed_wf (s := u.served) row (fun g => slice it (8 * g) 8) l hs
  obtain ⟨htag, hothers, hbits⟩ := State.withHealed_rows (s := u.served) (f := fun g => slice it (8 * g) 8) (l := l) hs hr
    fun g hg => ⟨(hl.1 hg).1, slice_length _ _ _ (by have := (hl.1 hg).1; omega)⟩
  rw [← ht] at hrec hwf
  refine ⟨?own, fun g hg hg' => ⟨?tags, ?rows⟩, fun i hi => ?bits⟩
  case own =>
    exact (State.records_tag hrec hwf hwf' hr).trans (htag.trans (Tag.healed_eq fun k hk h => hl.2 ⟨hk, h⟩))
  case tags => exact (State.records_tag hrec hwf hwf' hg).trans (hothers g hg hg').1
  case rows => exact (State.records_row hrec hwf hwf' hg).trans (hothers g hg hg').2
  case bits =>
    rw [State.records_row hrec hwf hwf' hr, hbits i hi]
    refine if_ctx_congr (hl.trans (and_iff_right (by omega))) (fun h => ?_) fun _ => rfl
    rw [recordData_getLsbD it hi, slice, List.getD_eq_getElem?_getD, List.getElem?_take_of_lt (Nat.mod_lt _ (by decide)),
      List.getElem?_drop, ← List.getD_eq_getElem?_getD, show 8 * (i / 64) + i / 8 % 8 = i / 8 by omega]

/-- A record that applies to nothing leaves the interface free again (R259, R308). -/
theorem State.applySegments_plain {u : State} {it : List Byte} {row gen lost : Nat} {again : Bool}
    (hbad : u.tagBad row = false)
    (h : recordCrcGood it = false ∨ (u.tag row).valid = false ∨ (u.tag row).spent = true ∨
      ((u.tag row).gen.toNat = gen ∧ 2 ≤ lost) ∨ ((u.tag row).gen.toNat = gen ∧ (u.tag row).erased = 0) ∨
      ((u.tag row).gen.toNat ≠ gen ∧ again = true)) : u.applySegments it row gen lost again = u.served := by
  unfold State.applySegments
  dsimp only
  rw [if_neg (show ¬u.served.tagBad row = true from ne_true_of_eq_false hbad)]
  split
  · rfl
  next hgood =>
    simp only [Bool.or_eq_true, Bool.not_eq_true', not_or, Bool.not_eq_false, Bool.not_eq_true] at hgood
    obtain ⟨⟨hcrc, hvalid⟩, hspent⟩ := hgood
    simp only [hcrc, hvalid, hspent, Bool.true_eq_false, Bool.false_eq_true, false_or] at h
    obtain ⟨hgen, hlost⟩ | ⟨hgen, hzero⟩ | ⟨hgen, rfl⟩ := h
    · rw [if_neg (not_not.2 hgen), if_pos hlost]
    · rw [if_neg (not_not.2 hgen)]
      split
      · rfl
      · have hnone : (List.range 128).filter (u.tag row).isErased = [] := by
          refine List.filter_eq_nil_iff.2 fun g _ => ?_
          rw [Tag.isErased, hzero]
          simp
        rw [recordSegments_eq, hnone, State.healSegments_eq _ _ _ _ _ (by simp)]
        rfl
    · rw [if_pos hgen, if_pos rfl]

/-- A record that fills a spent row again (R302, R308). -/
theorem State.applyFull_filled {u : State} {it : List Byte} {row lost : Nat} {again : Bool} (hs : Memory.wf u.mem)
    (hr : row < 16384) (hbad : u.tagBad row = false) (hcrc : recordCrcGood it = true)
    (hspent : (u.tag row).spent = true) (hlost : lost < 2) :
    let t := u.applyFull it row (u.tag row).gen.toNat lost again
    (∀ g, g < 16384 → g ≠ row → t.tag g = u.tag g ∧ t.row g = u.row g) ∧ t.row row = recordData it ∧
    t.tag row = if (recordTag it).valid = true then
      { recordTag it with erased := 0, cls := 0, valid := true, spent := false, hits := 0, gen := (u.tag row).gen + 1
                          originId := 0, originSlot := 0 }
      else { gen := (u.tag row).gen + 1 } := by
  intro t
  generalize hnew : (if (recordTag it).valid then loadedTag (recordTag it) true ((u.tag row).gen + 1)
    else { gen := (u.tag row).gen + 1 }) = new
  have ht : t = (u.served.writeRow row (recordData it) new).bumpLife row := by
    rw [← hnew]
    refine (if_neg (ne_true_of_eq_false hbad)).trans ((if_neg ?_).trans ((if_neg (not_not.2 rfl)).trans
      ((if_neg (not_le.2 hlost)).trans rfl)))
    simp [hcrc, hspent]
  have hmem : t.mem = (u.served.writeRow row (recordData it) new).mem := by rw [ht] <;> rfl
  refine ⟨fun g hg hne => ⟨?_, ?_⟩, ?_, ?_⟩
  · exact (State.tag_of_mem hmem g).trans (State.tag_writeRow_of_ne _ _ _ hs hr hne)
  · exact (State.row_of_mem hmem g).trans (State.row_writeRow_of_ne _ _ _ hs hg hne)
  · exact (State.row_of_mem hmem row).trans (State.row_writeRow _ _ _ hs hr)
  · exact (State.tag_of_mem hmem row).trans ((State.tag_writeRow _ _ _ _ hs).trans hnew.symm)

theorem State.applyFull_plain {u : State} {it : List Byte} {row gen lost : Nat} {again : Bool}
    (hbad : u.tagBad row = false)
    (h : recordCrcGood it = false ∨ (u.tag row).spent = false ∨ ((u.tag row).gen.toNat = gen ∧ 2 ≤ lost) ∨
      ((u.tag row).gen.toNat ≠ gen ∧ again = true)) : u.applyFull it row gen lost again = u.served := by
  unfold State.applyFull
  dsimp only
  rw [if_neg (show ¬u.served.tagBad row = true from ne_true_of_eq_false hbad)]
  split
  · rfl
  next hgood =>
    simp only [Bool.or_eq_true, Bool.not_eq_true', not_or, Bool.not_eq_false] at hgood
    obtain ⟨hcrc, hspent⟩ := hgood
    simp only [hcrc, hspent, Bool.true_eq_false, false_or] at h
    obtain ⟨hgen, hlost⟩ | ⟨hgen, rfl⟩ := h
    · rw [if_neg (not_not.2 hgen), if_pos hlost]
    · rw [if_pos hgen, if_pos rfl]

/-! ### The commands -/

/-- The item of a row waits as the row does (R214, R256). -/
theorem State.mayApply_row {s : State} {dt row : Nat} {q : Refetch} (hserving : s.lib.serving = some q)
    (hrow : q.row? = some row) :
    (s.elapse dt).mayApply = ((s.elapse dt).banksFree && !(s.elapse dt).learnWaits (bankOf row)) := by
  rw [State.mayApply, show (s.elapse dt).lib.serving.bind Refetch.row? = some row by
    rw [State.elapse_lib, hserving]; exact hrow]

/-- The item of a row has the length of a record (R307). -/
theorem refetchForm_row {s : State} {row : Nat} {it : List Byte} {q : Refetch} (hserving : s.lib.serving = some q)
    (hrow : q.row? = some row) (hlen : it.length = 1064) :
    (match s.lib.serving with
      | some .plan => decide (it.length = planLen)
      | some _ => decide (it.length = recordLen)
      | none => itemForm it) = true := by
  rw [hserving]
  cases q with
  | plan => cases hrow
  | segments => exact decide_eq_true hlen
  | full => exact decide_eq_true hlen

/-- A row record in its gap is applied (R259, R308). -/
theorem exec_refetchRow {s : State} {dt lost row : Nat} {it : List Byte} {q : Refetch} (hm : s.mode = .run)
    (hpause : s.volt.pauseAt = none) (hlen : it.length = 1064) (hfails : s.lib.planFails = 0)
    (hserving : s.lib.serving = some q) (hrow : q.row? = some row)
    (hgap : ((s.elapse dt).banksFree && !(s.elapse dt).learnWaits (bankOf row)) = true) :
    exec (.refetchComplete dt it lost) s = .next ((s.elapse dt).applyItem it lost).settle := by
  have hpaused : (s.elapse dt).paused = false := by simp [State.paused, hpause]
  have hform := refetchForm_row hserving hrow hlen
  have hcond : (decide ((s.elapse dt).mode = .run) && (s.elapse dt).lib.serving.isSome &&
      decide ((s.elapse dt).lib.planFails = 0) && ((s.elapse dt).paused || (s.elapse dt).mayApply)) = true := by
    rw [State.mayApply_row hserving hrow, hgap, Bool.or_true, Bool.and_true, State.elapse_lib, hserving, hfails,
      State.elapse_mode, hm]
    rfl
  have hexec := (eventOf_next _ _ _ _ s hform hcond : execRefetchComplete dt it lost s = _)
  rw [if_neg (ne_true_of_eq_false hpaused)] at hexec
  exact hexec

/-- A row record in a scan, or behind a write of its bank, waits (R214, R256). -/
theorem exec_refetchRow_waits {s : State} {dt lost row : Nat} {it : List Byte} {q : Refetch}
    (hpause : s.volt.pauseAt = none) (hlen : it.length = 1064) (hserving : s.lib.serving = some q)
    (hrow : q.row? = some row)
    (hgap : ((s.elapse dt).banksFree && !(s.elapse dt).learnWaits (bankOf row)) = false) :
    exec (.refetchComplete dt it lost) s = .next { s with clock := s.clock + dt } := by
  have hform := refetchForm_row hserving hrow hlen
  refine (eventOf_idle _ _ _ _ s hform ?_ : execRefetchComplete dt it lost s = _)
  have hpaused : (s.elapse dt).paused = false := by simp [State.paused, hpause]
  rw [State.mayApply_row hserving hrow, hgap, hpaused, Bool.or_false, Bool.and_false]

theorem State.applyItem_bad {s : State} {dt lost row : Nat} {it : List Byte} {q : Refetch} (hserving : s.lib.serving = some q)
    (hrow : q.row? = some row) (hbad : s.tagBad row = true) :
    (s.elapse dt).applyItem it lost = (s.elapse dt).served.tagFound row .lib := by
  rw [State.applyItem, State.elapse_lib, hserving]
  cases q with
  | plan => cases hrow
  | segments x gen again =>
    obtain rfl : x = row := Option.some.inj hrow
    exact if_pos hbad
  | full x gen again =>
    obtain rfl : x = row := Option.some.inj hrow
    exact if_pos hbad

theorem State.withSpentTag_serving (s : State) (row : Nat) : (s.withSpentTag row).lib.serving = s.lib.serving := by
  unfold State.withSpentTag
  dsimp only
  rw [State.markDirty_eq]
  split
  · rw [State.request_lib, Library.asked]
    split <;> rfl
  · rfl

/-- The next request is served, band plan requests first (R307). -/
theorem exec_refetch {s : State} {dt : Nat} {q : Refetch} {rest : List Refetch} (hm : s.mode = .run)
    (hpause : s.volt.pauseAt = none) (hserving : s.lib.serving = none) (hqueue : s.lib.queue = q :: rest)
    (hlib : s.libDeclared = true) (hacc : s.lib.accepted = true) (hclosed : s.lib.closed = false) :
    let next := if Refetch.plan ∈ s.lib.queue then Refetch.plan else q
    ∃ t, exec (.refetch dt) s = .next t ∧ t.agrees { s with
      clock := s.clock + dt
      lib := { s.lib with serving := some next, queue := s.lib.queue.erase next, asleep := false }
      flash := s.lib.header.wakeCmd ++ (match next with
        | .plan => [s.lib.header.read 0x100 2048]
        | .segments g _ _ => [s.lib.header.read (0x900 + 1064 * g) 1064]
        | .full g _ _ => [s.lib.header.read (0x900 + 1064 * g) 1064]) } := by
  intro next
  have hopen : (s.elapse dt).flashOpen = true := by
    rw [show (s.elapse dt).flashOpen = (s.libDeclared && s.lib.accepted && !s.lib.closed) from rfl, hlib, hacc, hclosed]
    rfl
  have hcond : ((s.elapse dt).coreRuns && (s.elapse dt).lib.serving.isNone && !(s.elapse dt).lib.queue.isEmpty &&
      (s.elapse dt).flashOpen) = true := by
    rw [hopen, State.elapse_lib, hserving, hqueue]
    simp [State.coreRuns, State.paused, hm, hpause]
  have hchosen : (if (s.elapse dt).lib.queue.contains .plan then some Refetch.plan else (s.elapse dt).lib.queue.head?) =
      some next := by
    rw [State.elapse_lib]
    by_cases hmem : Refetch.plan ∈ s.lib.queue
    · rw [if_pos (List.contains_iff_mem.2 hmem), show next = _ from if_pos hmem]
    · rw [if_neg (mt List.contains_iff_mem.1 hmem), show next = q from if_neg hmem, hqueue, List.head?_cons]
  refine (event_agrees hcond ?_ : ∃ t, execRefetch dt s = .next t ∧ t.agrees _)
  dsimp only
  rw [hchosen]
  clear_value next
  cases next <;> rfl

/-- The band plan that was read stands in the place of the stored one (R308). -/
def State.planStored (s : State) (dt : Nat) (it : List Byte) (t : State) (again : List FlashCmd) : Prop :=
  t.agrees { s with
    clock := s.clock + dt, mem := t.mem, ecc := t.ecc, lib := { s.lib.idle with planFails := 0, planBuiltIn := false }
    flash := s.flash ++ again ++ s.lib.header.sleepCmd } ∧
  t.peek 0x05070000 2048 = it ∧ t.sameMemoryBut s 0x05070000 0x10000

/-- The attempt at the band plan has failed (R308). -/
def State.planFailed (s : State) (dt : Nat) (t : State) (again : List FlashCmd) : Prop :=
  t.agrees { s with
    clock := s.clock + dt, lib := { s.lib with planFails := s.lib.planFails + 1, planAt := s.clock + dt }
    flash := s.flash ++ again }

theorem State.planAttempt_outcome {s : State} {dt : Nat} {it : List Byte} (again : List FlashCmd) (hlen : it.length = 2048)
    (hs : Memory.wf s.mem) : let t := (State.planAttempt { s.elapse dt with flash := s.flash ++ again } it).settle
    (planGood it = true → s.planStored dt it t again) ∧
    (planGood it = false → s.lib.planFails < 3 → s.planFailed dt t again) := by
  refine ⟨fun hgood => ?_, fun hbad hfew => ?_⟩
  · obtain ⟨m, e, heq, hpeek, hsame⟩ := State.planAttempt_good (u := { s.elapse dt with flash := s.flash ++ again })
      hgood hlen hs
    rw [heq]
    exact ⟨State.settle_agrees _, hpeek, hsame⟩
  · rw [show State.planAttempt { s.elapse dt with flash := s.flash ++ again } it = _ from
      (if_neg (ne_true_of_eq_false hbad)).trans (if_pos hfew)]
    exact State.settle_agrees _

theorem State.planAttempt_givenUp {s : State} {dt : Nat} {it : List Byte} {again : List FlashCmd} (hs : Memory.wf s.mem)
    (hm : s.mode = .run) (hbad : planGood it = false) (hfails : 3 ≤ s.lib.planFails) :
    let t := (State.planAttempt { s.elapse dt with flash := s.flash ++ again } it).settle
    t.lib = { s.lib.idle with planBuiltIn := true, closed := true, queue := [], planFails := 0 } ∧
    t.flash = s.flash ++ again ++ s.lib.header.sleepCmd ∧
    (∀ g, g < 16384 → t.row g = s.row g ∧
      t.tag g = if g < s.libraryRows then { s.tag g with valid := false } else s.tag g) ∧
    s.recordedBoth t 0x0A (memoryPayload 3 .lib 0x8FC 0xFFFF 7 0 1) := by
  obtain ⟨hlib, hflash, hrows, hflue, hash⟩ := State.planAttempt_over
    (u := { s.elapse dt with flash := s.flash ++ again }) hbad hfails hs hm
  generalize State.planAttempt { s.elapse dt with flash := s.flash ++ again } it = t at *
  exact ⟨hlib, hflash, hrows, hflue, hash⟩

/-- The first attempt at the band plan (R308). -/
theorem exec_planFirst {s : State} {dt lost : Nat} {it : List Byte} (hm : s.mode = .run) (hlen : it.length = 2048)
    (hpause : s.volt.pauseAt = none) (hserving : s.lib.serving = some .plan) (hfails : s.lib.planFails = 0) :
    exec (.refetchComplete dt it lost) s = .next (State.planAttempt { s.elapse dt with flash := s.flash ++ [] } it).settle := by
  have hpaused : (s.elapse dt).paused = false := by simp [State.paused, hpause]
  have hexec := (eventOf_next _ _ _ _ s (by rw [hserving]; exact decide_eq_true hlen) (by
    rw [State.elapse_mode, hm, State.elapse_lib, hserving, hfails, State.mayApply, State.elapse_lib, hserving, Bool.or_comm]
    rfl) : execRefetchComplete dt it lost s = _)
  rw [if_neg (ne_true_of_eq_false hpaused), State.applyItem, State.elapse_lib, hserving] at hexec
  rw [List.append_nil]
  exact hexec

/-- A further attempt at the band plan, 1 ms after the one before it (R308). -/
theorem exec_planAgain {s : State} {dt : Nat} {it : List Byte} (hm : s.mode = .run) (hlen : it.length = 2048)
    (hpause : s.volt.pauseAt = none) (hserving : s.lib.serving = some .plan) (hfails : 0 < s.lib.planFails)
    (hdue : s.lib.planAt + 24576 ≤ s.clock + dt) : exec (.bandPlanRetry dt it) s =
      .next (State.planAttempt { s.elapse dt with flash := s.flash ++ [s.lib.header.fetch .plan] } it).settle := by
  have hpaused : (s.elapse dt).paused = false := by simp [State.paused, hpause]
  have hexec := (eventOf_next _ _ _ _ s (by rw [if_pos hserving]; exact decide_eq_true hlen) (by
    rw [State.elapse_lib, hserving, decide_eq_true hfails, State.elapse_mode, hm, Bool.and_true]
    exact decide_eq_true hdue) : execBandPlanRetry dt it s = _)
  rw [if_neg (ne_true_of_eq_false hpaused)] at hexec
  exact hexec

/-- A tag that cannot be read makes its row spent, whatever the record holds (R268). -/
theorem State.served_tagFound {s : State} {dt row : Nat} (hs : Memory.wf s.mem) (hr : row < 16384)
    (hret : s.isRetired row = false) : let t := ((s.elapse dt).served.tagFound row .lib).settle
    (∀ g, g < 16384 → g ≠ row → t.tag g = s.tag g ∧ t.row g = s.row g) ∧ t.row row = s.row row ∧
      t.lib.serving = none ∧ t.tag row = { cls := BitVec.ofNat 2 (s.partition row), spent := true } := by
  obtain ⟨htag, htags, hrows⟩ := State.tagFound_rows (s := (s.elapse dt).served) hs hr hret .lib
  obtain ⟨hrec, -⟩ := State.tagFound_records (s := (s.elapse dt).served) hs hr hret .lib
  have hlib : ((s.elapse dt).served.tagFound row .lib).lib = ((s.elapse dt).served.withSpentTag row).lib :=
    (congrArg State.lib hrec.1 :)
  exact ⟨fun g hg hne => ⟨htags g hg hne, hrows g hg⟩, hrows row hr,
    (congrArg Library.serving hlib).trans (State.withSpentTag_serving _ row), htag⟩

/-- Settles O54: what is read next, the attempts at the plan, and each outcome of a row record. -/
theorem flashServes : Obligations.FlashServes := by
  unfold Obligations.FlashServes
  intro s dt hm now h idle wake sleep ofRow ofPlan
  refine ⟨fun it lost q hpause hserving hlen => ?paused, fun q rest hpause hserving hqueue hlib hacc hclosed => ?next,
    fun it lost hlen hpause hserving hs => ?plan, fun it lost row gen again hlen hpause hfails hr hs => ?row⟩
  case paused =>
    have hpaused : (s.elapse dt).paused = true := Option.isSome_iff_ne_none.2 hpause
    refine ⟨?_, fun hfails => ?_, fun hfails hq hdue => ?_⟩
    · exact (event_idle _ _ _ s (by simp [State.coreRuns, hpaused]) : execRefetch dt s = _)
    · refine (eventOf_agrees ?_ ?_ ?_ : ∃ t, execRefetchComplete dt it lost s = .next t ∧ t.agrees _)
      · rw [hserving]
        cases q with
        | plan => exact decide_eq_true hlen
        | segments => exact decide_eq_true (hlen.trans (if_neg Refetch.noConfusion))
        | full => exact decide_eq_true (hlen.trans (if_neg Refetch.noConfusion))
      · rw [hpaused, State.elapse_lib, hserving, hfails, State.elapse_mode, hm]
        rfl
      · exact if_pos hpaused
    · subst hq
      refine (eventOf_agrees ?_ ?_ ?_ : ∃ t, execBandPlanRetry dt it s = .next t ∧ t.agrees _)
      · rw [if_pos hserving]
        exact decide_eq_true hlen
      · rw [State.elapse_lib, hserving, decide_eq_true hfails, State.elapse_mode, hm, Bool.and_true]
        exact decide_eq_true hdue
      · exact if_pos hpaused
  case next => exact exec_refetch hm hpause hserving hqueue hlib hacc hclosed
  case plan =>
    refine ⟨fun hfails => ?first, fun hfails hdue => ?again⟩
    case first =>
      obtain ⟨hgood, hbad⟩ := State.planAttempt_outcome (dt := dt) [] hlen hs
      exact ⟨_, exec_planFirst hm hlen hpause hserving hfails, hgood, fun h => hbad h (by omega)⟩
    case again =>
      obtain ⟨hgood, hbad⟩ := State.planAttempt_outcome (dt := dt) [s.lib.header.fetch .plan] hlen hs
      exact ⟨_, exec_planAgain hm hlen hpause hserving hfails hdue, hgood, hbad, State.planAttempt_givenUp hs hm⟩
  case row =>
    intro old others plain waits
    have hwaits : ((s.elapse dt).banksFree && !(s.elapse dt).learnWaits (bankOf row)) = false ↔ waits :=
      s.gapFree_eq_false_iff dt (bankOf row)
    have hexec {q : Refetch} (hserving : s.lib.serving = some q) (hrow : q.row? = some row) (hfree : ¬waits) :
        exec (.refetchComplete dt it lost) s = .next ((s.elapse dt).applyItem it lost).settle :=
      exec_refetchRow hm hpause hlen hfails hserving hrow (by simpa using mt hwaits.1 hfree)
    refine ⟨fun hserving => ⟨fun hwait => ?early, fun hfree hbad hret => ?tag⟩, fun hfree hbad hserving => ?segments,
      fun hfree hbad hserving => ?full⟩
    case early =>
      obtain hserving | hserving := hserving
      · exact exec_refetchRow_waits hpause hlen hserving rfl (hwaits.2 hwait)
      · exact exec_refetchRow_waits hpause hlen hserving rfl (hwaits.2 hwait)
    case tag =>
      have hfound := State.served_tagFound (dt := dt) hs hr hret
      obtain hserving | hserving := hserving
      · exact ⟨_, (hexec hserving rfl hfree).trans (congrArg (fun u : State => Host.Outcome.next u.settle)
          (State.applyItem_bad hserving rfl hbad)), hfound⟩
      · exact ⟨_, (hexec hserving rfl hfree).trans (congrArg (fun u : State => Host.Outcome.next u.settle)
          (State.applyItem_bad hserving rfl hbad)), hfound⟩
    case segments =>
      have hexec := hexec hserving rfl hfree
      rw [show (s.elapse dt).applyItem it lost = (s.elapse dt).applySegments it row gen lost again by
        rw [State.applyItem, State.elapse_lib, hserving]] at hexec
      refine ⟨fun h => ?_, fun hcrc hvalid hspent hgen hlost herased => ?_⟩
      · rw [State.applySegments_plain (u := s.elapse dt) hbad h] at hexec
        exact ⟨_, hexec, State.settle_agrees _⟩
      · subst hgen
        obtain ⟨htag, hothers, hbits⟩ := State.applySegments_healed (u := s.elapse dt) (again := again) hs hr hlen hbad hcrc
          hvalid hspent hlost herased
        exact ⟨_, hexec, hothers, htag, hbits⟩
    case full =>
      have hexec := hexec hserving rfl hfree
      rw [show (s.elapse dt).applyItem it lost = (s.elapse dt).applyFull it row gen lost again by
        rw [State.applyItem, State.elapse_lib, hserving]] at hexec
      refine ⟨fun h => ?_, fun hcrc hspent hgen hlost => ?_⟩
      · rw [State.applyFull_plain (u := s.elapse dt) hbad h] at hexec
        exact ⟨_, hexec, State.settle_agrees _⟩
      · subst hgen
        obtain ⟨hothers, hrow, htag⟩ := State.applyFull_filled (u := s.elapse dt) (again := again) hs hr hbad hcrc hspent hlost
        exact ⟨_, hexec, hothers, hrow, htag⟩

end Sys2Proof.Machine
end

section
/-! The smoulder and its heals (13_memories_and_smoulder.md; R196, R214, R256 to R269, R283, R366). -/

namespace Sys2Proof.Machine

/-! ### Words that a record leaves good -/

theorem State.offerLocal_ecc (s : State) (since : Nat) (f : YFrame) : (s.offerLocal since f).ecc ⊆ s.ecc := by
  have hself := List.Subset.refl s.ecc
  unfold State.offerLocal
  split
  · exact hself
  · split
    · unfold State.enqueueFrame State.takeCells
      exact List.filter_subset_self _
    · split <;> exact hself

theorem State.originate_ecc (s : State) (type chan dst dir : Nat) (payload : List Byte) :
    (s.originate type chan dst dir payload).ecc ⊆ s.ecc := by
  have hmark : s.takeE2e.2.ecc ⊆ s.ecc := by
    unfold State.takeE2e
    dsimp only
    split
    · exact List.filter_subset_self _
    · exact List.Subset.refl s.ecc
  exact List.Subset.trans (State.offerLocal_ecc _ _ _) hmark

theorem State.foldl_ecc {α : Type} (f : State → α → State) (hf : ∀ s x, (f s x).ecc ⊆ s.ecc) (l : List α) (s : State) :
    (l.foldl f s).ecc ⊆ s.ecc := by
  induction l generalizing s with
  | nil => exact List.Subset.refl _
  | cons x l ih => exact List.Subset.trans (ih (f s x)) (hf s x)

theorem State.report_ecc (s : State) (type time : Nat) (payload : List Byte) (tier : Nat) :
    (s.report type time payload tier).ecc ⊆ s.ecc := by
  have hput (f : Flue) : (s.putFlue f).ecc ⊆ s.ecc := List.filter_subset_self _
  unfold State.report
  split
  · exact List.Subset.refl _
  · dsimp only
    split
    · exact List.Subset.trans (State.foldl_ecc _ (fun s r => s.originate_ecc _ _ _ _ _) _ _) (hput _)
    · exact hput _

/-- A record makes no word bad. -/
theorem State.memoryEvent_ecc (s : State) (ev : Nat) (m : Master) (addr row seg erased source : Nat) :
    (s.memoryEvent ev m addr row seg erased source).ecc ⊆ s.ecc := by
  unfold State.memoryEvent
  dsimp only
  split
  · obtain ⟨-, ha⟩ | ⟨-, ha⟩ := (s.routeFlue _).routeAsh_cases _ <;>
      obtain ⟨-, hf⟩ | ⟨-, hf⟩ := s.routeFlue_cases _ <;> rw [ha, hf] <;> exact List.Subset.refl _
  · exact s.report_ecc _ _ _ _

/-- The tag of a row that a find has made spent is whole (R268). -/
theorem State.tagFound_tagBad (s : State) {row : Nat} (hret : s.isRetired row = false) (m : Master) :
    (s.tagFound row m).tagBad row = false := by
  have hsub : (s.tagFound row m).ecc ⊆ (s.setTag row (spentTag (s.partition row))).ecc := by
    unfold State.tagFound
    rw [if_neg (ne_true_of_eq_false hret)]
    dsimp only
    have hdirty : ((s.setTag row (spentTag (s.partition row))).markDirty row false true).ecc =
        (s.setTag row (spentTag (s.partition row))).ecc := by rw [State.markDirty_eq]
    generalize (s.setTag row (spentTag (s.partition row))).markDirty row false true = u at hdirty
    rw [← hdirty]
    have h1 := u.memoryEvent_ecc 0x08 m (tagAddr row) row 0xFF 0 0
    have h2 := (u.memoryEvent 0x08 m (tagAddr row) row 0xFF 0 0).memoryEvent_ecc 0x03 m (tagAddr row) row 0xFF 0 0
    split
    · unfold State.requestRow
      rw [State.request_lib]
      exact List.Subset.trans h2 h1
    · exact List.Subset.trans h2 h1
  unfold State.tagBad State.badIn
  rw [Option.isSome_map, Bool.eq_false_iff, Ne, List.find?_isSome]
  rintro ⟨e, he, hin⟩
  have hclean := (List.mem_filter.1 (hsub he)).2
  simp only [Bool.and_eq_true, decide_eq_true_eq, Tag.bytes_length, Bool.not_eq_true', Bool.and_eq_false_iff,
    decide_eq_false_iff_not] at hin hclean
  omega

/-! ### A unit of the smoulder -/

/-- A row of the bank is wanted by a requester of higher priority than the smoulder (R214, R256, R264). -/
def State.bankBusy (s : State) (now bank : Nat) : Prop :=
  now < s.hearth.scanEnd ∨ (∃ w ∈ s.learn.writes, bankOf w.2.row = bank) ∨
    (s.panel.hold = some false ∧ ∃ a ∈ s.learn.accums, a.due ≠ none ∧ bankOf a.row = bank) ∨
    ∃ h ∈ s.smoulder.heals, bankOf h.row = bank

theorem State.bankFree_iff (s : State) (dt bank : Nat) :
    ((s.elapse dt).banksFree && !(s.elapse dt).learnWaits bank && !(s.elapse dt).healWaits bank) = true ↔
      ¬s.bankBusy (s.clock + dt) bank := by
  have hgap := not_congr (s.gapFree_eq_false_iff dt bank)
  rw [Bool.not_eq_false] at hgap
  rw [Bool.and_eq_true, hgap, State.healWaits, Bool.not_eq_true', List.any_eq_false]
  simp only [State.bankBusy, decide_eq_true_eq, State.elapse_smoulder, not_or, not_exists, not_and, and_assoc]

/-- No requester of higher priority has work for a unit of a region (R264, R275). -/
def State.unitFree (s : State) (now : Nat) (region : Region) (unit : Nat) : Prop :=
  (region = .hearthData → ¬s.bankBusy now (bankOf (unit / 8))) ∧
  (region = .hearthTags → ¬s.bankBusy now (bankOf (unit / 4))) ∧
  (region ∈ [Region.vaultData, .vaultTags, .persistent, .ash] → s.ash.waiting = [] ∧ s.vault.entries = [] ∧
    s.power.running.read now < s.vault.persistAt + 60 * 24576000)

theorem State.scrubFree_iff {s : State} {dt : Nat} (hm : s.mode = .run) (region : Region) (unit : Nat) :
    (s.elapse dt).scrubFree region unit = true ↔ s.unitFree (s.clock + dt) region unit := by
  have hmram : ((s.elapse dt).ash.waiting.isEmpty && (s.elapse dt).vault.entries.isEmpty && !(s.elapse dt).persistDue) = true ↔
      s.ash.waiting = [] ∧ s.vault.entries = [] ∧ s.power.running.read (s.clock + dt) < s.vault.persistAt + 60 * 24576000 := by
    have hdue : (s.elapse dt).persistDue =
        decide (s.vault.persistAt + 60 * 24576000 ≤ s.power.running.read (s.clock + dt)) := by
      rw [State.persistDue, State.elapse_mode, hm, perSec]
      exact Bool.true_and _
    rw [hdue, Bool.and_eq_true, Bool.and_eq_true, List.isEmpty_iff, List.isEmpty_iff, Bool.not_eq_true',
      decide_eq_false_iff_not, not_le, and_assoc, State.elapse_ash, State.elapse_vault]
  unfold State.unitFree
  cases region with
  | hearthData => simpa [State.scrubFree] using s.bankFree_iff dt (bankOf (unit / 8))
  | hearthTags => simpa [State.scrubFree] using s.bankFree_iff dt (bankOf (unit / 4))
  | vaultData => simpa [State.scrubFree] using hmram
  | vaultTags => simpa [State.scrubFree] using hmram
  | persistent => simpa [State.scrubFree] using hmram
  | ash => simpa [State.scrubFree] using hmram
  | _ => simp [State.scrubFree]

/-! ### A word as the smoulder reads it -/

/-- The pass of a region moves on by one unit, or a new one begins (R264). -/
def Smoulder.moved (m : Smoulder) (region : Region) : Smoulder :=
  let p := m.pointers.getD (regionIndex region) 0
  { m with
    pointers := m.pointers.set (regionIndex region) ((if unitsOf region ≤ p then 0 else p) + 1)
    periodAt := if unitsOf region ≤ p then m.periodAt.modify (regionIndex region) (· + scrubPeriod region) else m.periodAt }

theorem fatalErrors_pos (a : Nat) : 0 < fatalErrors a := by
  unfold fatalErrors
  split <;> decide

/-- A word that can be read, and whose errors are left as they are: in a retired row, one error in MRAM, or a lost write
(R196, R258, R259). -/
def State.leftAlone (s : State) (region : Region) (lost : Bool) (a n : Nat) : Bool :=
  s.retiredWord region a || (decide (mramBase ≤ a) && decide (n = 1)) || (lost && twoPorts region)

theorem State.scrubWord_good {s : State} {region : Region} {lost : Bool} {a : Nat}
    (h : errorsAt s.ecc a < fatalErrors a) : ∃ e, s.scrubWord region lost a = { s with ecc := e } ∧ ∀ k, errorsAt e k =
      if k = a ∧ s.leftAlone region lost a (errorsAt s.ecc a) = false then 0 else errorsAt s.ecc k := by
  have hfatal : decide (fatalErrors a ≤ errorsAt s.ecc a) = false := decide_eq_false (not_le.2 h)
  have hkept (hleft : s.leftAlone region lost a (errorsAt s.ecc a) = true ∨ errorsAt s.ecc a = 0) (k : Nat) :
      errorsAt s.ecc k =
        if k = a ∧ s.leftAlone region lost a (errorsAt s.ecc a) = false then 0 else errorsAt s.ecc k := by
    split
    next hk =>
      obtain hleft | hzero := hleft
      · rw [hleft] at hk
        cases hk.2
      · rw [hk.1, hzero]
    · rfl
  unfold State.scrubWord
  dsimp only
  rw [hfatal]
  simp only [Bool.and_false, Bool.or_false, Bool.false_eq_true, if_false]
  split
  next hn =>
    refine ⟨s.ecc, rfl, hkept ?_⟩
    obtain hn | hret := hn
    · exact .inr hn
    · exact .inl (by rw [State.leftAlone, hret]; rfl)
  next hn =>
    split
    next hone => exact ⟨s.ecc, rfl, hkept (.inl (by rw [State.leftAlone, hone, Bool.or_true, Bool.true_or]))⟩
    next hone =>
      split
      next hlost => exact ⟨s.ecc, rfl, hkept (.inl (by rw [State.leftAlone, hlost, Bool.or_true]))⟩
      next hlost =>
        refine ⟨_, rfl, fun k => ?_⟩
        rw [not_or, Bool.not_eq_true] at hn
        rw [errorsAt_setErrors, State.leftAlone, hn.2, Bool.eq_false_iff.2 hone, Bool.eq_false_iff.2 hlost]
        simp

/-- Words that can all be read are corrected, but for those left alone (R258, R263). -/
theorem State.foldl_scrubWord_good {region : Region} {lost : Bool} (l : List Nat) {s : State}
    (h : ∀ a ∈ l, errorsAt s.ecc a < fatalErrors a) : ∃ e, l.foldl (fun s a => s.scrubWord region lost a) s = { s with ecc := e } ∧
      ∀ k, errorsAt e k =
        if k ∈ l ∧ s.leftAlone region lost k (errorsAt s.ecc k) = false then 0 else errorsAt s.ecc k := by
  induction l generalizing s with
  | nil => exact ⟨s.ecc, rfl, fun k => by simp⟩
  | cons a l ih =>
    obtain ⟨e, heq, he⟩ := State.scrubWord_good (region := region) (lost := lost) (h a List.mem_cons_self)
    obtain ⟨e', heq', he'⟩ := ih (s := { s with ecc := e }) fun x hx => by
      rw [show State.ecc { s with ecc := e } = e from rfl, he x]
      split
      · exact fatalErrors_pos x
      · exact h x (List.mem_cons_of_mem _ hx)
    refine ⟨e', by rw [List.foldl_cons, heq, heq'], fun k => ?_⟩
    have hleft (n : Nat) : State.leftAlone { s with ecc := e } region lost k n = s.leftAlone region lost k n := rfl
    rw [he' k, hleft, show State.ecc { s with ecc := e } = e from rfl]
    by_cases hk : k = a
    · subst hk
      have hk := he k
      cases hl : s.leftAlone region lost k (errorsAt s.ecc k) with
      | true =>
        rw [hl, if_neg (by simp)] at hk
        rw [hk, hl]
        simp
      | false =>
        rw [hl, if_pos ⟨rfl, rfl⟩] at hk
        rw [hk]
        simp
    · have hsame := he k
      rw [if_neg fun h => hk h.1] at hsame
      rw [hsame]
      simp [hk]

/-- A word without errors is passed over. -/
theorem State.scrubWord_zero {s : State} {region : Region} {lost : Bool} {a : Nat} (h : errorsAt s.ecc a = 0) :
    s.scrubWord region lost a = s := if_pos (.inl h)

/-- An uncorrectable word outside the MRAM is handled, unless its row is retired or its write is lost (R196, R258, R265). -/
theorem State.scrubWord_fatal {s : State} {region : Region} {lost : Bool} {a : Nat} (hsram : a < mramBase)
    (hfatal : fatalErrors a ≤ errorsAt s.ecc a) : s.scrubWord region lost a =
      if s.retiredWord region a || (lost && (twoPorts region || decide (region = .hearthData))) then s
      else s.scrubFound .smd region a := by
  have hne : errorsAt s.ecc a ≠ 0 := by
    have := fatalErrors_pos a
    omega
  unfold State.scrubWord
  dsimp only
  rw [decide_eq_true hfatal, Bool.and_true, decide_eq_false (not_le.2 hsram), Bool.false_and, if_neg Bool.false_ne_true,
    if_pos rfl]
  cases s.retiredWord region a with
  | true => rw [if_pos (.inr rfl), Bool.true_or, if_pos rfl]
  | false => rw [if_neg (by simp [hne]), Bool.false_or]

/-- The words of a unit that are not the bad one are passed over. -/
theorem State.foldl_scrubWord_one {region : Region} {lost : Bool} {s : State} (l₁ l₂ : List Nat) {a : Nat}
    (h₁ : ∀ k ∈ l₁, errorsAt s.ecc k = 0) (h₂ : ∀ k ∈ l₂, errorsAt (s.scrubWord region lost a).ecc k = 0) :
    (l₁ ++ a :: l₂).foldl (fun s a => s.scrubWord region lost a) s = s.scrubWord region lost a := by
  have hpass (l : List Nat) (u : State) (h : ∀ k ∈ l, errorsAt u.ecc k = 0) :
      l.foldl (fun s a => s.scrubWord region lost a) u = u := by
    induction l with
    | nil => rfl
    | cons k l ih =>
      rw [List.foldl_cons, State.scrubWord_zero (h k List.mem_cons_self)]
      exact ih fun x hx => h x (List.mem_cons_of_mem _ hx)
  rw [List.foldl_append, hpass l₁ s h₁, List.foldl_cons, hpass l₂ _ h₂]

/-! ### Finds in the hearth -/

/-- A word that is good stays good when others are written. -/
theorem State.errorsAt_poke_zero (s : State) (a : Nat) (bs : List Byte) {w : Nat} (h : errorsAt s.ecc w = 0) :
    errorsAt (s.poke a bs).ecc w = 0 := by
  rw [State.poke, errorsAt_filter s.ecc (fun x => !(decide (a < x + 8) && decide (x < a + bs.length)))]
  split
  · exact h
  · rfl

theorem State.records_errors_zero {t u : State} (h : t.agreesButRecords u) {w : Nat} (hw : w + 8 ≤ e2eMarkAddr)
    (hzero : errorsAt u.ecc w = 0) : errorsAt t.ecc w = 0 := by
  obtain ⟨-, -, -, herrors⟩ := h
  obtain h | ⟨-, h⟩ := herrors w (.inl hw)
  · rw [h, hzero]
  · exact h

theorem State.startHeal_kept (s : State) (row seg : Nat) (again : Bool) : ∃ l m, s.startHeal row seg again = { s with
    lib := l, smoulder := m } := by
  unfold State.startHeal
  split
  · rw [State.request_lib]
    exact ⟨_, _, rfl⟩
  · exact ⟨_, _, rfl⟩
  · exact ⟨_, _, rfl⟩

theorem State.startHeal_vault {s : State} {row : Nat} (seg : Nat) (again : Bool)
    (hp : s.partition row = 1 ∨ s.partition row = 2) : s.startHeal row seg again = { s with
      smoulder := { s.smoulder with heals := s.smoulder.heals ++ [⟨row, seg, (s.tag row).gen.toNat, again⟩] } } := by
  unfold State.startHeal
  obtain hp | hp := hp <;> rw [hp] <;> rfl

theorem State.startHeal_flash {s : State} {row : Nat} (seg : Nat) (again : Bool) (hp : s.partition row = 0) :
    s.startHeal row seg again = s.request (.segments row (s.tag row).gen.toNat again) := by
  unfold State.startHeal
  rw [hp] <;> rfl

/-- The row of a bad segment once its erasure is marked and recorded (R265). -/
def State.withErased (s : State) (row seg : Nat) (m : Master) : State :=
  let u := (s.setTag row ((s.tag row).markErased seg true)).markDirty row false true
  u.memoryEvent 0x01 m (rowAddr row + 8 * seg) row seg ((s.tag row).markErased seg true).erasures 0

theorem State.withErased_records {s : State} (row seg : Nat) (m : Master) (hs : Memory.wf s.mem) :
    (s.withErased row seg m).agreesButRecords ((s.setTag row ((s.tag row).markErased seg true)).markDirty row false true) ∧
      Memory.wf (s.withErased row seg m).mem := by
  refine ⟨State.memoryEvent_records .., State.memoryEvent_wf _ _ _ _ _ _ _ ?_⟩
  rw [State.markDirty_mem]
  exact s.setTag_wf _ _ hs

/-- The hearth once a segment is erased (R265). -/
theorem State.withErased_rows {s : State} {row : Nat} (seg : Nat) (m : Master) (hs : Memory.wf s.mem) (hr : row < 16384) :
    (s.withErased row seg m).tag row = (s.tag row).markErased seg true ∧
    (∀ g, g < 16384 → (s.withErased row seg m).row g = s.row g) ∧
    (∀ g, g < 16384 → g ≠ row → (s.withErased row seg m).tag g = s.tag g) ∧
    (∀ w, w + 8 ≤ e2eMarkAddr → errorsAt s.ecc w = 0 → errorsAt (s.withErased row seg m).ecc w = 0) := by
  obtain ⟨hrec, hwf⟩ := State.withErased_records row seg m hs
  have hmem := (s.setTag row ((s.tag row).markErased seg true)).markDirty_mem row false true
  have hwf' := s.setTag_wf row ((s.tag row).markErased seg true) hs
  rw [← hmem] at hwf'
  refine ⟨?_, fun g hg => ?_, fun g hg hne => ?_, fun w hw hzero => State.records_errors_zero hrec hw ?_⟩
  · rw [State.records_tag hrec hwf hwf' hr, State.tag_of_mem hmem, s.tag_setTag _ _ hs]
  · rw [State.records_row hrec hwf hwf' hg, State.row_of_mem hmem, s.row_setTag _ hs hg]
  · rw [State.records_tag hrec hwf hwf' hg, State.tag_of_mem hmem, s.tag_setTag_of_ne _ hs hne]
  · rw [State.markDirty_eq]
    exact s.errorsAt_poke_zero _ _ hzero

theorem State.segmentFound_eq {s : State} {row seg : Nat} (m : Master) (hbad : s.tagBad row = false)
    (hret : s.isRetired row = false) (hvalid : (s.tag row).valid = true) (hspent : (s.tag row).spent = false)
    (herased : (s.tag row).isErased seg = false) (hseg : seg < 128) (hfew : (s.tag row).erasures < 32) :
    s.segmentFound row seg m = (s.withErased row seg m).startHeal row seg false := by
  have hcount := (s.tag row).erasures_markErased hseg true
  rw [herased] at hcount
  have hle : ¬32 < ((s.tag row).markErased seg true).erasures := by
    simp only [Bool.toNat_false, Bool.toNat_true] at hcount
    omega
  refine (if_neg ?_).trans ((if_neg ?_).trans (if_neg hle))
  · simp [hbad, hret, hvalid, hspent]
  · simp [herased]

/-- An uncorrectable segment of a valid row (R265). -/
theorem State.segmentFound_spec {s : State} {row seg : Nat} (m : Master) (hs : Memory.wf s.mem) (hr : row < 16384)
    (hbad : s.tagBad row = false) (hret : s.isRetired row = false) (hvalid : (s.tag row).valid = true)
    (hspent : (s.tag row).spent = false) (herased : (s.tag row).isErased seg = false) (hseg : seg < 128)
    (hfew : (s.tag row).erasures < 32) (hmode : s.mode = .run) :
    let t := s.segmentFound row seg m
    t.tag row = { s.tag row with erased := (s.tag row).erased ||| (1#128 <<< seg) } ∧ t.row row = s.row row ∧
    (∀ k, k < 16384 → k ≠ row → t.tag k = s.tag k ∧ t.row k = s.row k) ∧
    s.recordedBoth t 0x0A (memoryPayload 1 m (rowAddr row + 8 * seg) row seg ((s.tag row).erasures + 1) 0) ∧
    (s.partition row = 1 ∨ s.partition row = 2 →
      t.smoulder.heals = s.smoulder.heals ++ [⟨row, seg, (s.tag row).gen.toNat, false⟩]) ∧
    (s.partition row = 0 → s.flashOpen = true → s.lib.queue.length < 16 →
      t.lib.queue = s.lib.queue ++ [.segments row (s.tag row).gen.toNat false]) ∧
    (∀ w, w + 8 ≤ e2eMarkAddr → errorsAt s.ecc w = 0 → errorsAt t.ecc w = 0) := by
  intro t
  have ht : t = (s.withErased row seg m).startHeal row seg false :=
    State.segmentFound_eq m hbad hret hvalid hspent herased hseg hfew
  obtain ⟨htag, hrows, htags, herrors⟩ := State.withErased_rows seg m hs hr
  obtain ⟨hrec, -⟩ := State.withErased_records row seg m hs
  obtain ⟨l, k, hkept⟩ := (s.withErased row seg m).startHeal_kept row seg false
  rw [State.markDirty_eq] at hrec
  have hpart : (s.withErased row seg m).partition row = s.partition row := by
    rw [State.partition, State.partition, hrec.1]
    rfl
  have hmem : t.mem = (s.withErased row seg m).mem := by rw [ht, hkept]
  have hcount := (s.tag row).erasures_markErased hseg true
  rw [herased, Bool.toNat_false, Bool.toNat_true, Nat.add_zero] at hcount
  refine ⟨(State.tag_of_mem hmem row).trans (htag.trans rfl), (State.row_of_mem hmem row).trans (hrows row hr),
    fun k hk hne => ⟨(State.tag_of_mem hmem k).trans (htags k hk hne), (State.row_of_mem hmem k).trans (hrows k hk)⟩,
    ?_, fun hp => ?_, fun hp hopen hqueue => ?_, fun w hw hzero => ?_⟩
  · have hboth := State.memoryEvent_recordedBoth ((s.setTag row ((s.tag row).markErased seg true)).markDirty row false true) 0x01
      m (rowAddr row + 8 * seg) row seg ((s.tag row).markErased seg true).erasures 0
      (State.dumpHolds_run _ (by rw [State.markDirty_eq]; exact hmode))
    obtain ⟨hflue, hash⟩ := State.recordedBoth_of (s := s) hboth (by rw [State.markDirty_eq]; rfl)
      (by rw [State.markDirty_eq]; rfl)
    rw [ht, hkept, ← hcount]
    exact ⟨hflue, hash⟩
  · rw [ht, State.startHeal_vault _ _ (hpart ▸ hp), htag, show (s.withErased row seg m).smoulder = s.smoulder by rw [hrec.1] <;> rfl]
    rfl
  · have hlib : (s.withErased row seg m).lib = s.lib := by rw [hrec.1] <;> rfl
    have hopen' : (s.withErased row seg m).flashOpen = true := by
      rw [← hopen, State.flashOpen, hlib, show (s.withErased row seg m).libDeclared = s.libDeclared by
        rw [State.libDeclared, hrec.1] <;> rfl] <;> rfl
    rw [ht, State.startHeal_flash _ _ (hpart.trans hp), State.request_eq _ hopen' (by rwa [hlib]), htag, hlib]
    rfl
  · rw [ht, hkept]
    exact herrors w hw hzero

/-- A spent row's re-read may be asked for again (R267). -/
theorem State.retrySpent_kept (s : State) (region : Region) (unit : Nat) :
    ∃ l, s.retrySpent region unit = { s with lib := l } := by
  unfold State.retrySpent
  dsimp only
  split
  · unfold State.requestRow
    rw [State.request_lib]
    exact ⟨_, rfl⟩
  · exact ⟨_, rfl⟩

theorem State.retrySpent_of_ne {s : State} {region : Region} (h : region ≠ .hearthTags) (unit : Nat) :
    s.retrySpent region unit = s := by
  unfold State.retrySpent
  dsimp only
  rw [decide_eq_false h]
  rfl

theorem State.retrySpent_of_retired {s : State} {unit : Nat} (h : s.isRetired (unit / 4) = true) :
    s.retrySpent .hearthTags unit = s := by
  unfold State.retrySpent
  dsimp only
  rw [h, Bool.not_true, Bool.and_false, Bool.false_and]
  rfl

/-! ### The read of a unit -/

theorem mem_unitWords {base n a : Nat} : a ∈ (List.range n).map (fun i => base + 8 * i) ↔
    base ≤ a ∧ a < base + 8 * n ∧ (a - base) % 8 = 0 := by
  rw [List.mem_map]
  refine ⟨?_, fun ⟨h1, h2, h3⟩ => ⟨(a - base) / 8, List.mem_range.2 (by omega), by omega⟩⟩
  rintro ⟨i, hi, rfl⟩
  have := List.mem_range.1 hi
  omega

theorem nodup_unitWords (base n : Nat) : ((List.range n).map (fun i => base + 8 * i)).Nodup :=
  List.nodup_range.map fun i j (h : base + 8 * i = base + 8 * j) => by omega

/-- The unit that a read starts from, its pass moved on (R264). -/
def State.atUnit (s : State) (dt : Nat) (us : List Upset) (region : Region) : State :=
  { s.upset us with clock := s.clock + dt, smoulder := s.smoulder.moved region }

/-- The words of the unit as they are read (R263). -/
def State.unitRead (s : State) (dt : Nat) (us : List Upset) (region : Region) (lost : Bool) : State :=
  ((List.range (unitBytes region / 8)).map (fun i => regionBase region + s.nextUnit region * unitBytes region + 8 * i)).foldl
    (fun s a => s.scrubWord region lost a) (s.atUnit dt us region)

theorem State.scrubStep_eq (s : State) (dt : Nat) (us : List Upset) (region : Region) :
    ((s.elapse dt).upset us).scrubStep region = (s.nextUnit region, s.atUnit dt us region) := by
  unfold State.scrubStep State.nextUnit State.atUnit Smoulder.moved
  simp only [decide_eq_true_eq] <;> rfl

/-- The read may take place (R264). -/
def State.unitDue (s : State) (now : Nat) (region : Region) : Prop :=
  unitsOf region ≤ s.scrubUnit region → s.smoulder.periodAt.getD (regionIndex region) 0 + scrubPeriod region ≤ now

theorem State.mayScrub_iff (s : State) (dt : Nat) (region : Region) :
    (s.elapse dt).mayScrub region = true ↔ s.unitDue (s.clock + dt) region := by
  rw [State.mayScrub, Bool.or_eq_true, decide_eq_true_eq, decide_eq_true_eq, State.unitDue, ← not_le, ← imp_iff_not_or]
  rfl

theorem exec_smoulderRead {s : State} {dt : Nat} {us : List Upset} (hform : upsetForm us = true) (hm : s.mode = .run)
    (hpause : s.volt.pauseAt = none) (region : Region) (lost : Bool) :
    (¬(s.unitFree (s.clock + dt) region (s.nextUnit region) ∧ s.unitDue (s.clock + dt) region) →
      exec (.smoulderRead dt region us lost) s = .next { s with clock := s.clock + dt }) ∧
    (s.unitFree (s.clock + dt) region (s.nextUnit region) → s.unitDue (s.clock + dt) region →
      exec (.smoulderRead dt region us lost) s =
        .next ((s.unitRead dt us region lost).retrySpent region (s.nextUnit region)).settle) := by
  have hcore : (s.elapse dt).coreRuns = true := by simp [State.coreRuns, State.paused, hm, hpause]
  have hcond : ((s.elapse dt).coreRuns && (s.elapse dt).mayScrub region &&
      (s.elapse dt).scrubFree region ((s.elapse dt).nextUnit region)) = true ↔
      s.unitFree (s.clock + dt) region (s.nextUnit region) ∧ s.unitDue (s.clock + dt) region := by
    rw [hcore, Bool.true_and, Bool.and_eq_true, State.mayScrub_iff, State.scrubFree_iff hm]
    exact and_comm
  refine ⟨fun h => ?_, fun hfree hdue => ?_⟩
  · exact (eventOf_idle _ _ _ _ s hform (Bool.eq_false_iff.2 (mt hcond.1 h)) : execSmoulderRead dt region us lost s = _)
  · have hexec := (eventOf_next _ _ _ _ s hform (hcond.2 ⟨hfree, hdue⟩) : execSmoulderRead dt region us lost s = _)
    rw [State.scrubStep_eq] at hexec
    exact hexec

theorem unitWords_covers (region : Region) : 8 * (unitBytes region / 8) = unitBytes region := by cases region <;> rfl

/-- Which errors a read that finds no bad word leaves (R196, R258, R259). -/
theorem State.leftAlone_iff {s : State} {region : Region} (h : region ≠ .hearthTags) (lost : Bool) (a n : Nat) :
    s.leftAlone region lost a n = true ↔ (lost = true ∧ region = .counters) ∨
      (region = .hearthData ∧ s.isRetired (a / 1024) = true) ∨ (mramBase ≤ a ∧ n = 1) := by
  rw [State.leftAlone, Bool.or_eq_true, Bool.or_eq_true, Bool.and_eq_true, Bool.and_eq_true, decide_eq_true_eq,
    decide_eq_true_eq, twoPorts, decide_eq_false h, Bool.false_or, decide_eq_true_eq]
  have hret : s.retiredWord region a = true ↔ region = .hearthData ∧ s.isRetired (a / 1024) = true := by
    cases region with
    | hearthData => simp [State.retiredWord]
    | hearthTags => exact absurd rfl h
    | _ => simp [State.retiredWord]
  rw [hret, or_comm (b := lost = true ∧ _)]

/-- A unit without a bad word (R258, R263). -/
theorem State.unitRead_good {s : State} {dt : Nat} {us : List Upset} {region : Region} {lost : Bool} (hne : region ≠ .hearthTags)
    {base : Nat} (hbase : base = regionBase region + s.nextUnit region * unitBytes region)
    (hgood : ∀ a, base ≤ a → a < base + unitBytes region → errorsAt (s.upset us).ecc a < fatalErrors a) :
    ∃ e, s.unitRead dt us region lost = { s.atUnit dt us region with ecc := e } ∧
      (∀ a, base ≤ a → a < base + unitBytes region → (a - base) % 8 = 0 → errorsAt e a =
        if (lost = true ∧ region = .counters) ∨ (region = .hearthData ∧ s.isRetired (a / 1024) = true) ∨
          (mramBase ≤ a ∧ errorsAt (s.upset us).ecc a = 1) then errorsAt (s.upset us).ecc a else 0) ∧
      (∀ a, a < base ∨ base + unitBytes region ≤ a → errorsAt e a = errorsAt (s.upset us).ecc a) := by
  have hmem {a : Nat} := mem_unitWords (base := base) (n := unitBytes region / 8) (a := a)
  rw [unitWords_covers] at hmem
  obtain ⟨e, heq, he⟩ := State.foldl_scrubWord_good (region := region) (lost := lost) (s := s.atUnit dt us region)
    ((List.range (unitBytes region / 8)).map (fun i => base + 8 * i)) fun a ha =>
      hgood a (hmem.1 ha).1 (hmem.1 ha).2.1
  refine ⟨e, by rw [← heq, State.unitRead, hbase], fun a h1 h2 h3 => (he a).trans ?_, fun a ha => (he a).trans ?_⟩
  · have hleft := State.leftAlone_iff (s := s.atUnit dt us region) hne lost a (errorsAt (s.upset us).ecc a)
    split
    next h => exact (if_neg fun hcond => Bool.false_ne_true (h.2.symm.trans (hleft.2 hcond))).symm
    next h =>
      refine (if_pos (hleft.1 ?_)).symm
      exact not_imp_comm.1 (fun hf => ⟨hmem.2 ⟨h1, h2, h3⟩, Bool.eq_false_iff.2 hf⟩) h
  · refine if_neg fun h => ?_
    have := hmem.1 h.1
    omega

/-- A bad segment of a row that is not retired (R265). -/
theorem State.scrubWord_segment {s : State} {lost : Bool} {a : Nat} (hlow : a < 0x01000080)
    (hfatal : fatalErrors a ≤ errorsAt s.ecc a) (hret : s.isRetired (a / 1024) = false) :
    s.scrubWord .hearthData lost a = if lost = true then s else s.segmentFound (a / 1024) (a % 1024 / 8) .smd := by
  rw [State.scrubWord_fatal (hlow.trans (by decide)) hfatal, State.retiredWord, hret, Bool.false_or, decide_eq_true rfl,
    Bool.or_true, Bool.and_true, State.scrubFound]

/-- A unit of the hearth data with one bad word (R265). -/
theorem State.unitRead_segment {s : State} {dt g : Nat} {us : List Upset} {lost : Bool} {base : Nat}
    (hbase : base = s.nextUnit .hearthData * 128) (hg : g < 16)
    (hfatal : fatalErrors (base + 8 * g) ≤ errorsAt (s.upset us).ecc (base + 8 * g))
    (hrest : ∀ k, k < 16 → k ≠ g → errorsAt (s.upset us).ecc (base + 8 * k) = 0) (hlow : base < 0x01000000)
    (hret : s.isRetired (base / 1024) = false)
    (hkept : lost = false → ∀ w, w + 8 ≤ e2eMarkAddr → errorsAt (s.upset us).ecc w = 0 →
      errorsAt ((s.atUnit dt us .hearthData).segmentFound (base / 1024) ((base + 8 * g) % 1024 / 8) .smd).ecc w = 0) :
    s.unitRead dt us .hearthData lost = if lost = true then s.atUnit dt us .hearthData
      else (s.atUnit dt us .hearthData).segmentFound (base / 1024) ((base + 8 * g) % 1024 / 8) .smd := by
  have hrow : (base + 8 * g) / 1024 = base / 1024 := by omega
  have hword := State.scrubWord_segment (s := s.atUnit dt us .hearthData) (lost := lost) (a := base + 8 * g) (by omega) hfatal
    (hrow ▸ hret)
  rw [hrow] at hword
  have hmem : base + 8 * g ∈ (List.range 16).map (fun i => base + 8 * i) := List.mem_map_of_mem (List.mem_range.2 hg)
  have hnodup := nodup_unitWords base 16
  have hzero (k : Nat) (hk : k ∈ (List.range 16).map (fun i => base + 8 * i)) (hne : k ≠ base + 8 * g) :
      errorsAt (s.upset us).ecc k = 0 ∧ k + 8 ≤ e2eMarkAddr := by
    obtain ⟨i, hi, rfl⟩ := List.mem_map.1 hk
    have hi := List.mem_range.1 hi
    refine ⟨hrest i hi fun h => hne (by rw [h]), ?_⟩
    unfold e2eMarkAddr persistBase
    omega
  have hwords : s.unitRead dt us .hearthData lost = ((List.range 16).map (fun i => base + 8 * i)).foldl
      (fun s a => s.scrubWord .hearthData lost a) (s.atUnit dt us .hearthData) := by
    rw [State.unitRead, show regionBase .hearthData = 0 from rfl, show unitBytes .hearthData = 128 from rfl, Nat.zero_add, ← hbase]
  obtain ⟨l₁, l₂, hsplit⟩ := List.append_of_mem hmem
  rw [hwords, ← hword]
  rw [hsplit] at hzero hnodup ⊢
  have hnot := List.nodup_middle.1 hnodup
  rw [List.nodup_cons, List.mem_append, not_or] at hnot
  refine State.foldl_scrubWord_one l₁ l₂ (fun k hk => ?_) fun k hk => ?_
  · exact (hzero k (List.mem_append_left _ hk) fun h => hnot.1.1 (h ▸ hk)).1
  · obtain ⟨herr, hk'⟩ := hzero k (List.mem_append_right _ (List.mem_cons_of_mem _ hk)) fun h => hnot.1.2 (h ▸ hk)
    rw [hword]
    cases lost with
    | true => exact herr
    | false => exact hkept rfl k hk' herr

/-- A unit of the hearth tags whose word is bad (R196, R258, R268). -/
theorem State.unitRead_tag {s : State} {dt : Nat} {us : List Upset} {lost : Bool} {base : Nat}
    (hbase : base = 0x01000000 + s.nextUnit .hearthTags * 8) (hlow : base < 0x01080000)
    (hfatal : fatalErrors base ≤ errorsAt (s.upset us).ecc base) :
    s.unitRead dt us .hearthTags lost =
      if s.isRetired ((base - 0x01000000) / 32) || lost then s.atUnit dt us .hearthTags
      else (s.atUnit dt us .hearthTags).tagFound ((base - 0x01000000) / 32) .smd := by
  have hwords : s.unitRead dt us .hearthTags lost = (s.atUnit dt us .hearthTags).scrubWord .hearthTags lost base := by
    rw [State.unitRead, show regionBase .hearthTags = 0x01000000 from rfl, show unitBytes .hearthTags = 8 from rfl, ← hbase]
    rfl
  rw [hwords, State.scrubWord_fatal (s := s.atUnit dt us .hearthTags) (by unfold mramBase; omega) hfatal]
  simp only [State.retiredWord, twoPorts, decide_true, Bool.true_or, Bool.and_true]
  rfl

/-! ### Heals from the vault -/

/-- The tag once one segment is healed (R265). -/
theorem Tag.healed_one (t : Tag) (g : Nat) :
    t.healed [g] = { t with erased := t.erased &&& ~~~(1#128 <<< g), gen := t.gen + 1 } := rfl

/-- A heal from the vault, its words written (R258, R265). -/
theorem State.healVault_healed {s : State} {h : Heal} {lost : Nat} (hs : Memory.wf s.mem) (hr : h.row < 16384)
    (hseg : h.seg < 128) (hbad : s.tagBad h.row = false) (hvalid : (s.tag h.row).valid = true)
    (hspent : (s.tag h.row).spent = false) (herased : (s.tag h.row).isErased h.seg = true)
    (hgen : (s.tag h.row).gen.toNat = h.gen) (hdirty : s.dataDirty h.row = false) (hheld : s.entryHeld h.row = false)
    (hword : s.bad (vaultAddr h.row + 8 * h.seg) = false) (hvault : s.vaultErased h.row h.seg = false) (hlost : lost < 2)
    (hmode : s.mode = .run) :
    let old := s.tag h.row
    let t := s.healVault h lost
    t.smoulder = s.smoulder ∧
    t.tag h.row = { old with erased := old.erased &&& ~~~(1#128 <<< h.seg), gen := old.gen + 1 } ∧
    t.peek (rowAddr h.row + 8 * h.seg) 8 = s.peek (vaultAddr h.row + 8 * h.seg) 8 ∧
    errorsAt t.ecc (rowAddr h.row + 8 * h.seg) = 0 ∧
    (∀ i, i < 8192 → i / 64 ≠ h.seg → (t.row h.row).getLsbD i = (s.row h.row).getLsbD i) ∧
    (∀ g, g < 16384 → g ≠ h.row → t.tag g = s.tag g ∧ t.row g = s.row g) ∧
    s.recordedBoth t 0x0A (memoryPayload 2 .vlt (rowAddr h.row + 8 * h.seg) h.row h.seg (old.erasures - 1) 2) := by
  intro old t
  generalize hbytes : s.peek (vaultAddr h.row + 8 * h.seg) 8 = bytes
  have hlen : bytes.length = 8 := by rw [← hbytes, State.peek, Memory.readBytes_length]
  have ht : t = (s.withHealed h.row (fun _ => bytes) [h.seg]).memoryEvent 0x02 .vlt (rowAddr h.row + 8 * h.seg) h.row h.seg
      (old.healed [h.seg]).erasures 2 := by
    have heq := s.healSegments_eq h.row (fun _ => bytes) (l := [h.seg]) .vlt 2 fun g hg => by
      rw [List.mem_singleton.1 hg, herased]
    rw [if_neg (List.cons_ne_nil _ _)] at heq
    refine (if_neg ?_).trans ((if_neg (not_not.2 hgen)).trans ((if_neg ?_).trans ((if_neg (ne_true_of_eq_false hword)).trans
      ((if_neg ?_).trans ?_))))
    · simp [hbad, hvalid, hspent, herased]
    · simp [hdirty, hheld]
    · simp [hvault, hlost]
    · rw [hbytes]
      exact heq
  have hcount : (old.healed [h.seg]).erasures = old.erasures - 1 := by
    have hmark := old.erasures_markErased hseg false
    rw [show old.isErased h.seg = true from herased, Bool.toNat_true, Bool.toNat_false] at hmark
    exact (show (old.healed [h.seg]).erasures = (old.markErased h.seg false).erasures from rfl).trans (by omega)
  have hwf := State.withHealed_wf h.row (fun _ => bytes) [h.seg] hs
  obtain ⟨htag, hothers, hbits⟩ := State.withHealed_rows (f := fun _ => bytes) (l := [h.seg]) hs hr fun g hg =>
    ⟨List.mem_singleton.1 hg ▸ hseg, hlen⟩
  have hpoke : Memory.wf (s.pokeSegments h.row (fun _ => bytes) [h.seg]).mem := State.pokeSegments_wf _ _ _ hs
  have hapart : rowAddr h.row + 8 * h.seg + 8 ≤ tagAddr h.row := by
    unfold rowAddr tagAddr
    omega
  have hpeek : (s.withHealed h.row (fun _ => bytes) [h.seg]).peek (rowAddr h.row + 8 * h.seg) 8 = bytes := by
    rw [State.peek_of_mem (s.withHealed_mem h.row _ _)]
    exact (State.peek_poke_of_apart _ hpoke (.inl hapart)).trans (s.peek_poke _ hs hlen)
  have herrors : errorsAt (s.withHealed h.row (fun _ => bytes) [h.seg]).ecc (rowAddr h.row + 8 * h.seg) = 0 := by
    rw [State.withHealed, State.markDirty_eq]
    exact State.errorsAt_poke_zero _ _ _ (s.errorsAt_poke_within (bs := bytes) (by omega) (by omega))
  have hfields : ∃ m e, s.withHealed h.row (fun _ => bytes) [h.seg] = { s with
      mem := m, ecc := e, vault := { s.vault with dirty := flagDirty s.vault.dirty h.row true true } } := by
    rw [State.withHealed, State.markDirty_eq]
    exact ⟨_, _, rfl⟩
  have hlow : rowAddr h.row + 8 * h.seg + 8 ≤ e2eMarkAddr := by
    unfold rowAddr e2eMarkAddr persistBase
    omega
  obtain ⟨m, e, hfields⟩ := hfields
  generalize s.withHealed h.row (fun _ => bytes) [h.seg] = u at *
  have hrec := u.memoryEvent_records 0x02 .vlt (rowAddr h.row + 8 * h.seg) h.row h.seg (old.healed [h.seg]).erasures 2
  have hwf' := State.memoryEvent_wf 0x02 .vlt (rowAddr h.row + 8 * h.seg) h.row h.seg (old.healed [h.seg]).erasures 2 hwf
  have hboth := u.memoryEvent_recordedBoth 0x02 .vlt (rowAddr h.row + 8 * h.seg) h.row h.seg (old.healed [h.seg]).erasures 2
    (State.dumpHolds_run _ (by rw [hfields]; exact hmode))
  rw [← ht] at hrec hwf' hboth
  rw [hcount] at hboth
  refine ⟨(congrArg State.smoulder hrec.1 :).trans (by rw [hfields]), (State.records_tag hrec hwf' hwf hr).trans htag,
    (State.records_peek hrec hwf' hwf (.inl hlow)).trans hpeek, State.records_errors_zero hrec hlow herrors,
    fun i hi hne => ?_, fun g hg hne => ⟨?_, ?_⟩, State.recordedBoth_of hboth (by rw [hfields]) (by rw [hfields])⟩
  · rw [State.records_row hrec hwf' hwf hr, hbits i hi, if_neg (by simpa using hne)]
  · exact (State.records_tag hrec hwf' hwf hg).trans (hothers g hg hne).1
  · exact (State.records_row hrec hwf' hwf hg).trans (hothers g hg hne).2

/-- The state from which the oldest heal is served. -/
def State.atHeal (s : State) (dt : Nat) (us : List Upset) (rest : List Heal) : State :=
  { s.upset us with clock := s.clock + dt, smoulder := { s.smoulder with heals := rest } }

theorem exec_vaultHeal {s : State} {dt lost : Nat} {us : List Upset} {h : Heal} {rest : List Heal} (hform : upsetForm us = true)
    (hm : s.mode = .run) (hpause : s.volt.pauseAt = none) (hheals : s.smoulder.heals = h :: rest) :
    (((s.elapse dt).banksFree && !(s.elapse dt).learnWaits (bankOf h.row)) = false →
      exec (.vaultHeal dt us lost) s = .next { s with clock := s.clock + dt }) ∧
    (((s.elapse dt).banksFree && !(s.elapse dt).learnWaits (bankOf h.row)) = true →
      exec (.vaultHeal dt us lost) s = .next ((s.atHeal dt us rest).healVault h lost).settle) := by
  have hcond : ((s.elapse dt).coreRuns && (s.elapse dt).banksFree && (match (s.elapse dt).smoulder.heals with
      | [] => false | h :: _ => !(s.elapse dt).learnWaits (bankOf h.row))) =
      ((s.elapse dt).banksFree && !(s.elapse dt).learnWaits (bankOf h.row)) := by
    rw [show (s.elapse dt).coreRuns = true by simp [State.coreRuns, State.paused, hm, hpause], Bool.true_and,
      State.elapse_smoulder, hheals]
  refine ⟨fun hgap => ?_, fun hgap => ?_⟩
  · exact (eventOf_idle _ _ _ _ s hform (hcond.trans hgap) : execVaultHeal dt us lost s = _)
  · have hexec := (eventOf_next _ _ _ _ s hform (hcond.trans hgap) : execVaultHeal dt us lost s = _)
    dsimp only at hexec
    rw [show ((s.elapse dt).upset us).smoulder.heals = h :: rest from hheals] at hexec
    exact hexec

/-- A learned row belongs to the normal or to the taught partition (R194). -/
theorem State.partition_learned {s : State} {row : Nat} (h : 8192 ≤ row) : s.partition row = 1 ∨ s.partition row = 2 := by
  have := s.libraryRows_le
  unfold State.partition
  rw [if_neg (by omega), if_neg (by omega)]
  split
  · exact .inl rfl
  · exact .inr rfl

/-- A heal that is refused, or whose row has changed, leaves the hearth as it is (R265, R283, R366). -/
theorem State.healVault_refused {s : State} {h : Heal} {lost : Nat} (hs : Memory.wf s.mem) (h1 : 8192 ≤ h.row)
    (hbad : s.tagBad h.row = false) (hvalid : (s.tag h.row).valid = true)
    (hspent : (s.tag h.row).spent = false) (herased : (s.tag h.row).isErased h.seg = true) (hmode : s.mode = .run) :
    let old := s.tag h.row
    let t := s.healVault h lost
    (old.gen.toNat ≠ h.gen → t = { s with smoulder := { s.smoulder with heals := s.smoulder.heals ++
        (if h.again = false ∧ (s.partition h.row = 1 ∨ s.partition h.row = 2) then
          [⟨h.row, h.seg, old.gen.toNat, true⟩] else []) } }) ∧
    (old.gen.toNat = h.gen → s.dataDirty h.row = true ∨ s.entryHeld h.row = true →
      t = { s with vault := { s.vault with dirty := flagDirty s.vault.dirty h.row true true } }) ∧
    (old.gen.toNat = h.gen → s.dataDirty h.row = false → s.entryHeld h.row = false →
      s.bad (vaultAddr h.row + 8 * h.seg) = true → t = s.memoryEvent 0x0A .vlt (vaultAddr h.row + 8 * h.seg) h.row h.seg
        old.erasures 0) := by
  intro old t
  have hlive : t = if old.gen.toNat ≠ h.gen then (if h.again then s else s.startHeal h.row h.seg true)
      else if s.dataDirty h.row || s.entryHeld h.row then s.markDirty h.row true true
      else if s.bad (vaultAddr h.row + 8 * h.seg) then
        s.memoryEvent 0x0A .vlt (vaultAddr h.row + 8 * h.seg) h.row h.seg old.erasures 0
      else if s.vaultErased h.row h.seg || decide (2 ≤ lost) then s
      else s.healSegments h.row [(h.seg, s.peek (vaultAddr h.row + 8 * h.seg) 8)] .vlt 2 :=
    if_neg (by simp [hbad, hvalid, hspent, herased])
  refine ⟨fun hgen => ?_, fun hgen hdirty => ?_, fun hgen hdirty hheld hword => ?_⟩
  · rw [hlive, if_pos hgen]
    cases hagain : h.again with
    | true => rw [if_pos rfl, if_neg (by simp), List.append_nil]
    | false =>
      have hp := s.partition_learned h1
      rw [if_neg Bool.false_ne_true, State.startHeal_vault _ _ hp, if_pos ⟨rfl, hp⟩]
  · rw [hlive, if_neg (not_not.2 hgen), if_pos (by simpa using hdirty), State.markDirty_eq]
  · rw [hlive, if_neg (not_not.2 hgen), if_neg (by simp [hdirty, hheld]), if_pos hword]

/-- A record leaves the hearth and the smoulder as they are, and goes both ways (R265). -/
theorem State.memoryEvent_kept {s : State} (ev : Nat) (m : Master) (addr row seg erased source : Nat) (hs : Memory.wf s.mem)
    (hmode : s.mode = .run) : let t := s.memoryEvent ev m addr row seg erased source
    (∀ g, g < 16384 → t.tag g = s.tag g ∧ t.row g = s.row g) ∧ t.smoulder = s.smoulder ∧
      s.recordedBoth t 0x0A (memoryPayload ev m addr row seg erased source) := by
  have hrec := s.memoryEvent_records ev m addr row seg erased source
  have hwf := State.memoryEvent_wf ev m addr row seg erased source hs
  exact ⟨fun g hg => ⟨State.records_tag hrec hwf hs hg, State.records_row hrec hwf hs hg⟩, (congrArg State.smoulder hrec.1 :),
    s.memoryEvent_recordedBoth ev m addr row seg erased source (s.dumpHolds_run hmode)⟩

/-- Settles O53: the read of a unit without a bad word, with a bad segment and with a bad tag, and the heals from the vault. -/
theorem smoulderHeals : Obligations.SmoulderHeals := by
  unfold Obligations.SmoulderHeals
  intro s dt us hform hm hpause now r
  refine ⟨fun region lost => ?read, fun h rest lost hheals h1 hr hseg hs hbad hvalid hspent herased => ?heal⟩
  case read =>
    intro i p ended unit base moved busy free
    obtain ⟨hidle, hnext⟩ := exec_smoulderRead (dt := dt) hform hm hpause region lost
    refine ⟨fun h => hidle fun ⟨hfree, hdue⟩ => ?_, fun hfree hdue => ⟨fun hgood hne => ?good,
      fun g hregion hg hfatal hrest hs hlow => ?segment, fun hregion hlow hfatal hs => ?tag⟩⟩
    · obtain h | ⟨hended, hlt⟩ := h
      · exact h hfree
      · exact absurd (hdue hended) (not_le.2 hlt)
    case good =>
      obtain ⟨e, heq, hunit, hothers⟩ := State.unitRead_good (dt := dt) (lost := lost) hne (base := base) rfl hgood
      have hexec := hnext hfree hdue
      rw [State.retrySpent_of_ne hne, heq] at hexec
      exact ⟨_, hexec, State.settle_agrees _, hunit, hothers⟩
    case segment =>
      intro row seg old htag hret hvalid hspent herased hfew
      subst hregion
      have hbase : base = s.nextUnit .hearthData * 128 := Nat.zero_add _
      have hspec := State.segmentFound_spec (s := s.atUnit dt us .hearthData) (row := row) (seg := seg) .smd hs (by omega) htag
        hret hvalid hspent herased (by omega) hfew hm
      have haddr : rowAddr row + 8 * seg = base + 8 * g := by
        unfold rowAddr
        omega
      have hexec := hnext hfree hdue
      rw [State.retrySpent_of_ne (by decide), State.unitRead_segment hbase hg hfatal hrest hlow hret fun _ =>
        hspec.2.2.2.2.2.2] at hexec
      refine ⟨fun hlost => ?_, fun hlost => ?_⟩
      · rw [if_pos hlost] at hexec
        exact ⟨_, hexec, State.settle_agrees _⟩
      · rw [if_neg (ne_true_of_eq_false hlost)] at hexec
        obtain ⟨htag', hrow, hothers, hboth, hheals, hqueue, -⟩ := hspec
        rw [haddr] at hboth
        refine ⟨_, hexec, htag', hrow, hothers, hboth, hheals, fun hp hlib hacc hclosed hlen => hqueue hp ?_ hlen⟩
        rw [show (s.atUnit dt us .hearthData).flashOpen = (s.libDeclared && s.lib.accepted && !s.lib.closed) from rfl, hlib,
          hacc, hclosed]
        rfl
    case tag =>
      intro row
      subst hregion
      have hbase : base = 0x01000000 + s.nextUnit .hearthTags * 8 := rfl
      have hrow : row = s.nextUnit .hearthTags / 4 := by omega
      have hexec := hnext hfree hdue
      rw [State.unitRead_tag hbase hlow hfatal] at hexec
      refine ⟨fun hret => ?_, fun hlost => ?_, fun hlost hret => ?_⟩
      · rw [hret, Bool.true_or, if_pos rfl, State.retrySpent_of_retired (hrow ▸ hret)] at hexec
        exact ⟨_, hexec, State.settle_agrees _⟩
      · subst hlost
        rw [Bool.or_true, if_pos rfl] at hexec
        obtain ⟨l, hretry⟩ := (s.atUnit dt us .hearthTags).retrySpent_kept .hearthTags (s.nextUnit .hearthTags)
        rw [hretry] at hexec
        exact ⟨_, hexec, State.settle_agrees _⟩
      · subst hlost
        rw [hret, Bool.or_false, if_neg Bool.false_ne_true] at hexec
        have hr : row < 16384 := by omega
        obtain ⟨htag, htags, hrows⟩ := State.tagFound_rows (s := s.atUnit dt us .hearthTags) hs hr hret .smd
        have hbad := State.tagFound_tagBad (s.atUnit dt us .hearthTags) hret .smd
        have haccums := State.tagFound_accums (s := s.atUnit dt us .hearthTags) hs hr hret .smd
        obtain ⟨l, hretry⟩ := ((s.atUnit dt us .hearthTags).tagFound row .smd).retrySpent_kept .hearthTags
          (s.nextUnit .hearthTags)
        rw [hretry] at hexec
        refine ⟨_, hexec, htag, hbad, hrows row hr, fun k hk hne => ⟨htags k hk hne, hrows k hk⟩, fun a ha hrow => ?_⟩
        have hmem := haccums ▸ ha
        exact absurd hrow (by simpa using (List.mem_filter.1 hmem).2)
  case heal =>
    intro old a stays waits
    obtain ⟨hidle, hnext⟩ := exec_vaultHeal (dt := dt) (lost := lost) hform hm hpause hheals
    have hwaits : ((s.elapse dt).banksFree && !(s.elapse dt).learnWaits (bankOf h.row)) = false ↔ waits :=
      s.gapFree_eq_false_iff dt (bankOf h.row)
    obtain ⟨hchanged, hdirty, hword⟩ := State.healVault_refused (s := s.atHeal dt us rest) (lost := lost) hs h1 hbad hvalid
      hspent herased hm
    refine ⟨fun hwait => hidle (hwaits.2 hwait), fun hfree => ?_⟩
    have hexec := hnext (by simpa using mt hwaits.1 hfree)
    refine ⟨fun hgen hclean hheld hgood hvault hlost => ?healed, fun hgen => ?changed, fun hgen hbusy => ?busy,
      fun hgen hclean hheld hbadWord => ?word⟩
    case healed =>
      obtain ⟨hsmoulder, hspec⟩ := State.healVault_healed (s := s.atHeal dt us rest) hs hr hseg hbad hvalid hspent herased hgen
        hclean hheld hgood hvault hlost hm
      exact ⟨_, hexec, (congrArg Smoulder.heals hsmoulder :), hspec⟩
    case changed =>
      rw [hchanged hgen] at hexec
      exact ⟨_, hexec, fun _ _ => ⟨rfl, rfl⟩, rfl⟩
    case busy =>
      rw [hdirty hgen hbusy] at hexec
      refine ⟨_, hexec, State.settle_agrees _, rfl, ?_⟩
      obtain ⟨d, hd, hrow, hdata, htag⟩ := flagDirty_any (l := s.vault.dirty) (data := true) (tag := true) h1
      refine List.any_eq_true.2 ⟨d, hd, ?_⟩
      rw [hdata rfl, htag rfl, decide_eq_true hrow]
      rfl
    case word =>
      rw [hword hgen hclean hheld hbadWord] at hexec
      obtain ⟨hrows, hsmoulder, hboth⟩ := State.memoryEvent_kept (s := s.atHeal dt us rest) 0x0A .vlt a h.row h.seg old.erasures 0
        hs hm
      exact ⟨_, hexec, hrows, (congrArg Smoulder.heals hsmoulder :), hboth⟩

end Sys2Proof.Machine
end

section
/-! Row writes in their gaps, held fleet frames and stray accesses (R17, R214, R220, R222, R224, R226, R233, R258, R260, R261,
R268, R276, R350). -/

namespace Sys2Proof.Machine

/-! ### A row that takes new contents -/

theorem State.writeRow_kept (s : State) (row : Nat) (v : HV) (t : Tag) :
    ∃ m e, s.writeRow row v t = { s with mem := m, ecc := e } := ⟨_, _, rfl⟩

/-- New contents but for the data and tag: the flags, the accumulator and the life of the row (R214, R219, R276). -/
def State.rowRenewed (s : State) (row : Nat) (m : List Host.Cell) (e : List (Nat × Nat)) : State :=
  { s with
    mem := m, ecc := e, vault := { s.vault with dirty := flagDirty s.vault.dirty row true true }
    learn := { s.learn with
      accums := s.learn.accums.filter (fun a => !decide (a.row = row))
      lives := setSparse s.learn.lives row (sparse s.learn.lives row + 1) } }

theorem State.newRow_eq (s : State) (row : Nat) (v : HV) (t : Tag) : ∃ m e, s.newRow row v t = s.rowRenewed row m e ∧
    m = ((s.freeAccum row).writeRow row v t).mem := by
  obtain ⟨m, e, hkept⟩ := (s.freeAccum row).writeRow_kept row v t
  unfold State.newRow
  rw [State.markDirty_eq, hkept]
  exact ⟨m, e, rfl, rfl⟩

/-- What a write of new contents leaves of the state (R214, R219, R276). -/
def State.rowTaken (s t : State) (row : Nat) (v : HV) (new : Tag) : Prop :=
  (∀ g, g < 16384 → g ≠ row → t.tag g = s.tag g ∧ t.row g = s.row g) ∧ t.tag row = new ∧ t.row row = v ∧
  (8192 ≤ row → t.vault.dirty.any (fun d => decide (d.row = row) && d.data && d.tag) = true) ∧
  (∀ a ∈ t.learn.accums, a.row ≠ row) ∧ t.flue = s.flue ∧ t.ash = s.ash ∧ t.hearth = s.hearth ∧ t.ticks = s.ticks

theorem State.newRow_taken {s : State} {row : Nat} (hs : Memory.wf s.mem) (hr : row < 16384) (v : HV) (new : Tag) :
    s.rowTaken (s.newRow row v new) row v new := by
  obtain ⟨m, e, heq, hmem⟩ := s.newRow_eq row v new
  rw [heq]
  have hmem : (s.rowRenewed row m e).mem = ((s.freeAccum row).writeRow row v new).mem := hmem
  have hfree : (s.freeAccum row).mem = s.mem := rfl
  refine ⟨fun g hg hne => ⟨?_, ?_⟩, ?_, ?_, fun hlearned => ?_, fun a ha => ?_, rfl, rfl, rfl, rfl⟩
  · rw [State.tag_of_mem hmem, State.tag_writeRow_of_ne _ _ _ (hfree ▸ hs) hr hne, State.tag_of_mem hfree]
  · rw [State.row_of_mem hmem, State.row_writeRow_of_ne _ _ _ (hfree ▸ hs) hg hne, State.row_of_mem hfree]
  · rw [State.tag_of_mem hmem, State.tag_writeRow _ _ _ _ (hfree ▸ hs)]
  · rw [State.row_of_mem hmem, State.row_writeRow _ _ _ (hfree ▸ hs) hr]
  · obtain ⟨d, hd, hrow, hdata, htag⟩ := flagDirty_any (l := s.vault.dirty) (data := true) (tag := true) hlearned
    refine List.any_eq_true.2 ⟨d, hd, ?_⟩
    rw [hdata rfl, htag rfl, decide_eq_true hrow]
    rfl
  · simpa using (List.mem_filter.1 ha).2

/-! ### The write that lands -/

/-- The pending write has left its queue (R226). -/
def State.withoutWrite (s : State) (l : List (Nat × RowOp)) : State := { s with learn := { s.learn with writes := l } }

theorem State.landWrite_eq {s : State} {wb wa : List (Nat × RowOp)} {tick bank : Nat} {w : RowOp}
    (hwrites : s.learn.writes = wb ++ (tick, w) :: wa) (hbank : bankOf w.row = bank)
    (hbefore : ∀ y ∈ wb, bankOf y.2.row ≠ bank) (hfirst : ∀ y ∈ s.learn.writes, tick ≤ y.1)
    (hdue : ∀ a ∈ s.learn.accums, ∀ d, a.due = some d → tick ≤ d) :
    s.landing bank = some (tick, w) ∧ s.landWrite bank = (s.withoutWrite (wb ++ wa)).land w := by
  have hfind : s.learn.writes.find? (fun w => decide (bankOf w.2.row = bank)) = some (tick, w) := by
    rw [hwrites, List.find?_append, List.find?_eq_none.2 fun y hy => by simpa using hbefore y hy, Option.none_or]
    exact List.find?_cons_of_pos (by simpa using hbank)
  have hlanding : s.landing bank = some (tick, w) := by
    unfold State.landing
    rw [hfind]
    exact if_neg (ne_true_of_eq_false (State.earlierWaits_eq_false hfirst fun a ha d hd _ => hdue a ha d hd))
  refine ⟨hlanding, ?_⟩
  unfold State.landWrite
  rw [hlanding]
  dsimp only
  rw [hwrites, List.erase_append_right _ fun hmem => hbefore _ hmem hbank, List.erase_cons_head]
  rfl

/-- A waiting borrow once the generation of its row is known (R350). -/
def noted (row gen : Nat) (w : Nat × RowOp) : Nat × RowOp :=
  match w.2 with
  | .borrow r g mu delta radius => if r = row then (w.1, .borrow r (some (g.getD gen)) mu delta radius) else w
  | _ => w

theorem noted_kept (row gen : Nat) (w : Nat × RowOp) : (noted row gen w).1 = w.1 ∧ (noted row gen w).2.row = w.2.row := by
  obtain ⟨n, op⟩ := w
  cases op with
  | borrow r g mu delta radius =>
    unfold noted
    dsimp only
    split <;> exact ⟨rfl, rfl⟩
  | _ => exact ⟨rfl, rfl⟩

/-- A spawn lands, and the borrows of its row learn its generation (R220, R350). -/
theorem State.land_spawn {s : State} {row scope bin radius mu delta : Nat} {v : HV} (hs : Memory.wf s.mem) (hr : row < 16384) :
    let t := s.land (.spawn row v scope bin radius mu delta)
    s.rowTaken t row v (spawnTag (s.tag row) scope bin radius mu delta) ∧
    t.learn.writes.map Prod.fst = s.learn.writes.map Prod.fst ∧
    t.learn.writes.map (fun y => y.2.row) = s.learn.writes.map (fun y => y.2.row) ∧
    sparse t.learn.spawned row = s.runSeconds ∧ ∀ q ∈ t.fleet.queries, q.row = row → q.kind = 2 → q.gen ≠ none := by
  obtain ⟨hothers, htag, hrow, hdirty, haccums, hflue, hash, hhearth, hticks⟩ :=
    State.newRow_taken hs hr v (spawnTag (s.tag row) scope bin radius mu delta)
  obtain ⟨m, e, heq, -⟩ := s.newRow_eq row v (spawnTag (s.tag row) scope bin radius mu delta)
  have hwrites : (s.newRow row v (spawnTag (s.tag row) scope bin radius mu delta)).learn.writes = s.learn.writes := by
    rw [heq] <;> rfl
  have hseconds : (s.newRow row v (spawnTag (s.tag row) scope bin radius mu delta)).runSeconds = s.runSeconds := by
    rw [heq] <;> rfl
  unfold State.land
  dsimp only [RowOp.row]
  generalize spawnTag (s.tag row) scope bin radius mu delta = new at *
  generalize s.newRow row v new = u at *
  have hlearn : (u.noteSpawn row new.gen.toNat).learn.writes = s.learn.writes.map (noted row new.gen.toNat) := by
    rw [← hwrites]
    rfl
  refine ⟨⟨hothers, htag, hrow, hdirty, haccums, hflue, hash, hhearth, hticks⟩, ?_, ?_, ?_, fun q hq hqrow hkind => ?_⟩
  · refine (congrArg (List.map Prod.fst) hlearn).trans ?_
    rw [List.map_map]
    exact List.map_congr_left fun w _ => (noted_kept row new.gen.toNat w).1
  · refine (congrArg (List.map fun y : Nat × RowOp => y.2.row) hlearn).trans ?_
    rw [List.map_map]
    exact List.map_congr_left fun w _ => (noted_kept row new.gen.toNat w).2
  · refine (sparse_setSparse _ row _ row).trans ((if_pos rfl).trans hseconds)
  · obtain ⟨x, -, rfl⟩ := List.mem_map.1 hq
    split at hqrow
    next h => rw [if_pos h] <;> exact Option.some_ne_none _
    next h =>
      rw [if_neg h] at hkind
      exact absurd ⟨hqrow, hkind⟩ h

theorem clampInt_eq {lo hi n : Int} (h : lo ≤ hi) : clampInt lo hi n = max lo (min hi n) := by
  unfold clampInt
  split_ifs <;> omega

/-- The statistics of an admission (R222). -/
theorem Tag.admitted_eq (t : Tag) (dn : Nat) :
    let err : Int := 4 * (dn : Int) - t.mu.toNat
    let mu := max 0 (min 16383 ((t.mu.toNat : Int) + (err + 16) / 32))
    let delta := max 0 (min 4095 ((t.delta.toNat : Int) + ((err.natAbs : Int) - t.delta.toNat + 16) / 32))
    t.admitted dn = { t with
      hits := BitVec.ofNat 16 (min 65535 (t.hits.toNat + 1)), mu := BitVec.ofInt 14 mu
      delta := BitVec.ofInt 12 delta, radius := BitVec.ofInt 14 (min 2560 ((mu + 6 * delta) / 4 + 64)) } := by
  intro err mu delta
  unfold Tag.admitted
  dsimp only
  rw [clampInt_eq (by decide), clampInt_eq (by decide), satTo_eq_min]
  rfl

/-- What a write to a tag alone leaves (R222, R350). -/
def State.tagTaken (s t : State) (row : Nat) (new : Tag) : Prop :=
  (∀ g, g < 16384 → g ≠ row → t.tag g = s.tag g ∧ t.row g = s.row g) ∧ t.tag row = new ∧ t.row row = s.row row ∧
  t.hearth = s.hearth ∧ t.ticks = s.ticks ∧ t.learn.writes = s.learn.writes

theorem State.setTag_taken {s : State} {row : Nat} (hs : Memory.wf s.mem) (hr : row < 16384) (new : Tag) :
    s.tagTaken (s.setTag row new) row new :=
  ⟨fun g hg hne => ⟨s.tag_setTag_of_ne new hs hne, s.row_setTag new hs hg⟩, s.tag_setTag row new hs, s.row_setTag new hs hr,
    rfl, rfl, rfl⟩

theorem State.tagFound_taken {s : State} {row : Nat} (hs : Memory.wf s.mem) (hr : row < 16384)
    (hret : s.isRetired row = false) (m : Master) : s.tagTaken (s.tagFound row m) row (spentTag (s.partition row)) := by
  obtain ⟨htag, htags, hrows⟩ := State.tagFound_rows hs hr hret m
  obtain ⟨hrec, -⟩ := State.tagFound_records hs hr hret m
  obtain ⟨l, heq⟩ := s.withSpentTag_eq row
  rw [heq] at hrec
  exact ⟨fun g hg hne => ⟨htags g hg hne, hrows g hg⟩, htag, hrows row hr, (congrArg State.hearth hrec.1 :),
    (congrArg State.ticks hrec.1 :), (congrArg (fun u : State => u.learn.writes) hrec.1 :)⟩

theorem State.land_admission {s : State} {row : Nat} (dn : Nat) (hbad : s.tagBad row = false)
    (hvalid : (s.tag row).valid = true) (hspent : (s.tag row).spent = false) :
    s.land (.admission row dn) = s.setTag row ((s.tag row).admitted dn) := by
  unfold State.land
  dsimp only [RowOp.row]
  rw [if_neg (ne_true_of_eq_false hbad), hvalid, hspent]
  exact if_pos rfl

theorem State.land_borrow {s : State} {row : Nat} (gen : Option Nat) (mu delta radius : Nat) (hbad : s.tagBad row = false) :
    s.land (.borrow row gen mu delta radius) =
      if (s.tag row).valid = true ∧ (s.tag row).spent = false ∧ gen = some (s.tag row).gen.toNat ∧ (s.tag row).hits = 0 then
        s.setTag row { s.tag row with
          mu := BitVec.ofNat 14 mu, delta := BitVec.ofNat 12 delta, radius := BitVec.ofNat 14 radius }
      else s := by
  unfold State.land
  dsimp only [RowOp.row]
  rw [if_neg (ne_true_of_eq_false hbad)]
  exact if_congr (by simp only [Bool.and_eq_true, Bool.not_eq_true', decide_eq_true_eq, and_assoc]) rfl rfl

/-- A tag that cannot be read makes its row spent, whatever was to be written (R268). -/
theorem State.land_bad {s : State} {w : RowOp}
    (hw : (∃ row dn, w = .admission row dn) ∨ (∃ row gen mu delta radius, w = .borrow row gen mu delta radius))
    (hbad : s.tagBad w.row = true) : s.land w = s.tagFound w.row .lrn := by
  unfold State.land
  obtain ⟨row, dn, rfl⟩ | ⟨row, gen, mu, delta, radius, rfl⟩ := hw
  · exact if_pos hbad
  · exact if_pos hbad

/-! ### The gaps -/

/-- A gap with no write to land, and no frame that waits, leaves the state as it is. -/
theorem exec_rowWrite_idle {s : State} {dt lost : Nat} {bank : Fin 256}
    (h : s.clock + dt < s.hearth.scanEnd ∨ (s.fleet.held = [] ∧
      (s.burst = true ∨ ∀ y ∈ s.learn.writes, bankOf y.2.row ≠ bank.val))) :
    exec (.rowWrite dt bank lost none) s = .next { s with clock := s.clock + dt } := by
  refine (event_idle _ _ _ s ?_ : execRowWrite dt bank lost none s = _)
  obtain h | ⟨hheld, h⟩ := h
  · simp [State.banksFree, not_le.2 h]
  · have hland : (s.elapse dt).mayLand bank.val = false := by
      obtain h | h := h
      · rw [State.mayLand, show (s.elapse dt).burst = true from h]
        rfl
      · rw [State.mayLand, State.landing, List.find?_eq_none.2 fun y hy => by simpa using h y hy]
        exact Bool.and_false _
    rw [hland, show (s.elapse dt).fleet.held = [] from hheld]
    simp

/-- In a gap the oldest write of the bank lands (R17, R214). -/
theorem exec_rowWrite_lands {s : State} {dt lost tick : Nat} {bank : Fin 256} {wb wa : List (Nat × RowOp)} {w : RowOp}
    (hm : s.mode = .run) (hpause : s.volt.pauseAt = none) (hburst : s.burst = false) (hscan : s.hearth.scanEnd ≤ s.clock + dt)
    (hwrites : s.learn.writes = wb ++ (tick, w) :: wa) (hbank : bankOf w.row = bank.val)
    (hbefore : ∀ y ∈ wb, bankOf y.2.row ≠ bank.val) (hfirst : ∀ y ∈ s.learn.writes, tick ≤ y.1)
    (hdue : ∀ a ∈ s.learn.accums, ∀ d, a.due = some d → tick ≤ d) :
    exec (.rowWrite dt bank lost none) s = .next (((s.elapse dt).withoutWrite (wb ++ wa)).land w).settle := by
  obtain ⟨hlanding, hland⟩ := State.landWrite_eq (s := s.elapse dt) hwrites hbank hbefore hfirst hdue
  have hcore : ((s.elapse dt).coreRuns && (s.elapse dt).banksFree) = true := by
    simp [State.coreRuns, State.paused, State.banksFree, hm, hpause, hscan]
  have hmay : (s.elapse dt).mayLand bank.val = true := by
    rw [State.mayLand, hlanding, show (s.elapse dt).burst = false from hburst]
    rfl
  have hexec := (event_next _ _ _ s (by rw [hcore, hmay]; rfl) : execRowWrite dt bank lost none s = _)
  dsimp only at hexec
  rw [hcore, hmay, hland] at hexec
  exact hexec

/-- A sweep of a free slot frees every row that holds it (R354, R357). -/
theorem exec_rowWrite_sweep {s : State} {dt lost : Nat} {bank : Fin 256} {h : HeldFrame} {rest : List HeldFrame}
    (hm : s.mode = .run) (hpause : s.volt.pauseAt = none) (hheld : s.fleet.held = h :: rest)
    (hscan : s.hearth.scanEnd ≤ s.clock + dt) (hbank : ∀ y ∈ s.learn.writes, bankOf y.2.row ≠ bank.val)
    (hdue : ∀ a ∈ s.learn.accums, a.due = none) (hstate : byteAt h.frame.payload 0 = 0) (htype : trafficType h.frame.cls = 4)
    (hlen : h.frame.payload.length = 16) (hon : s.ringOn = true) (hclash : s.ring.clashAt = none)
    (hslot : fieldAt h.frame.payload 2 2 < 1024) (hseed : fieldAt h.frame.payload 12 4 = s.seedHash)
    (hclass : byteAt h.frame.payload 1 = s.mclass)
    (hserial : 0 ≤ serial32 (fieldAt h.frame.payload 8 4) (sparse s.vault.fleetSeq h.frame.src)) :
    exec (.rowWrite dt bank lost none) s = .next (State.freeSlot { s.elapse dt with fleet := { s.fleet with held := rest } }
      h.frame.src (fieldAt h.frame.payload 2 2)).settle := by
  have hcore : ((s.elapse dt).coreRuns && (s.elapse dt).banksFree) = true := by
    simp [State.coreRuns, State.paused, State.banksFree, hm, hpause, hscan]
  have hland : (s.elapse dt).mayLand bank.val = false := by
    rw [State.mayLand, State.landing, List.find?_eq_none.2 fun y hy => by simpa using hbank y hy]
    exact Bool.and_false _
  have hwaits : (s.elapse dt).learnWaits bank.val = false := by
    rw [State.learnWaits, List.any_eq_false.2 fun y hy => by simpa using hbank y hy, Bool.false_or, Bool.and_eq_false_iff]
    refine .inr (List.any_eq_false.2 fun a ha => ?_)
    rw [hdue a ha]
    exact Bool.false_ne_true
  have hexec := (event_next _ _ _ s (by
    rw [hcore, hland, show (s.elapse dt).fleet.held = h :: rest from hheld]; rfl) : execRowWrite dt bank lost none s = _)
  dsimp only at hexec
  rw [hcore, hland, hwaits] at hexec
  refine hexec.trans (congrArg (fun u : State => Host.Outcome.next u.settle) ?_)
  have hmay : State.mayOriginate { s.elapse dt with fleet := { s.fleet with held := rest } } = true := by
    show (s.ringOn && decide (s.mode = .run) && s.ring.clashAt.isNone) = true
    rw [hon, hm, hclash]
    rfl
  have happly : (s.elapse dt).landHeld lost = State.sweepFrame { s.elapse dt with fleet := { s.fleet with held := rest } }
      h.port h.frame lost := by
    unfold State.landHeld
    rw [show (s.elapse dt).fleet.held = h :: rest from hheld]
    exact if_neg (by rw [htype]; decide)
  refine happly.trans ((if_neg ?_).trans ((if_neg (not_lt.2 hserial)).trans (if_pos hstate)))
  rw [hmay, hstate, hlen, decide_eq_true hslot, State.matches_]
  have hhash : decide (fieldAt h.frame.payload 12 4 = State.seedHash { s.elapse dt with
    fleet := { s.fleet with held := rest } }) = true := decide_eq_true hseed
  have hown : decide (byteAt h.frame.payload 1 = State.mclass { s.elapse dt with
    fleet := { s.fleet with held := rest } }) = true := decide_eq_true hclass
  rw [hhash, hown]
  simp

/-! ### Stray accesses -/

/-- The masters run in BIST, LOAD, CONFIG_FAULT, FAULT and RUN (R260). -/
theorem State.mastersRun_of {s : State} (hpause : s.volt.pauseAt = none)
    (h : s.mode = .bist ∨ s.mode = .load ∨ s.mode = .configFault ∨ s.mode = .fault ∨ s.mode = .run) :
    s.mastersRun = true := by
  unfold State.mastersRun State.paused
  obtain h | h | h | h | h := h <;> rw [h, hpause] <;> rfl

/-- With no write that may land and no frame that waits, a gap does nothing. -/
theorem State.gap_of_burst {u : State} {bank lost : Nat} (h : u.mode ≠ .run ∨ (u.burst = true ∧ u.fleet.held = [])) :
    (if !(u.coreRuns && u.banksFree) then u
      else if u.mayLand bank then u.landWrite bank
      else if u.learnWaits bank then u else u.landHeld lost) = u := by
  obtain hm | ⟨hburst, hheld⟩ := h
  · rw [State.coreRuns, decide_eq_false hm]
    rfl
  · rw [State.mayLand, hburst, State.landHeld, hheld]
    split
    · rfl
    · exact (if_neg Bool.false_ne_true).trans (ite_self _)

/-- A gap in which an access strays, outside RUN or in a burst, does what the access does (R260, R261). -/
theorem exec_rowWrite_stray {s : State} {dt lost : Nat} {bank : Fin 256} {x : Access} (hrun : (s.elapse dt).mastersRun = true)
    (h : ((s.elapse dt).violate x).mode ≠ .run ∨
      (((s.elapse dt).violate x).burst = true ∧ ((s.elapse dt).violate x).fleet.held = [])) :
    exec (.rowWrite dt bank lost (some x)) s = .next ((s.elapse dt).violate x).settle := by
  have hexec := (event_next _ _ _ s (by rw [hrun]; rfl) : execRowWrite dt bank lost (some x) s = _)
  dsimp only at hexec
  rw [State.gap_of_burst h] at hexec
  exact hexec

/-- An event that changes nothing lets its time pass, whether or not its condition holds. -/
theorem event_still {dt : Nat} {cond : State → Bool} {effect : State → State} {s : State}
    (h : effect (s.elapse dt) = s.elapse dt) :
    ∃ t, event dt cond effect s = .next t ∧ t.agrees { s with clock := s.clock + dt } := by
  cases hc : cond (s.elapse dt) with
  | true => exact ⟨_, event_next dt cond effect s hc, h.symm ▸ State.settle_agrees (s.elapse dt)⟩
  | false => exact ⟨_, event_idle dt cond effect s hc, rfl⟩

/-- An access inside its window is no violation (R260). -/
theorem exec_rowWrite_inside {s : State} {dt lost : Nat} {bank : Fin 256} {x : Access} (hopen : s.windowOpen x = true)
    (h : s.mode ≠ .run ∨ (s.burst = true ∧ s.fleet.held = [])) :
    ∃ t, exec (.rowWrite dt bank lost (some x)) s = .next t ∧ t.agrees { s with clock := s.clock + dt } := by
  have hnone : (s.elapse dt).violate x = s.elapse dt := if_pos hopen
  refine (event_still ?_ : ∃ t, execRowWrite dt bank lost (some x) s = .next t ∧ t.agrees _)
  dsimp only
  rw [hnone]
  exact State.gap_of_burst h

/-! ### What a stray access does -/

theorem Ash.offer_waiting (a : Ash) (clock type time : Nat) (payload : List Byte) :
    ∃ rest, (a.offer clock type time payload).waiting = a.waiting ++ rest := by
  unfold Ash.offer
  dsimp only
  split
  · exact ⟨_, rfl⟩
  · split
    · exact ⟨_, rfl⟩
    · exact ⟨[], (List.append_nil _).symm⟩

theorem State.memoryEvent_waiting (s : State) (ev : Nat) (m : Master) (addr row seg erased source : Nat) :
    ∃ rest, (s.memoryEvent ev m addr row seg erased source).ash.waiting = s.ash.waiting ++ rest := by
  unfold State.memoryEvent
  dsimp only
  split
  · refine ⟨[], ?_⟩
    rw [List.append_nil]
    obtain ⟨-, ha⟩ | ⟨-, ha⟩ := (s.routeFlue _).routeAsh_cases _ <;>
      obtain ⟨-, hf⟩ | ⟨-, hf⟩ := s.routeFlue_cases _ <;> rw [ha, hf] <;> rfl
  · obtain ⟨rest, h⟩ := Ash.offer_waiting (s.report 0x0A s.ts (memoryPayload ev m addr row seg erased source) 1).ash
      (s.report 0x0A s.ts (memoryPayload ev m addr row seg erased source) 1).clock 0x0A s.ts
      (memoryPayload ev m addr row seg erased source)
    exact ⟨rest, h.trans (by rw [State.report_ash])⟩

/-- A find of a tag adds to what waits for the ash (R268). -/
theorem State.tagFound_waiting (s : State) (row : Nat) (m : Master) :
    ∃ rest, (s.tagFound row m).ash.waiting = s.ash.waiting ++ rest := by
  unfold State.tagFound
  split
  · exact ⟨[], (List.append_nil _).symm⟩
  · dsimp only
    have hash : ((s.setTag row (spentTag (s.partition row))).markDirty row false true).ash = s.ash := by
      rw [State.markDirty_eq] <;> rfl
    generalize (s.setTag row (spentTag (s.partition row))).markDirty row false true = u at *
    obtain ⟨l₁, h₁⟩ := u.memoryEvent_waiting 0x08 m (tagAddr row) row 0xFF 0 0
    obtain ⟨l₂, h₂⟩ := (u.memoryEvent 0x08 m (tagAddr row) row 0xFF 0 0).memoryEvent_waiting 0x03 m (tagAddr row) row 0xFF 0 0
    refine ⟨l₁ ++ l₂, ?_⟩
    rw [h₁, hash, List.append_assoc] at h₂
    split
    · unfold State.requestRow
      rw [State.request_lib]
      exact h₂
    · exact h₂

/-- What decides whether a gap has work is as it was. -/
def State.sameGap (t s : State) : Prop := t.mode = s.mode ∧ t.ticks = s.ticks ∧ t.fleet.held = s.fleet.held

theorem State.sameGap.idle {t s : State} (h : t.sameGap s) (hidle : s.mode ≠ .run ∨ (s.burst = true ∧ s.fleet.held = [])) :
    t.mode ≠ .run ∨ (t.burst = true ∧ t.fleet.held = []) := by
  obtain ⟨hmode, hticks, hheld⟩ := h
  rw [hmode, hheld, State.burst, hticks]
  exact hidle

theorem State.agreesButRecords_sameGap {t s : State} (h : t.agreesButRecords s) : t.sameGap s :=
  ⟨(congrArg State.mode h.1 :), (congrArg State.ticks h.1 :), (congrArg (fun u : State => u.fleet.held) h.1 :)⟩

/-- A blocked access is recorded (R261). -/
theorem State.violate_records {s : State} {x : Access} (hclosed : s.windowOpen x = false)
    (hkind : x.write = true ∨ regionOf x.addr = none ∨ regionOf x.addr = some .ash) :
    s.violate x = s.memoryEvent 0x07 x.master x.addr 0xFFFF 0xFF 0 0 := by
  refine (if_neg (ne_true_of_eq_false hclosed)).trans ?_
  obtain h | h | h := hkind
  · exact if_pos h
  · dsimp only
    rw [h]
    exact ite_self _
  · dsimp only
    rw [h]
    exact ite_self _

theorem State.violate_tag {s : State} {x : Access} (hclosed : s.windowOpen x = false) (hread : x.write = false)
    (hregion : regionOf x.addr = some .hearthTags) : s.violate x =
      (s.memoryEvent 0x07 x.master x.addr 0xFFFF 0xFF 0 0).tagFound ((x.addr - 0x01000000) / 32) x.master := by
  refine (if_neg (ne_true_of_eq_false hclosed)).trans ((if_neg (ne_true_of_eq_false hread)).trans ?_)
  rw [hregion]
  rfl

/-- A blocked read of a tag is a find of its row (R261, R268). -/
theorem State.violate_tag_spec {s : State} {x : Access} (hclosed : s.windowOpen x = false) (hread : x.write = false)
    (hregion : regionOf x.addr = some .hearthTags) (hret : s.isRetired ((x.addr - 0x01000000) / 32) = false)
    (hs : Memory.wf s.mem) :
    let row := (x.addr - 0x01000000) / 32
    let t := s.violate x
    t.tag row = { cls := BitVec.ofNat 2 (s.partition row), spent := true } ∧
    (∃ rest, t.ash.waiting = s.ash.waiting ++ rest) ∧
    (∀ g, g < 16384 → g ≠ row → t.tag g = s.tag g ∧ t.row g = s.row g) ∧ t.sameGap s := by
  intro row t
  have hrange : 0x01000000 ≤ x.addr ∧ x.addr < 0x01000000 + 0x00080000 := by
    have h := List.find?_some hregion
    rwa [Bool.and_eq_true, decide_eq_true_eq, decide_eq_true_eq] at h
  have hr : row < 16384 := by omega
  have ht : t = (s.memoryEvent 0x07 x.master x.addr 0xFFFF 0xFF 0 0).tagFound row x.master :=
    State.violate_tag hclosed hread hregion
  have hrec := s.memoryEvent_records 0x07 x.master x.addr 0xFFFF 0xFF 0 0
  have hwf := State.memoryEvent_wf 0x07 x.master x.addr 0xFFFF 0xFF 0 0 hs
  obtain ⟨l₁, h₁⟩ := s.memoryEvent_waiting 0x07 x.master x.addr 0xFFFF 0xFF 0 0
  generalize s.memoryEvent 0x07 x.master x.addr 0xFFFF 0xFF 0 0 = u at *
  have hret' : u.isRetired row = false := by
    rw [← hret, State.isRetired, hrec.1]
    rfl
  have hpart : u.partition row = s.partition row := by
    rw [State.partition, State.partition, hrec.1]
    rfl
  obtain ⟨htag, htags, hrows⟩ := State.tagFound_rows hwf hr hret' x.master
  obtain ⟨l₂, h₂⟩ := u.tagFound_waiting row x.master
  obtain ⟨hfound, -⟩ := State.tagFound_records hwf hr hret' x.master
  obtain ⟨l, heq⟩ := u.withSpentTag_eq row
  rw [heq] at hfound
  obtain ⟨hmode, hticks, hheld⟩ := State.agreesButRecords_sameGap hfound
  obtain ⟨hmode', hticks', hheld'⟩ := State.agreesButRecords_sameGap hrec
  rw [ht]
  refine ⟨htag.trans (by rw [hpart] <;> rfl), ⟨l₁ ++ l₂, by rw [h₂, h₁, List.append_assoc]⟩, fun g hg hne =>
    ⟨(htags g hg hne).trans (State.records_tag hrec hwf hs hg), (hrows g hg).trans (State.records_row hrec hwf hs hg)⟩,
    hmode.trans hmode', hticks.trans hticks', hheld.trans hheld'⟩

/-- Settles O52: the write that lands by its kind, the held sweep, and the stray access by what it reads. -/
theorem rowWrites : Obligations.RowWrites := by
  unfold Obligations.RowWrites
  intro s dt lost bank now
  refine ⟨fun hm hpause => ⟨fun h => exec_rowWrite_idle h, ?held⟩, ?lands, fun x hopen h => exec_rowWrite_inside hopen h,
    ?stray⟩
  case held =>
    intro h rest hheld hscan hbank hdue hstate htype hlen hon hclash hslot hseed hclass hserial hs
    obtain ⟨-, hrow, hin, hout⟩ := State.foldl_editTag (f := fun _ => freedTag 3) (fun _ => rfl)
      (v := { s.elapse dt with fleet := { s.fleet with held := rest } })
      (s.holders h.frame.src (fieldAt h.frame.payload 2 2)) hs
    have hfields := State.foldl_editTag_fields (fun _ => freedTag 3)
      (s.holders h.frame.src (fieldAt h.frame.payload 2 2)) { s.elapse dt with fleet := { s.fleet with held := rest } }
    refine ⟨_, exec_rowWrite_sweep hm hpause hheld hscan hbank hdue hstate htype hlen hon hclash hslot hseed hclass hserial,
      (congrArg State.fleet hfields :), fun g hg => ⟨hrow g hg, ?_⟩⟩
    split
    next hmem => exact hin g hmem
    next hmem => exact hout g hmem
  case lands =>
    intro wb wa tick w hm hpause hburst hscan hwrites hbank hbefore hfirst hdue hr hs old others written
    have hexec := exec_rowWrite_lands (lost := lost) hm hpause hburst hscan hwrites hbank hbefore hfirst hdue
    refine ⟨?spawn, ?taught, ?admission, ?borrow, fun hkind hbad hret => ?bad⟩
    case spawn =>
      rintro row v scope bin radius mu delta rfl
      obtain ⟨⟨hothers, htag, hrow, hdirty, haccums, hflue, hash, hhearth, hticks⟩, hfst, hrows, hspawned, hgen⟩ :=
        State.land_spawn (s := (s.elapse dt).withoutWrite (wb ++ wa)) (row := row) (scope := scope) (bin := bin)
          (radius := radius) (mu := mu) (delta := delta) (v := v) hs hr
      exact ⟨_, ⟨hexec, ⟨hhearth, hticks, hfst, hrows, hothers⟩, htag, hrow, hdirty, haccums, hflue, hash⟩, hspawned, hgen⟩
    case taught =>
      rintro row v bin label severity radius mu delta originId slot rfl
      obtain ⟨hothers, htag, hrow, hdirty, haccums, hflue, hash, hhearth, hticks⟩ := State.newRow_taken
        (s := (s.elapse dt).withoutWrite (wb ++ wa)) (row := row) hs hr v
        (taughtTag (s.tag row) bin label severity radius mu delta originId slot)
      obtain ⟨m, e, heq, -⟩ := ((s.elapse dt).withoutWrite (wb ++ wa)).newRow_eq row v
        (taughtTag (s.tag row) bin label severity radius mu delta originId slot)
      have hlearn := congrArg (fun u : State => u.learn) heq
      have hland : ((s.elapse dt).withoutWrite (wb ++ wa)).land
          (.taught row v bin label severity radius mu delta originId slot) = ((s.elapse dt).withoutWrite (wb ++ wa)).newRow row v
          (taughtTag (s.tag row) bin label severity radius mu delta originId slot) := rfl
      rw [hland] at hexec
      generalize ((s.elapse dt).withoutWrite (wb ++ wa)).newRow row v
        (taughtTag (s.tag row) bin label severity radius mu delta originId slot) = u at *
      have hw : u.learn.writes = wb ++ wa := congrArg Learn.writes hlearn
      have hspawned : u.learn.spawned = s.learn.spawned := (congrArg Learn.spawned hlearn :)
      exact ⟨_, ⟨hexec, ⟨hhearth, hticks, congrArg (List.map Prod.fst) hw,
        congrArg (List.map fun y : Nat × RowOp => y.2.row) hw, hothers⟩, htag, hrow, hdirty, haccums, hflue, hash⟩,
        hspawned, hw⟩
    case admission =>
      rintro row dn rfl hbad hvalid hspent err mu delta
      obtain ⟨hothers, htag, hrow, hhearth, hticks, hw⟩ := State.setTag_taken (s := (s.elapse dt).withoutWrite (wb ++ wa)) hs hr
        ((s.tag row).admitted dn)
      rw [State.land_admission (s := (s.elapse dt).withoutWrite (wb ++ wa)) dn hbad hvalid hspent] at hexec
      exact ⟨_, hexec, ⟨hhearth, hticks, congrArg (List.map Prod.fst) hw,
        congrArg (List.map fun y : Nat × RowOp => y.2.row) hw, hothers⟩, hrow, hw, htag.trans ((s.tag row).admitted_eq dn)⟩
    case borrow =>
      rintro row gen mu delta radius rfl hbad
      have hland := State.land_borrow (s := (s.elapse dt).withoutWrite (wb ++ wa)) gen mu delta radius hbad
      by_cases hmatch : old.valid = true ∧ old.spent = false ∧ gen = some old.gen.toNat ∧ old.hits = 0
      · obtain ⟨hothers, htag, hrow, hhearth, hticks, hw⟩ := State.setTag_taken
          (s := (s.elapse dt).withoutWrite (wb ++ wa)) hs hr { s.tag row with
            mu := BitVec.ofNat 14 mu, delta := BitVec.ofNat 12 delta, radius := BitVec.ofNat 14 radius }
        rw [hland.trans (if_pos hmatch)] at hexec
        exact ⟨_, hexec, ⟨hhearth, hticks, congrArg (List.map Prod.fst) hw,
          congrArg (List.map fun y : Nat × RowOp => y.2.row) hw, hothers⟩, hrow, hw, htag.trans (if_pos hmatch).symm⟩
      · rw [hland.trans (if_neg hmatch)] at hexec
        exact ⟨_, hexec, ⟨rfl, rfl, rfl, rfl, fun _ _ _ => ⟨rfl, rfl⟩⟩, rfl, rfl, (if_neg hmatch).symm⟩
    case bad =>
      obtain ⟨hothers, htag, hrow, hhearth, hticks, hw⟩ := State.tagFound_taken
        (s := (s.elapse dt).withoutWrite (wb ++ wa)) hs hr hret .lrn
      rw [State.land_bad (s := (s.elapse dt).withoutWrite (wb ++ wa)) hkind hbad] at hexec
      exact ⟨_, hexec, ⟨hhearth, hticks, congrArg (List.map Prod.fst) hw,
        congrArg (List.map fun y : Nat × RowOp => y.2.row) hw, hothers⟩, hrow, htag⟩
  case stray =>
    intro x hclosed hdump hheld hpause hmodes p
    have hrun : (s.elapse dt).mastersRun = true := by
      refine State.mastersRun_of hpause ?_
      obtain h | h | h | h | ⟨h, -⟩ := hmodes
      · exact .inl h
      · exact .inr (.inl h)
      · exact .inr (.inr (.inl h))
      · exact .inr (.inr (.inr (.inl h)))
      · exact .inr (.inr (.inr (.inr h)))
    have hidle : (s.elapse dt).mode ≠ .run ∨ ((s.elapse dt).burst = true ∧ (s.elapse dt).fleet.held = []) := by
      obtain h | h | h | h | ⟨-, h⟩ := hmodes
      · exact .inl (by rw [State.elapse_mode, h]; decide)
      · exact .inl (by rw [State.elapse_mode, h]; decide)
      · exact .inl (by rw [State.elapse_mode, h]; decide)
      · exact .inl (by rw [State.elapse_mode, h]; decide)
      · exact .inr ⟨h, hheld⟩
    refine ⟨fun hkind => ?_, fun hread hregion hret hs => ?_⟩
    · have hrec := (s.elapse dt).memoryEvent_records 0x07 x.master x.addr 0xFFFF 0xFF 0 0
      have hboth := (s.elapse dt).memoryEvent_recordedBoth 0x07 x.master x.addr 0xFFFF 0xFF 0 0 hdump
      have hviolate := State.violate_records (s := s.elapse dt) hclosed hkind
      rw [← hviolate] at hrec hboth
      exact ⟨_, exec_rowWrite_stray hrun ((State.agreesButRecords_sameGap hrec).idle hidle),
        State.agreesButRecords_settle hrec, hboth⟩
    · obtain ⟨htag, hwaiting, hothers, hgap⟩ := State.violate_tag_spec (s := s.elapse dt) hclosed hread hregion hret hs
      exact ⟨_, exec_rowWrite_stray hrun (hgap.idle hidle), htag, hwaiting, hothers⟩

end Sys2Proof.Machine
end

section
/-! Ring links (16_ring_link.md; R314, R321 to R325, R327): what cells that become free leave of a port, the link resets, the
acknowledgements, the credit table and the link frames. -/

namespace Sys2Proof.Machine

/-! ### What the frames of a port leave of it -/

theorem State.port_setPort (s : State) (p q : Port) (x : LinkPort) :
    (s.setPort q x).ring.port p = if p = q then x else s.ring.port p := by
  cases p <;> cases q <;> rfl

theorem ne_otherPort (p : Port) : p ≠ otherPort p := by cases p <;> decide

/-- The link of a port is as it was: only its credits and its cut may have changed (R320, R327). -/
def LinkPort.sameLink (y x : LinkPort) : Prop :=
  y = { x with cut := y.cut, freed := y.freed, aside := y.aside, tableDue := y.tableDue } ∧
  (x.tableDue = true → y.tableDue = true) ∧ (x.cut = none → y.cut = none)

theorem LinkPort.sameLink.refl (x : LinkPort) : x.sameLink x := ⟨rfl, id, id⟩

theorem LinkPort.sameLink.trans {x y z : LinkPort} (h : z.sameLink y) (k : y.sameLink x) : z.sameLink x := by
  obtain ⟨hfields, htable, hcut⟩ := h
  obtain ⟨kfields, ktable, kcut⟩ := k
  refine ⟨hfields.trans (congrArg (fun v : LinkPort => { v with
    cut := z.cut, freed := z.freed, aside := z.aside, tableDue := z.tableDue }) kfields :), fun h => htable (ktable h),
    fun h => hcut (kcut h)⟩

/-- The link of a port is as it was, and so is what the links share. -/
def State.sameLink (t s : State) (p : Port) : Prop :=
  (t.ring.port p).sameLink (s.ring.port p) ∧ t.clock = s.clock ∧ t.cross = s.cross ∧ t.ring.wrapped = s.ring.wrapped

theorem State.sameLink.refl (s : State) (p : Port) : s.sameLink s p := ⟨.refl _, rfl, rfl, rfl⟩

theorem State.sameLink.trans {s t u : State} {p : Port} (h : u.sameLink t p) (k : t.sameLink s p) : u.sameLink s p := by
  obtain ⟨hport, hclock, hcross, hwrapped⟩ := h
  obtain ⟨kport, kclock, kcross, kwrapped⟩ := k
  exact ⟨hport.trans kport, hclock.trans kclock, hcross.trans kcross, hwrapped.trans kwrapped⟩

theorem State.foldl_sameLink {α : Type} {p : Port} (f : State → α → State) (hf : ∀ s x, (f s x).sameLink s p) (l : List α)
    (s : State) : (l.foldl f s).sameLink s p := by
  induction l generalizing s with
  | nil => exact .refl s p
  | cons x l ih => exact (ih (f s x)).trans (hf s x)

/-- A record leaves the links alone. -/
theorem State.agreesButRecords_sameLink {t s : State} (h : t.agreesButRecords s) (p : Port) : t.sameLink s p := by
  have hport : t.ring.port p = s.ring.port p := by
    rw [h.1]
    cases p <;> rfl
  refine ⟨hport ▸ .refl _, (congrArg State.clock h.1 :), (congrArg State.cross h.1 :),
    (congrArg (fun u : State => u.ring.wrapped) h.1 :)⟩

theorem State.ringEvent_sameLink (s : State) (code port peer epoch e2e value : Nat) (p : Port) :
    (s.ringEvent code port peer epoch e2e value).sameLink s p := by
  obtain ⟨f, r, h, -⟩ := s.ringEvent_eq code port peer epoch e2e value
  rw [h]
  exact .refl s p

theorem State.setPort_other_sameLink (s : State) (p : Port) (x : LinkPort) : (s.setPort (otherPort p) x).sameLink s p := by
  refine ⟨?_, rfl, rfl, by cases p <;> rfl⟩
  rw [State.port_setPort, if_neg (ne_otherPort p)]
  exact .refl _

/-- A port whose credits change keeps its link, and so does the other port. -/
theorem State.setPort_sameLink (s : State) (p q : Port) {x : LinkPort} (h : x.sameLink (s.ring.port q)) :
    (s.setPort q x).sameLink s p := by
  refine ⟨?_, rfl, rfl, by cases q <;> rfl⟩
  rw [State.port_setPort]
  split
  next hp => exact hp ▸ h
  next => exact .refl _

theorem State.setAside_sameLink (s : State) (p q : Port) (cls : Nat) : (s.setAside q cls).sameLink s p :=
  s.setPort_sameLink p q ⟨rfl, fun h => by dsimp only; rw [h]; rfl, id⟩

theorem State.creditFreed_sameLink (s : State) (p q : Port) (cls k : Nat) : (s.creditFreed q cls k).sameLink s p :=
  (State.setAside_sameLink _ p q cls).trans (s.setPort_sameLink p q ⟨rfl, fun h => by dsimp only; rw [h]; rfl, id⟩)

theorem State.offerWaiting_sameLink (s : State) (p : Port) : s.offerWaiting.sameLink s p := by
  have hempty : State.sameLink { s with ring := { s.ring with waiting := [] } } s p := ⟨by cases p <;> exact .refl _, rfl, rfl, rfl⟩
  unfold State.offerWaiting
  exact (State.foldl_sameLink _ (fun (u : State) (w : Nat × YFrame) => State.agreesButRecords_sameLink (u.offerLocal_records w.1 w.2) p) _ _).trans hempty

theorem State.freeCells_sameLink (s : State) (source : Option Port) (cls : Nat) (cells : List Nat) (p : Port) :
    (s.freeCells source cls cells).sameLink s p := by
  have hfree : State.sameLink { s with ring := { s.ring with free := cells.foldl insertUp s.ring.free } } s p :=
    ⟨by cases p <;> exact .refl _, rfl, rfl, rfl⟩
  unfold State.freeCells
  dsimp only
  split
  · exact (State.offerWaiting_sameLink _ p).trans hfree
  · split
    · exact hfree
    · exact (State.creditFreed_sameLink _ p _ cls _).trans hfree

theorem State.dropQueued_sameLink (s : State) (q : QFrame) (p : Port) : (s.dropQueued q).sameLink s p :=
  (State.freeCells_sameLink _ _ _ _ p).trans ⟨by cases p <;> exact .refl _, rfl, rfl, rfl⟩

theorem State.turnQueue_sameLink (s : State) (q p : Port) : (s.turnQueue q).sameLink s p := by
  refine State.foldl_sameLink _ (fun u f => ?_) _ s
  dsimp only
  split
  · exact ⟨by cases p <;> exact .refl _, rfl, rfl, rfl⟩
  · exact u.dropQueued_sameLink f p

theorem State.sendFrame_sameLink (s : State) (p : Port) (u : Sent) : (s.sendFrame (otherPort p) u).sameLink s p :=
  s.setPort_other_sameLink p _

/-- The rest of a cut leaves its port without a cut (R320). -/
theorem State.finishCut_sameLink (s : State) (p : Port) (f : YFrame) (torn : Option (List Byte)) (cells : List Nat) :
    (s.finishCut p f torn cells).sameLink s p ∧ ((s.finishCut p f torn cells).ring.port p).cut = none := by
  have hcut : (s.setPort p { s.ring.port p with cut := none }).sameLink s p := s.setPort_sameLink p p ⟨rfl, id, fun _ => rfl⟩
  have hnone : ((s.setPort p { s.ring.port p with cut := none }).ring.port p).cut = none := by
    rw [State.port_setPort, if_pos rfl]
  unfold State.finishCut
  dsimp only
  split
  next h => exact ⟨.refl s p, h⟩
  next c h =>
    have hlive {t : State} (ht : t.sameLink (s.setPort p { s.ring.port p with cut := none }) p) :
        t.sameLink s p ∧ (t.ring.port p).cut = none := ⟨ht.trans hcut, ht.1.2.2 hnone⟩
    split
    · exact hlive ((State.setPort_other_sameLink _ p _).trans (State.sendFrame_sameLink _ p _))
    · exact hlive ((State.freeCells_sameLink _ _ _ _ p).trans (.refl _ p) |> fun h => ⟨by
        obtain ⟨hport, -, -, -⟩ := h
        cases p <;> exact hport, h.2.1, h.2.2.1, h.2.2.2⟩)

/-- A port that goes down or is reset has no cut any longer, unless its frame has arrived in a pause (R96, R320). -/
theorem State.breakCuts_sameLink (s : State) (p : Port) : (s.breakCuts p).sameLink s p ∧
    (s.cross.rx p = [] → ((s.breakCuts p).ring.port p).cut = none) := by
  unfold State.breakCuts
  dsimp only
  split
  next c h =>
    obtain ⟨hlink, hcut⟩ := s.finishCut_sameLink p c.frame (some ((Config.arrivedBytes s.freeCount).take 1480)) []
    generalize s.finishCut p c.frame (some ((Config.arrivedBytes s.freeCount).take 1480)) [] = u at *
    have hother := State.setPort_other_sameLink u.useFree p { u.useFree.ring.port (otherPort p) with
      cut := (u.useFree.ring.port (otherPort p)).cut.map fun (c : Cut) => { c with live := false } }
    exact ⟨hother.trans (t := u.useFree) ⟨hlink.1, hlink.2.1, hlink.2.2.1, hlink.2.2.2⟩, fun _ => hother.1.2.2 hcut⟩
  next h =>
    have hother := s.setPort_other_sameLink p { s.ring.port (otherPort p) with
      cut := (s.ring.port (otherPort p)).cut.map fun (c : Cut) => { c with live := false } }
    refine ⟨hother, fun hrx => hother.1.2.2 ?_⟩
    rwa [State.arriving, if_pos hrx] at h

/-! ### A link that goes down, a reset that completes -/

/-- A port whose link goes down (R325). -/
def LinkPort.downed (x : LinkPort) (clock : Nat) : LinkPort :=
  { x with
    up := false, downAt := some clock, proposal := none, timer := x.timer.stop clock, links := [], resend := []
    nakDue := false }

/-- The ring is wrapped from now on (R335). -/
def State.wrapOn (s : State) (port peer epoch : Nat) : State :=
  if s.ring.wrapped then s else State.ringEvent { s with ring := { s.ring with wrapped := true } } 0x04 port peer epoch 0xFFFF 0

theorem State.wrapOn_spec (s : State) (port peer epoch : Nat) (p : Port) :
    ((s.wrapOn port peer epoch).ring.port p).sameLink (s.ring.port p) ∧ (s.wrapOn port peer epoch).ring.wrapped = true := by
  unfold State.wrapOn
  split
  next h => exact ⟨.refl _, h⟩
  next h =>
    obtain ⟨hport, -, -, hwrapped⟩ := State.ringEvent_sameLink { s with ring := { s.ring with wrapped := true } } 0x04 port peer epoch
      0xFFFF 0 p
    exact ⟨hport.trans (by cases p <;> exact .refl _), hwrapped⟩

/-- A link goes down: its port, and the wrap of the ring (R325, R335). -/
theorem State.linkDown_spec (s : State) (p : Port) (value : Nat) : ∃ x : LinkPort, x.sameLink (s.ring.port p) ∧
    ((s.linkDown p value).ring.port p).sameLink (x.downed s.clock) ∧ (s.linkDown p value).ring.wrapped = true := by
  obtain ⟨⟨hport, hclock, -, -⟩, -⟩ := s.breakCuts_sameLink p
  have hdown : s.linkDown p value = State.turnQueue (State.wrapOn (State.ringEvent ((s.breakCuts p).setPort p
      (((s.breakCuts p).ring.port p).downed (s.breakCuts p).clock)) 0x02 (portNum p) ((s.breakCuts p).ring.port p).peer
      ((s.breakCuts p).ring.port p).epoch 0xFFFF value) (portNum p) ((s.breakCuts p).ring.port p).peer
      ((s.breakCuts p).ring.port p).epoch) p := rfl
  generalize s.breakCuts p = u at *
  rw [hclock] at hdown
  have hset : (u.setPort p ((u.ring.port p).downed s.clock)).ring.port p = (u.ring.port p).downed s.clock := by
    rw [State.port_setPort, if_pos rfl]
  obtain ⟨hevent, -, -, -⟩ := (u.setPort p ((u.ring.port p).downed s.clock)).ringEvent_sameLink 0x02 (portNum p)
    (u.ring.port p).peer (u.ring.port p).epoch 0xFFFF value p
  generalize (u.setPort p ((u.ring.port p).downed s.clock)).ringEvent 0x02 (portNum p) (u.ring.port p).peer (u.ring.port p).epoch
    0xFFFF value = v at *
  obtain ⟨hwrap, hwrapped⟩ := v.wrapOn_spec (portNum p) (u.ring.port p).peer (u.ring.port p).epoch p
  obtain ⟨hturn, -, -, hturned⟩ := (v.wrapOn (portNum p) (u.ring.port p).peer (u.ring.port p).epoch).turnQueue_sameLink p p
  rw [hdown]
  rw [hset] at hevent
  exact ⟨u.ring.port p, hport, hturn.trans (hwrap.trans hevent), hturned.trans hwrapped⟩

/-- A port that is down: not up since now, with no proposal, in a ring that is wrapped (R325, R335). -/
def State.portDown (t : State) (p : Port) (now : Nat) : Prop :=
  (t.ring.port p).up = false ∧ (t.ring.port p).downAt = some now ∧ (t.ring.port p).proposal = none ∧ t.ring.wrapped = true

theorem State.linkDown_down (s : State) (p : Port) (value : Nat) : (s.linkDown p value).portDown p s.clock ∧
    ((s.linkDown p value).ring.port p).peer = (s.ring.port p).peer ∧
    ((s.linkDown p value).ring.port p).unacked = (s.ring.port p).unacked ∧
    ((s.linkDown p value).ring.port p).txSeq = (s.ring.port p).txSeq ∧
    ((s.linkDown p value).ring.port p).rxSeq = (s.ring.port p).rxSeq ∧
    ((s.linkDown p value).ring.port p).limits = (s.ring.port p).limits := by
  obtain ⟨x, ⟨hx, -, -⟩, ⟨hy, -, -⟩, hwrapped⟩ := s.linkDown_spec p value
  generalize s.linkDown p value = t at *
  refine ⟨⟨(congrArg LinkPort.up hy :), (congrArg LinkPort.downAt hy :), (congrArg LinkPort.proposal hy :), hwrapped⟩,
    (congrArg LinkPort.peer hy :).trans (congrArg LinkPort.peer hx :),
    (congrArg LinkPort.unacked hy :).trans (congrArg LinkPort.unacked hx :),
    (congrArg LinkPort.txSeq hy :).trans (congrArg LinkPort.txSeq hx :),
    (congrArg LinkPort.rxSeq hy :).trans (congrArg LinkPort.rxSeq hx :),
    (congrArg LinkPort.limits hy :).trans (congrArg LinkPort.limits hx :)⟩

/-- A port whose link reset is complete (R324). -/
def LinkPort.restarted (x : LinkPort) (epoch : Nat) : LinkPort :=
  { x with
    epoch := epoch, proposal := none, txSeq := 0, rxSeq := 0, rxAny := false, unacked := [], timer := {}
    nakDone := false, nakDue := false
    links := x.links.filter (fun l => match l with | .reset _ _ => false | _ => true)
    resend := [], sent := List.replicate 64 0, limits := List.replicate 64 8, freed := List.replicate 64 0, tableDue := true }

/-- A link that comes up (R325, R335). -/
theorem State.linkUp_spec (s : State) (p : Port) :
    ((s.linkUp p).ring.port p).sameLink { s.ring.port p with up := true, downAt := none } ∧ (s.linkUp p).cross = s.cross := by
  unfold State.linkUp
  dsimp only
  obtain ⟨hport, -, hcross, -⟩ := (s.setPort p { s.ring.port p with up := true, downAt := none }).ringEvent_sameLink 0x01
    (portNum p) (s.ring.port p).peer (s.ring.port p).epoch 0xFFFF 0 p
  rw [State.port_setPort, if_pos rfl] at hport
  generalize (s.setPort p { s.ring.port p with up := true, downAt := none }).ringEvent 0x01 (portNum p) (s.ring.port p).peer
    (s.ring.port p).epoch 0xFFFF 0 = u at *
  split
  · obtain ⟨hagain, -, hcross', -⟩ := State.ringEvent_sameLink { u with ring := { u.ring with wrapped := false } } 0x05 (portNum p)
      (s.ring.port p).peer (s.ring.port p).epoch 0xFFFF 0 p
    exact ⟨(hagain.trans (by cases p <;> exact .refl _)).trans hport, hcross'.trans hcross⟩
  · exact ⟨hport, hcross⟩

/-- The cells of frames that have left a port become free. -/
def State.freeSent (s : State) (l : List Sent) : State := l.foldl (fun s u => s.freeCells u.source u.frame.cls u.cells) s

theorem State.freeSent_sameLink (s : State) (l : List Sent) (p : Port) : (s.freeSent l).sameLink s p :=
  State.foldl_sameLink _ (fun s (u : Sent) => s.freeCells_sameLink u.source u.frame.cls u.cells p) l s

theorem LinkPort.sameLink.raise {x y : LinkPort} (h : y.sameLink x) :
    LinkPort.sameLink { y with up := true, downAt := none } { x with up := true, downAt := none } :=
  ⟨(congrArg (fun v : LinkPort => { v with up := true, downAt := none }) h.1 :), h.2.1, h.2.2⟩

/-- A link reset completes (R324, R325). -/
theorem State.completeReset_spec (s : State) (p : Port) (epoch : Nat) : ∃ x : LinkPort, x.sameLink (s.ring.port p) ∧
    (s.cross.rx p = [] → x.cut = none) ∧ ((s.completeReset p epoch).ring.port p).sameLink { x.restarted epoch with
      up := true, downAt := if x.up then x.downAt else none } := by
  obtain ⟨⟨hport, -, -, -⟩, hcut⟩ := s.breakCuts_sameLink p
  have hreset : s.completeReset p epoch = if ((s.breakCuts p).ring.port p).up then ((s.breakCuts p).setPort p
      (((s.breakCuts p).ring.port p).restarted epoch)).freeSent ((s.breakCuts p).ring.port p).unacked
    else (((s.breakCuts p).setPort p (((s.breakCuts p).ring.port p).restarted epoch)).freeSent
      ((s.breakCuts p).ring.port p).unacked).linkUp p := rfl
  generalize s.breakCuts p = u at *
  obtain ⟨hfreed, -, -, -⟩ := (u.setPort p ((u.ring.port p).restarted epoch)).freeSent_sameLink (u.ring.port p).unacked p
  rw [State.port_setPort, if_pos rfl] at hfreed
  refine ⟨u.ring.port p, hport, hcut, ?_⟩
  rw [hreset]
  generalize (u.setPort p ((u.ring.port p).restarted epoch)).freeSent (u.ring.port p).unacked = v at *
  cases hup : (u.ring.port p).up with
  | true =>
    rw [if_pos rfl, if_pos rfl]
    have hkeep : (u.ring.port p).restarted epoch = { (u.ring.port p).restarted epoch with
        up := true, downAt := (u.ring.port p).downAt } := by rw [← hup] <;> rfl
    exact hkeep ▸ hfreed
  | false =>
    rw [if_neg Bool.false_ne_true, if_neg Bool.false_ne_true]
    exact (v.linkUp_spec p).1.trans hfreed.raise

/-- A port whose link reset is complete: the new epoch, nothing outstanding, and its credits started over (R324, R325,
R327). -/
def State.portComplete (t : State) (p : Port) (rx : List (List Byte)) (epoch peer : Nat) : Prop :=
  (t.ring.port p).up = true ∧ (t.ring.port p).epoch = epoch ∧ (t.ring.port p).txSeq = 0 ∧ (t.ring.port p).rxSeq = 0 ∧
  (t.ring.port p).rxAny = false ∧ (t.ring.port p).unacked = [] ∧ (t.ring.port p).resend = [] ∧
  (t.ring.port p).proposal = none ∧ (t.ring.port p).sent = List.replicate 64 0 ∧
  (t.ring.port p).limits = List.replicate 64 8 ∧ (t.ring.port p).tableDue = true ∧ (t.ring.port p).peer = peer ∧
  (rx = [] → (t.ring.port p).cut = none)

theorem State.completeReset_complete (s : State) (p : Port) (epoch : Nat) :
    (s.completeReset p epoch).portComplete p (s.cross.rx p) epoch (s.ring.port p).peer := by
  obtain ⟨x, ⟨hx, -, -⟩, hcut, hy, htable, hycut⟩ := s.completeReset_spec p epoch
  generalize s.completeReset p epoch = t at *
  exact ⟨(congrArg LinkPort.up hy :), (congrArg LinkPort.epoch hy :), (congrArg LinkPort.txSeq hy :),
    (congrArg LinkPort.rxSeq hy :), (congrArg LinkPort.rxAny hy :), (congrArg LinkPort.unacked hy :),
    (congrArg LinkPort.resend hy :), (congrArg LinkPort.proposal hy :), (congrArg LinkPort.sent hy :),
    (congrArg LinkPort.limits hy :), htable rfl, (congrArg LinkPort.peer hy :).trans (congrArg LinkPort.peer hx :),
    fun h => hycut (hcut h)⟩

/-- The answer to a link reset is the last link frame that waits, and nothing else of the port changes (R324). -/
theorem State.answerReset_complete {t : State} {p : Port} {rx : List (List Byte)} {e peer : Nat} (h : t.portComplete p rx e peer)
    (cause : Nat) : (t.answerReset p e cause).portComplete p rx e peer ∧
    ((t.answerReset p e cause).ring.port p).links.getLast? = some (.resetAck e cause) := by
  unfold State.answerReset State.portComplete at *
  dsimp only
  rw [State.port_setPort, if_pos rfl]
  exact ⟨h, List.getLast?_concat⟩

/-! ### Resets that are counted -/

/-- The resets with cause 1 or 2 of the last second (R325). -/
def LinkPort.recent (x : LinkPort) (clock : Nat) : List Nat := x.resets.filter (fun a => decide (clock < a + 24576000))

theorem State.countReset_spec (s : State) (p : Port) (epoch cause : Nat) : ∃ f r,
    s.countReset p epoch cause = if 2 ≤ ((s.ring.port p).recent s.clock).length then
        (true, State.linkDown { s.setPort p { s.ring.port p with resets := s.clock :: (s.ring.port p).recent s.clock } with
          flue := f, router := r } p 2)
      else (false, { s.setPort p { s.ring.port p with resets := s.clock :: (s.ring.port p).recent s.clock } with
          flue := f, router := r }) := by
  obtain ⟨f, r, hevent, -⟩ := (s.setPort p { s.ring.port p with resets := s.clock :: (s.ring.port p).recent s.clock }).ringEvent_eq
    0x03 (portNum p) (s.ring.port p).peer epoch 0xFFFF cause
  refine ⟨f, r, ?_⟩
  have hcount : s.countReset p epoch cause = if 3 ≤ (s.clock :: (s.ring.port p).recent s.clock).length then
      (true, State.linkDown (State.ringEvent (s.setPort p { s.ring.port p with
        resets := s.clock :: (s.ring.port p).recent s.clock }) 0x03 (portNum p) (s.ring.port p).peer epoch 0xFFFF cause) p 2)
    else (false, State.ringEvent (s.setPort p { s.ring.port p with
        resets := s.clock :: (s.ring.port p).recent s.clock }) 0x03 (portNum p) (s.ring.port p).peer epoch 0xFFFF cause) := rfl
  rw [hcount, hevent]
  exact if_congr (by rw [List.length_cons]; omega) rfl rfl

/-- A reset frame of the epoch in force on a link that is up is only answered (R324). -/
theorem State.adoptReset_again {s : State} {p : Port} {e : Nat} (cause : Nat) (hup : (s.ring.port p).up = true)
    (he : (s.ring.port p).epoch = e) : s.adoptReset p e cause = s.answerReset p e cause := if_pos ⟨hup, he⟩

/-- A port that adopts a proposed epoch (R324, R325). -/
theorem State.adoptReset_new {s : State} {p : Port} {e : Nat} (cause : Nat)
    (hnew : ¬((s.ring.port p).up = true ∧ (s.ring.port p).epoch = e)) :
    ((cause ≠ 1 ∧ cause ≠ 2) ∨ ((s.ring.port p).recent s.clock).length < 2 →
      (s.adoptReset p e cause).portComplete p (s.cross.rx p) e (s.ring.port p).peer ∧
      ((s.adoptReset p e cause).ring.port p).links.getLast? = some (.resetAck e cause)) ∧
    (cause = 1 ∨ cause = 2 → 2 ≤ ((s.ring.port p).recent s.clock).length →
      (s.adoptReset p e cause).portDown p s.clock) := by
  obtain ⟨f, r, hcount⟩ := s.countReset_spec p e 2
  have hadopt : s.adoptReset p e cause = if (if cause = 1 ∨ cause = 2 then s.countReset p e 2 else (false, s)).1
      then (if cause = 1 ∨ cause = 2 then s.countReset p e 2 else (false, s)).2
      else ((if cause = 1 ∨ cause = 2 then s.countReset p e 2 else (false, s)).2.completeReset p e).answerReset p e cause :=
    if_neg hnew
  generalize hcounted : s.setPort p { s.ring.port p with resets := s.clock :: (s.ring.port p).recent s.clock } = u at hcount
  have hpeer : (u.ring.port p).peer = (s.ring.port p).peer := by
    rw [← hcounted, State.port_setPort, if_pos rfl]
  have hcross : u.cross = s.cross := by rw [← hcounted] <;> rfl
  have hclock : u.clock = s.clock := by rw [← hcounted] <;> rfl
  rw [hadopt, hcount]
  refine ⟨fun h => ?_, fun hcause hmany => ?_⟩
  · by_cases hcause : cause = 1 ∨ cause = 2
    · have hfew : ¬2 ≤ ((s.ring.port p).recent s.clock).length := by
        obtain h | h := h
        · exact absurd hcause (not_or.2 h)
        · exact not_le.2 h
      rw [if_pos hcause, if_neg hfew]
      have hcomplete := State.completeReset_complete { u with flue := f, router := r } p e
      rw [show (State.cross { u with flue := f, router := r }).rx p = s.cross.rx p from congrArg (Crossing.rx · p) hcross,
        show ((State.ring { u with flue := f, router := r }).port p).peer = (s.ring.port p).peer from hpeer] at hcomplete
      rw [if_neg Bool.false_ne_true]
      exact State.answerReset_complete hcomplete cause
    · rw [if_neg hcause, if_neg Bool.false_ne_true]
      exact State.answerReset_complete (s.completeReset_complete p e) cause
  · rw [if_pos hcause, if_pos hmany, if_pos rfl, ← hclock]
    exact (State.linkDown_down { u with flue := f, router := r } p 2).1

/-! ### The reset commands -/

theorem State.downOver_of {s : State} {dt : Nat} {x : LinkPort} (h : ∀ a, x.downAt = some a → a + 24576000 ≤ s.clock + dt) :
    (s.elapse dt).downOver x = true := by
  unfold State.downOver
  split
  next t ht => exact decide_eq_true (h t ht)
  next => rfl

theorem State.ringRuns_of {s : State} (hon : s.ringOn = true) (hm : s.mode = .run) : s.ringRuns = true := by
  rw [State.ringRuns, hon, hm]
  rfl

/-- The port of a peer that has been noted (R249). -/
theorem State.notePeer_port (s : State) (p : Port) (b : List Byte) :
    (s.notePeer p b).ring.port p = { s.ring.port p with peer := (Header.parse b).src } := by
  rw [State.notePeer, State.port_setPort, if_pos rfl]

theorem State.peerFault_some {s : State} {p : Port} {b : List Byte}
    (h : byteAt b 16 = portNum p ∨ byteAt b 18 ≠ if s.ringFast then 1 else 0) : ∃ v, s.peerFault p b = some v := by
  unfold State.peerFault
  split
  · exact ⟨3, rfl⟩
  next hletter =>
    exact ⟨4, if_pos (h.resolve_left hletter)⟩

theorem State.peerFault_none {s : State} {p : Port} {b : List Byte} (hletter : byteAt b 16 ≠ portNum p)
    (hspeed : byteAt b 18 = if s.ringFast then 1 else 0) : s.peerFault p b = none := by
  unfold State.peerFault
  rw [if_neg hletter]
  exact if_neg (not_not.2 hspeed)

/-- A link reset as it is received (R324, R325). -/
theorem exec_linkResetReceived {s : State} {dt : Nat} {p : Port} {b : List Byte} (hon : s.ringOn = true) (hm : s.mode = .run)
    (hgood : linkFrameGood 2 b = true) (hdown : ∀ a, (s.ring.port p).downAt = some a → a + 24576000 ≤ s.clock + dt) :
    exec (.linkResetReceived dt p b) s = .next (State.settle (
      match ((s.elapse dt).notePeer p b).peerFault p b with
      | some v => ((s.elapse dt).notePeer p b).linkDown p v
      | none => match (((s.elapse dt).notePeer p b).ring.port p).proposal with
        | some pr => if pr.epoch = byteAt b 17 % 16 then ((s.elapse dt).notePeer p b).completeReset p (byteAt b 17 % 16)
          else ((s.elapse dt).notePeer p b).adoptReset p (byteAt b 17 % 16) (byteAt b 19)
        | none => ((s.elapse dt).notePeer p b).adoptReset p (byteAt b 17 % 16) (byteAt b 19))) :=
  (event_next _ _ _ s (by
    rw [State.elapse_ringRuns, State.ringRuns_of hon hm, hgood, State.elapse_ring, State.downOver_of hdown]; rfl) :
    execLinkResetReceived dt p b s = _)

/-! ### Acknowledgement and retry -/

/-- Retransmissions are exhausted: a link reset is proposed, or the third within 1 s takes the link down (R323, R325). -/
theorem State.exhausted_spec (s : State) (p : Port) :
    (((s.ring.port p).recent s.clock).length < 2 → (s.exhausted p).ring.port p = { s.ring.port p with
      resets := s.clock :: (s.ring.port p).recent s.clock
      proposal := some { epoch := ((s.ring.port p).epoch + 1) % 16, cause := 1, sentAt := s.clock }
      links := (s.ring.port p).links ++ [.reset (((s.ring.port p).epoch + 1) % 16) 1] }) ∧
    (2 ≤ ((s.ring.port p).recent s.clock).length → (s.exhausted p).portDown p s.clock ∧
      ∃ u : State, (s.exhausted p) = u.linkDown p 2 ∧ u.ring.port p = { s.ring.port p with
        resets := s.clock :: (s.ring.port p).recent s.clock }) := by
  obtain ⟨f, r, hcount⟩ := s.countReset_spec p (((s.ring.port p).epoch + 1) % 16) 1
  have hexhausted : s.exhausted p = if (s.countReset p (((s.ring.port p).epoch + 1) % 16) 1).1
      then (s.countReset p (((s.ring.port p).epoch + 1) % 16) 1).2
      else (s.countReset p (((s.ring.port p).epoch + 1) % 16) 1).2.proposeReset p 1 := rfl
  have hport : (s.setPort p { s.ring.port p with resets := s.clock :: (s.ring.port p).recent s.clock }).ring.port p =
      { s.ring.port p with resets := s.clock :: (s.ring.port p).recent s.clock } := by rw [State.port_setPort, if_pos rfl]
  have hclock : (s.setPort p { s.ring.port p with resets := s.clock :: (s.ring.port p).recent s.clock }).clock = s.clock := rfl
  generalize s.setPort p { s.ring.port p with resets := s.clock :: (s.ring.port p).recent s.clock } = u at *
  rw [hexhausted, hcount]
  refine ⟨fun hfew => ?_, fun hmany => ?_⟩
  · rw [if_neg (not_le.2 hfew), if_neg Bool.false_ne_true]
    unfold State.proposeReset
    dsimp only
    rw [State.port_setPort, if_pos rfl, hport, hclock]
  · rw [if_pos hmany, if_pos rfl]
    exact ⟨hclock ▸ (State.linkDown_down { u with flue := f, router := r } p 2).1, _, rfl, hport⟩

/-- The frames of a port and what its peer allows are as they were. -/
def LinkPort.sameFrames (y x : LinkPort) : Prop :=
  y.unacked = x.unacked ∧ y.peer = x.peer ∧ y.txSeq = x.txSeq ∧ y.rxSeq = x.rxSeq ∧ y.limits = x.limits

theorem LinkPort.sameFrames.trans {x y z : LinkPort} (h : z.sameFrames y) (k : y.sameFrames x) : z.sameFrames x := by
  obtain ⟨h1, h2, h3, h4, h5⟩ := h
  obtain ⟨k1, k2, k3, k4, k5⟩ := k
  exact ⟨h1.trans k1, h2.trans k2, h3.trans k3, h4.trans k4, h5.trans k5⟩

theorem LinkPort.sameLink.frames {x y : LinkPort} (h : y.sameLink x) : y.sameFrames x := by
  obtain ⟨h, -, -⟩ := h
  exact ⟨(congrArg LinkPort.unacked h :), (congrArg LinkPort.peer h :), (congrArg LinkPort.txSeq h :),
    (congrArg LinkPort.rxSeq h :), (congrArg LinkPort.limits h :)⟩

theorem State.exhausted_frames (s : State) (p : Port) : ((s.exhausted p).ring.port p).sameFrames (s.ring.port p) := by
  obtain ⟨hpropose, hdown⟩ := s.exhausted_spec p
  obtain hfew | hmany := Nat.lt_or_ge ((s.ring.port p).recent s.clock).length 2
  · rw [hpropose hfew]
    exact ⟨rfl, rfl, rfl, rfl, rfl⟩
  · obtain ⟨-, u, heq, hport⟩ := hdown hmany
    obtain ⟨-, hpeer, hunacked, htx, hrx, hlimits⟩ := u.linkDown_down p 2
    rw [hport] at hpeer hunacked htx hrx hlimits
    rw [heq]
    exact ⟨hunacked, hpeer, htx, hrx, hlimits⟩

/-- A go-back resends every frame from the oldest (R323). -/
theorem State.goBack_resend {s : State} {p : Port} {u : Sent} {rest : List Sent} (hunacked : (s.ring.port p).unacked = u :: rest)
    (hproposal : (s.ring.port p).proposal = none) (hresend : (s.ring.port p).resend.head? ≠ some u.seq) (htries : u.tries < 4) :
    s.goBack p = s.setPort p { s.ring.port p with resend := (s.ring.port p).unacked.map Sent.seq } := by
  unfold State.goBack
  dsimp only
  split
  next h => cases hunacked.symm.trans h
  next v l h =>
    obtain ⟨rfl, rfl⟩ := List.cons.inj (hunacked.symm.trans h)
    rw [hproposal, decide_eq_false hresend, if_neg (by simp), if_neg (not_le.2 htries)]

theorem State.goBack_exhausted {s : State} {p : Port} {u : Sent} {rest : List Sent}
    (hunacked : (s.ring.port p).unacked = u :: rest) (hproposal : (s.ring.port p).proposal = none)
    (hresend : (s.ring.port p).resend.head? ≠ some u.seq) (htries : 4 ≤ u.tries) : s.goBack p = s.exhausted p := by
  unfold State.goBack
  dsimp only
  split
  next h => cases hunacked.symm.trans h
  next v l h =>
    obtain ⟨rfl, rfl⟩ := List.cons.inj (hunacked.symm.trans h)
    rw [hproposal, decide_eq_false hresend, if_neg (by simp), if_pos htries]

theorem State.goBack_frames (s : State) (p : Port) : ((s.goBack p).ring.port p).sameFrames (s.ring.port p) := by
  unfold State.goBack
  dsimp only
  split
  · exact (LinkPort.sameLink.refl _).frames
  · split
    · exact (LinkPort.sameLink.refl _).frames
    · split
      · exact s.exhausted_frames p
      · rw [State.port_setPort, if_pos rfl]
        exact ⟨rfl, rfl, rfl, rfl, rfl⟩

/-- The port once the frames that a header acknowledges have left it (R321). -/
def LinkPort.acked (x : LinkPort) (h : Header) : List Sent :=
  if h.aval then x.unacked.filter (fun u => u.ackedBy h.aseq) else []

theorem LinkPort.mem_acked {x : LinkPort} {h : Header} {u : Sent} :
    u ∈ x.acked h ↔ u ∈ x.unacked ∧ h.aval = true ∧ (h.aseq + 4096 - u.seq) % 4096 < 2048 := by
  unfold LinkPort.acked
  split
  next haval => rw [List.mem_filter, Sent.ackedBy, decide_eq_true_eq, and_iff_right haval]
  next haval => exact iff_of_false List.not_mem_nil fun hmem => haval hmem.2.1

/-- What an acknowledgement leaves of a port (R321 to R323). -/
theorem State.takeAck_spec (s : State) (p : Port) (h : Header) :
    let y := (s.takeAck p h).ring.port p
    (∀ u, u ∈ y.unacked ↔ u ∈ (s.ring.port p).unacked ∧ ¬(h.aval = true ∧ (h.aseq + 4096 - u.seq) % 4096 < 2048)) ∧
    y.peer = (s.ring.port p).peer ∧ y.txSeq = (s.ring.port p).txSeq ∧ y.rxSeq = (s.ring.port p).rxSeq ∧
    y.limits = (s.ring.port p).limits ∧
    (∀ u rest, h.nak = true → y.unacked = u :: rest → (s.ring.port p).proposal = none → (s.ring.port p).resend = [] →
      u.tries < 4 → y.resend = y.unacked.map Sent.seq) := by
  intro y
  have htake : s.takeAck p h = if h.nak then State.goBack ((s.setPort p { s.ring.port p with
      unacked := (s.ring.port p).unacked.filter (fun u => !((s.ring.port p).acked h).contains u)
      resend := (s.ring.port p).resend.filter (fun q => !((s.ring.port p).acked h).any (fun u => decide (u.seq = q))) }).freeSent
        ((s.ring.port p).acked h)) p
    else (s.setPort p { s.ring.port p with
      unacked := (s.ring.port p).unacked.filter (fun u => !((s.ring.port p).acked h).contains u)
      resend := (s.ring.port p).resend.filter (fun q => !((s.ring.port p).acked h).any (fun u => decide (u.seq = q))) }).freeSent
        ((s.ring.port p).acked h) := rfl
  obtain ⟨hfreed, -, -, -⟩ := (s.setPort p { s.ring.port p with
      unacked := (s.ring.port p).unacked.filter (fun u => !((s.ring.port p).acked h).contains u)
      resend := (s.ring.port p).resend.filter (fun q => !((s.ring.port p).acked h).any (fun u => decide (u.seq = q))) }).freeSent_sameLink
        ((s.ring.port p).acked h) p
  rw [State.port_setPort, if_pos rfl] at hfreed
  generalize (s.setPort p { s.ring.port p with
      unacked := (s.ring.port p).unacked.filter (fun u => !((s.ring.port p).acked h).contains u)
      resend := (s.ring.port p).resend.filter (fun q => !((s.ring.port p).acked h).any (fun u => decide (u.seq = q))) }).freeSent
        ((s.ring.port p).acked h) = v at *
  have hframes : y.sameFrames (v.ring.port p) := by
    show ((s.takeAck p h).ring.port p).sameFrames (v.ring.port p)
    rw [htake]
    split
    · exact v.goBack_frames p
    · exact (LinkPort.sameLink.refl _).frames
  obtain ⟨hunacked, hpeer, htx, hrx, hlimits⟩ := hframes.trans hfreed.frames
  refine ⟨fun u => ?_, hpeer, htx, hrx, hlimits, fun u rest hnak hy hproposal hresend htries => ?_⟩
  · rw [hunacked, List.mem_filter, Bool.not_eq_true', List.contains_eq_mem, decide_eq_false_iff_not, LinkPort.mem_acked]
    exact and_congr_right fun hmem => not_congr (and_iff_right hmem)
  · obtain ⟨hfields, -, -⟩ := hfreed
    have hproposal' : (v.ring.port p).proposal = none := (congrArg LinkPort.proposal hfields :).trans hproposal
    have hresend' : (v.ring.port p).resend = [] := by
      rw [(congrArg LinkPort.resend hfields :)]
      dsimp only
      rw [hresend] <;> rfl
    have hv : (v.ring.port p).unacked = u :: rest := hframes.1.symm.trans hy
    have hgo := State.goBack_resend hv hproposal' (by rw [hresend']; exact Option.some_ne_none _ |>.symm) htries
    show ((s.takeAck p h).ring.port p).resend = _
    rw [htake, if_pos hnak, hgo, State.port_setPort, if_pos rfl, hy, ← hv]

/-! ### The credit table -/

/-- What may be set aside of the shared cells (R327). -/
def asideBounds (y x : List Nat) : Prop := ∀ c, x.getD c 0 ≤ y.getD c 0 ∧ y.getD c 0 ≤ max 56 (x.getD c 0)

theorem asideBounds.refl (x : List Nat) : asideBounds x x := fun c => ⟨le_rfl, le_max_right _ _⟩

theorem asideBounds.trans {x y z : List Nat} (h : asideBounds z y) (k : asideBounds y x) : asideBounds z x := fun c => by
  have := h c
  have := k c
  omega

theorem asideBounds_set (x : List Nat) (c n : Nat) (hlow : x.getD c 0 ≤ n) (hhigh : n ≤ max 56 (x.getD c 0)) :
    asideBounds (x.set c n) x := fun k => by
  rw [List.getD_eq_getElem?_getD, List.getD_eq_getElem?_getD, List.getElem?_set]
  split
  next h =>
    subst h
    rw [List.getD_eq_getElem?_getD] at hlow hhigh
    split
    · exact ⟨hlow, hhigh⟩
    next hk => simp [List.getElem?_eq_none (not_lt.1 hk)]
  next => exact ⟨le_rfl, le_max_right _ _⟩

theorem sum_set_le (x : List Nat) (c more : Nat) : (x.set c (x.getD c 0 + more)).sum ≤ x.sum + more := by
  induction x generalizing c with
  | nil => simp
  | cons a x ih =>
    cases c with
    | zero => simp; omega
    | succ c =>
      have := ih c
      simp only [List.set_cons_succ, List.sum_cons, List.getD_cons_succ] at *
      omega

/-- Shared cells set aside for a class of a port (R327). -/
theorem State.setAside_spec (s : State) (p : Port) (cls : Nat) : ∃ n y, s.setAside p cls = { s.setPort p y with freeCount := n } ∧
    y = { s.ring.port p with aside := y.aside, tableDue := y.tableDue } ∧ asideBounds y.aside (s.ring.port p).aside ∧
    (255 ≤ s.ring.sharedFree → 255 ≤ (s.ring.setPort p y).sharedFree) := by
  generalize hmore : min (Config.setAside s.freeCount cls) (min (56 - (s.ring.port p).aside.getD cls 0) (s.ring.sharedFree - 255)) =
    more
  have hset : s.setAside p cls = { s.setPort p { s.ring.port p with
      aside := (s.ring.port p).aside.set cls ((s.ring.port p).aside.getD cls 0 + more)
      tableDue := (s.ring.port p).tableDue || decide (0 < more) } with freeCount := s.freeCount + 1 } := by
    rw [← hmore]
    rfl
  refine ⟨_, _, hset, rfl, asideBounds_set _ _ _ (Nat.le_add_right _ _) (by omega), fun hshared => ?_⟩
  have hsum := sum_set_le (s.ring.port p).aside cls more
  have hle : more ≤ s.ring.sharedFree - 255 := by omega
  unfold Ring.sharedFree at *
  cases p with
  | a =>
    show 255 ≤ 2560 - ((s.ring.portA.aside.set cls (s.ring.portA.aside.getD cls 0 + more)).sum + s.ring.portB.aside.sum)
    have hsum : (s.ring.portA.aside.set cls (s.ring.portA.aside.getD cls 0 + more)).sum ≤ s.ring.portA.aside.sum + more := hsum
    omega
  | b =>
    show 255 ≤ 2560 - (s.ring.portA.aside.sum + (s.ring.portB.aside.set cls (s.ring.portB.aside.getD cls 0 + more)).sum)
    have hsum : (s.ring.portB.aside.set cls (s.ring.portB.aside.getD cls 0 + more)).sum ≤ s.ring.portB.aside.sum + more := hsum
    omega

theorem State.setPort_setPort (s : State) (p : Port) (x y : LinkPort) : (s.setPort p x).setPort p y = s.setPort p y := by
  cases p <;> rfl

theorem State.setPort_self (s : State) (p : Port) : s.setPort p (s.ring.port p) = s := by cases p <;> rfl

theorem State.foldl_setAside (l : List Nat) (s : State) (p : Port) : ∃ n y,
    l.foldl (fun s c => s.setAside p c) s = { s.setPort p y with freeCount := n } ∧
    y = { s.ring.port p with aside := y.aside, tableDue := y.tableDue } ∧ asideBounds y.aside (s.ring.port p).aside ∧
    (255 ≤ s.ring.sharedFree → 255 ≤ (s.ring.setPort p y).sharedFree) := by
  induction l generalizing s with
  | nil =>
    refine ⟨s.freeCount, s.ring.port p, ?_, rfl, .refl _, fun h => ?_⟩
    · rw [State.setPort_self]
      rfl
    · rwa [show s.ring.setPort p (s.ring.port p) = s.ring by cases p <;> rfl]
  | cons c l ih =>
    obtain ⟨n, y, heq, hy, hbounds, hshared⟩ := s.setAside_spec p c
    obtain ⟨n', z, heq', hz, hbounds', hshared'⟩ := ih (s.setAside p c)
    have hport : (s.setAside p c).ring.port p = y := by
      rw [heq]
      exact (s.port_setPort p p y).trans (if_pos rfl)
    have hring : (s.setAside p c).ring = s.ring.setPort p y := by rw [heq] <;> rfl
    rw [hport] at hz hbounds'
    rw [hring] at hshared'
    refine ⟨n', z, ?_, hz.trans (congrArg (fun v : LinkPort => { v with aside := z.aside, tableDue := z.tableDue }) hy :),
      hbounds'.trans hbounds, fun h => ?_⟩
    · rw [List.foldl_cons, heq', heq]
      cases p <;> rfl
    · have h' := hshared' (hshared h)
      rwa [show (s.ring.setPort p y).setPort p z = s.ring.setPort p z by cases p <;> rfl] at h'

/-! ### Link frames sent -/

/-- A link frame, its header filled in from the port (R316, R322). -/
def State.linkWire (s : State) (x : LinkPort) (h : Header) (payload : List Byte) : List Byte :=
  wireFrame { h with
    dst := x.peer, src := s.ringId, epoch := x.epoch, aseq := (x.rxSeq + 4095) % 4096, aval := x.rxAny
    len := payload.length } payload [] false

/-- The port once a link frame leaves it (R315). -/
def State.linkSent (s : State) (p : Port) (y : LinkPort) (wire : List Byte) : State :=
  s.setPort p { y with wire := wire, busyUntil := s.clock + s.lineTime (20 + wire.length) }

/-- A port that is free sends the link frame that waits (R322). -/
theorem exec_portTransmit_link {s : State} {dt : Nat} {p : Port} {bad : Bool} {l : LinkFrame} (hon : s.ringOn = true)
    (hm : s.mode = .run) (hbusy : (s.ring.port p).busyUntil ≤ s.clock + dt) (hcut : (s.ring.port (otherPort p)).cut = none)
    (hchoice : (s.ring.port p).linkChoice = some l) (hack : (s.ring.port p).ackOnly = false) :
    exec (.portTransmit dt p bad) s = .next ((s.elapse dt).sendLink p l).settle := by
  have hpick : (s.elapse dt).choice p = some (.link l) := by
    unfold State.choice
    dsimp only
    rw [State.elapse_ring, hchoice]
    exact if_neg (ne_true_of_eq_false hack)
  have hidle : (s.elapse dt).portIdle p = true := by
    rw [State.portIdle, State.elapse_ring, State.elapse_clock, hcut, decide_eq_true hbusy]
    rfl
  have hexec := (event_next _ _ _ s (by rw [State.elapse_ringRuns, State.ringRuns_of hon hm, hidle, hpick]; rfl) :
    execPortTransmit dt p bad s = _)
  rw [hpick] at hexec
  exact hexec

theorem State.sendLink_reset {s : State} {p : Port} {e cause : Nat} {rest : List LinkFrame}
    (h : (s.ring.port p).links = .reset e cause :: rest) : s.sendLink p (.reset e cause) =
      s.linkSent p { s.ring.port p with links := rest } (s.linkWire (s.ring.port p) { kind := 2 } (s.resetPayload p e cause)) := by
  unfold State.sendLink
  dsimp only
  rw [h, List.erase_cons_head]
  rfl

theorem State.sendLink_resetAck {s : State} {p : Port} {e cause : Nat} {rest : List LinkFrame}
    (h : (s.ring.port p).links = .resetAck e cause :: rest) : s.sendLink p (.resetAck e cause) =
      s.linkSent p { s.ring.port p with links := rest } (s.linkWire (s.ring.port p) { kind := 3 } (s.resetPayload p e cause)) := by
  unfold State.sendLink
  dsimp only
  rw [h, List.erase_cons_head]
  rfl

theorem State.sendLink_ack {s : State} {p : Port} (h : (s.ring.port p).links = [] ∨ ∃ rest, (s.ring.port p).links = .ack :: rest) :
    s.sendLink p .ack = s.linkSent p { s.ring.port p with
        links := (s.ring.port p).links.drop 1, nakDue := false, tableDue := false
        tableAt := if (s.ring.port p).tableDue then s.clock else (s.ring.port p).tableAt }
      (s.linkWire (s.ring.port p) { kind := 1, nak := (s.ring.port p).nakDue }
        (if (s.ring.port p).tableDue then (s.ring.port p).table else [])) := by
  unfold State.sendLink
  dsimp only
  have herase : (s.ring.port p).links.erase .ack = (s.ring.port p).links.drop 1 := by
    obtain h | ⟨rest, h⟩ := h <;> rw [h]
    · rfl
    · exact List.erase_cons_head _ _
  rw [herase]
  rfl

theorem LinkPort.linkChoice_cons {x : LinkPort} {l : LinkFrame} {rest : List LinkFrame} (h : x.links = l :: rest) :
    x.linkChoice = some l := by
  unfold LinkPort.linkChoice
  rw [h]

theorem LinkPort.linkChoice_ack {x : LinkPort} (hup : x.up = true) (hdue : x.nakDue = true ∨ x.tableDue = true)
    (h : x.links = [] ∨ ∃ rest, x.links = .ack :: rest) : x.linkChoice = some .ack := by
  obtain h | ⟨rest, h⟩ := h
  · unfold LinkPort.linkChoice
    rw [h, hup]
    obtain h | h := hdue <;> simp [h]
  · exact linkChoice_cons h

theorem LinkPort.ackOnly_of_ne {x : LinkPort} {l : LinkFrame} {rest : List LinkFrame} (h : x.links = l :: rest)
    (hl : l ≠ .ack) : x.ackOnly = false := by
  simp [LinkPort.ackOnly, h, hl]

theorem LinkPort.ackOnly_of_due {x : LinkPort} (hdue : x.nakDue = true ∨ x.tableDue = true) : x.ackOnly = false := by
  obtain h | h := hdue <;> simp [LinkPort.ackOnly, h]

/-! ### The commands of a link -/

/-- A link reset is proposed (R324). -/
def LinkPort.proposing (x : LinkPort) (cause now : Nat) : LinkPort :=
  { x with
    proposal := some { epoch := (x.epoch + 1) % 16, cause := cause, sentAt := now }
    links := x.links ++ [.reset ((x.epoch + 1) % 16) cause] }

/-- The proposal is sent again (R324). -/
def LinkPort.repeating (x : LinkPort) (r : Proposal) (now : Nat) : LinkPort :=
  { x with proposal := some { r with sentAt := now }, links := x.links ++ [.reset r.epoch r.cause] }

theorem State.resendReset_eq {s : State} {p : Port} {r : Proposal} (h : (s.ring.port p).proposal = some r) :
    s.resendReset p = s.setPort p ((s.ring.port p).repeating r s.clock) := by
  unfold State.resendReset
  dsimp only
  rw [h] <;> rfl

theorem exec_phyLinkUp {s : State} {dt h : Nat} {p : Port} (hon : s.ringOn = true) (hm : s.mode = .run)
    (hup : (s.ring.port p).up = false) (hproposal : (s.ring.port p).proposal = none)
    (hdown : ∀ a, (s.ring.port p).downAt = some a → a + 24576000 ≤ s.clock + dt)
    (hhigh : (s.ring.port p).highSince = some h) (hdue : h + 2457600 ≤ s.clock + dt) :
    ∃ t, exec (.phyLinkUp dt p) s = .next t ∧
      t.agrees ((s.elapse dt).setPort p ((s.ring.port p).proposing 3 (s.clock + dt))) := by
  have hcond : ((s.elapse dt).ringRuns && !(s.ring.port p).up && (s.ring.port p).proposal.isNone &&
      (s.elapse dt).downOver (s.ring.port p) &&
      (match (s.ring.port p).highSince with | some t => decide (t + per100ms ≤ (s.elapse dt).clock) | none => false)) = true := by
    rw [hhigh, Bool.and_eq_true, State.elapse_ringRuns, State.ringRuns_of hon hm, hup, hproposal, State.downOver_of hdown]
    exact ⟨rfl, decide_eq_true hdue⟩
  exact (event_agrees hcond rfl : ∃ t, execPhyLinkUp dt p s = .next t ∧ t.agrees _)

theorem exec_linkResetResend {s : State} {dt : Nat} {p : Port} {r : Proposal} (hon : s.ringOn = true) (hm : s.mode = .run)
    (hproposal : (s.ring.port p).proposal = some r) (hdue : r.sentAt + 24576 ≤ s.clock + dt) :
    ∃ t, exec (.linkResetResend dt p) s = .next t ∧
      t.agrees ((s.elapse dt).setPort p ((s.ring.port p).repeating r (s.clock + dt))) := by
  have hcond : ((s.elapse dt).ringRuns && (match (s.ring.port p).proposal with
      | some pr => decide (pr.sentAt + perMs ≤ (s.elapse dt).clock) | none => false)) = true := by
    rw [hproposal, Bool.and_eq_true, State.elapse_ringRuns, State.ringRuns_of hon hm]
    exact ⟨rfl, decide_eq_true hdue⟩
  exact (event_agrees hcond (State.resendReset_eq hproposal) : ∃ t, execLinkResetResend dt p s = .next t ∧ t.agrees _)

theorem exec_linkRecoveryAttempt {s : State} {dt : Nat} {p : Port} (hon : s.ringOn = true) (hm : s.mode = .run)
    (hup : (s.ring.port p).up = false) (hdownAt : (s.ring.port p).downAt.isSome = true)
    (hdown : ∀ a, (s.ring.port p).downAt = some a → a + 24576000 ≤ s.clock + dt)
    (hhigh : (s.ring.port p).highSince.isSome = true) (hdue : (s.ring.port p).attemptAt + 2457600 ≤ s.clock + dt) :
    ∃ t, exec (.linkRecoveryAttempt dt p) s = .next t ∧ t.agrees ((s.elapse dt).setPort p (match (s.ring.port p).proposal with
      | some r => LinkPort.repeating { s.ring.port p with attemptAt := s.clock + dt } r (s.clock + dt)
      | none => LinkPort.proposing { s.ring.port p with attemptAt := s.clock + dt } 3 (s.clock + dt))) := by
  have hcond : ((s.elapse dt).ringRuns && !(s.ring.port p).up && (s.ring.port p).downAt.isSome &&
      (s.elapse dt).downOver (s.ring.port p) && (s.ring.port p).highSince.isSome &&
      decide ((s.ring.port p).attemptAt + per100ms ≤ (s.elapse dt).clock)) = true := by
    rw [Bool.and_eq_true, State.elapse_ringRuns, State.ringRuns_of hon hm, hup, hdownAt, State.downOver_of hdown, hhigh]
    exact ⟨rfl, decide_eq_true hdue⟩
  refine (event_agrees hcond ?_ : ∃ t, execLinkRecoveryAttempt dt p s = .next t ∧ t.agrees _)
  have hport : ((s.elapse dt).setPort p { s.ring.port p with attemptAt := s.clock + dt }).ring.port p =
      { s.ring.port p with attemptAt := s.clock + dt } := ((s.elapse dt).port_setPort p p _).trans (if_pos rfl)
  have heffect : (if (((s.elapse dt).setPort p { s.ring.port p with attemptAt := s.clock + dt }).ring.port p).proposal.isSome
      then ((s.elapse dt).setPort p { s.ring.port p with attemptAt := s.clock + dt }).resendReset p
      else ((s.elapse dt).setPort p { s.ring.port p with attemptAt := s.clock + dt }).proposeReset p 3) =
      (s.elapse dt).setPort p (match (s.ring.port p).proposal with
      | some r => LinkPort.repeating { s.ring.port p with attemptAt := s.clock + dt } r (s.clock + dt)
      | none => LinkPort.proposing { s.ring.port p with attemptAt := s.clock + dt } 3 (s.clock + dt)) := by
    cases hr : (s.ring.port p).proposal with
    | some r =>
      have hr' : (((s.elapse dt).setPort p { s.ring.port p with attemptAt := s.clock + dt }).ring.port p).proposal = some r := by
        rw [hport]
        exact hr
      rw [if_pos (by rw [hr']; rfl), State.resendReset_eq hr', hport, State.setPort_setPort] <;> rfl
    | none =>
      have hr' : (((s.elapse dt).setPort p { s.ring.port p with attemptAt := s.clock + dt }).ring.port p).proposal = none := by
        rw [hport]
        exact hr
      rw [if_neg (by rw [hr']; exact Bool.false_ne_true), State.proposeReset, hport]
      exact State.setPort_setPort _ _ _ _
  exact heffect

/-- What a link reset of a peer leads to (R324, R325). -/
theorem exec_linkResetReceived_outcome {s : State} {dt : Nat} {p : Port} {b : List Byte} (hon : s.ringOn = true)
    (hm : s.mode = .run) (hgood : linkFrameGood 2 b = true)
    (hdown : ∀ a, (s.ring.port p).downAt = some a → a + 24576000 ≤ s.clock + dt) :
    let x := s.ring.port p
    let e := byteAt b 17 % 16
    let cause := byteAt b 19
    let peer := (Header.parse b).src
    let speed := if s.ringFast then 1 else 0
    (byteAt b 16 = portNum p ∨ byteAt b 18 ≠ speed → ∃ t, exec (.linkResetReceived dt p b) s = .next t ∧
      t.portDown p (s.clock + dt) ∧ (t.ring.port p).peer = peer) ∧
    (byteAt b 16 ≠ portNum p → byteAt b 18 = speed → (∀ r, x.proposal = some r → r.epoch ≠ e) → x.up = true → x.epoch = e →
      ∃ t, exec (.linkResetReceived dt p b) s = .next t ∧
        t.agrees ((s.elapse dt).setPort p { x with peer := peer, links := x.links ++ [.resetAck e cause] })) ∧
    (byteAt b 16 ≠ portNum p → byteAt b 18 = speed → (∀ r, x.proposal = some r → r.epoch ≠ e) →
      ¬(x.up = true ∧ x.epoch = e) →
      ((cause ≠ 1 ∧ cause ≠ 2) ∨ (x.recent (s.clock + dt)).length < 2 → ∃ t, exec (.linkResetReceived dt p b) s = .next t ∧
        t.portComplete p (s.cross.rx p) e peer ∧ (t.ring.port p).links.getLast? = some (.resetAck e cause)) ∧
      (cause = 1 ∨ cause = 2 → 2 ≤ (x.recent (s.clock + dt)).length → ∃ t, exec (.linkResetReceived dt p b) s = .next t ∧
        t.portDown p (s.clock + dt))) ∧
    (∀ r, byteAt b 16 ≠ portNum p → byteAt b 18 = speed → x.proposal = some r → r.epoch = e →
      ∃ t, exec (.linkResetReceived dt p b) s = .next t ∧ t.portComplete p (s.cross.rx p) e peer) := by
  intro x e cause peer speed
  have hexec := exec_linkResetReceived hon hm hgood hdown
  have hport := (s.elapse dt).notePeer_port p b
  have hsrc : (((s.elapse dt).notePeer p b).ring.port p).peer = peer := by rw [hport]
  have hclock : ((s.elapse dt).notePeer p b).clock = s.clock + dt := rfl
  have hcross : ((s.elapse dt).notePeer p b).cross = s.cross := rfl
  have hfast : ((s.elapse dt).notePeer p b).ringFast = s.ringFast := rfl
  have hset : (s.elapse dt).setPort p { x with peer := peer, links := x.links ++ [.resetAck e cause] } =
      ((s.elapse dt).notePeer p b).answerReset p e cause := by
    rw [State.answerReset, hport, State.notePeer, State.setPort_setPort] <;> rfl
  rw [hset]
  generalize (s.elapse dt).notePeer p b = u at *
  have hadopt (hletter : byteAt b 16 ≠ portNum p) (hspeed : byteAt b 18 = speed)
      (hother : ∀ r, x.proposal = some r → r.epoch ≠ e) :
      exec (.linkResetReceived dt p b) s = .next (u.adoptReset p e cause).settle := by
    rw [State.peerFault_none hletter (hfast ▸ hspeed), hport] at hexec
    dsimp only at hexec
    cases hr : (s.ring.port p).proposal with
    | none =>
      rw [show (s.elapse dt).ring.port p = s.ring.port p from rfl, hr] at hexec
      exact hexec
    | some r =>
      rw [show (s.elapse dt).ring.port p = s.ring.port p from rfl, hr] at hexec
      exact hexec.trans (congrArg (fun v : State => Host.Outcome.next v.settle) (if_neg (hother r hr)))
  refine ⟨fun h => ?fault, fun hletter hspeed hother hup he => ?again, fun hletter hspeed hother hnew => ?adopt,
    fun r hletter hspeed hr he => ?own⟩
  case fault =>
    obtain ⟨v, hv⟩ := State.peerFault_some (s := u) (p := p) (b := b) (hfast ▸ h)
    rw [hv] at hexec
    obtain ⟨hdowned, hpeer, -⟩ := u.linkDown_down p v
    rw [hclock] at hdowned
    refine ⟨_, hexec, hdowned, ?_⟩
    rw [State.settle_ring, hpeer, hsrc]
  case again =>
    refine ⟨_, hadopt hletter hspeed hother, ?_⟩
    rw [State.adoptReset_again (s := u) cause (by rw [hport]; exact hup) (by rw [hport]; exact he)]
    exact State.settle_agrees _
  case adopt =>
    obtain ⟨hcomplete, hthird⟩ := State.adoptReset_new (s := u) (p := p) (e := e) cause (by rw [hport]; exact hnew)
    rw [hport, hclock, hcross] at hcomplete
    rw [hport, hclock] at hthird
    exact ⟨fun h => ⟨_, hadopt hletter hspeed hother, hcomplete h⟩, fun h hmany => ⟨_, hadopt hletter hspeed hother, hthird h hmany⟩⟩
  case own =>
    rw [State.peerFault_none hletter (hfast ▸ hspeed), hport] at hexec
    dsimp only at hexec
    rw [show (s.elapse dt).ring.port p = s.ring.port p from rfl, show (s.ring.port p).proposal = some r from hr] at hexec
    have hcomplete := u.completeReset_complete p e
    rw [hport, hcross] at hcomplete
    exact ⟨_, hexec.trans (congrArg (fun v : State => Host.Outcome.next v.settle) (if_pos he)), hcomplete⟩

/-- What a reset ack of a peer leads to (R324, R325). -/
theorem exec_resetAckReceived_outcome {s : State} {dt : Nat} {p : Port} {b : List Byte} {r : Proposal} (hon : s.ringOn = true)
    (hm : s.mode = .run) (hgood : linkFrameGood 3 b = true) (hr : (s.ring.port p).proposal = some r) :
    let x := s.ring.port p
    let e := byteAt b 17 % 16
    let peer := (Header.parse b).src
    let speed := if s.ringFast then 1 else 0
    (byteAt b 16 = portNum p ∨ byteAt b 18 ≠ speed → ∃ t, exec (.resetAckReceived dt p b) s = .next t ∧
      t.portDown p (s.clock + dt) ∧ (t.ring.port p).peer = peer) ∧
    (byteAt b 16 ≠ portNum p → byteAt b 18 = speed → r.epoch = e → ∃ t, exec (.resetAckReceived dt p b) s = .next t ∧
      t.portComplete p (s.cross.rx p) e peer) ∧
    (byteAt b 16 ≠ portNum p → byteAt b 18 = speed → r.epoch ≠ e → ∃ t, exec (.resetAckReceived dt p b) s = .next t ∧
      t.agrees ((s.elapse dt).setPort p { x with peer := peer })) := by
  intro x e peer speed
  have hexec := (event_next _ _ _ s (by
    rw [State.elapse_ringRuns, State.ringRuns_of hon hm, hgood, State.elapse_ring, hr]; rfl) :
    execResetAckReceived dt p b s = _)
  dsimp only at hexec
  have hport := (s.elapse dt).notePeer_port p b
  have hsrc : (((s.elapse dt).notePeer p b).ring.port p).peer = peer := by rw [hport]
  have hclock : ((s.elapse dt).notePeer p b).clock = s.clock + dt := rfl
  have hcross : ((s.elapse dt).notePeer p b).cross = s.cross := rfl
  have hfast : ((s.elapse dt).notePeer p b).ringFast = s.ringFast := rfl
  have hset : (s.elapse dt).setPort p { x with peer := peer } = (s.elapse dt).notePeer p b := rfl
  rw [hset]
  generalize (s.elapse dt).notePeer p b = u at *
  have hproposal : (u.ring.port p).proposal = some r := by
    rw [hport]
    exact hr
  refine ⟨fun h => ?fault, fun hletter hspeed he => ?complete, fun hletter hspeed he => ?other⟩
  case fault =>
    obtain ⟨v, hv⟩ := State.peerFault_some (s := u) (p := p) (b := b) (hfast ▸ h)
    rw [hv] at hexec
    obtain ⟨hdowned, hpeer, -⟩ := u.linkDown_down p v
    rw [hclock] at hdowned
    refine ⟨_, hexec, hdowned, ?_⟩
    rw [State.settle_ring, hpeer, hsrc]
  case complete =>
    rw [State.peerFault_none hletter (hfast ▸ hspeed)] at hexec
    dsimp only at hexec
    rw [hproposal] at hexec
    have hcomplete := u.completeReset_complete p e
    rw [hport, hcross] at hcomplete
    exact ⟨_, hexec.trans (congrArg (fun v : State => Host.Outcome.next v.settle) (if_pos he)), hcomplete⟩
  case other =>
    rw [State.peerFault_none hletter (hfast ▸ hspeed)] at hexec
    dsimp only at hexec
    rw [hproposal] at hexec
    exact ⟨_, hexec.trans (congrArg (fun v : State => Host.Outcome.next v.settle) (if_neg he)), State.settle_agrees _⟩

/-- What an ack frame does (R321 to R323, R327). -/
theorem exec_ackFrameReceived_outcome {s : State} {dt : Nat} {p : Port} {b : List Byte} (hon : s.ringOn = true)
    (hm : s.mode = .run) (hgood : linkFrameGood 1 b = true) (hup : (s.ring.port p).up = true)
    (hepoch : (Header.parse b).epoch = (s.ring.port p).epoch) :
    let x := s.ring.port p
    let h := Header.parse b
    ∃ t, exec (.ackFrameReceived dt p b) s = .next t ∧
      (∀ u, u ∈ (t.ring.port p).unacked ↔ u ∈ x.unacked ∧ ¬(h.aval = true ∧ (h.aseq + 4096 - u.seq) % 4096 < 2048)) ∧
      (t.ring.port p).peer = h.src ∧ (t.ring.port p).txSeq = x.txSeq ∧ (t.ring.port p).rxSeq = x.rxSeq ∧
      (t.ring.port p).limits = (if h.len = 128 then tableLimits b else x.limits) ∧
      (∀ u rest, h.nak = true → (t.ring.port p).unacked = u :: rest → x.proposal = none → x.resend = [] →
        u.tries < 4 → (t.ring.port p).resend = (t.ring.port p).unacked.map Sent.seq) := by
  intro x h
  have hexec := (event_next _ _ _ s (by
    rw [Bool.and_eq_true, State.elapse_ringRuns, State.ringRuns_of hon hm, State.elapse_ring, hup, hgood]
    exact ⟨rfl, decide_eq_true hepoch⟩) : execAckFrameReceived dt p b s = _)
  dsimp only at hexec
  have hport := (s.elapse dt).notePeer_port p b
  generalize (s.elapse dt).notePeer p b = u at *
  have hlimits : (if h.len = 128 then u.setPort p { u.ring.port p with limits := tableLimits b } else u).ring.port p =
      { x with peer := h.src, limits := if h.len = 128 then tableLimits b else x.limits } := by
    split
    · rw [State.port_setPort, if_pos rfl, hport] <;> rfl
    · exact hport
  have hspec := (if h.len = 128 then u.setPort p { u.ring.port p with limits := tableLimits b } else u).takeAck_spec p h
  rw [hlimits] at hspec
  exact ⟨_, hexec, hspec⟩

/-- The ack timer of the oldest frame has expired (R323). -/
theorem exec_ackTimerExpiry {s : State} {dt : Nat} {p : Port} {u : Sent} {rest : List Sent} (hon : s.ringOn = true)
    (hm : s.mode = .run) (hup : (s.ring.port p).up = true) (hpause : s.volt.pauseAt = none)
    (hproposal : (s.ring.port p).proposal = none) (hunacked : (s.ring.port p).unacked = u :: rest)
    (hresend : (s.ring.port p).resend.head? ≠ some u.seq)
    (hdue : u.sentAt + (if s.ringFast then 492 else 4916) ≤ (s.ring.port p).timer.read (s.clock + dt)) :
    exec (.ackTimerExpiry dt p) s = .next ((s.elapse dt).goBack p).settle := by
  refine (event_next _ _ _ s ?_ : execAckTimerExpiry dt p s = _)
  dsimp only
  rw [Bool.and_eq_true, State.elapse_ringRuns, State.ringRuns_of hon hm, State.elapse_ring, hup, hproposal,
    show (s.elapse dt).paused = false by simp [State.paused, hpause], hunacked, List.head?_cons]
  refine ⟨rfl, ?_⟩
  dsimp only
  rw [decide_eq_true hresend, Bool.true_and]
  exact decide_eq_true hdue

/-- The credit table is due (R327). -/
theorem exec_creditTableTimer {s : State} {dt : Nat} {p : Port} (hon : s.ringOn = true) (hm : s.mode = .run)
    (hup : (s.ring.port p).up = true) (hdue : (s.ring.port p).tableAt + 24576 ≤ s.clock + dt) :
    ∃ n y, exec (.creditTableTimer dt p) s = .next (State.settle { (s.elapse dt).setPort p y with freeCount := n }) ∧
      y = { s.ring.port p with tableDue := true, tableAt := s.clock + dt, aside := y.aside } ∧
      asideBounds y.aside (s.ring.port p).aside ∧ (255 ≤ s.ring.sharedFree → 255 ≤ (s.ring.setPort p y).sharedFree) ∧
      (s.volt.pauseAt ≠ none → y.aside = (s.ring.port p).aside ∧ n = s.freeCount) := by
  have hexec := (event_next _ _ _ s (by
    rw [Bool.and_eq_true, State.elapse_ringRuns, State.ringRuns_of hon hm, State.elapse_ring, hup]
    exact ⟨rfl, decide_eq_true hdue⟩) : execCreditTableTimer dt p s = _)
  dsimp only at hexec
  cases hpaused : (s.elapse dt).paused with
  | true =>
    rw [hpaused, if_pos rfl] at hexec
    refine ⟨s.freeCount, _, hexec, rfl, .refl _, fun h => ?_, fun _ => ⟨rfl, rfl⟩⟩
    cases p <;> exact h
  | false =>
    have hnone : s.volt.pauseAt = none := by simpa [State.paused] using hpaused
    rw [hpaused, if_neg Bool.false_ne_true] at hexec
    obtain ⟨n, y, heq, hy, hbounds, hshared⟩ := (s.elapse dt).foldl_setAside (List.range 64) p
    have hport : (State.ring { (s.elapse dt).setPort p y with freeCount := n }).port p = y :=
      ((s.elapse dt).port_setPort p p y).trans (if_pos rfl)
    have hset : State.setPort { (s.elapse dt).setPort p y with freeCount := n } p { y with
        tableDue := true, tableAt := s.clock + dt } = { (s.elapse dt).setPort p { y with
        tableDue := true, tableAt := s.clock + dt } with freeCount := n } := by cases p <;> rfl
    rw [heq, hport] at hexec
    refine ⟨n, { y with tableDue := true, tableAt := s.clock + dt },
      hexec.trans (congrArg (fun v : State => Host.Outcome.next v.settle) hset),
      (congrArg (fun v : LinkPort => { v with tableDue := true, tableAt := s.clock + dt }) hy :), hbounds, fun h => ?_,
      fun h => absurd hnone h⟩
    have h := hshared h
    cases p <;> exact h

/-- Settles O57: the link resets by what the peer reports, acknowledgements and retry, the credit table and the link frames. -/
theorem ringLinks : Obligations.RingLinks := by
  unfold Obligations.RingLinks
  intro s dt p hon hm now x after next proposed again downLong resets speed down complete
  have hafter (y : LinkPort) : after y = (s.elapse dt).setPort p y := rfl
  refine ⟨fun h hup hproposal hdown hhigh hdue => exec_phyLinkUp hon hm hup hproposal hdown hhigh hdue,
    fun r hproposal hdue => exec_linkResetResend hon hm hproposal hdue,
    fun hup hdownAt hdown hhigh hdue => ?recovery, fun b => ?frames,
    fun u rest hup hpause hproposal hunacked hresend hdue => ?timer, fun hup hdue => ?table, fun bad hbusy hcut => ?transmit⟩
  case recovery =>
    obtain ⟨t, hexec, hagrees⟩ := exec_linkRecoveryAttempt hon hm hup hdownAt hdown hhigh hdue
    refine ⟨t, hexec, ?_⟩
    rw [hafter]
    exact hagrees
  case frames =>
    intro e cause peer
    refine ⟨fun hgood hdown => exec_linkResetReceived_outcome hon hm hgood hdown,
      fun r hgood hr => exec_resetAckReceived_outcome hon hm hgood hr,
      fun hgood hup hepoch => exec_ackFrameReceived_outcome hon hm hgood hup hepoch⟩
  case timer =>
    have hexec := exec_ackTimerExpiry hon hm hup hpause hproposal hunacked hresend hdue
    refine ⟨fun htries => ?_, fun htries hfew => ?_, fun htries hmany => ?_⟩
    · rw [State.goBack_resend (s := s.elapse dt) hunacked hproposal hresend htries] at hexec
      exact ⟨_, hexec, State.settle_agrees _⟩
    · rw [State.goBack_exhausted (s := s.elapse dt) hunacked hproposal hresend htries] at hexec
      have hport := ((s.elapse dt).exhausted_spec p).1 hfew
      exact ⟨_, hexec, (congrArg LinkPort.proposal hport :), (congrArg LinkPort.links hport :),
        (congrArg LinkPort.unacked hport :), (congrArg LinkPort.up hport :).trans hup⟩
    · rw [State.goBack_exhausted (s := s.elapse dt) hunacked hproposal hresend htries] at hexec
      exact ⟨_, hexec, (((s.elapse dt).exhausted_spec p).2 hmany).1⟩
  case table =>
    obtain ⟨n, y, hexec, hy, hbounds, hshared, hpaused⟩ := exec_creditTableTimer hon hm hup hdue
    have hport : (State.ring { (s.elapse dt).setPort p y with freeCount := n }).port p = y :=
      ((s.elapse dt).port_setPort p p y).trans (if_pos rfl)
    refine ⟨_, hexec, ?_⟩
    rw [State.settle_ring, hport]
    refine ⟨hy, State.settle_agrees _, hbounds, fun h => ?_, fun h => ?_⟩
    · exact hshared h
    · exact hpaused h
  case transmit =>
    intro sent
    refine ⟨fun e cause rest hlinks => ?reset, fun e cause rest hlinks => ?resetAck, fun hup hdue hlinks => ?ack⟩
    case reset =>
      have hexec := exec_portTransmit_link (bad := bad) hon hm hbusy hcut (LinkPort.linkChoice_cons hlinks)
        (LinkPort.ackOnly_of_ne hlinks LinkFrame.noConfusion)
      rw [State.sendLink_reset (s := s.elapse dt) hlinks] at hexec
      exact ⟨_, hexec, State.settle_agrees _⟩
    case resetAck =>
      have hexec := exec_portTransmit_link (bad := bad) hon hm hbusy hcut (LinkPort.linkChoice_cons hlinks)
        (LinkPort.ackOnly_of_ne hlinks LinkFrame.noConfusion)
      rw [State.sendLink_resetAck (s := s.elapse dt) hlinks] at hexec
      exact ⟨_, hexec, State.settle_agrees _⟩
    case ack =>
      have hexec := exec_portTransmit_link (bad := bad) hon hm hbusy hcut (LinkPort.linkChoice_ack hup hdue hlinks)
        (LinkPort.ackOnly_of_due hdue)
      rw [State.sendLink_ack (s := s.elapse dt) hlinks] at hexec
      exact ⟨_, hexec, State.settle_agrees _⟩

end Sys2Proof.Machine
end

section
/-! The learning and health stage of a tick (11_learning.md; R216 to R223, R226 to R230, R232, R234, R237, R349). -/

namespace Sys2Proof.Machine

/-! ### What the row layer leaves of a tick's judgement and of the learning stage -/

/-- What the learning stage shows of a tick, and what it does not touch (R227 to R230). -/
def State.judgement (s : State) :=
  (s.ticks, s.learn.levels, s.learn.fleetHits, s.hearth.inFlight, s.out.alert, s.out.alarm, s.panel, s.chans)

/-- The judgement with what a query adds to the learning stage: kindling counters and pending writes (R216, R226). -/
def State.stageWork (s : State) :=
  (s.judgement, s.learn.kindling, s.learn.writes, s.learn.stageTick, s.learn.teach, s.learn.seasoned)

theorem State.judgement_of_stageWork {t u : State} (h : t.stageWork = u.stageWork) : t.judgement = u.judgement :=
  congrArg Prod.fst h

theorem State.records_stageWork {t u : State} (h : t.agreesButRecords u) : t.stageWork = u.stageWork := by
  rw [h.1]
  rfl

theorem State.foldl_stageWork {α : Type} {f : State → α → State} (hf : ∀ s x, (f s x).stageWork = s.stageWork) (l : List α)
    (s : State) : (l.foldl f s).stageWork = s.stageWork := by
  induction l generalizing s with
  | nil => rfl
  | cons x l ih => exact (ih _).trans (hf s x)

@[simp] theorem State.memoryEvent_stageWork (s : State) (ev : Nat) (m : Master) (addr row seg erased source : Nat) :
    (s.memoryEvent ev m addr row seg erased source).stageWork = s.stageWork :=
  State.records_stageWork (s.memoryEvent_records ..)

@[simp] theorem State.poke_stageWork (s : State) (a : Nat) (bs : List Byte) : (s.poke a bs).stageWork = s.stageWork := rfl

@[simp] theorem State.setTag_stageWork (s : State) (row : Nat) (t : Tag) : (s.setTag row t).stageWork = s.stageWork := rfl

@[simp] theorem State.writeRow_stageWork (s : State) (row : Nat) (v : HV) (t : Tag) :
    (s.writeRow row v t).stageWork = s.stageWork := rfl

@[simp] theorem State.setAccum_stageWork (s : State) (x : Accum) : (s.setAccum x).stageWork = s.stageWork := rfl

@[simp] theorem State.freeAccum_stageWork (s : State) (row : Nat) : (s.freeAccum row).stageWork = s.stageWork := rfl

@[simp] theorem State.bumpLife_stageWork (s : State) (row : Nat) : (s.bumpLife row).stageWork = s.stageWork := rfl

@[simp] theorem State.markDirty_stageWork (s : State) (row : Nat) (data tag : Bool) :
    (s.markDirty row data tag).stageWork = s.stageWork := by
  rw [State.markDirty_eq]
  rfl

@[simp] theorem State.request_stageWork (s : State) (x : Refetch) : (s.request x).stageWork = s.stageWork := by
  rw [State.request_lib]
  rfl

@[simp] theorem State.spendRow_stageWork (s : State) (row : Nat) (m : Master) : (s.spendRow row m).stageWork = s.stageWork := by
  unfold State.spendRow State.requestRow
  dsimp only
  split <;> simp

@[simp] theorem State.startHeal_stageWork (s : State) (row seg : Nat) (again : Bool) :
    (s.startHeal row seg again).stageWork = s.stageWork := by
  unfold State.startHeal
  dsimp only
  split
  · exact s.request_stageWork _
  · rfl
  · rfl

@[simp] theorem State.segmentFound_stageWork (s : State) (row seg : Nat) (m : Master) :
    (s.segmentFound row seg m).stageWork = s.stageWork := by
  unfold State.segmentFound
  dsimp only
  split
  · rfl
  · split
    · simp
    · split <;> simp

@[simp] theorem State.tagFound_stageWork (s : State) (row : Nat) (m : Master) : (s.tagFound row m).stageWork = s.stageWork := by
  unfold State.tagFound State.requestRow
  dsimp only
  split
  · rfl
  · split <;> simp

@[simp] theorem State.metErrors_stageWork (s : State) (met : List Met) (m : Master) :
    (s.metErrors met m).stageWork = s.stageWork := by
  refine State.foldl_stageWork (fun s e => ?_) met s
  split
  · split <;> simp
  · split <;> simp

@[simp] theorem State.seedCounters_stageWork (s : State) (a row : Nat) : (s.seedCounters a row).stageWork = s.stageWork :=
  (State.metErrors_stageWork _ _ _).trans (s.poke_stageWork _ _)

@[simp] theorem State.reseedAccum_stageWork (s : State) (a addr : Nat) (m : Master) :
    (s.reseedAccum a addr m).stageWork = s.stageWork := by
  unfold State.reseedAccum
  split <;> simp

theorem State.committing_stageWork (u : State) (e : List (Nat × Nat)) (row : Nat) (x : Accum) (data tag : Bool) :
    ((State.markDirty { u with ecc := e } row data tag).setAccum x).stageWork = u.stageWork := by
  rw [State.setAccum_stageWork, State.markDirty_stageWork]
  rfl

@[simp] theorem State.commitRow_stageWork (s : State) (x : Accum) : (s.commitRow x).stageWork = s.stageWork := by
  unfold State.commitRow
  extract_lets old bad t segs full counters data kept t' s1 s2 s3 s4 s5
  have hs4 : s4.stageWork = s.stageWork :=
    (State.committing_stageWork s1 _ x.row _ true _).trans (s.writeRow_stageWork _ _ _)
  clear_value s4
  split
  · exact (State.foldl_stageWork (fun _ _ => State.memoryEvent_stageWork ..) _ _).trans hs4
  · have hs5 : s5.stageWork = s.stageWork := (State.foldl_stageWork (fun _ _ => State.memoryEvent_stageWork ..) _ _).trans hs4
    split
    · rw [State.spendRow_stageWork, hs5]
    · exact hs5

@[simp] theorem State.commitAccum_stageWork (s : State) (x : Accum) : (s.commitAccum x).stageWork = s.stageWork := by
  unfold State.commitAccum
  split
  · simp
  · split <;> simp

@[simp] theorem State.takeAccum_stageWork (s : State) (x : Accum) : (s.takeAccum x).stageWork = s.stageWork := by
  have h : (if x.k = 0 then s else s.commitAccum x).stageWork = s.stageWork := by split <;> simp
  exact h

@[simp] theorem State.openAccum_stageWork (s : State) (row : Nat) : (s.openAccum row).stageWork = s.stageWork := by
  unfold State.openAccum
  split
  · rfl
  · extract_lets u
    have hu : u.stageWork = s.stageWork := by
      simp only [u]
      split
      · rfl
      · split <;> simp
    split
    · exact hu
    · exact (State.seedCounters_stageWork _ _ _).trans hu

@[simp] theorem State.admitCounters_stageWork (s : State) (row : Nat) (v : HV) :
    (s.admitCounters row v).stageWork = s.stageWork := by
  unfold State.admitCounters
  extract_lets u
  have hu : u.stageWork = s.stageWork := by
    simp only [u]
    split
    · rfl
    · split <;> simp
  split
  · exact hu
  · exact hu

/-! ### The judgement stays through the stage -/

@[simp] theorem State.addKindling_judgement (s : State) (cell tRef : Nat) : (s.addKindling cell tRef).judgement = s.judgement := rfl

@[simp] theorem State.pushWrite_judgement (s : State) (w : RowOp) : (s.pushWrite w).judgement = s.judgement := rfl

theorem State.spawn_judgement (s : State) (vec : HV) (scope bin radius mu delta : Nat) :
    (s.spawn vec scope bin radius mu delta).1.judgement = s.judgement := by
  unfold State.spawn
  split
  · rfl
  · split <;> rfl

theorem State.admission_stageWork (s : State) (vec : HV) (row dist : Nat) :
    (s.admission vec row dist).stageWork = (s.pushWrite (.admission row dist)).stageWork := by
  have h := (State.admitCounters_stageWork (s.openAccum row) row vec).trans (s.openAccum_stageWork row)
  unfold State.admission
  generalize (s.openAccum row).admitCounters row vec = u at h
  simp only [State.stageWork, Prod.mk.injEq] at h
  obtain ⟨hj, hk, hw, ht, hteach, hs⟩ := h
  simp only [State.stageWork, State.pushWrite_judgement, Prod.mk.injEq]
  refine ⟨hj, hk, ?_, ht, hteach, hs⟩
  rw [State.pushWrite, State.pushWrite, hw, ht]

theorem State.learnQuery_judgement (fleet : List Diag) (t : Tick) (a : State × Option Nat) (q : Query) :
    (State.learnQuery fleet t a q).1.judgement = a.1.judgement := by
  unfold State.learnQuery
  dsimp only
  split
  · rfl
  · split
    · exact (State.judgement_of_stageWork (State.admission_stageWork ..)).trans rfl
    · split
      · rfl
      · rw [State.spawn_judgement, State.addKindling_judgement]

theorem State.foldl_learnQuery_judgement (fleet : List Diag) (t : Tick) (l : List Query) (a : State × Option Nat) :
    (l.foldl (State.learnQuery fleet t) a).1.judgement = a.1.judgement := by
  induction l generalizing a with
  | nil => rfl
  | cons q l ih => exact (ih _).trans (State.learnQuery_judgement fleet t a q)

theorem State.records_judgement {t u : State} (h : t.agreesButRecords u) : t.judgement = u.judgement :=
  State.judgement_of_stageWork (State.records_stageWork h)

/-- An overdue teach, abandoned at a tick (R232, R234). -/
theorem State.teachTimeoutAt_records (s : State) (t : Tick) : (s.teachTimeoutAt t).agreesButRecords
    { s with learn := { s.learn with teach := s.learn.teach.filter (fun x => !x.overdue t) } } := by
  unfold State.teachTimeoutAt
  split
  next h =>
    rw [h, show ({ s with learn := { s.learn with teach := Option.filter (fun x : Teach => !x.overdue t) none } } : State) = s by
      rw [Option.filter_none, ← h]]
    exact s.agreesButRecords_refl
  next x h =>
    rw [h]
    split
    · next hdue =>
      rw [Option.filter_some, if_neg (by simp [hdue])]
      exact State.agreesButRecords_trans (State.ashRecord_records _ _ _ _) (State.report_records _ _ _ _ _)
    · next hdue =>
      rw [Option.filter_some, if_pos (by simpa using hdue), ← h]
      exact s.agreesButRecords_refl

theorem State.teachRecord_judgement (s : State) (outcome label row freed bin collected radius : Nat) :
    (s.teachRecord outcome label row freed bin collected radius).judgement = s.judgement :=
  State.records_judgement (s.teachRecord_records ..)

theorem State.announceTeach_judgement (s : State) (slot : Nat) (tag : Tag) (data : HV) :
    (s.announceTeach slot tag data).judgement = s.judgement := by
  unfold State.announceTeach
  extract_lets q u
  have hu : u.judgement = s.judgement := rfl
  split
  · exact (State.records_judgement (u.originate_records ..)).trans hu
  · exact hu

theorem State.finishTeach_judgement (s : State) (x : Teach) (bin : Nat) : (s.finishTeach x bin).judgement = s.judgement := by
  unfold State.finishTeach
  extract_lets l u bundle v done r slot sev
  have hu : u.judgement = s.judgement := rfl
  split
  · have hr : r.1.judgement = s.judgement := (State.spawn_judgement ..).trans hu
    split
    · exact (State.teachRecord_judgement ..).trans hr
    · exact (State.teachRecord_judgement ..).trans hr
  · split
    · exact (State.teachRecord_judgement ..).trans hu
    · exact (State.announceTeach_judgement ..).trans ((State.teachRecord_judgement ..).trans hu)

theorem State.collectTeach_judgement (s : State) (t : Tick) : (s.collectTeach t).judgement = s.judgement := by
  unfold State.collectTeach
  split
  · split
    · dsimp only
      split
      · rfl
      · exact State.finishTeach_judgement ..
    · rfl
  · rfl

theorem State.markDue_judgement (s : State) : s.markDue.judgement = s.judgement := by
  unfold State.markDue
  split <;> rfl

/-- The fleet query of a tick changes the fleet's state and what a frame does (R340 to R342). -/
theorem State.fleetQuestion_records (s : State) (t : Tick) (seasoned : List Nat) (spawned : Option Nat) (hits : Nat) :
    ∃ f, (s.fleetQuestion t seasoned spawned hits).agreesButRecords { s with fleet := f } := by
  have hask (kind bin : Nat) (vec : HV) (row : Nat) : ∃ f, (s.askFleet kind bin vec row none false).agreesButRecords
      { s with fleet := f } := by
    unfold State.askFleet
    extract_lets e stamp q p u
    obtain ⟨hfields, hfree, hmem, hecc⟩ := s.originate_records 1 32 s.ringId 0 p
    refine ⟨{ u.fleet with queries := u.fleet.queries ++ [q], askedAt := some u.clock }, ?_, hfree, hmem, hecc⟩
    exact (congrArg (fun v : State => { v with
      fleet := { u.fleet with queries := u.fleet.queries ++ [q], askedAt := some u.clock } }) hfields :)
  have hsame : ∃ f, s.agreesButRecords { s with fleet := f } := ⟨s.fleet, s.agreesButRecords_refl⟩
  unfold State.fleetQuestion
  split
  · exact hsame
  · split
    · exact hsame
    · split
      · exact hask ..
      · split
        · exact hask ..
        · exact hsame

theorem State.fleetQuestion_judgement (s : State) (t : Tick) (seasoned : List Nat) (spawned : Option Nat) (hits : Nat) :
    (s.fleetQuestion t seasoned spawned hits).judgement = s.judgement := by
  obtain ⟨f, h⟩ := s.fleetQuestion_records t seasoned spawned hits
  exact (State.records_judgement h).trans rfl

/-- The state in which the queries of a tick are learnt: the tick is judged (R227 to R230). -/
def State.entered (s : State) (t : Tick) : State :=
  { s with
    ticks := s.ticks.map (fun u => if u.id = t.id then s.judged t else u)
    learn := { s.learn with fleetHits := [], levels := (s.judged t).levels, stageTick := t.id } }

/-- The state once the queries of a tick have been learnt, with the row that the machine query spawned (R219). -/
def State.learnt (s : State) (t : Tick) : State × Option Nat :=
  t.queries.foldl (State.learnQuery (s.tickFleetHits t) t) (s.entered t, none)

theorem State.learnStage_eq (s : State) (t : Tick) : s.learnStage t =
    ((((s.learnt t).1.teachTimeoutAt t).collectTeach t).markDue.seasonCells).fleetQuestion t s.learn.seasoned (s.learnt t).2
      (s.judged t).diagHits := rfl

theorem State.learnStage_judgement (s : State) (t : Tick) : (s.learnStage t).judgement = (s.entered t).judgement := by
  have hseason (u : State) : u.seasonCells.judgement = u.judgement := rfl
  rw [s.learnStage_eq t, State.fleetQuestion_judgement, hseason, State.markDue_judgement, State.collectTeach_judgement,
    State.records_judgement (State.teachTimeoutAt_records ..)]
  exact State.foldl_learnQuery_judgement ..

/-! ### The judgement of a tick -/

/-- One diagnosis ranks above another that stands earlier: a higher severity, or a smaller distance (R229). -/
def Diag.above (d e : Diag) : Prop := e.severity < d.severity ∨ (e.severity = d.severity ∧ d.dist < e.dist)

/-- One diagnosis stands against another that stands later (R229). -/
def Diag.holds (d e : Diag) : Prop := e.severity < d.severity ∨ (e.severity = d.severity ∧ d.dist ≤ e.dist)

/-- The ranking takes the hit of highest severity, then of smallest distance, then the earliest (R229). -/
theorem rankDiag_foldl {l : List Diag} (h : l ≠ []) : ∃ l₁ d l₂, l = l₁ ++ d :: l₂ ∧ l.foldl rankDiag none = some d ∧
    (∀ e ∈ l₁, d.above e) ∧ ∀ e ∈ l₂, d.holds e := by
  induction l using List.reverseRecOn with
  | nil => exact absurd rfl h
  | append_singleton l x ih =>
    by_cases hl : l = []
    · subst hl
      exact ⟨[], x, [], rfl, rfl, by simp, by simp⟩
    · obtain ⟨l₁, d, l₂, rfl, hbest, hbefore, hafter⟩ := ih hl
      rw [List.foldl_append, hbest, List.foldl_cons, List.foldl_nil]
      by_cases hbetter : d.severity < x.severity ∨ (d.severity = x.severity ∧ x.dist < d.dist)
      · refine ⟨l₁ ++ d :: l₂, x, [], rfl, if_pos hbetter, fun e he => ?_, by simp⟩
        have hle : d.holds e := by
          obtain he | rfl | he := (List.mem_append.1 he).imp_right List.mem_cons.1
          · exact (hbefore e he).imp_right fun ⟨hs, hd⟩ => ⟨hs, hd.le⟩
          · exact .inr ⟨rfl, le_rfl⟩
          · exact hafter e he
        unfold Diag.holds at hle
        unfold Diag.above
        omega
      · refine ⟨l₁, d, l₂ ++ [x], by simp, if_neg hbetter, hbefore, fun e he => ?_⟩
        obtain he | he := List.mem_append.1 he
        · exact hafter e he
        · rw [List.mem_singleton.1 he]
          unfold Diag.holds
          omega

theorem foldl_max_spec (l : List Nat) (n : Nat) : n ≤ l.foldl max n ∧ (∀ x ∈ l, x ≤ l.foldl max n) ∧
    (l.foldl max n = n ∨ l.foldl max n ∈ l) := by
  induction l generalizing n with
  | nil => exact ⟨le_rfl, by simp, .inl rfl⟩
  | cons a l ih =>
    obtain ⟨hn, hle, hmem⟩ := ih (max n a)
    rw [List.foldl_cons]
    refine ⟨(le_max_left n a).trans hn, fun x hx => ?_, ?_⟩
    · obtain rfl | hx := List.mem_cons.1 hx
      · exact (le_max_right n x).trans hn
      · exact hle x hx
    · obtain h | h := hmem
      · rw [h]
        obtain h | h := max_choice n a
        · exact .inl h
        · exact .inr (by rw [h]; exact List.mem_cons_self)
      · exact .inr (List.mem_cons_of_mem _ h)

/-- The tick health is the largest of the queries in seasoned cells (R228). -/
theorem tickHealthOf_spec (seasoned : List Nat) (t : Tick) :
    (∀ q ∈ t.queries, seasoned.contains (queryCell t q) = true → healthOf q.res.normal ≤ tickHealthOf seasoned t) ∧
    (tickHealthOf seasoned t = 0 ∨ ∃ q ∈ t.queries, seasoned.contains (queryCell t q) = true ∧
      tickHealthOf seasoned t = healthOf q.res.normal) := by
  obtain ⟨-, hle, hmem⟩ := foldl_max_spec
    ((t.queries.filter (fun q => seasoned.contains (queryCell t q))).map (fun q => healthOf q.res.normal)) 0
  refine ⟨fun q hq hc => hle _ (List.mem_map_of_mem (List.mem_filter.2 ⟨hq, hc⟩)), hmem.imp_right fun h => ?_⟩
  obtain ⟨q, hq, heq⟩ := List.mem_map.1 h
  obtain ⟨hq, hc⟩ := List.mem_filter.1 hq
  exact ⟨q, hq, hc, heq.symm⟩

theorem healthOf_eq (l : Lane) :
    healthOf l = if l.none = true ∨ l.radius = 0 then 1000 else min 1000 (500 * l.dist / l.radius) := by
  unfold healthOf
  simp only [Bool.or_eq_true, decide_eq_true_eq]

theorem Query.diag_eq (q : Query) : q.diag =
    (let l := (q.result.getD {}).diagnosis
    if l.none = false ∧ l.dist < l.radius ∧ 1 ≤ l.label ∧ l.label ≤ 14 ∧ 1 ≤ l.severity ∧ l.severity ≤ 2 then
      some { query := q.scope, severity := l.severity, cls := l.cls, label := l.label, row := l.row, dist := l.dist
             radius := l.radius, second := l.second, count := l.count, originId := l.originId
             originSlot := l.originSlot }
    else none) := by
  unfold Query.diag Query.res Lane.hit
  simp only [Bool.and_eq_true, decide_eq_true_eq, Bool.not_eq_true', and_assoc]

theorem tickDiag_spec (fleet : List Diag) (t : Tick) :
    (t.queries.filterMap Query.diag ++ fleet = [] → tickDiag fleet t = none) ∧
    (t.queries.filterMap Query.diag ++ fleet ≠ [] → ∃ l₁ d l₂, t.queries.filterMap Query.diag ++ fleet = l₁ ++ d :: l₂ ∧
      tickDiag fleet t = some d ∧ (∀ e ∈ l₁, d.above e) ∧ ∀ e ∈ l₂, d.holds e) :=
  ⟨fun h => by rw [tickDiag, h]; rfl, rankDiag_foldl⟩

theorem State.judged_diagHits (s : State) (t : Tick) : (s.judged t).diagHits = t.queries.countP (fun q =>
    q.diag.isSome || (decide (q.scope = 32) && !s.learn.fleetHits.isEmpty)) := by
  by_cases h : t.queries = []
  · show t.queries.countP _ = _
    rw [h]
    rfl
  · show t.queries.countP (queryHit (if t.queries = [] then [] else s.learn.fleetHits)) = _
    rw [if_neg h]
    rfl

theorem State.judged_kindling (s : State) (t : Tick) : (s.judged t).kindling = true ↔
    t.queries ≠ [] ∧ ∀ q ∈ t.queries, s.learn.seasoned.contains (queryCell t q) = false := by
  show (decide (t.queries ≠ []) && t.queries.all (fun q => !s.learn.seasoned.contains (queryCell t q))) = true ↔ _
  rw [Bool.and_eq_true, decide_eq_true_eq, List.all_eq_true]
  exact Iff.and Iff.rfl (forall₂_congr fun q _ => by rw [Bool.not_eq_true'])

theorem State.judged_level (s : State) (t : Tick) :
    (t.queries = [] → (s.judged t).level = 0 ∧ (s.judged t).levels = s.learn.levels) ∧
    (t.queries ≠ [] → (s.judged t).levels = ((s.judged t).level :: s.learn.levels).take 8 ∧ (s.judged t).level =
      (if s.alarmLevel ≤ (s.judged t).tickHealth ∨ (∃ d, (s.judged t).diag = some d ∧ d.severity = 2) then 2
        else if s.alertLevel ≤ (s.judged t).tickHealth ∨ (∃ d, (s.judged t).diag = some d ∧ d.severity = 1) then 1
        else 0)) := by
  have hsev (d : Option Diag) (n : Nat) (hn : n ≠ 0) : (d.map Diag.severity).getD 0 = n ↔ ∃ e, d = some e ∧ e.severity = n := by
    cases d with
    | none => simp [hn.symm]
    | some e => simp
  refine ⟨fun h => ⟨if_pos h, if_pos h⟩, fun h => ?_⟩
  have hlevel : (s.judged t).level = s.levelFor (s.judged t).tickHealth (s.judged t).diag := if_neg h
  refine ⟨if_neg h, hlevel.trans ?_⟩
  simp only [State.levelFor, hsev _ 2 (by omega), hsev _ 1 (by omega)]

/-! ### The stage without a teach -/

/-- The commits that become due leave an accumulator as it is, but for its mark (R225). -/
theorem State.markDue_accums (s : State) : ∃ f : Accum → Accum, s.markDue.learn = { s.learn with accums := s.learn.accums.map f } ∧
    (∀ a, f a = { a with due := (f a).due }) ∧ (s.panel.hold ≠ some false → f = id) := by
  unfold State.markDue
  split
  next h =>
    refine ⟨fun a => if a.due.isNone && s.commitReached a then { a with due := some s.learn.stageTick } else a, rfl, fun a => ?_,
      fun hn => absurd h hn⟩
    dsimp only
    split <;> rfl
  next => exact ⟨id, by rw [List.map_id], fun _ => rfl, fun _ => rfl⟩

/-- The end of the stage when no teach collects (R217, R225, R340). -/
theorem State.learnStage_of_no_teach {s : State} {t : Tick} (hteach : (s.learnt t).1.learn.teach = none) :
    (∃ f : Accum → Accum, (s.learnStage t).learn = { (s.learnt t).1.learn with
        accums := (s.learnt t).1.learn.accums.map f, seasoned := (s.learnStage t).learn.seasoned } ∧
      (∀ a, f a = { a with due := (f a).due }) ∧ ((s.learnt t).1.panel.hold ≠ some false → f = id)) ∧
    ∀ a, a < e2eMarkAddr ∨ e2eMarkAddr + 8 ≤ a → Memory.read (s.learnStage t).mem a = Memory.read (s.learnt t).1.mem a := by
  have htimeout (v : State) (h : v.learn.teach = none) : v.teachTimeoutAt t = v := by
    unfold State.teachTimeoutAt
    rw [h]
  have hcollect (v : State) (h : v.learn.teach = none) : v.collectTeach t = v := by
    unfold State.collectTeach
    rw [h]
  have hmem (v : State) : v.markDue.mem = v.mem := by
    unfold State.markDue
    split <;> rfl
  rw [s.learnStage_eq t, htimeout _ hteach, hcollect _ hteach]
  obtain ⟨f, hlearn, hdue, hid⟩ := (s.learnt t).1.markDue_accums
  obtain ⟨g, hrec⟩ := (s.learnt t).1.markDue.seasonCells.fleetQuestion_records t s.learn.seasoned (s.learnt t).2
    (s.judged t).diagHits
  have hkept := (congrArg State.learn hrec.1 :)
  have hseasoned : ((s.learnt t).1.markDue.seasonCells.fleetQuestion t s.learn.seasoned (s.learnt t).2
      (s.judged t).diagHits).learn = { (s.learnt t).1.markDue.learn with
        seasoned := (s.learnt t).1.markDue.seasonCells.learn.seasoned } := hkept
  refine ⟨⟨f, ?_, hdue, hid⟩, fun a ha => (hrec.2.2.1 a ha).trans (by rw [← hmem (s.learnt t).1]; rfl)⟩
  rw [hseasoned, hlearn]

/-! ### Which queries learn -/

theorem State.learnQuery_of_not_learnable {fleet : List Diag} {t : Tick} {a : State × Option Nat} {q : Query}
    (h : a.1.learnable fleet t q = false) : State.learnQuery fleet t a q = a := by
  unfold State.learnQuery
  dsimp only
  rw [h]
  rfl

theorem State.foldl_learnQuery_of_not_learnable {fleet : List Diag} {t : Tick} {a : State × Option Nat} {l : List Query}
    (h : ∀ q ∈ l, a.1.learnable fleet t q = false) : l.foldl (State.learnQuery fleet t) a = a := by
  induction l with
  | nil => rfl
  | cons q l ih =>
    rw [List.foldl_cons, State.learnQuery_of_not_learnable (h q List.mem_cons_self),
      ih fun p hp => h p (List.mem_cons_of_mem _ hp)]

theorem State.learnable_of_hit (s : State) {fleet : List Diag} (t : Tick) {q : Query} (h : q.diag.isSome = true) :
    s.learnable fleet t q = false := by
  simp [State.learnable, queryHit, h]

theorem State.learnable_of_held {s : State} (h : s.panel.hold ≠ some false) (fleet : List Diag) (t : Tick) (q : Query) :
    s.learnable fleet t q = false := by
  simp [State.learnable, h]

theorem State.learnable_of {s : State} {t : Tick} {q : Query} (hhold : s.panel.hold = some false) (hstatus : t.status ≤ 1)
    (hload : t.loadFault = false) (hdiag : q.diag = none) (hmachine : q.scope = 32 → t.clipped = [] ∧ t.ngramShort = false)
    (hchan : q.scope ≠ 32 → q.scope ∉ t.clipped) : s.learnable [] t q = true := by
  have hlearns : statusLearns t.status = true := decide_eq_true hstatus
  have hscope : (if q.scope = 32 then t.machineLearns else !t.clipped.contains q.scope) = true := by
    split
    · next h =>
      obtain ⟨hclip, hshort⟩ := hmachine h
      simp [Tick.machineLearns, hlearns, hload, hclip, hshort]
    · next h => simpa using hchan h
  unfold State.learnable
  rw [hhold, hlearns, hload, hscope]
  simp [queryHit, hdiag]

/-- The state in which the one query that learns finds its cell counted (R216, R219). -/
def State.counting (s : State) (t : Tick) (q : Query) : State := (s.entered t).addKindling (queryCell t q) t.tRef

/-- Of the queries of a tick one learns. -/
theorem State.learnt_of_one {s : State} {t : Tick} {q : Query} {qb qa : List Query} (hqueries : t.queries = qb ++ q :: qa)
    (hothers : ∀ p ∈ qb ++ qa, p.diag.isSome = true) (hfleet : s.learn.fleetHits = [])
    (hlearns : (s.entered t).learnable [] t q = true) : s.learnt t =
      (let l := q.res.normal
      let u := s.counting t q
      if !l.none && decide (l.dist < l.radius) && u.asRecalled q then (u.admission q.vec l.row l.dist, none)
      else if u.learn.seasoned.contains (queryCell t q) then (u, none)
      else
        let r := u.spawn q.vec q.scope t.bin 1024 2304 256
        (r.1, if q.scope = 32 then r.2 else none)) := by
  have hhits : s.tickFleetHits t = [] := by
    unfold State.tickFleetHits
    rw [hfleet, ite_self]
  unfold State.learnt
  rw [hhits, hqueries, List.foldl_append, State.foldl_learnQuery_of_not_learnable fun p hp =>
      State.learnable_of_hit _ t (hothers p (List.mem_append_left _ hp)), List.foldl_cons,
    State.foldl_learnQuery_of_not_learnable fun p hp => State.learnable_of_hit _ t (hothers p (List.mem_append_right _ hp))]
  unfold State.learnQuery
  dsimp only
  rw [hlearns]
  rfl

/-! ### Counters -/

theorem State.badIn_poke (s : State) (a : Nat) {bs : List Byte} {n : Nat} (hn : bs.length = n) : (s.poke a bs).badIn a n = none := by
  subst hn
  unfold State.badIn State.poke
  dsimp only
  rw [Option.map_eq_none_iff, List.find?_eq_none]
  intro e he hin
  obtain ⟨-, he⟩ := List.mem_filter.1 he
  simp only [Bool.and_eq_true, decide_eq_true_eq, Bool.not_eq_true', Bool.and_eq_false_iff, decide_eq_false_iff_not] at he hin
  omega

/-- A counter once it has taken a bit of an admitted vector (R222). -/
def movedCounter (b : Byte) (one : Bool) : Int := if one then min 127 (b.toInt + 1) else max (-127) (b.toInt - 1)

theorem admitByte_toInt (b : Byte) (one : Bool) : (admitByte b one).toInt = movedCounter b one := by
  have hlo := BitVec.le_toInt b
  have hhi := BitVec.toInt_lt (x := b)
  unfold admitByte movedCounter
  dsimp only
  rw [BitVec.toInt_ofInt_eq_self (by omega) (by split <;> omega) (by split <;> omega)]
  split <;> omega

theorem halveByte_toInt (b : Byte) : (halveByte b).toInt = b.toInt.tdiv 2 := by
  have hlo := BitVec.le_toInt b
  have hhi := BitVec.toInt_lt (x := b)
  have habs : (b.toInt.tdiv 2).natAbs = b.toInt.natAbs / 2 := Int.natAbs_tdiv ..
  unfold halveByte
  rw [BitVec.toInt_ofInt_eq_self (by omega) (by omega) (by omega)]

/-- The counters of an accumulator once they have taken a vector (R222). -/
def admitted (cs : List Byte) (v : HV) (halved : Prop) [Decidable halved] : List Byte :=
  let moved := cs.zipIdx.map (fun p => admitByte p.1 (v.getLsbD p.2))
  if halved then moved.map halveByte else moved

theorem admitted_length (cs : List Byte) (v : HV) (halved : Prop) [Decidable halved] : (admitted cs v halved).length = cs.length := by
  unfold admitted
  dsimp only
  split <;> simp

theorem admitted_getD {cs : List Byte} (v : HV) (halved : Prop) [Decidable halved] {i : Nat} (hi : i < cs.length) :
    ((admitted cs v halved).getD i 0#8).toInt =
      if halved then (movedCounter (cs.getD i 0#8) (v.getLsbD i)).tdiv 2 else movedCounter (cs.getD i 0#8) (v.getLsbD i) := by
  rw [List.getD_eq_getElem _ _ (by rwa [admitted_length]), List.getD_eq_getElem _ _ hi]
  unfold admitted
  dsimp only
  by_cases h : halved
  · simp only [if_pos h, List.getElem_map, halveByte_toInt, admitByte_toInt, List.getElem_zipIdx, Nat.zero_add]
  · simp only [if_neg h, List.getElem_map, admitByte_toInt, List.getElem_zipIdx, Nat.zero_add]

/-- An accumulator once it has taken a vector (R222). -/
def Accum.admits (x : Accum) (stamp : Nat) : Accum := { x with n := (x.n + 1) % 2 ^ 32, k := (x.k + 1) % 256, lastAdmit := stamp }

/-- The counters of an open accumulator with no bad word take an admitted vector (R222). -/
theorem State.admitCounters_of_good {s : State} {row : Nat} {x : Accum} (hopen : s.accumOf row = some x)
    (hgood : s.counterBad x.idx = none) (v : HV) :
    (s.admitCounters row v).learn.accums = s.learn.accums.map
      (fun a => if a.idx = x.idx then x.admits s.learn.admitStamp else a) ∧
    (s.admitCounters row v).mem = Memory.writeBytes s.mem (counterAddr x.idx)
      (admitted (s.peek (counterAddr x.idx) 8192) v ((x.n + 1) % 256 = 0)) := by
  unfold State.admitCounters
  rw [hopen]
  dsimp only
  rw [hgood]
  dsimp only
  rw [hopen]
  exact ⟨rfl, rfl⟩

/-- The counter that an admission leaves at each position (R222). -/
theorem State.admitCounters_read {s : State} {row : Nat} {x : Accum} (hopen : s.accumOf row = some x)
    (hgood : s.counterBad x.idx = none) (hs : Memory.wf s.mem) (v : HV) {i : Nat} (hi : i < 8192) :
    (Memory.read (s.admitCounters row v).mem (counterAddr x.idx + i)).toInt =
      if (x.n + 1) % 256 = 0 then (movedCounter (Memory.read s.mem (counterAddr x.idx + i)) (v.getLsbD i)).tdiv 2
      else movedCounter (Memory.read s.mem (counterAddr x.idx + i)) (v.getLsbD i) := by
  have hlen : (s.peek (counterAddr x.idx) 8192).length = 8192 := Memory.readBytes_length ..
  have hat : (s.peek (counterAddr x.idx) 8192).getD i 0#8 = Memory.read s.mem (counterAddr x.idx + i) := by
    rw [List.getD_eq_getElem _ _ (by rwa [hlen])]
    simp only [State.peek, Memory.readBytes_eq _ _ _ hs, List.getElem_map, List.getElem_range]
  rw [(State.admitCounters_of_good hopen hgood v).2, Memory.read_writeBytes, admitted_length, hlen,
    if_pos (by omega), Nat.add_sub_cancel_left, admitted_getD v _ (by rwa [hlen]), hat]

/-- An accumulator is opened for a row at the lowest free index (R222, R223). -/
theorem State.openAccum_of_room {s : State} {row idx : Nat} (hnone : ∀ a ∈ s.learn.accums, a.row ≠ row)
    (hroom : s.learn.accums.length < 512) (hidx : idx < 512) (hfree : ∀ a ∈ s.learn.accums, a.idx ≠ idx)
    (hlow : ∀ j, j < idx → ∃ a ∈ s.learn.accums, a.idx = j) (hsegs : s.badSegments row = []) : s.openAccum row =
      State.poke { s with learn := { s.learn with accums := s.learn.accums ++
        [{ idx := idx, row := row, lastAdmit := s.learn.admitStamp, timer := s.learnTime }] } } (counterAddr idx)
        ((List.range 8192).map (seedByte (s.row row) (s.tag row).isErased)) := by
  have hof : s.accumOf row = none := List.find?_eq_none.2 fun a ha => by simpa using hnone a ha
  have hfind : (List.range 512).find? (fun i => !s.learn.accums.any (fun a => decide (a.idx = i))) = some idx := by
    refine List.find?_range_eq_some.2 ⟨?_, List.mem_range.2 hidx, fun j hj => ?_⟩
    · simpa using hfree
    · simpa using hlow j hj
  unfold State.openAccum
  rw [hof, if_neg (by simp), if_pos hroom]
  dsimp only
  rw [hfind]
  exact State.seedCounters_of_good hsegs

/-! ### Spawns and admissions -/

/-- A row that a spawn may take (R220). -/
def State.mayTake (s : State) (g : Nat) : Prop := s.isFree g = true ∧ ∀ w ∈ s.learn.writes, w.2.claims ≠ some g

theorem State.mayTake_iff (s : State) (g : Nat) : s.mayTake g ↔ (s.isFree g && !s.claimed g) = true := by
  simp [State.mayTake, State.claimed]

theorem State.lowestFree_of_some {s : State} {lo hi row : Nat} (hlo : lo ≤ row) (hhi : row < hi) (htakes : s.mayTake row)
    (hmin : ∀ g, lo ≤ g → g < row → ¬s.mayTake g) : s.lowestFree lo hi = some row := by
  unfold State.lowestFree
  rw [List.range_eq_range', List.drop_range']
  refine List.find?_range'_eq_some.2 ⟨(s.mayTake_iff row).1 htakes, List.mem_range'_1.2 (by omega), fun j hj hlt => ?_⟩
  rw [Bool.not_eq_true', Bool.eq_false_iff]
  exact fun h => hmin j (by omega) hlt ((s.mayTake_iff j).2 h)

theorem State.lowestFree_of_none {s : State} {lo hi : Nat} (h : ∀ g, lo ≤ g → g < hi → ¬s.mayTake g) :
    s.lowestFree lo hi = none := by
  unfold State.lowestFree
  rw [List.range_eq_range', List.drop_range']
  refine List.find?_eq_none.2 fun j hj => ?_
  have hin := List.mem_range'_1.1 hj
  exact fun htake => h j (by omega) (by omega) ((s.mayTake_iff j).2 htake)

theorem State.partition_normal (s : State) {row : Nat} (hlow : 8192 ≤ row) (hhigh : row < 15360) : s.partition row = 1 := by
  have hlib := s.libraryRows_le
  unfold State.partition
  rw [if_neg (by omega), if_neg (by omega), if_pos hhigh]

theorem State.asRecalled_of {s : State} {q : Query} (hlow : 8192 ≤ q.res.normal.row) (hhigh : q.res.normal.row < 15360)
    (hlife : sparse s.learn.lives q.res.normal.row = q.life) (hvalid : (s.tag q.res.normal.row).valid = true)
    (hspent : (s.tag q.res.normal.row).spent = false) (hret : s.isRetired q.res.normal.row = false)
    (hclaims : ∀ w ∈ s.learn.writes, w.2.claims ≠ some q.res.normal.row) : s.asRecalled q = true := by
  have hclaimed : s.claimed q.res.normal.row = false := by simpa [State.claimed] using hclaims
  simp [State.asRecalled, hlife, s.partition_normal hlow hhigh, hvalid, hspent, hret, hclaimed]

theorem State.counting_kindling (s : State) (t : Tick) (q : Query) :
    sparse (s.counting t q).learn.kindling (queryCell t q) =
      min (2 ^ 48 - 1) (sparse s.learn.kindling (queryCell t q) + t.tRef) := by
  refine (sparse_setSparse _ _ _ _).trans ((if_pos rfl).trans ?_)
  rw [satTo_eq_min]
  rfl

end Sys2Proof.Machine
end

section
/-! The learning stage as a command, and the obligation about it (11_learning.md; R216 to R223, R226 to R230, R232, R234,
R237, R349). -/

namespace Sys2Proof.Machine

/-! ### The command -/

theorem State.learnTick_of {s : State} {before after : List Tick} {x : Tick} (hticks : s.ticks = before ++ x :: after)
    (hbefore : ∀ y ∈ before, y.stage = .outputs) (hstage : x.stage = .recall)
    (hres : ∀ q ∈ x.queries, q.result.isSome = true) : s.learnTick = some x := by
  have hfind : s.ticks.find? (fun t => decide (t.stage ≠ .outputs)) = some x := by
    rw [hticks]
    refine List.find?_eq_some_iff_append.2 ⟨by rw [hstage]; rfl, before, after, rfl, fun y hy => ?_⟩
    simpa using hbefore y hy
  unfold State.learnTick
  rw [hfind]
  dsimp only
  rw [hstage, List.all_eq_true.2 hres]
  rfl

/-- What lets the learning stage of a tick start (R17, R223). -/
def State.stageReady (s : State) (x : Tick) (now : Nat) : Prop := s.learn.accums.length + x.queries.length ≤ 512 ∨
  (s.hearth.scanEnd ≤ now ∧ s.burst = false ∧ s.learn.writes = [] ∧ s.commitWaits = none)

theorem State.stageFree_iff (s : State) (dt : Nat) (x : Tick) :
    (s.elapse dt).stageFree x = true ↔ s.stageReady x (s.clock + dt) := by
  show (decide (s.learn.accums.length + x.queries.length ≤ 512) ||
    (decide (s.hearth.scanEnd ≤ s.clock + dt) && !s.burst && s.learn.writes.isEmpty && s.commitWaits.isNone)) = true ↔ _
  simp only [State.stageReady, Bool.or_eq_true, Bool.and_eq_true, decide_eq_true_eq, Bool.not_eq_true', List.isEmpty_iff,
    Option.isNone_iff_eq_none, and_assoc]

theorem State.coreRuns_of {s : State} (hm : s.mode = .run) (hpause : s.volt.pauseAt = none) : s.coreRuns = true := by
  simp [State.coreRuns, State.paused, hm, hpause]

section command
variable {s : State} {dt : Nat} {x : Tick} {us : List Upset}

theorem exec_learningStage_waits (hform : upsetForm us = true) (htick : s.learnTick = some x)
    (hready : ¬s.stageReady x (s.clock + dt)) : exec (.learningStage dt us) s = .next (s.elapse dt) := by
  refine (eventOf_idle _ _ _ _ s hform ?_ : execLearningStage dt us s = _)
  rw [show (s.elapse dt).learnTick = some x from htick]
  dsimp only
  rw [Bool.eq_false_iff.2 (mt (s.stageFree_iff dt x).1 hready), Bool.and_false]

theorem exec_learningStage_next (hm : s.mode = .run) (hpause : s.volt.pauseAt = none) (hform : upsetForm us = true)
    (htick : s.learnTick = some x) (hready : s.stageReady x (s.clock + dt)) :
    exec (.learningStage dt us) s = .next (((s.elapse dt).upset us).learnStage x).settle := by
  have hcond : ((s.elapse dt).coreRuns && (match (s.elapse dt).learnTick with
      | some t => (s.elapse dt).stageFree t | none => false)) = true := by
    rw [show (s.elapse dt).coreRuns = true from State.coreRuns_of hm hpause, show (s.elapse dt).learnTick = some x from htick]
    exact (s.stageFree_iff dt x).2 hready
  have hexec := (eventOf_next _ _ _ _ s hform hcond : execLearningStage dt us s = _)
  dsimp only at hexec
  rwa [show ((s.elapse dt).upset us).learnTick = some x from htick] at hexec

theorem exec_teachTimeout_idle (htick : s.learnTick = some x)
    (h : s.learn.teach = none ∨ ∃ y, s.learn.teach = some y ∧ y.overdue x = false) : exec (.teachTimeout dt) s = .next (s.elapse dt) := by
  refine (event_idle _ _ _ s ?_ : execTeachTimeout dt s = _)
  rw [show (s.elapse dt).learnTick = some x from htick, State.elapse_learn]
  obtain h | ⟨y, h, hearly⟩ := h
  · rw [h, Bool.and_false]
  · rw [h]
    dsimp only
    rw [hearly, Bool.and_false]

theorem exec_teachTimeout_next {y : Teach} (hm : s.mode = .run) (hpause : s.volt.pauseAt = none) (htick : s.learnTick = some x)
    (hteach : s.learn.teach = some y) (hdue : y.overdue x = true) :
    exec (.teachTimeout dt) s = .next ((s.elapse dt).teachTimeoutAt x).settle := by
  have hcore : (s.elapse dt).coreRuns = true := State.coreRuns_of hm hpause
  have htick' : (s.elapse dt).learnTick = some x := htick
  have hexec := (event_next _ _ _ s (by rw [hcore, htick', State.elapse_learn, hteach, Bool.true_and]; exact hdue) :
    execTeachTimeout dt s = _)
  rwa [htick'] at hexec

end command

/-! ### An abandoned teach -/

/-- The records of a teach that is overdue carry the close of the tick (R232, R234). -/
theorem State.teachTimeoutAt_recorded {s : State} {x : Tick} {y : Teach} (hteach : s.learn.teach = some y)
    (hdue : y.overdue x = true) :
    let p := teachForgetPayload 5 y.label 0xFFFF 0 (y.bin.getD 0xFF) y.vecs.length 0
    (s.teachTimeoutAt x).agreesButRecords { s with learn := { s.learn with teach := none } } ∧
    (s.teachTimeoutAt x).flue = s.flue.enter s.ts 0x09 x.close p 1 ∧
    (s.teachTimeoutAt x).ash = s.ash.offer s.clock 0x09 x.close p := by
  intro p
  have heq : s.teachTimeoutAt x =
      (State.report { s with learn := { s.learn with teach := none } } 0x09 x.close p 1).ashRecord 0x09 x.close p := by
    unfold State.teachTimeoutAt
    rw [hteach]
    exact if_pos hdue
  have hreport := State.report_records { s with learn := { s.learn with teach := none } } 0x09 x.close p 1
  rw [heq]
  refine ⟨State.agreesButRecords_trans (State.ashRecord_records _ _ _ _) hreport, ?_, ?_⟩
  · refine (State.report_flue { s with learn := { s.learn with teach := none } } 0x09 x.close p 1).trans (if_neg ?_)
    rw [show suppressed 0x09 = false from rfl, Bool.and_false]
    exact Bool.false_ne_true
  · have hash := State.report_ash { s with learn := { s.learn with teach := none } } 0x09 x.close p 1
    have hclock := State.records_clock hreport
    exact congrArg₂ (fun (a : Ash) c => a.offer c 0x09 x.close p) hash hclock

/-! ### A query that learns -/

section query
variable {s : State} {t : Tick} {q : Query}

/-- What the stage leaves of the learning engine when one query adds to its writes (R219, R226). -/
theorem State.learnStage_work {v : State × Option Nat} {ws : List (Nat × RowOp)} {k : List (Nat × Nat)}
    (hlearnt : s.learnt t = v) (hteach : v.1.learn.teach = none) (hwrites : v.1.learn.writes = ws)
    (hkindling : v.1.learn.kindling = k) :
    (s.learnStage t).learn.writes = ws ∧ (s.learnStage t).learn.kindling = k ∧
    (s.learnStage t).learn.refusedSpawns = v.1.learn.refusedSpawns := by
  subst hlearnt
  obtain ⟨⟨f, hlearn, -, -⟩, -⟩ := State.learnStage_of_no_teach hteach
  rw [hlearn]
  exact ⟨hwrites, hkindling, rfl⟩

/-- A query without a row within its radius adds nothing but its cell's time when the cell is seasoned (R219). -/
theorem State.learnt_seasoned {qb qa : List Query} (hqueries : t.queries = qb ++ q :: qa)
    (hothers : ∀ p ∈ qb ++ qa, p.diag.isSome = true) (hfleet : s.learn.fleetHits = [])
    (hlearns : (s.entered t).learnable [] t q = true)
    (hfar : q.res.normal.none = true ∨ q.res.normal.radius ≤ q.res.normal.dist)
    (hcell : s.learn.seasoned.contains (queryCell t q) = true) : s.learnt t = (s.counting t q, none) := by
  have hnear : (!q.res.normal.none && decide (q.res.normal.dist < q.res.normal.radius)) = false := by
    obtain h | h := hfar
    · simp [h]
    · simp [not_lt.2 h]
  rw [State.learnt_of_one hqueries hothers hfleet hlearns]
  dsimp only
  rw [hnear, Bool.false_and, if_neg Bool.false_ne_true]
  exact if_pos hcell

/-- A query without a row within its radius spawns one in a cell that is not seasoned (R219, R220). -/
theorem State.learnt_spawns {qb qa : List Query} (hqueries : t.queries = qb ++ q :: qa)
    (hothers : ∀ p ∈ qb ++ qa, p.diag.isSome = true) (hfleet : s.learn.fleetHits = [])
    (hlearns : (s.entered t).learnable [] t q = true)
    (hfar : q.res.normal.none = true ∨ q.res.normal.radius ≤ q.res.normal.dist)
    (hcell : s.learn.seasoned.contains (queryCell t q) = false) :
    (s.learnt t).1 = ((s.counting t q).spawn q.vec q.scope t.bin 1024 2304 256).1 := by
  have hnear : (!q.res.normal.none && decide (q.res.normal.dist < q.res.normal.radius)) = false := by
    obtain h | h := hfar
    · simp [h]
    · simp [not_lt.2 h]
  have hcell' : (s.counting t q).learn.seasoned.contains (queryCell t q) = false := hcell
  rw [State.learnt_of_one hqueries hothers hfleet hlearns]
  dsimp only
  rw [hnear, Bool.false_and, if_neg Bool.false_ne_true, if_neg (ne_true_of_eq_false hcell')]

/-- A query with a row within its radius is admitted to it (R219, R222). -/
theorem State.learnt_admits {qb qa : List Query} (hqueries : t.queries = qb ++ q :: qa)
    (hothers : ∀ p ∈ qb ++ qa, p.diag.isSome = true) (hfleet : s.learn.fleetHits = [])
    (hlearns : (s.entered t).learnable [] t q = true) (hnone : q.res.normal.none = false)
    (hnear : q.res.normal.dist < q.res.normal.radius) (hrecalled : s.asRecalled q = true) :
    s.learnt t = ((s.counting t q).admission q.vec q.res.normal.row q.res.normal.dist, none) := by
  rw [State.learnt_of_one hqueries hothers hfleet hlearns]
  dsimp only
  rw [hnone, decide_eq_true hnear]
  exact if_pos hrecalled

end query

/-! ### Accumulators of an admission -/

/-- What the stage leaves of the accumulator of the row that a query is admitted to (R222). -/
theorem State.learnStage_admission {s v : State} {t : Tick} {q : Query} {x : Accum} {row dist : Nat}
    (hlearnt : s.learnt t = ((s.counting t q).admission q.vec row dist, none)) (hteach : s.learn.teach = none)
    (hv : (s.counting t q).openAccum row = v) (hopen : v.accumOf row = some x) (hidx : x.idx < 512) (hwf : Memory.wf v.mem)
    (hgood : v.counterBad x.idx = none) : ∃ b ∈ (s.learnStage t).learn.accums,
      b = { x.admits v.learn.admitStamp with due := b.due } ∧
      ∀ i, i < 8192 → (Memory.read (s.learnStage t).mem (counterAddr x.idx + i)).toInt =
        if (x.n + 1) % 256 = 0 then (movedCounter (Memory.read v.mem (counterAddr x.idx + i)) (q.vec.getLsbD i)).tdiv 2
        else movedCounter (Memory.read v.mem (counterAddr x.idx + i)) (q.vec.getLsbD i) := by
  have hwork : ((s.counting t q).admission q.vec row dist).learn.teach = none :=
    (congrArg (fun w => w.2.2.2.2.1) (State.admission_stageWork (s.counting t q) q.vec row dist) :).trans hteach
  have hnone : (s.learnt t).1.learn.teach = none := by rw [hlearnt]; exact hwork
  obtain ⟨⟨f, hlearn, hdue, -⟩, hread⟩ := State.learnStage_of_no_teach hnone
  have haccums : (s.learnt t).1.learn.accums = v.learn.accums.map
      (fun a => if a.idx = x.idx then x.admits v.learn.admitStamp else a) := by
    rw [hlearnt, ← (State.admitCounters_of_good hopen hgood q.vec).1, ← hv]
    rfl
  have hmem : (s.learnt t).1.mem = (v.admitCounters row q.vec).mem := by
    rw [hlearnt, ← hv]
    rfl
  have hx : x.admits v.learn.admitStamp ∈ (s.learnt t).1.learn.accums := by
    rw [haccums]
    exact List.mem_map.2 ⟨x, List.mem_of_find?_eq_some hopen, if_pos rfl⟩
  refine ⟨f (x.admits v.learn.admitStamp), ?_, hdue _, fun i hi => ?_⟩
  · rw [hlearn]
    exact List.mem_map_of_mem hx
  · have hlow : counterAddr x.idx + i < e2eMarkAddr := by
      unfold counterAddr e2eMarkAddr persistBase
      omega
    rw [hread _ (.inl hlow), hmem]
    exact State.admitCounters_read hopen hgood hwf q.vec hi

/-- A counter of an accumulator that the admission has opened (R222, R223). -/
theorem State.learnStage_opens {s : State} {t : Tick} {q : Query} {row dist idx : Nat}
    (hlearnt : s.learnt t = ((s.counting t q).admission q.vec row dist, none)) (hteach : s.learn.teach = none)
    (hnone : ∀ a ∈ s.learn.accums, a.row ≠ row) (hroom : s.learn.accums.length < 512) (hidx : idx < 512)
    (hfree : ∀ a ∈ s.learn.accums, a.idx ≠ idx) (hlow : ∀ j, j < idx → ∃ a ∈ s.learn.accums, a.idx = j)
    (hsegs : s.badSegments row = []) (hwf : Memory.wf s.mem) : ∃ b ∈ (s.learnStage t).learn.accums,
      b.row = row ∧ b.idx = idx ∧ b.n = 1 ∧ b.k = 1 ∧ b.timer = s.learnTime ∧
      ∀ i, i < 8192 → (Memory.read (s.learnStage t).mem (counterAddr idx + i)).toInt =
        movedCounter (seedByte (s.row row) (s.tag row).isErased i) (q.vec.getLsbD i) := by
  have hopened := State.openAccum_of_room (s := s.counting t q) (row := row) hnone hroom hidx hfree hlow hsegs
  have hlen : ((List.range 8192).map (seedByte ((s.counting t q).row row) ((s.counting t q).tag row).isErased)).length = 8192 := by
    simp
  generalize hx : ({ idx := idx, row := row, lastAdmit := (s.counting t q).learn.admitStamp
                     timer := (s.counting t q).learnTime } : Accum) = x at hopened
  have hxidx : x.idx = idx := by rw [← hx]
  have hof : (s.counting t q).learn.accums.find? (fun a => decide (a.row = row)) = none :=
    List.find?_eq_none.2 fun a ha => by simpa using hnone a ha
  generalize hcs : (List.range 8192).map (seedByte ((s.counting t q).row row) ((s.counting t q).tag row).isErased) = cs at *
  generalize hv : (s.counting t q).openAccum row = v at *
  have hacc : v.accumOf row = some x := by
    subst hopened
    refine List.find?_append.trans ?_
    rw [hof, Option.none_or]
    exact List.find?_cons_of_pos (decide_eq_true (by rw [← hx]))
  have hgood : v.counterBad x.idx = none := by
    rw [hopened, hxidx]
    exact State.badIn_poke _ _ hlen
  have hwfv : Memory.wf v.mem := by
    rw [hopened]
    exact Memory.wf_writeBytes _ _ _ hwf
  obtain ⟨b, hb, hbeq, hread⟩ := State.learnStage_admission hlearnt hteach hv hacc (hxidx ▸ hidx) hwfv hgood
  refine ⟨b, hb, ?_, ?_, ?_, ?_, ?_, fun i hi => ?_⟩
  · rw [hbeq, ← hx] <;> rfl
  · rw [hbeq, ← hx] <;> rfl
  · rw [hbeq, ← hx] <;> rfl
  · rw [hbeq, ← hx] <;> rfl
  · rw [hbeq, ← hx] <;> rfl
  · have hseed : Memory.read v.mem (counterAddr idx + i) = seedByte (s.row row) (s.tag row).isErased i := by
      rw [hopened, State.poke_mem, Memory.read_writeBytes, hlen, if_pos (by omega), Nat.add_sub_cancel_left,
        List.getD_eq_getElem _ _ (by rwa [hlen])]
      simp only [← hcs, List.getElem_map, List.getElem_range]
      rfl
    have hn : x.n = 0 := by rw [← hx]
    rw [← hxidx, hread i hi, hn, if_neg (by omega), hxidx, hseed]

/-! ### A spawn -/

theorem State.spawn_of_free {s : State} {row : Nat} (h : s.lowestFree 8192 15360 = some row)
    (vec : HV) (scope bin radius mu delta : Nat) : s.spawn vec scope bin radius mu delta =
      (s.pushWrite (.spawn row vec scope bin radius mu delta), some row) := by
  unfold State.spawn
  rw [h]

theorem State.spawn_of_full {s : State} {scope : Nat} (h : s.lowestFree 8192 15360 = none) (hkeep : s.evictable scope = [])
    (vec : HV) (bin radius mu delta : Nat) : s.spawn vec scope bin radius mu delta =
      ({ s with learn := { s.learn with refusedSpawns := satTo 65535 (s.learn.refusedSpawns + 1) } }, none) := by
  unfold State.spawn
  rw [h, hkeep]
  rfl

/-! ### A judged tick -/

/-- The judgement of a tick (R227 to R230, R349). -/
theorem State.judged_spec (s : State) (x : Tick) :
    let y := s.judged x
    let hits := x.queries.filterMap Query.diag ++ s.tickFleetHits x
    y.id = x.id ∧ y.stage = .outputs ∧ y.queries = x.queries ∧
    y.health = x.queries.map (fun q => (q.scope, healthOf q.res.normal)) ∧
    (∀ q ∈ x.queries, s.learn.seasoned.contains (queryCell x q) = true → healthOf q.res.normal ≤ y.tickHealth) ∧
    (y.tickHealth = 0 ∨ ∃ q ∈ x.queries, s.learn.seasoned.contains (queryCell x q) = true ∧
      y.tickHealth = healthOf q.res.normal) ∧
    (hits = [] → y.diag = none) ∧
    (hits ≠ [] → ∃ l₁ d l₂, hits = l₁ ++ d :: l₂ ∧ y.diag = some d ∧ (∀ e ∈ l₁, d.above e) ∧ ∀ e ∈ l₂, d.holds e) := by
  obtain ⟨hle, hmem⟩ := tickHealthOf_spec s.learn.seasoned x
  obtain ⟨hnone, hsome⟩ := tickDiag_spec (s.tickFleetHits x) x
  exact ⟨rfl, rfl, rfl, rfl, hle, hmem, hnone, hsome⟩

/-- What the stage keeps of the rest of the state, and where it enters the judgement. -/
theorem State.learnStage_shown (s : State) (x : Tick) :
    let t := (s.learnStage x).settle
    t.ticks = s.ticks.map (fun u => if u.id = x.id then s.judged x else u) ∧ t.learn.levels = (s.judged x).levels ∧
    t.learn.fleetHits = [] ∧ t.hearth.inFlight = s.hearth.inFlight ∧ t.out.alert = s.out.alert ∧
    t.out.alarm = s.out.alarm ∧ t.panel = s.panel ∧ t.chans = s.chans := by
  have h := s.learnStage_judgement x
  simp only [State.judgement, Prod.mk.injEq] at h
  exact h

/-- Under hold nothing is learnt (R237). -/
theorem State.learnStage_held {s : State} {x : Tick} (hhold : s.panel.hold ≠ some false) (hteach : s.learn.teach = none) :
    (∀ a, a < e2eMarkAddr ∨ e2eMarkAddr + 8 ≤ a → Memory.read (s.learnStage x).mem a = Memory.read s.mem a) ∧
    (s.learnStage x).learn = { s.learn with
      fleetHits := [], levels := (s.judged x).levels, stageTick := x.id, seasoned := (s.learnStage x).learn.seasoned } := by
  have hlearnt : s.learnt x = (s.entered x, none) :=
    State.foldl_learnQuery_of_not_learnable fun q _ => State.learnable_of_held (s := s.entered x) hhold _ _ _
  obtain ⟨⟨f, hlearn, -, hid⟩, hread⟩ := State.learnStage_of_no_teach (s := s) (t := x) (by rw [hlearnt]; exact hteach)
  rw [hlearnt] at hlearn hid hread
  rw [hid hhold, List.map_id] at hlearn
  exact ⟨hread, hlearn⟩

/-- Settles O49: the judgement of a tick, what one query learns, and the teach timeout. -/
theorem learningStage : Obligations.LearningStage := by
  unfold Obligations.LearningStage
  intro s dt before after x hm hpause hticks hbefore hstage hres now normal cell health own hits ready
  have htick := State.learnTick_of hticks hbefore hstage hres
  have hown : own = Query.diag := funext fun q => q.diag_eq.symm
  have hhealth (q : Query) : health q = healthOf q.res.normal := (healthOf_eq _).symm
  clear_value own health
  subst hown
  refine ⟨fun us hform hnot => exec_learningStage_waits hform htick hnot, fun us hform hready => ?ready,
    fun y hteach hdue => ?timeout, fun h => exec_teachTimeout_idle htick ?early⟩
  case early =>
    exact h.imp_right fun ⟨y, hy, hearly⟩ => ⟨y, hy, decide_eq_false (not_le.2 hearly)⟩
  case timeout =>
    have hdue' : y.overdue x = true := decide_eq_true hdue
    obtain ⟨hrec, hflue, hash⟩ := State.teachTimeoutAt_recorded (s := s.elapse dt) hteach hdue'
    refine ⟨_, exec_teachTimeout_next hm hpause htick hteach hdue', State.agreesButRecords_settle hrec, ?_, hash⟩
    exact hflue.trans (by rw [show (State.settle _).ts = _ from State.records_ts (State.agreesButRecords_settle hrec)] <;> rfl)
  case ready =>
    have hexec := exec_learningStage_next hm hpause hform htick hready
    refine ⟨?judged, fun qb qa q hqueries hothers hownq hhold hstatus hload hfleet hteach hmachine hchan => ?one⟩
    case judged =>
      obtain ⟨hticks', hlevels, hhits, hflight, halert, halarm, hpanel, hchans⟩ := ((s.elapse dt).upset us).learnStage_shown x
      obtain ⟨hid, hout, hqueries, hhealths, hle, hmax, hnone, hsome⟩ := s.judged_spec x
      obtain ⟨hzero, hlevel⟩ := s.judged_level x
      refine ⟨_, s.judged x, hexec, hticks', hid, hout, hqueries, ?_, ?_, ?_, s.judged_kindling x, hnone, hsome,
        s.judged_diagHits x, hzero, hlevel, hlevels, hhits, hflight, halert, halarm, hpanel, hchans, fun hheld hteach => ?_⟩
      · rw [hhealths, funext hhealth]
      · exact fun q hq hc => (hhealth q).le.trans (hle q hq hc)
      · exact hmax.imp_right fun ⟨q, hq, hc, h⟩ => ⟨q, hq, hc, h.trans (hhealth q).symm⟩
      · exact State.learnStage_held (s := (s.elapse dt).upset us) (x := x) hheld hteach
    case one =>
      intro counted far takes
      have hlearns : (((s.elapse dt).upset us).entered x).learnable [] x q = true :=
        State.learnable_of hhold hstatus hload hownq hmachine hchan
      have hcount := ((s.elapse dt).upset us).counting_kindling x q
      generalize hw : (s.elapse dt).upset us = w at *
      have hwl : w.learn = s.learn := by rw [← hw]; rfl
      have hfleet' : w.learn.fleetHits = [] := by rw [hwl]; exact hfleet
      have hteach' : w.learn.teach = none := by rw [hwl]; exact hteach
      have hsame : w.learn.writes = s.learn.writes := by rw [hwl]
      rw [hwl] at hcount
      refine ⟨fun row hfar hcell hlow hhigh htakes hmin => ?spawned, fun hfar hcell hfull hkeep => ?refused,
        fun hfar hcell => ?seasoned, ?admitted⟩
      case spawned =>
        have hfree : (w.counting x q).lowestFree 8192 15360 = some row :=
          State.lowestFree_of_some hlow hhigh (by rw [← hw]; exact htakes) (by rw [← hw]; exact hmin)
        have hlearnt := (State.learnt_spawns hqueries hothers hfleet' hlearns hfar (by rw [hwl]; exact hcell)).trans
          (congrArg Prod.fst (State.spawn_of_free hfree _ _ _ _ _ _))
        obtain ⟨hwrites, hkindling, -⟩ := State.learnStage_work (s := w) (t := x) rfl (by rw [hlearnt]; exact hteach')
          (congrArg (fun v : State => v.learn.writes) hlearnt) (congrArg (fun v : State => v.learn.kindling) hlearnt)
        refine ⟨_, hexec, (congrArg (fun l => sparse l (cell q)) hkindling).trans hcount, hwrites.trans ?_⟩
        rw [← hwl]
        rfl
      case refused =>
        have hfree : (w.counting x q).lowestFree 8192 15360 = none :=
          State.lowestFree_of_none (by rw [← hw]; exact hfull)
        have hlearnt := (State.learnt_spawns hqueries hothers hfleet' hlearns hfar (by rw [hwl]; exact hcell)).trans
          (congrArg Prod.fst (State.spawn_of_full hfree (by rw [← hw]; exact hkeep) _ _ _ _ _))
        obtain ⟨hwrites, hkindling, hrefused⟩ := State.learnStage_work (s := w) (t := x) rfl (by rw [hlearnt]; exact hteach')
          (congrArg (fun v : State => v.learn.writes) hlearnt) (congrArg (fun v : State => v.learn.kindling) hlearnt)
        refine ⟨_, hexec, (congrArg (fun l => sparse l (cell q)) hkindling).trans hcount,
          hwrites.trans hsame, hrefused.trans ?_⟩
        rw [hlearnt, ← satTo_eq_min, ← hwl]
        rfl
      case seasoned =>
        have hlearnt := State.learnt_seasoned hqueries hothers hfleet' hlearns hfar (by rw [hwl]; exact hcell)
        obtain ⟨hwrites, hkindling, -⟩ := State.learnStage_work hlearnt hteach' rfl rfl
        exact ⟨_, hexec, (congrArg (fun l => sparse l (cell q)) hkindling).trans hcount,
          hwrites.trans hsame⟩
      case admitted =>
        intro row old moved seed hnone hnear hlow hhigh hlife hvalid hspent hret hclaims
        have hrecalled : w.asRecalled q = true := by
          refine State.asRecalled_of hlow hhigh ?_ ?_ ?_ ?_ ?_
          all_goals rw [← hw]
          exacts [hlife, hvalid, hspent, hret, hclaims]
        have hlearnt := State.learnt_admits hqueries hothers hfleet' hlearns hnone hnear hrecalled
        have hbase (a : Nat) : counterAddr a = 0x02000000 + 8192 * a := congrArg _ (Nat.mul_comm _ _)
        refine ⟨?counted, fun a hopen hidx hwf hgood => ?opened, fun idx hfirst hroom hidx hfree hlowest hwf hsegs => ?new⟩
        case counted =>
          have hwork := (w.counting x q).admission_stageWork q.vec row (normal q).dist
          obtain ⟨hwrites, hkindling, -⟩ := State.learnStage_work hlearnt
            ((congrArg (fun v => v.2.2.2.2.1) hwork :).trans hteach') (congrArg (fun v => v.2.2.1) hwork :)
            (congrArg (fun v => v.2.1) hwork :)
          refine ⟨_, hexec, (congrArg (fun l => sparse l (cell q)) hkindling).trans hcount, hwrites.trans ?_⟩
          rw [← hwl]
          rfl
        case opened =>
          have hacc : (w.counting x q).accumOf row = some a := by
            rw [← hw]
            exact hopen
          have hvopen : (w.counting x q).openAccum row = w.counting x q := by
            unfold State.openAccum
            rw [hacc]
            rfl
          have hmem : (w.counting x q).mem = s.mem := by rw [← hw]; rfl
          obtain ⟨b, hb, hbeq, hread⟩ := State.learnStage_admission hlearnt hteach' hvopen hacc hidx (by rw [hmem]; exact hwf)
            (by rw [State.counterBad, hbase, ← hw]; exact hgood)
          have hstamp : (w.counting x q).learn.admitStamp = s.learn.admitStamp := by rw [← hwl]; rfl
          rw [hmem, hbase] at hread
          rw [hstamp] at hbeq
          exact ⟨_, b, hexec, hb, (congrArg Accum.row hbeq :), (congrArg Accum.idx hbeq :), (congrArg Accum.n hbeq :),
            (congrArg Accum.k hbeq :), (congrArg Accum.lastAdmit hbeq :), (congrArg Accum.timer hbeq :), hread⟩
        case new =>
          have haccums : w.learn.accums = s.learn.accums := by rw [hwl]
          obtain ⟨b, hb, hrow, hbidx, hn, hk, htimer, hread⟩ := State.learnStage_opens hlearnt hteach' (by rw [haccums]; exact hfirst)
            (by rw [haccums]; exact hroom) hidx (by rw [haccums]; exact hfree) (by rw [haccums]; exact hlowest)
            (by rw [← hw]; exact hsegs) (by rw [← hw]; exact hwf)
          rw [hbase] at hread
          refine ⟨_, b, hexec, hb, hrow, hbidx, hn, hk, htimer.trans ?_, fun i hi => (hread i hi).trans ?_⟩
          · rw [← hw]
            rfl
          · rw [← hw]
            rfl

end Sys2Proof.Machine
end

section
/-! Ring frames as they are received (16_ring_link.md, 17_fleet.md; R315 to R323, R326 to R337, R352 to R355, R360): headers that
cut through, frames refused, and what the content of a frame leaves of the port it came in through. -/

namespace Sys2Proof.Machine

/-! ### What the content of a frame leaves of its port -/

theorem State.sameLink_of {s t : State} (p : Port) (hport : t.ring.port p = s.ring.port p) (hclock : t.clock = s.clock)
    (hcross : t.cross = s.cross) (hwrapped : t.ring.wrapped = s.ring.wrapped) : t.sameLink s p :=
  ⟨hport ▸ .refl _, hclock, hcross, hwrapped⟩

theorem State.frameEvent_sameLink (s : State) (code : Nat) (q : Port) (e2e value : Nat) (p : Port) :
    (s.frameEvent code q e2e value).sameLink s p := s.ringEvent_sameLink ..

theorem State.memoryEvent_sameLink (s : State) (ev : Nat) (m : Master) (addr row seg erased source : Nat) (p : Port) :
    (s.memoryEvent ev m addr row seg erased source).sameLink s p := State.agreesButRecords_sameLink (s.memoryEvent_records ..) p

theorem State.setFleetSeq_sameLink (s : State) (o w : Nat) (p : Port) : (s.setFleetSeq o w).sameLink s p := .refl s p

theorem State.countDiscard_sameLink (s : State) (p : Port) : s.countDiscard.sameLink s p :=
  State.sameLink_of p (by cases p <;> rfl) rfl rfl rfl

theorem State.forward_sameLink (s : State) (q : Port) (f : YFrame) (cells : List Nat) (since : Nat) (p : Port) :
    (s.forward q f cells since).sameLink s p := by
  have hdrop : (State.countDiscard (s.freeCells (some q) f.cls cells)).sameLink s p :=
    (State.countDiscard_sameLink _ p).trans (s.freeCells_sameLink ..)
  unfold State.forward
  dsimp only
  split
  · exact hdrop
  · split
    · exact hdrop
    · exact State.sameLink_of p (by cases p <;> rfl) rfl rfl rfl

theorem State.ownCensus_sameLink (s : State) (q : Port) (f : YFrame) (p : Port) : (s.ownCensus q f).sameLink s p := by
  have hclash : State.sameLink { s with ring := { s.ring with clashAt := some s.clock } } s p :=
    State.sameLink_of p (by cases p <;> rfl) rfl rfl rfl
  unfold State.ownCensus
  dsimp only
  split
  · split
    · exact (State.frameEvent_sameLink _ _ _ _ _ p).trans hclash
    · exact hclash
  · exact .refl s p

theorem State.census_sameLink (s : State) (q : Port) (f : YFrame) (p : Port) : (s.census q f).sameLink s p := by
  unfold State.census
  dsimp only
  split
  · exact State.sameLink_of p (by cases p <;> rfl) rfl rfl rfl
  · exact (State.frameEvent_sameLink _ _ _ _ _ p).trans (State.sameLink_of p (by cases p <;> rfl) rfl rfl rfl)

theorem State.queryReturn_sameLink (s : State) (q : Port) (f : YFrame) (p : Port) : (s.queryReturn q f).sameLink s p := by
  unfold State.queryReturn State.useResult
  dsimp only
  split
  · exact State.frameEvent_sameLink _ _ _ _ _ p
  · split
    · split
      · exact .refl s p
      · exact .refl s p
    · split
      · exact .refl s p
      · exact .refl s p

theorem State.ownFrame_sameLink (s : State) (q : Port) (f : YFrame) (p : Port) : (s.ownFrame q f).sameLink s p := by
  unfold State.ownFrame
  dsimp only
  split
  · exact .refl s p
  · split
    · exact State.frameEvent_sameLink _ _ _ _ _ p
    · split
      · split
        · exact s.ownCensus_sameLink q f p
        · exact .refl s p
      · split
        · exact s.queryReturn_sameLink q f p
        · exact .refl s p
      · exact .refl s p

theorem State.refusePlace_sameLink (s : State) (q : Port) (e2e : Nat) (p : Port) : (s.refusePlace q e2e).sameLink s p :=
  (.trans (t := s.frameEvent 0x0B q e2e 0) (.refl _ p) (State.frameEvent_sameLink _ _ _ _ _ p))

theorem State.place_sameLink (s : State) (q : Port) (e2e o i seq : Nat) (sent : Tag) (data : HV) (lost : Nat) (p : Port) :
    (s.place q e2e o i seq sent data lost).sameLink s p := by
  unfold State.place
  split
  · exact .refl s p
  · split
    · exact s.refusePlace_sameLink q e2e p
    · split
      · exact s.refusePlace_sameLink q e2e p
      · dsimp only
        refine (State.frameEvent_sameLink _ _ _ _ _ p).trans
          ((State.foldl_sameLink _ (fun u g => u.memoryEvent_sameLink _ _ _ _ _ _ _ p) _ _).trans ?_)
        exact .refl s p

theorem State.freeSlot_sameLink (s : State) (o i : Nat) (p : Port) : (s.freeSlot o i).sameLink s p :=
  State.foldl_sameLink (fun (u : State) (r : Nat) => u.setTag r (freedTag 3)) (fun u _ => .refl u p) _ s

theorem State.applyFrame_sameLink (s : State) (q : Port) (f : YFrame) (lost : Nat) (p : Port) :
    (s.applyFrame q f lost).sameLink s p := by
  unfold State.applyFrame State.teachFrame State.sweepFrame
  dsimp only
  split
  · split
    · exact .refl s p
    · split
      · exact .refl s p
      · split
        · exact (State.place_sameLink _ _ _ _ _ _ _ _ _ p).trans (s.setFleetSeq_sameLink _ _ p)
        · exact (State.foldl_sameLink _ (fun u i => u.freeSlot_sameLink _ _ p) _ _).trans (s.setFleetSeq_sameLink _ _ p)
  · split
    · exact .refl s p
    · split
      · exact .refl s p
      · split
        · exact s.freeSlot_sameLink _ _ p
        · split
          · exact .refl s p
          · exact State.place_sameLink _ _ _ _ _ _ _ _ _ p

theorem State.placeFrame_sameLink (s : State) (q : Port) (f : YFrame) (lost : Nat) (p : Port) :
    (s.placeFrame q f lost).sameLink s p := by
  unfold State.placeFrame
  split
  · exact s.applyFrame_sameLink q f lost p
  · exact .refl s p

theorem State.processFrame_sameLink (s : State) (q : Port) (f : YFrame) (lost : Nat) (p : Port) :
    (s.processFrame q f lost).sameLink s p := by
  unfold State.processFrame
  split
  · exact s.census_sameLink q f p
  · exact s.placeFrame_sameLink q f lost p
  · exact s.placeFrame_sameLink q f lost p
  · exact .refl s p

theorem State.deliverFrame_sameLink (s : State) (f : YFrame) (p : Port) : (s.deliverFrame f).sameLink s p := by
  unfold State.deliverFrame State.relayedRecord
  split
  · split
    · exact State.agreesButRecords_sameLink (s.putFlue_records _) p
    · exact .refl s p
  · exact .refl s p

/-- A frame that goes on: cut through, or to the queues (R319, R320). -/
def State.onward (s : State) (p : Port) (f : YFrame) (cells : List Nat) : State :=
  if (s.ring.port p).cut.isSome then s.finishCut p f none cells else s.forward p f cells s.clock

theorem State.onward_sameLink (s : State) (p : Port) (f : YFrame) (cells : List Nat) : (s.onward p f cells).sameLink s p := by
  unfold State.onward
  split
  · exact (s.finishCut_sameLink p f none cells).1
  · exact s.forward_sameLink p f cells s.clock p

theorem State.acceptFrame_eq (s : State) (p : Port) (f : YFrame) (cells : List Nat) (lost : Nat) :
    s.acceptFrame p f cells lost =
      (if f.fullCircuit then
        if f.src = s.ringId then
          if f.turns = 1 then (s.ownFrame p f).onward p f cells else (s.ownFrame p f).freeCells (some p) f.cls cells
        else if !f.processed then s.onward p f cells
        else if !s.verified f then (s.frameEvent 0x0C p f.e2e f.cls).onward p f cells
        else if decide (trafficType f.cls = 1) && s.takesQuery f && (s.ring.port p).cut.isNone then s.holdQuery p f cells
        else (s.processFrame p f lost).onward p f cells
      else if f.dst = s.ringId then
        if s.verified f then (s.deliverFrame f).freeCells (some p) f.cls cells
        else (s.frameEvent 0x0C p f.e2e f.cls).onward p f cells
      else s.onward p f cells) := rfl

theorem State.acceptFrame_sameLink (s : State) (p : Port) (f : YFrame) (cells : List Nat) (lost : Nat) :
    (s.acceptFrame p f cells lost).sameLink s p := by
  have honward {t : State} (h : t.sameLink s p) : (t.onward p f cells).sameLink s p := (t.onward_sameLink p f cells).trans h
  have hconsume {t : State} (h : t.sameLink s p) : (t.freeCells (some p) f.cls cells).sameLink s p :=
    (t.freeCells_sameLink _ _ _ p).trans h
  rw [State.acceptFrame_eq]
  split
  · split
    · split
      · exact honward (s.ownFrame_sameLink p f p)
      · exact hconsume (s.ownFrame_sameLink p f p)
    · split
      · exact honward (.refl s p)
      · split
        · exact honward (s.frameEvent_sameLink _ _ _ _ p)
        · split
          · exact .refl s p
          · exact honward (s.processFrame_sameLink p f lost p)
  · split
    · split
      · exact hconsume (s.deliverFrame_sameLink f p)
      · exact honward (s.frameEvent_sameLink _ _ _ _ p)
    · exact honward (.refl s p)

theorem State.discardContent_sameLink (s : State) (p : Port) (h : Header) (b : List Byte) :
    (s.discardContent p h b).sameLink s p := by
  unfold State.discardContent
  dsimp only
  refine (State.countDiscard_sameLink _ p).trans ((State.creditFreed_sameLink _ p p _ _).trans ?_)
  split
  · exact (s.finishCut_sameLink p _ _ _).1
  · exact .refl s p

/-- The content of a frame leaves the link that it came in through as it is (R318 to R320). -/
theorem State.takeContent_sameLink (s : State) (p : Port) (b : List Byte) (lost : Nat) :
    (s.takeContent p b lost).sameLink s p := by
  unfold State.takeContent
  dsimp only
  split
  · exact s.discardContent_sameLink p _ b
  · exact (State.acceptFrame_sameLink _ p _ _ lost).trans (State.agreesButRecords_sameLink (s.takeCells_records _) p)

/-! ### What an acknowledgement leaves of the crossing -/

/-- The pause and what waits behind the ports (R96). -/
def State.crossing (s : State) := (s.volt, s.cross)

theorem State.records_crossing {t u : State} (h : t.agreesButRecords u) : t.crossing = u.crossing := by
  rw [h.1]
  rfl

theorem State.foldl_crossing {α : Type} {f : State → α → State} (hf : ∀ s x, (f s x).crossing = s.crossing) (l : List α)
    (s : State) : (l.foldl f s).crossing = s.crossing := by
  induction l generalizing s with
  | nil => rfl
  | cons x l ih => exact (ih _).trans (hf s x)

theorem State.freeCells_crossing (s : State) (source : Option Port) (cls : Nat) (cells : List Nat) :
    (s.freeCells source cls cells).crossing = s.crossing := by
  unfold State.freeCells
  dsimp only
  split
  · exact State.foldl_crossing (f := fun (u : State) (w : Nat × YFrame) => u.offerLocal w.1 w.2)
      (fun u w => State.records_crossing (u.offerLocal_records w.1 w.2)) _ _
  · split <;> rfl

theorem State.finishCut_crossing (s : State) (p : Port) (f : YFrame) (torn : Option (List Byte)) (cells : List Nat) :
    (s.finishCut p f torn cells).crossing = s.crossing := by
  unfold State.finishCut
  dsimp only
  split
  · rfl
  · split
    · rfl
    · exact State.freeCells_crossing (s.setPort p { s.ring.port p with cut := none }) _ _ _

theorem State.ringEvent_crossing (s : State) (code port peer epoch e2e value : Nat) :
    (s.ringEvent code port peer epoch e2e value).crossing = s.crossing := by
  obtain ⟨f, r, h, -⟩ := s.ringEvent_eq code port peer epoch e2e value
  rw [h]
  rfl

theorem State.breakCuts_crossing (s : State) (p : Port) : (s.breakCuts p).crossing = s.crossing := by
  unfold State.breakCuts
  dsimp only
  split
  · exact s.finishCut_crossing p _ _ _
  · rfl

theorem State.turnQueue_crossing (s : State) (p : Port) : (s.turnQueue p).crossing = s.crossing := by
  refine State.foldl_crossing (fun u q => ?_) _ s
  dsimp only
  split
  · rfl
  · exact State.freeCells_crossing (State.countDiscard { u with ring := { u.ring with queue := u.ring.queue.erase q } }) _ _ _

theorem State.linkDown_crossing (s : State) (p : Port) (value : Nat) : (s.linkDown p value).crossing = s.crossing := by
  unfold State.linkDown
  dsimp only
  rw [State.turnQueue_crossing]
  split
  · exact (State.ringEvent_crossing ..).trans (s.breakCuts_crossing p)
  · exact (State.ringEvent_crossing ..).trans ((State.ringEvent_crossing ..).trans (s.breakCuts_crossing p))

theorem State.exhausted_crossing (s : State) (p : Port) : (s.exhausted p).crossing = s.crossing := by
  have hexhausted : s.exhausted p = if (s.countReset p (((s.ring.port p).epoch + 1) % 16) 1).1
      then (s.countReset p (((s.ring.port p).epoch + 1) % 16) 1).2
      else (s.countReset p (((s.ring.port p).epoch + 1) % 16) 1).2.proposeReset p 1 := rfl
  obtain ⟨f, r, hcount⟩ := s.countReset_spec p (((s.ring.port p).epoch + 1) % 16) 1
  have hcounted : (s.countReset p (((s.ring.port p).epoch + 1) % 16) 1).2.crossing = s.crossing := by
    rw [hcount]
    split
    · exact State.linkDown_crossing ..
    · rfl
  rw [hexhausted]
  split
  · exact hcounted
  · exact hcounted

theorem State.takeAck_crossing (s : State) (p : Port) (h : Header) : (s.takeAck p h).crossing = s.crossing := by
  have hfreed (u : State) (l : List Sent) : (u.freeSent l).crossing = u.crossing :=
    State.foldl_crossing (f := fun (u : State) (v : Sent) => u.freeCells v.source v.frame.cls v.cells)
      (fun u v => u.freeCells_crossing _ _ _) l u
  have hback (u : State) : (u.goBack p).crossing = u.crossing := by
    unfold State.goBack
    dsimp only
    split
    · rfl
    · split
      · rfl
      · split
        · exact u.exhausted_crossing p
        · rfl
  unfold State.takeAck
  dsimp only
  split
  · exact (hback _).trans (hfreed _ _)
  · exact hfreed _ _

/-- A header that acknowledges nothing and asks for nothing leaves everything as it is (R321). -/
theorem State.takeAck_plain {s : State} {p : Port} {h : Header} (haval : h.aval = false) (hnak : h.nak = false) :
    s.takeAck p h = s := by
  unfold State.takeAck
  dsimp only
  rw [haval, hnak, if_neg Bool.false_ne_true, if_neg Bool.false_ne_true]
  simp only [List.contains_nil, Bool.not_false, List.filter_true, List.any_nil, List.foldl_nil]
  exact s.setPort_self p

/-! ### A header that cuts through -/

theorem State.cutsThrough_facts {s : State} {p : Port} {b : List Byte} (h : s.cutsThrough p b = true) :
    s.paused = false ∧ (Header.parse b).hseq = (s.ring.port p).rxSeq ∧ (s.ring.port (otherPort p)).up = true ∧
    (s.ring.port (otherPort p)).busyUntil ≤ s.clock := by
  unfold State.cutsThrough State.portIdle LinkPort.mayStart at h
  simp only [Bool.and_eq_true, decide_eq_true_eq, Bool.not_eq_true'] at h
  tauto

theorem State.startCut_eq (s : State) (p : Port) (h : Header) : ∃ c : Cut,
    s.startCut p h = (s.setPort (otherPort p) { s.ring.port (otherPort p) with
      txSeq := ((s.ring.port (otherPort p)).txSeq + 1) % 4096
      sent := (s.ring.port (otherPort p)).sent.set h.cls
        (((s.ring.port (otherPort p)).sent.getD h.cls 0 + cellsOf h.len h.auth) % 65536) }).setPort p
          { s.ring.port p with cut := some c } ∧
    c.seq = (s.ring.port (otherPort p)).txSeq ∧ c.live = true ∧ c.frame.dst = h.dst ∧ c.frame.src = h.src ∧
    c.frame.cls = h.cls ∧ c.frame.hops = h.hops ∧
    c.frame.passed = (h.passed || decide (h.src = s.ringId) && decide (h.turns = 1)) := by
  refine ⟨{ seq := (s.ring.port (otherPort p)).txSeq
            frame := if h.src = s.ringId ∧ h.turns = 1 then { announced h with passed := true } else announced h },
    ?_, rfl, rfl, ?_, ?_, ?_, ?_, ?_⟩
  · cases p <;> rfl
  · dsimp only
    split <;> rfl
  · dsimp only
    split <;> rfl
  · dsimp only
    split <;> rfl
  · dsimp only
    split <;> rfl
  · dsimp only
    split
    next hown => simp [hown]
    next hown =>
      have hfalse : (decide (h.src = s.ringId) && decide (h.turns = 1)) = false := by simpa using hown
      rw [hfalse, Bool.or_false]
      rfl

/-! ### A whole frame at a port -/

/-- A frame that a port does not accept owes one NAK for each expected value (R321). -/
def LinkPort.refusing (x : LinkPort) : LinkPort := { x with nakDone := true, nakDue := x.nakDue || !x.nakDone }

/-- A port that has accepted a frame expects the next one and owes an ack (R321, R322). -/
def LinkPort.taking (x : LinkPort) : LinkPort :=
  { x with
    rxSeq := (x.rxSeq + 1) % 4096, rxAny := true, nakDone := false, nakDue := false
    links := if .ack ∈ x.links then x.links else x.links ++ [.ack] }

/-- A frame that has come in whole and of the epoch in force (R315 to R317, R320). -/
def LinkPort.hears (x : LinkPort) (b : List Byte) : Prop :=
  64 ≤ b.length ∧ b.length ≤ 1500 ∧ headerCrcGood b = true ∧ fcsOf b ≠ .wrong ∧ (Header.parse b).epoch = x.epoch

theorem LinkPort.ack_mem_taking (x : LinkPort) : LinkFrame.ack ∈ x.taking.links := by
  unfold LinkPort.taking
  dsimp only
  split
  · assumption
  · simp

theorem State.acceptHop_eq (s : State) (p : Port) : s.acceptHop p = s.setPort p (s.ring.port p).taking := by
  unfold State.acceptHop LinkPort.taking
  dsimp only
  simp only [List.contains_eq_mem, decide_eq_true_eq]

theorem State.rejectFrame_of_no_cut {s : State} {p : Port} (h : (s.ring.port p).cut = none) (b : List Byte) :
    s.rejectFrame p b = s.setPort p (s.ring.port p).refusing := by
  have harriving : s.arriving p = none := by
    unfold State.arriving
    rw [h, ite_self]
  unfold State.rejectFrame LinkPort.refusing
  rw [harriving]
  dsimp only
  cases hdone : (s.ring.port p).nakDone with
  | true =>
    rw [if_pos rfl, Bool.not_true, Bool.or_false]
    have hsame : ({ s.ring.port p with nakDone := true, nakDue := (s.ring.port p).nakDue } : LinkPort) = s.ring.port p := by
      rw [← hdone]
    rw [hsame, State.setPort_self]
  | false => rw [if_neg Bool.false_ne_true, Bool.not_false, Bool.or_true]

theorem State.receiveData_unheard {s : State} {p : Port} {b : List Byte} (h : ¬(s.ring.port p).hears b) (lost : Nat) :
    s.receiveData p b lost = s.rejectFrame p b := by
  unfold State.receiveData
  split
  · rfl
  next hlen =>
    have hnot : (headerCrcGood b && decide (fcsOf b ≠ .wrong) &&
        decide ((Header.parse b).epoch = (s.ring.port p).epoch)) = false := by
      rw [Bool.eq_false_iff, Ne, Bool.and_eq_true, Bool.and_eq_true, decide_eq_true_eq, decide_eq_true_eq]
      exact fun ⟨⟨hcrc, hfcs⟩, hepoch⟩ => h ⟨by omega, by omega, hcrc, hfcs, hepoch⟩
    dsimp only
    rw [hnot]
    rfl

/-- The receive buffer has room, or no pause lasts (R96). -/
theorem State.rxRoom_iff (s : State) (p : Port) (b : List Byte) : s.rxRoom p b = true ↔
    s.volt.pauseAt = none ∨ ((s.cross.rx p).map List.length).sum + b.length ≤ 16384 := by
  simp [State.rxRoom, State.paused]

/-- A frame that has been heard is refused out of sequence or without room; else its hop accepts it (R96, R321). -/
theorem State.receiveData_heard {s : State} {p : Port} {b : List Byte} (h : (s.ring.port p).hears b) (lost : Nat) :
    s.receiveData p b lost =
      if (Header.parse b).hseq = (s.ring.port p).rxSeq ∧
          (s.volt.pauseAt = none ∨ ((s.cross.rx p).map List.length).sum + b.length ≤ 16384) then
        (let v := (s.takeAck p (Header.parse b)).acceptHop p
        if s.volt.pauseAt = none then v.takeContent p b lost else { v with cross := v.cross.setRx p (s.cross.rx p ++ [b]) })
      else (s.takeAck p (Header.parse b)).rejectFrame p b := by
  obtain ⟨hlow, hhigh, hcrc, hfcs, hepoch⟩ := h
  have hheard : (!(headerCrcGood b && decide (fcsOf b ≠ .wrong) && decide ((Header.parse b).epoch = (s.ring.port p).epoch))) = false := by
    rw [hcrc, decide_eq_true hfcs, decide_eq_true hepoch]
    rfl
  have hcrossing := s.takeAck_crossing p (Header.parse b)
  obtain ⟨-, -, -, hrx, -, -⟩ := s.takeAck_spec p (Header.parse b)
  simp only [State.crossing, Prod.mk.injEq] at hcrossing
  obtain ⟨hvolt, hcross⟩ := hcrossing
  have hpaused : ((s.takeAck p (Header.parse b)).acceptHop p).paused = s.paused :=
    congrArg (fun v : Volt => v.pauseAt.isSome) hvolt
  have hwaiting : ((s.takeAck p (Header.parse b)).acceptHop p).cross = s.cross := hcross
  have hroom := (s.takeAck p (Header.parse b)).rxRoom_iff p b
  rw [hvolt, hcross] at hroom
  unfold State.receiveData
  rw [if_neg (by omega)]
  dsimp only
  rw [hheard, if_neg Bool.false_ne_true, hrx, hpaused, hwaiting]
  by_cases hand : (Header.parse b).hseq = (s.ring.port p).rxSeq ∧
      (s.volt.pauseAt = none ∨ ((s.cross.rx p).map List.length).sum + b.length ≤ 16384)
  · have hgo : ¬(decide ((Header.parse b).hseq ≠ (s.ring.port p).rxSeq) || !(s.takeAck p (Header.parse b)).rxRoom p b) = true := by
      rw [decide_eq_false (not_not.2 hand.1), hroom.2 hand.2]
      exact Bool.false_ne_true
    rw [if_pos hand, if_neg hgo]
    cases hp : s.volt.pauseAt with
    | none =>
      have hrun : ¬s.paused = true := by simp [State.paused, hp]
      rw [if_neg hrun, if_pos rfl]
    | some a =>
      have hrun : s.paused = true := by simp [State.paused, hp]
      rw [if_pos hrun, if_neg (Option.some_ne_none a)]
  · have hstop : (decide ((Header.parse b).hseq ≠ (s.ring.port p).rxSeq) || !(s.takeAck p (Header.parse b)).rxRoom p b) = true := by
      rw [Bool.or_eq_true, decide_eq_true_eq, Bool.not_eq_true', Bool.eq_false_iff]
      exact (not_and_or.1 hand).imp_right (mt hroom.1)
    rw [if_neg hand, if_pos hstop]

/-- A data frame is taken up by a port whose link is up (R315 to R321). -/
theorem exec_dataFrameReceived {s : State} {dt : Nat} {p : Port} {b : List Byte} (hon : s.ringOn = true) (hm : s.mode = .run)
    (hup : (s.ring.port p).up = true) (hkind : (Header.parse b).kind = 0 ∨ 3 < (Header.parse b).kind) (lost : Nat) :
    exec (.dataFrameReceived dt p b lost) s = .next ((s.elapse dt).receiveData p b lost).settle := by
  have hdata : linkKind (Header.parse b).kind = false := by
    unfold linkKind
    rw [Bool.and_eq_false_iff, decide_eq_false_iff_not, decide_eq_false_iff_not]
    omega
  exact (event_next _ _ _ s (by rw [State.elapse_ringRuns, State.ringRuns_of hon hm, State.elapse_ring, hup, hdata]; rfl) :
    execDataFrameReceived dt p b lost s = _)

end Sys2Proof.Machine
end

section
/-! The content of a ring frame (16_ring_link.md, 17_fleet.md; R317 to R319, R326, R332 to R337, R352 to R355, R360): what goes
on, what is delivered, and what is processed here. -/

namespace Sys2Proof.Machine

/-! ### Cells -/

theorem mem_insertUp {l : List Nat} {k c : Nat} : c ∈ insertUp l k ↔ c = k ∨ c ∈ l := by
  unfold insertUp
  simp only [List.mem_append, List.mem_filter, List.mem_cons, decide_eq_true_eq]
  constructor
  · rintro (⟨h, -⟩ | rfl | ⟨h, -⟩)
    · exact .inr h
    · exact .inl rfl
    · exact .inr h
  · rintro (rfl | h)
    · exact .inr (.inl rfl)
    · obtain hlt | rfl | hgt := lt_trichotomy c k
      · exact .inl ⟨h, hlt⟩
      · exact .inr (.inl rfl)
      · exact .inr (.inr ⟨h, hgt⟩)

theorem mem_foldl_insertUp {cells l : List Nat} {c : Nat} : c ∈ cells.foldl insertUp l ↔ c ∈ cells ∨ c ∈ l := by
  induction cells generalizing l with
  | nil => simp
  | cons a cells ih => rw [List.foldl_cons, ih, mem_insertUp, List.mem_cons, or_assoc, or_left_comm]

/-- What a frame that goes on, or whose cells become free, can change: the ring's ports, queues and cells, and the free values
that the receiver's credits take (R326, R327). -/
def State.carried (t s : State) : Prop :=
  t = { s with
    freeCount := t.freeCount
    ring := { s.ring with
      portA := t.ring.portA, portB := t.ring.portB, queue := t.ring.queue, free := t.ring.free
      discards := t.ring.discards } }

/-- Cells that came in through a port become free (R326, R327). -/
theorem State.freeCells_some (s : State) (p : Port) (cls : Nat) (cells : List Nat) :
    (s.freeCells (some p) cls cells).carried s ∧ (s.freeCells (some p) cls cells).ring.queue = s.ring.queue ∧
    (s.freeCells (some p) cls cells).ring.free = cells.foldl insertUp s.ring.free ∧
    (s.freeCells (some p) cls cells).ring.discards = s.ring.discards := by
  unfold State.freeCells State.carried
  dsimp only
  split
  · exact ⟨rfl, rfl, rfl, rfl⟩
  · cases p <;> exact ⟨rfl, rfl, rfl, rfl⟩

theorem State.forward_carried (s : State) (p : Port) (f : YFrame) (cells : List Nat) (since : Nat) :
    (s.forward p f cells since).carried s := by
  have hdrop : (State.countDiscard (s.freeCells (some p) f.cls cells)).carried s := by
    have h := (s.freeCells_some p f.cls cells).1
    exact (congrArg (fun u : State => { u with ring := { u.ring with discards := u.ring.discards + 1 } }) h :)
  unfold State.forward
  dsimp only
  split
  · exact hdrop
  · split
    · exact hdrop
    · exact rfl

/-- A frame with hops left goes on through the other port when that is up (R319, R329). -/
theorem State.forward_of_up {s : State} {p : Port} {f : YFrame} (hhops : f.hops + 1 < 512)
    (hown : f.src ≠ s.ringId ∨ f.dst ≠ f.src) (hup : (s.ring.port (otherPort p)).up = true) (cells : List Nat) (since : Nat) :
    s.forward p f cells since = { s with ring := { s.ring with queue := s.ring.queue ++
      [{ frame := { f with hops := f.hops + 1 }, out := otherPort p, source := some p, at_ := since, cells := cells }] } } := by
  have hmark : (decide (f.src = s.ringId) && ({ f with hops := f.hops + 1 } : YFrame).fullCircuit) = false := by
    unfold YFrame.fullCircuit
    obtain h | h := hown <;> simp [h]
  have hturn : turnFrame s.ring (decide (f.src = s.ringId)) { f with hops := f.hops + 1 } (otherPort p) =
      some ({ f with hops := f.hops + 1 }, otherPort p) := by
    unfold turnFrame
    dsimp only
    rw [if_pos hup, hmark]
    rfl
  unfold State.forward
  dsimp only
  rw [if_neg (by omega), hturn]

theorem State.onward_of_no_cut {s : State} {p : Port} (h : (s.ring.port p).cut = none) (f : YFrame) (cells : List Nat) :
    s.onward p f cells = s.forward p f cells s.clock := by
  unfold State.onward
  rw [h]
  rfl

/-! ### Content that is taken -/

/-- The state in which a good frame's content is looked at: its cells are taken (R326). -/
def State.withCells (s : State) (h : Header) : State := (s.takeCells (cellsOf h.len h.auth)).2

theorem State.takeContent_good {s : State} {p : Port} {b : List Byte} (hfcs : fcsOf b = .good) (hver : (Header.parse b).ver = 1)
    (hkind : (Header.parse b).kind = 0) (hcls : (Header.parse b).cls < 56) (lost : Nat) : s.takeContent p b lost =
      (s.withCells (Header.parse b)).acceptFrame p (YFrame.parse b)
        (s.ring.free.take (cellsOf (Header.parse b).len (Header.parse b).auth)) lost := by
  have htype : trafficType (Header.parse b).cls ≠ 7 := by
    unfold trafficType
    omega
  unfold State.takeContent
  dsimp only
  rw [hfcs, hver, hkind, decide_eq_false htype]
  rfl

/-- The tag of a frame passes (R337). -/
def State.passes (s : State) (f : YFrame) : Prop :=
  s.ringAuth = true → f.auth = true ∧ f.tag = (hmacSha256 s.tap.ring.bytes f.covered).take 8

theorem State.verified_iff (s : State) (f : YFrame) : s.verified f = true ↔ s.passes f := by
  unfold State.verified State.passes State.frameTag
  cases s.ringAuth <;> simp

section content
variable {s : State} {p : Port} {f : YFrame} {cells : List Nat} {lost : Nat}

/-- A frame for another unit goes on (R319). -/
theorem State.acceptFrame_unicast (hcut : (s.ring.port p).cut = none) (hfull : f.dst ≠ f.src) (hdst : f.dst ≠ s.ringId) :
    s.acceptFrame p f cells lost = s.forward p f cells s.clock := by
  rw [State.acceptFrame_eq, YFrame.fullCircuit, if_neg (by simpa using hfull), if_neg hdst, State.onward_of_no_cut hcut]

/-- A frame for this unit whose tag fails goes on unchanged (R337). -/
theorem State.acceptFrame_unverified (hcut : (s.ring.port p).cut = none) (hdst : f.dst = s.ringId) (hsrc : f.src ≠ s.ringId)
    (htag : ¬s.passes f) : s.acceptFrame p f cells lost =
      (s.frameEvent 0x0C p f.e2e f.cls).forward p f cells s.clock := by
  have hfull : f.dst ≠ f.src := fun h => hsrc (h ▸ hdst)
  obtain ⟨⟨-, -, hkeep⟩, hclock, -, -⟩ := s.frameEvent_sameLink 0x0C p f.e2e f.cls p
  rw [State.acceptFrame_eq, YFrame.fullCircuit, if_neg (by simpa using hfull), if_pos hdst,
    if_neg (mt (s.verified_iff f).1 htag), State.onward_of_no_cut (hkeep hcut), hclock]

/-- A frame for this unit whose tag passes is delivered (R319). -/
theorem State.acceptFrame_delivered (hdst : f.dst = s.ringId) (hsrc : f.src ≠ s.ringId) (htag : s.passes f) :
    s.acceptFrame p f cells lost = (s.deliverFrame f).freeCells (some p) f.cls cells := by
  have hfull : f.dst ≠ f.src := fun h => hsrc (h ▸ hdst)
  rw [State.acceptFrame_eq, YFrame.fullCircuit, if_neg (by simpa using hfull), if_pos hdst, if_pos ((s.verified_iff f).2 htag)]

/-- A full-circuit frame of another unit that has not been turned is processed here and goes on (R336). -/
theorem State.acceptFrame_processed (hcut : (s.ring.port p).cut = none) (hdst : f.dst = f.src) (hsrc : f.src ≠ s.ringId)
    (hturns : f.turns = 0) (htag : s.passes f) (htype : trafficType f.cls ≠ 1) :
    s.acceptFrame p f cells lost = (s.processFrame p f lost).forward p f cells s.clock := by
  have hprocessed : f.processed = true := by simp [YFrame.processed, hturns]
  obtain ⟨⟨-, -, hkeep⟩, hclock, -, -⟩ := s.processFrame_sameLink p f lost p
  rw [State.acceptFrame_eq, YFrame.fullCircuit, if_pos (by simpa using hdst), if_neg hsrc, hprocessed,
    if_neg (by simp), (s.verified_iff f).2 htag, if_neg (by simp), decide_eq_false htype, Bool.false_and, Bool.false_and,
    if_neg Bool.false_ne_true, State.onward_of_no_cut (hkeep hcut), hclock]

/-- A full-circuit frame of this unit's ID that has not been turned is removed (R336). -/
theorem State.acceptFrame_own (hdst : f.dst = s.ringId) (hsrc : f.src = s.ringId) (hturns : f.turns = 0) :
    s.acceptFrame p f cells lost = (s.ownFrame p f).freeCells (some p) f.cls cells := by
  rw [State.acceptFrame_eq, YFrame.fullCircuit, if_pos (by simp [hdst, hsrc]), if_pos hsrc, if_neg (by omega)]

end content

/-! ### A census -/

/-- A census of another unit enters the ring map or refreshes its entry (R333). -/
theorem State.census_map (s : State) (p : Port) (f : YFrame) :
    (∃ m ∈ (s.census p f).ring.map, m.id = f.src ∧ m.at_ = s.clock ∧ m.seedHash = fieldAt f.payload 4 4 ∧
      m.mclass = byteAt f.payload 8 ∧ m.flags = byteAt f.payload 9 ∧
      (f.turns = 0 → f.dir < 2 → (∀ m ∈ s.ring.map, m.id ≠ f.src) → m.hops.getD (1 - f.dir) none = some f.hops)) ∧
    ∀ m ∈ s.ring.map, m.id ≠ f.src → m ∈ (s.census p f).ring.map := by
  unfold State.census
  split
  next h =>
    obtain ⟨m, hm, hid⟩ := List.any_eq_true.1 h
    have hid := of_decide_eq_true hid
    refine ⟨⟨m.refresh f s.clock, List.mem_map.2 ⟨m, hm, if_pos hid⟩, hid, rfl, rfl, rfl, rfl,
      fun _ _ hnone => absurd hid (hnone m hm)⟩, fun m hm hne => List.mem_map.2 ⟨m, hm, if_neg hne⟩⟩
  next h =>
    dsimp only
    obtain ⟨g, r, heq, -⟩ := State.ringEvent_eq { s with ring := { s.ring with
      map := s.ring.map ++ [({ id := f.src } : MapEntry).refresh f s.clock] } } 0x06 (portNum p)
      ((s.ring.port p).peer) ((s.ring.port p).epoch) f.e2e (s.ring.map.length + 1 + 1)
    have hevent : State.frameEvent { s with ring := { s.ring with
        map := s.ring.map ++ [({ id := f.src } : MapEntry).refresh f s.clock] } } 0x06 p f.e2e
        (State.ringSize { s with ring := { s.ring with
          map := s.ring.map ++ [({ id := f.src } : MapEntry).refresh f s.clock] } }) =
        { s with ring := { s.ring with map := s.ring.map ++ [({ id := f.src } : MapEntry).refresh f s.clock] }
                 flue := g, router := r } := by
      rw [← heq]
      unfold State.frameEvent State.ringSize
      dsimp only
      rw [List.length_append]
      cases p <;> rfl
    rw [hevent]
    refine ⟨⟨_, List.mem_append_right _ (List.mem_singleton_self _), rfl, rfl, rfl, rfl, rfl, fun hturns hdir _ => ?_⟩,
      fun m hm _ => List.mem_append_left _ hm⟩
    unfold MapEntry.refresh
    dsimp only
    rw [if_pos hturns]
    obtain hd | hd : f.dir = 0 ∨ f.dir = 1 := by omega
    · rw [hd]
      rfl
    · rw [hd]
      rfl

/-! ### A frame of the unit's own ID -/

/-- A census with a stamp that is not the unit's own begins or prolongs ID clash (R334). -/
theorem State.ownFrame_clash {s : State} {p : Port} {f : YFrame} (hturns : f.turns = 0) (htype : trafficType f.cls = 0)
    (htag : s.passes f) (hstamp : fieldAt f.payload 0 4 ∉ s.ring.stamps) :
    (s.ownFrame p f).ring.clashAt = some s.clock ∧ (s.ownFrame p f).ring.map = s.ring.map := by
  have hforeign : s.foreignStamp (fieldAt f.payload 0 4) = true := by simpa [State.foreignStamp] using hstamp
  have hown : s.ownFrame p f = s.ownCensus p f := by
    unfold State.ownFrame
    dsimp only
    rw [if_neg (by simp [hturns]), (s.verified_iff f).2 htag, if_neg (by simp), htype]
    exact if_pos (by simp [YFrame.processed, hturns])
  obtain ⟨g, r, heq, -⟩ := State.ringEvent_eq { s with ring := { s.ring with clashAt := some s.clock } } 0x07 (portNum p)
    (s.ring.port p).peer (s.ring.port p).epoch f.e2e 0
  have hevent : State.frameEvent { s with ring := { s.ring with clashAt := some s.clock } } 0x07 p f.e2e 0 =
      { s with ring := { s.ring with clashAt := some s.clock }, flue := g, router := r } := by
    rw [← heq]
    cases p <;> rfl
  rw [hown]
  unfold State.ownCensus
  dsimp only
  rw [if_pos hforeign, hevent]
  split <;> exact ⟨rfl, rfl⟩

/-! ### Fleet rows that are placed -/

theorem State.badIn_of_filter {t s : State} {keep : Nat × Nat → Bool} (h : t.ecc = s.ecc.filter keep) {a n : Nat}
    (hkeep : ∀ e : Nat × Nat, a ≤ e.1 → e.1 < a + n → keep e = true) : t.badIn a n = s.badIn a n := by
  unfold State.badIn
  rw [h, List.find?_filter]
  refine congrArg (Option.map Prod.fst) (congrArg (fun q => s.ecc.find? q) (funext fun e => ?_))
  by_cases hin : a ≤ e.1 ∧ e.1 < a + n
  · simp [hkeep e hin.1 hin.2]
  · obtain hlt | hge := not_and_or.1 hin
    · simp [hlt]
    · simp [hge]

/-- A write above the hearth's tags leaves their cells (R197). -/
theorem Memory.filter_writeBytes_above (m : List Host.Cell) {a lo hi : Nat} (bs : List Byte) (h : hi ≤ a) :
    (Memory.writeBytes m a bs).filter (fun c => decide (lo ≤ c.1) && decide (c.1 < hi)) =
      m.filter (fun c => decide (lo ≤ c.1) && decide (c.1 < hi)) := by
  have hcells : (Memory.cells a bs).filter (fun c : Host.Cell => decide (lo ≤ c.1) && decide (c.1 < hi)) = [] := by
    rw [List.filter_eq_nil_iff]
    intro c hc
    have := (Memory.cells_range a bs c hc).1
    simp only [Bool.and_eq_true, decide_eq_true_eq]
    omega
  have habove : (m.filter (fun c => decide (a + bs.length ≤ c.1))).filter
      (fun c : Host.Cell => decide (lo ≤ c.1) && decide (c.1 < hi)) = [] := by
    rw [List.filter_eq_nil_iff]
    intro c hc
    have := of_decide_eq_true (List.mem_filter.1 hc).2
    simp only [Bool.and_eq_true, decide_eq_true_eq]
    omega
  unfold Memory.writeBytes
  rw [List.filter_append, List.filter_append, hcells, habove, List.append_nil, List.append_nil, List.filter_filter]
  refine List.filter_congr fun c _ => ?_
  by_cases hlow : c.1 < hi
  · simp [hlow, show c.1 < a by omega]
  · simp [hlow]

/-- A write above the hearth's tags leaves the list of rows that have one (R197). -/
theorem State.taggedRows_poke (s : State) {a : Nat} (bs : List Byte) (h : 0x01080000 ≤ a) :
    (s.poke a bs).taggedRows = s.taggedRows := by
  unfold State.taggedRows
  rw [State.poke_mem, Memory.filter_writeBytes_above s.mem bs h]

/-- Two states place a fleet row in the same slot when their tags, and what is wrong with them, are the same (R355). -/
theorem State.placeRow_congr {t s : State} (hrows : t.taggedRows = s.taggedRows) (htag : ∀ r, r < 16384 → t.tag r = s.tag r)
    (hbad : ∀ r, r < 16384 → t.tagBad r = s.tagBad r) (hlib : t.libraryRows = s.libraryRows)
    (hretired : t.hearth.retired = s.hearth.retired) (o i : Nat) : t.placeRow o i = s.placeRow o i := by
  have hpart (r : Nat) : t.partition r = s.partition r := by
    unfold State.partition
    rw [hlib]
  have hholders : t.holders o i = s.holders o i := by
    unfold State.holders
    rw [hrows]
    refine List.filter_congr fun r hr => ?_
    have hr := State.taggedRows_lt hr
    rw [hpart, hbad r hr, htag r hr]
  have hfree : ((List.range 8192).drop t.libraryRows).find? (fun r => t.isFree r && !t.tagBad r) =
      ((List.range 8192).drop s.libraryRows).find? (fun r => s.isFree r && !s.tagBad r) := by
    rw [hlib]
    refine List.find?_congr fun r hr => ?_
    have hr : r < 16384 := (List.mem_range.1 (List.mem_of_mem_drop hr)).trans (by omega)
    unfold State.isFree State.isRetired
    rw [hbad r hr, htag r hr, hretired]
  unfold State.placeRow
  rw [hholders, hfree]

/-- The state once a fleet sequence has been set (R353). -/
theorem State.setFleetSeq_rows {s : State} (hs : Memory.wf s.mem) (o w : Nat) :
    Memory.wf (s.setFleetSeq o w).mem ∧ (s.setFleetSeq o w).taggedRows = s.taggedRows ∧
    (∀ r, r < 16384 → (s.setFleetSeq o w).tag r = s.tag r ∧ (s.setFleetSeq o w).row r = s.row r ∧
      (s.setFleetSeq o w).tagBad r = s.tagBad r) := by
  have hmem : (s.setFleetSeq o w).mem = (s.poke (fleetSeqAddr o) (leBytes 4 w)).mem := rfl
  have hhigh : 0x08840000 ≤ fleetSeqAddr o := by
    unfold fleetSeqAddr persistBase
    omega
  refine ⟨Memory.wf_writeBytes _ _ _ hs, s.taggedRows_poke (leBytes 4 w) (by omega), fun r hr => ⟨?_, ?_, ?_⟩⟩
  · refine (State.tag_of_mem hmem r).trans (s.tag_poke_of_apart hs (.inl ?_))
    unfold tagAddr
    omega
  · refine (State.row_of_mem hmem r).trans (s.row_poke_of_apart hs (.inl ?_))
    unfold rowAddr
    omega
  · refine congrArg Option.isSome (State.badIn_of_filter (s := s) (t := s.setFleetSeq o w) rfl fun e hlow hin => ?_)
    simp only [Bool.not_eq_true', Bool.and_eq_false_iff, decide_eq_false_iff_not]
    unfold tagAddr at hin
    omega

theorem State.frameEvent_eq (s : State) (code : Nat) (p : Port) (e2e value : Nat) : ∃ f r,
    s.frameEvent code p e2e value = { s with flue := f, router := r } := by
  obtain ⟨f, r, h, -⟩ := s.ringEvent_eq code (portNum p) (s.ring.port p).peer (s.ring.port p).epoch e2e value
  exact ⟨f, r, h⟩

/-- A row that is placed: its data and its tag, the other rows as they were (R265, R355). -/
theorem State.place_some {s : State} {p : Port} {e2e o i seq lost r : Nat} {sent : Tag} {data : HV} (hprofile : s.profile ≠ 0)
    (hrow : s.placeRow o i = some r) (hlost : lost < 2) (hr : r < 16384) (hs : Memory.wf s.mem) :
    let t := s.place p e2e o i seq sent data lost
    t.row r = data ∧ t.tag r = placedTag (s.tag r) sent o i seq ∧ t.vault.fleetSeq = s.vault.fleetSeq ∧
    ∀ g, g < 16384 → g ≠ r → t.tag g = s.tag g ∧ t.row g = s.row g := by
  intro t
  generalize hw : s.writeRow r data (placedTag (s.tag r) sent o i seq) = w
  generalize hhealed : (if (s.tag r).valid && !(s.tag r).spent then (List.range 128).filter (s.tag r).isErased else []) = healed
  obtain ⟨e, hfold⟩ : ∃ e, e = healed.foldl (fun s g => s.memoryEvent 0x02 .rng (rowAddr r + 8 * g) r g 0 3) w := ⟨_, rfl⟩
  have hplace : t = e.frameEvent 0x0A p e2e r := by
    show s.place p e2e o i seq sent data lost = _
    unfold State.place
    rw [if_neg hprofile, hrow]
    dsimp only
    rw [if_neg (not_le.2 hlost), hw, hhealed, ← hfold]
  have hww : Memory.wf w.mem := hw ▸ State.writeRow_wf _ _ _ hs
  have hrec : e.agreesButRecords w := hfold ▸ State.foldl_records _ (fun u g => u.memoryEvent_records ..) _ _
  have hwe : Memory.wf e.mem := hfold ▸ State.foldl_wf _ (fun _ _ h => State.memoryEvent_wf _ _ _ _ _ _ _ h) _ hww
  obtain ⟨f, ro, hevent⟩ := e.frameEvent_eq 0x0A p e2e r
  have hmem : t.mem = e.mem := by rw [hplace, hevent]
  have hvault : t.vault.fleetSeq = s.vault.fleetSeq := by
    rw [hplace, hevent]
    refine (congrArg (fun u : State => u.vault.fleetSeq) hrec.1 :).trans ?_
    rw [← hw]
    rfl
  refine ⟨?_, ?_, hvault, fun g hg hne => ⟨?_, ?_⟩⟩
  · rw [State.row_of_mem hmem, State.records_row hrec hwe hww hr, ← hw, State.row_writeRow _ _ _ hs hr]
  · rw [State.tag_of_mem hmem, State.records_tag hrec hwe hww hr, ← hw, State.tag_writeRow _ _ _ _ hs]
  · rw [State.tag_of_mem hmem, State.records_tag hrec hwe hww hg, ← hw, State.tag_writeRow_of_ne _ _ _ hs hr hne]
  · rw [State.row_of_mem hmem, State.records_row hrec hwe hww hg, ← hw, State.row_writeRow_of_ne _ _ _ hs hg hne]

/-- What a teach frame must be for its row to be placed (R338, R352 to R355). -/
structure State.Teaches (s : State) (f : YFrame) (r : Nat) : Prop where
  length : f.payload.length = 1072
  kind : byteAt f.payload 0 = 1
  slot : fieldAt f.payload 2 2 < 1024
  may : s.mayOriginate = true
  seed : fieldAt f.payload 8 4 = s.seedHash
  mclass : byteAt f.payload 1 = s.mclass
  newer : 0 < serial32 (fieldAt f.payload 4 4) (sparse s.vault.fleetSeq f.src)
  profile : s.profile ≠ 0
  row : s.placeRow f.src (fieldAt f.payload 2 2) = some r

theorem State.teachFrame_eq {s : State} {p : Port} {f : YFrame} {lost r : Nat} (h : s.Teaches f r) :
    s.teachFrame p f lost = (s.setFleetSeq f.src (fieldAt f.payload 4 4)).place p f.e2e f.src (fieldAt f.payload 2 2)
      (fieldAt f.payload 4 4) (Tag.ofNat (fieldAt f.payload 16 32)) (hvOfBytes (slice f.payload 48 1024)) lost := by
  have hmatch : s.matches_ (fieldAt f.payload 8 4) (byteAt f.payload 1) = true := by
    rw [State.matches_, decide_eq_true h.seed, decide_eq_true h.mclass]
    rfl
  unfold State.teachFrame
  dsimp only
  rw [h.length, h.kind, decide_eq_true h.slot, h.may, hmatch, if_neg (by decide), if_neg (not_le.2 h.newer), if_pos rfl]

/-- A taught row of another unit is placed (R353 to R355). -/
theorem State.teachFrame_placed {s : State} {p : Port} {f : YFrame} {lost r : Nat} (h : s.Teaches f r) (hlost : lost < 2)
    (hr : r < 16384) (hs : Memory.wf s.mem) :
    let t := s.teachFrame p f lost
    t.row r = hvOfBytes (slice f.payload 48 1024) ∧
    t.tag r = placedTag (s.tag r) (Tag.ofNat (fieldAt f.payload 16 32)) f.src (fieldAt f.payload 2 2) (fieldAt f.payload 4 4) ∧
    sparse t.vault.fleetSeq f.src = fieldAt f.payload 4 4 ∧
    ∀ g, g < 16384 → g ≠ r → t.tag g = s.tag g ∧ t.row g = s.row g := by
  intro t
  obtain ⟨hwf, hrows, hsame⟩ := State.setFleetSeq_rows hs f.src (fieldAt f.payload 4 4)
  have hrow : (s.setFleetSeq f.src (fieldAt f.payload 4 4)).placeRow f.src (fieldAt f.payload 2 2) = some r :=
    (State.placeRow_congr (s := s) hrows (fun g hg => (hsame g hg).1) (fun g hg => (hsame g hg).2.2) rfl rfl _ _).trans h.row
  have heq : t = _ := State.teachFrame_eq (p := p) (lost := lost) h
  obtain ⟨hdata, htag, hseq, hothers⟩ := State.place_some (s := s.setFleetSeq f.src (fieldAt f.payload 4 4)) (p := p)
    (e2e := f.e2e) (seq := fieldAt f.payload 4 4) (sent := Tag.ofNat (fieldAt f.payload 16 32))
    (data := hvOfBytes (slice f.payload 48 1024)) h.profile hrow hlost hr hwf
  rw [← heq] at hdata htag hseq hothers
  refine ⟨hdata, htag.trans (by rw [(hsame r hr).1]), ?_, fun g hg hne => ⟨?_, ?_⟩⟩
  · rw [hseq]
    exact (sparse_setSparse _ _ _ _).trans (if_pos rfl)
  · rw [(hothers g hg hne).1, (hsame g hg).1]
  · rw [(hothers g hg hne).2, (hsame g hg).2.1]

end Sys2Proof.Machine
end

section
/-! Ring frames as a whole (16_ring_link.md, 17_fleet.md; R315 to R323, R326 to R337, R352 to R355, R360): the frames that a port
receives. -/

namespace Sys2Proof.Machine

/-! ### A frame whose content is taken -/

/-- The state in which the content of an accepted frame is looked at (R321, R322, R326). -/
def State.arrived (s : State) (dt : Nat) (p : Port) (h : Header) : State :=
  ((s.elapse dt).setPort p (s.ring.port p).taking).withCells h

/-- What the statement supposes of a frame that is heard, in sequence and good. -/
structure State.Accepts (s : State) (p : Port) (b : List Byte) : Prop where
  on : s.ringOn = true
  run : s.mode = .run
  up : (s.ring.port p).up = true
  hears : (s.ring.port p).hears b
  seq : (Header.parse b).hseq = (s.ring.port p).rxSeq
  aval : (Header.parse b).aval = false
  nak : (Header.parse b).nak = false
  cut : (s.ring.port p).cut = none
  pause : s.volt.pauseAt = none
  fcs : fcsOf b = .good
  ver : (Header.parse b).ver = 1
  kind : (Header.parse b).kind = 0
  cls : (Header.parse b).cls < 56

theorem State.arrived_port (s : State) (dt : Nat) (p : Port) (h : Header) :
    (s.arrived dt p h).ring.port p = (s.ring.port p).taking :=
  (show (s.arrived dt p h).ring.port p = ((s.elapse dt).setPort p (s.ring.port p).taking).ring.port p by cases p <;> rfl).trans
    (((s.elapse dt).port_setPort p p _).trans (if_pos rfl))

theorem State.arrived_cut (s : State) (dt : Nat) (p : Port) (h : Header) :
    ((s.arrived dt p h).ring.port p).cut = (s.ring.port p).cut := by
  rw [State.arrived_port]
  rfl

theorem State.arrived_other (s : State) (dt : Nat) (p : Port) (h : Header) :
    (s.arrived dt p h).ring.port (otherPort p) = s.ring.port (otherPort p) := by cases p <;> rfl

theorem State.arrived_queue (s : State) (dt : Nat) (p : Port) (h : Header) : (s.arrived dt p h).ring.queue = s.ring.queue := by
  cases p <;> rfl

theorem State.arrived_map (s : State) (dt : Nat) (p : Port) (h : Header) : (s.arrived dt p h).ring.map = s.ring.map := by
  cases p <;> rfl

theorem State.arrived_free (s : State) (dt : Nat) (p : Port) (h : Header) :
    (s.arrived dt p h).ring.free = s.ring.free.drop (cellsOf h.len h.auth) := by cases p <;> rfl

/-- The word of a hearth tag reads as before once cells of the ring have been taken (R326). -/
theorem State.arrived_tagBad (s : State) (dt : Nat) (p : Port) (h : Header) {r : Nat} (hr : r < 16384) :
    (s.arrived dt p h).tagBad r = s.tagBad r := by
  refine congrArg Option.isSome (State.badIn_of_filter (s := s) (t := s.arrived dt p h) (keep := fun e =>
    !(((s.elapse dt).setPort p (s.ring.port p).taking).ring.free.take (cellsOf h.len h.auth)).any (fun c => inCell c e.1))
    rfl fun e hlow hin => ?_)
  rw [Bool.not_eq_true', List.any_eq_false]
  intro c _ hcell
  unfold inCell at hcell
  rw [Bool.and_eq_true, decide_eq_true_eq] at hcell
  have hbase : regionBase .ringCells = 0x04000000 := rfl
  unfold tagAddr at hin
  omega

theorem exec_dataFrame_content {s : State} {p : Port} {b : List Byte} (h : s.Accepts p b) (dt lost : Nat) :
    exec (.dataFrameReceived dt p b lost) s = .next ((s.arrived dt p (Header.parse b)).acceptFrame p (YFrame.parse b)
      (s.ring.free.take (cellsOf (Header.parse b).len (Header.parse b).auth)) lost).settle := by
  have hport : (s.elapse dt).ring.port p = s.ring.port p := rfl
  have hreceive : (s.elapse dt).receiveData p b lost =
      ((s.elapse dt).setPort p (s.ring.port p).taking).takeContent p b lost := by
    rw [State.receiveData_heard (s := s.elapse dt) h.hears, if_pos ⟨h.seq, .inl h.pause⟩]
    dsimp only
    rw [State.elapse_volt, if_pos h.pause, State.takeAck_plain h.aval h.nak, State.acceptHop_eq, hport]
  rw [exec_dataFrameReceived h.on h.run h.up (.inl h.kind), hreceive,
    State.takeContent_good h.fcs h.ver h.kind h.cls]
  have hfree : ((s.elapse dt).setPort p (s.ring.port p).taking).ring.free = s.ring.free := by cases p <;> rfl
  rw [hfree]
  rfl

/-! ### A ring event about a frame -/

theorem State.ringEvent_flueQueue (s : State) (code port peer epoch e2e value : Nat) :
    (s.ringEvent code port peer epoch e2e value).flue.queue = s.flue.queue := by
  unfold State.ringEvent
  extract_lets payload e
  have hflue (u : State) : (u.routeFlue e).flue.queue = u.flue.queue := by
    obtain ⟨-, h⟩ | ⟨-, h⟩ := u.routeFlue_cases e <;> rw [h]
  obtain ⟨-, h⟩ | ⟨-, h⟩ := s.routeAsh_cases e <;> rw [hflue, h]

/-- A ring event reaches the ash when its queue has room, and no report is written for it yet (R135, R249). -/
theorem State.frameEvent_spec (s : State) (code : Nat) (p : Port) (e2e value : Nat) : ∃ f r,
    s.frameEvent code p e2e value = { s with flue := f, router := r } ∧ f.queue = s.flue.queue ∧
    (s.router.ash.length < 32 → ∃ e : Event, r.ash = s.router.ash ++ [e] ∧ e.type = 0x0B ∧
      byteAt e.payload 0 = code % 256 ∧ fieldAt e.payload 5 2 = e2e % 65536) := by
  obtain ⟨f, r, heq, hash⟩ := s.ringEvent_eq code (portNum p) (s.ring.port p).peer (s.ring.port p).epoch e2e value
  have hqueue := s.ringEvent_flueQueue code (portNum p) (s.ring.port p).peer (s.ring.port p).epoch e2e value
  rw [heq] at hqueue
  refine ⟨f, r, heq, hqueue, fun hroom => ?_⟩
  obtain ⟨e, he, -, htype, hpayload⟩ := hash hroom
  obtain ⟨hcode, hseq, -⟩ := ringPayload_fields code (portNum p) (s.ring.port p).peer s.ringSize (s.ring.port p).epoch e2e value
  exact ⟨e, he, htype, by rw [hpayload]; exact hcode, by rw [hpayload]; exact hseq⟩

section content
variable {s : State} {p : Port} {b : List Byte}

/-- A frame for another unit goes on, and the words of its cells are good (R319, R326, R329). -/
theorem exec_frame_unicast (h : s.Accepts p b) (dt lost : Nat) (hfull : (YFrame.parse b).dst ≠ (YFrame.parse b).src)
    (hdst : (YFrame.parse b).dst ≠ s.ringId) (hhops : (YFrame.parse b).hops + 1 < 512)
    (hup : (s.ring.port (otherPort p)).up = true) :
    exec (.dataFrameReceived dt p b lost) s = .next (State.settle { s.arrived dt p (Header.parse b) with
      ring := { (s.arrived dt p (Header.parse b)).ring with queue := s.ring.queue ++
        [{ frame := { YFrame.parse b with hops := (YFrame.parse b).hops + 1 }, out := otherPort p, source := some p
           at_ := s.clock + dt
           cells := s.ring.free.take (cellsOf (Header.parse b).len (Header.parse b).auth) }] } }) := by
  rw [exec_dataFrame_content h, State.acceptFrame_unicast (s := s.arrived dt p (Header.parse b)) ((s.arrived_cut dt p _).trans h.cut) hfull hdst,
    State.forward_of_up hhops (.inr hfull) (by rw [State.arrived_other]; exact hup), State.arrived_queue]
  rfl

/-- A frame for this unit whose tag fails goes on unchanged, with a ring event (R337). -/
theorem exec_frame_unverified (h : s.Accepts p b) (dt lost : Nat) (hdst : (YFrame.parse b).dst = s.ringId)
    (hsrc : (YFrame.parse b).src ≠ s.ringId) (htag : ¬s.passes (YFrame.parse b)) (hhops : (YFrame.parse b).hops + 1 < 512)
    (hup : (s.ring.port (otherPort p)).up = true) :
    ∃ t q, exec (.dataFrameReceived dt p b lost) s = .next t ∧ t.ring.queue = s.ring.queue ++ [q] ∧
      q.frame = { YFrame.parse b with hops := (YFrame.parse b).hops + 1 } ∧ q.out = otherPort p ∧
      t.flue.queue = s.flue.queue ∧ (s.router.ash.length < 32 → ∃ e, t.router.ash = s.router.ash ++ [e] ∧ e.type = 0x0B ∧
        byteAt e.payload 0 = 0x0C ∧ fieldAt e.payload 5 2 = (YFrame.parse b).e2e % 65536) := by
  have hexec := exec_dataFrame_content h dt lost
  rw [State.acceptFrame_unverified (s := s.arrived dt p (Header.parse b)) ((s.arrived_cut dt p _).trans h.cut) hdst hsrc htag] at hexec
  obtain ⟨f, r, hevent, hqueue, hash⟩ := (s.arrived dt p (Header.parse b)).frameEvent_spec 0x0C p (YFrame.parse b).e2e
    (YFrame.parse b).cls
  have hrouter : (s.arrived dt p (Header.parse b)).router = s.router := rfl
  rw [hrouter] at hash
  rw [hevent, State.forward_of_up (s := { s.arrived dt p (Header.parse b) with flue := f, router := r }) (p := p) hhops
    (.inl hsrc) ((congrArg LinkPort.up (s.arrived_other dt p _)).trans hup)] at hexec
  refine ⟨_, _, hexec, congrArg (· ++ _) (s.arrived_queue dt p _), rfl, rfl, hqueue, hash⟩

/-- A relayed record reaches the report queue of its collector, and its cells become free (R319, R360). -/
theorem exec_frame_relayed (h : s.Accepts p b) (dt lost : Nat) (hdst : (YFrame.parse b).dst = s.ringId)
    (hsrc : (YFrame.parse b).src ≠ s.ringId) (htype : (YFrame.parse b).cls / 8 = 5 ∨ (YFrame.parse b).cls / 8 = 6)
    (hcollector : s.collector = true) (htag : s.passes (YFrame.parse b)) (hgood : relayedGood (YFrame.parse b).payload = true) :
    ∃ t, exec (.dataFrameReceived dt p b lost) s = .next t ∧
      t.flue = s.flue.enterRelayed (s.elapse dt).ts (YFrame.parse b).payload ∧ t.ring.queue = s.ring.queue ∧
      ∀ c, c ∈ t.ring.free ↔ c ∈ s.ring.free := by
  have hexec := exec_dataFrame_content h dt lost
  rw [State.acceptFrame_delivered (s := s.arrived dt p (Header.parse b)) hdst hsrc htag] at hexec
  have hdeliver : (s.arrived dt p (Header.parse b)).deliverFrame (YFrame.parse b) =
      (s.arrived dt p (Header.parse b)).putFlue (s.flue.enterRelayed (s.elapse dt).ts (YFrame.parse b).payload) := by
    have hc : ((s.arrived dt p (Header.parse b)).collector && relayedGood (YFrame.parse b).payload) = true := by
      rw [hgood, show (s.arrived dt p (Header.parse b)).collector = true from hcollector]
      rfl
    unfold State.deliverFrame State.relayedRecord trafficType
    rw [if_pos htype, if_pos hc]
    rfl
  rw [hdeliver] at hexec
  obtain ⟨hcarried, hqueue, hfree, -⟩ := ((s.arrived dt p (Header.parse b)).putFlue
    (s.flue.enterRelayed (s.elapse dt).ts (YFrame.parse b).payload)).freeCells_some p (YFrame.parse b).cls
    (s.ring.free.take (cellsOf (Header.parse b).len (Header.parse b).auth))
  refine ⟨_, hexec, (congrArg State.flue hcarried :), hqueue.trans (s.arrived_queue dt p _), fun c => ?_⟩
  rw [State.settle_ring, hfree, mem_foldl_insertUp]
  refine Iff.trans (or_congr_right (Iff.of_eq (congrArg (c ∈ ·) (s.arrived_free dt p (Header.parse b))))) ?_
  rw [← List.mem_append, List.take_append_drop]

/-- A frame of another unit that is processed here and goes on leaves the state that its processing has made, but for the ring's
queues and cells (R336). -/
theorem exec_frame_processed (h : s.Accepts p b) (dt lost : Nat) (hdst : (YFrame.parse b).dst = (YFrame.parse b).src)
    (hsrc : (YFrame.parse b).src ≠ s.ringId) (hturns : (YFrame.parse b).turns = 0) (htag : s.passes (YFrame.parse b))
    (htype : trafficType (YFrame.parse b).cls ≠ 1) : ∃ t : State, exec (.dataFrameReceived dt p b lost) s = .next t.settle ∧
      t.carried ((s.arrived dt p (Header.parse b)).processFrame p (YFrame.parse b) lost) := by
  have hexec := exec_dataFrame_content h dt lost
  rw [State.acceptFrame_processed (s := s.arrived dt p (Header.parse b)) ((s.arrived_cut dt p _).trans h.cut) hdst hsrc hturns htag htype] at hexec
  exact ⟨_, hexec, State.forward_carried _ _ _ _ _⟩

/-- A census of another unit enters the ring map (R333). -/
theorem exec_frame_census (h : s.Accepts p b) (dt lost : Nat) (hdst : (YFrame.parse b).dst = (YFrame.parse b).src)
    (hsrc : (YFrame.parse b).src ≠ s.ringId) (hturns : (YFrame.parse b).turns = 0) (htag : s.passes (YFrame.parse b))
    (htype : (YFrame.parse b).cls / 8 = 0) : ∃ t, exec (.dataFrameReceived dt p b lost) s = .next t ∧
      (∃ m ∈ t.ring.map, m.id = (YFrame.parse b).src ∧ m.at_ = s.clock + dt ∧
        m.seedHash = fieldAt (YFrame.parse b).payload 4 4 ∧ m.mclass = byteAt (YFrame.parse b).payload 8 ∧
        m.flags = byteAt (YFrame.parse b).payload 9 ∧ ((∀ m ∈ s.ring.map, m.id ≠ (YFrame.parse b).src) →
          m.hops.getD (1 - (YFrame.parse b).dir) none = some (YFrame.parse b).hops)) ∧
      ∀ m ∈ s.ring.map, m.id ≠ (YFrame.parse b).src → m ∈ t.ring.map := by
  have htraffic : trafficType (YFrame.parse b).cls = 0 := htype
  obtain ⟨t, hexec, hcarried⟩ := exec_frame_processed h dt lost hdst hsrc hturns htag (by rw [htraffic]; exact Nat.zero_ne_one)
  have hprocess : (s.arrived dt p (Header.parse b)).processFrame p (YFrame.parse b) lost =
      (s.arrived dt p (Header.parse b)).census p (YFrame.parse b) := by
    unfold State.processFrame
    rw [htraffic] <;> rfl
  rw [hprocess] at hcarried
  have hmap : t.settle.ring.map = ((s.arrived dt p (Header.parse b)).census p (YFrame.parse b)).ring.map :=
    (congrArg (fun u : State => u.ring.map) hcarried :)
  have hdir : (YFrame.parse b).dir < 2 := Nat.mod_lt _ Nat.two_pos
  obtain ⟨⟨m, hm, hid, hat, hseed, hmclass, hflags, hhops⟩, hothers⟩ :=
    (s.arrived dt p (Header.parse b)).census_map p (YFrame.parse b)
  rw [State.arrived_map] at hhops hothers
  exact ⟨_, hexec, ⟨m, hmap ▸ hm, hid, hat, hseed, hmclass, hflags, hhops hturns hdir⟩,
    fun m hm hne => hmap ▸ hothers m hm hne⟩

/-- A census of the unit's own ID with a foreign stamp shows an ID clash (R334). -/
theorem exec_frame_clash (h : s.Accepts p b) (dt lost : Nat) (hdst : (YFrame.parse b).dst = s.ringId)
    (hsrc : (YFrame.parse b).src = s.ringId) (hturns : (YFrame.parse b).turns = 0) (htag : s.passes (YFrame.parse b))
    (htype : (YFrame.parse b).cls / 8 = 0) (hstamp : fieldAt (YFrame.parse b).payload 0 4 ∉ s.ring.stamps) :
    ∃ t, exec (.dataFrameReceived dt p b lost) s = .next t ∧ t.ring.clashAt = some (s.clock + dt) ∧
      t.ring.map = s.ring.map := by
  have hexec := exec_dataFrame_content h dt lost
  rw [State.acceptFrame_own (s := s.arrived dt p (Header.parse b)) hdst hsrc hturns] at hexec
  have hstamps : (s.arrived dt p (Header.parse b)).ring.stamps = s.ring.stamps := by cases p <;> rfl
  obtain ⟨hclash, hmap⟩ := State.ownFrame_clash (s := s.arrived dt p (Header.parse b)) (p := p) hturns htype htag
    (by rw [hstamps]; exact hstamp)
  obtain ⟨hcarried, -, -, -⟩ := ((s.arrived dt p (Header.parse b)).ownFrame p (YFrame.parse b)).freeCells_some p
    (YFrame.parse b).cls (s.ring.free.take (cellsOf (Header.parse b).len (Header.parse b).auth))
  refine ⟨_, hexec, (congrArg (fun u : State => u.ring.clashAt) hcarried :).trans hclash,
    (congrArg (fun u : State => u.ring.map) hcarried :).trans (hmap.trans (s.arrived_map dt p _))⟩

/-- A teach, forget or sweep frame waits for a gap (R214, R257). -/
theorem exec_frame_held (h : s.Accepts p b) (dt lost : Nat) (hdst : (YFrame.parse b).dst = (YFrame.parse b).src)
    (hsrc : (YFrame.parse b).src ≠ s.ringId) (hturns : (YFrame.parse b).turns = 0) (htag : s.passes (YFrame.parse b))
    (htype : (YFrame.parse b).cls / 8 = 3 ∨ (YFrame.parse b).cls / 8 = 4)
    (hwaits : s.clock + dt < s.hearth.scanEnd ∨ s.fleet.held ≠ []) : ∃ t, exec (.dataFrameReceived dt p b lost) s = .next t ∧
      t.mem = s.mem ∧ t.fleet = { s.fleet with held := s.fleet.held ++ [{ port := p, frame := YFrame.parse b }] } := by
  have htraffic : trafficType (YFrame.parse b).cls = 3 ∨ trafficType (YFrame.parse b).cls = 4 := htype
  obtain ⟨t, hexec, hcarried⟩ := exec_frame_processed h dt lost hdst hsrc hturns htag (by omega)
  have hnot : ¬((s.arrived dt p (Header.parse b)).banksFree ∧ (s.arrived dt p (Header.parse b)).fleet.held = []) := by
    rintro ⟨hbanks, hheld⟩
    obtain hw | hw := hwaits
    · exact absurd (of_decide_eq_true hbanks) (not_le.2 hw)
    · exact hw hheld
  have hprocess : (s.arrived dt p (Header.parse b)).processFrame p (YFrame.parse b) lost =
      { s.arrived dt p (Header.parse b) with fleet := { s.fleet with
        held := s.fleet.held ++ [{ port := p, frame := YFrame.parse b }] } } := by
    unfold State.processFrame State.placeFrame
    obtain h3 | h4 := htraffic
    · rw [h3]
      exact if_neg hnot
    · rw [h4]
      exact if_neg hnot
  rw [hprocess] at hcarried
  exact ⟨_, hexec, (congrArg State.mem hcarried :), (congrArg State.fleet hcarried :)⟩

/-- A taught row of another unit that is placed at once (R353 to R355). -/
theorem exec_frame_taught {r : Nat} (h : s.Accepts p b) (dt : Nat) {lost : Nat} (hdst : (YFrame.parse b).dst = (YFrame.parse b).src)
    (hsrc : (YFrame.parse b).src ≠ s.ringId) (hturns : (YFrame.parse b).turns = 0) (htag : s.passes (YFrame.parse b))
    (htype : (YFrame.parse b).cls / 8 = 3) (hscan : s.hearth.scanEnd ≤ s.clock + dt) (hheld : s.fleet.held = [])
    (hteach : s.Teaches (YFrame.parse b) r) (hlost : lost < 2) (hr : r < 16384) (hs : Memory.wf s.mem) :
    let f := YFrame.parse b
    ∃ t, exec (.dataFrameReceived dt p b lost) s = .next t ∧ sparse t.vault.fleetSeq f.src = fieldAt f.payload 4 4 ∧
      t.row r = hvOfBytes (slice f.payload 48 1024) ∧
      t.tag r = placedTag (s.tag r) (Tag.ofNat (fieldAt f.payload 16 32)) f.src (fieldAt f.payload 2 2) (fieldAt f.payload 4 4) ∧
      ∀ g, g < 16384 → g ≠ r → t.tag g = s.tag g ∧ t.row g = s.row g := by
  intro f
  have htraffic : trafficType f.cls = 3 := htype
  obtain ⟨t, hexec, hcarried⟩ := exec_frame_processed h dt lost hdst hsrc hturns htag (by rw [htraffic]; decide)
  have hgap : (s.arrived dt p (Header.parse b)).banksFree ∧ (s.arrived dt p (Header.parse b)).fleet.held = [] :=
    ⟨decide_eq_true hscan, hheld⟩
  have hprocess : (s.arrived dt p (Header.parse b)).processFrame p f lost =
      (s.arrived dt p (Header.parse b)).teachFrame p f lost := by
    unfold State.processFrame State.placeFrame State.applyFrame
    rw [htraffic]
    exact (if_pos hgap).trans (if_pos rfl)
  have hplace : (s.arrived dt p (Header.parse b)).placeRow f.src (fieldAt f.payload 2 2) = some r :=
    (State.placeRow_congr (s := s) (t := s.arrived dt p (Header.parse b)) rfl (fun _ _ => rfl)
      (fun g hg => s.arrived_tagBad dt p _ hg) rfl rfl _ _).trans hteach.row
  have hmay : (s.arrived dt p (Header.parse b)).mayOriginate = s.mayOriginate := by cases p <;> rfl
  have hteach' : (s.arrived dt p (Header.parse b)).Teaches f r :=
    { hteach with may := hmay.trans hteach.may, row := hplace }
  obtain ⟨hdata, htagged, hseq, hothers⟩ := State.teachFrame_placed (p := p) hteach' hlost hr hs
  rw [← hprocess] at hdata htagged hseq hothers
  have hmem : t.settle.mem = ((s.arrived dt p (Header.parse b)).processFrame p f lost).mem := (congrArg State.mem hcarried :)
  have hvault : t.settle.vault = ((s.arrived dt p (Header.parse b)).processFrame p f lost).vault :=
    (congrArg State.vault hcarried :)
  refine ⟨_, hexec, by rw [hvault]; exact hseq, by rw [State.row_of_mem hmem]; exact hdata,
    by rw [State.tag_of_mem hmem]; exact htagged, fun g hg hne => ?_⟩
  rw [State.tag_of_mem hmem, State.row_of_mem hmem]
  exact hothers g hg hne

end content

/-! ### A frame that is refused, or that waits -/

section port
variable {s : State} {p : Port} {b : List Byte}

/-- A frame that is not heard is refused (R315 to R317, R320, R321). -/
theorem exec_frame_unheard (hon : s.ringOn = true) (hm : s.mode = .run) (hup : (s.ring.port p).up = true)
    (hkind : (Header.parse b).kind = 0 ∨ 3 < (Header.parse b).kind) (h : ¬(s.ring.port p).hears b)
    (hcut : (s.ring.port p).cut = none) (dt lost : Nat) :
    exec (.dataFrameReceived dt p b lost) s = .next ((s.elapse dt).setPort p (s.ring.port p).refusing).settle := by
  rw [exec_dataFrameReceived hon hm hup hkind, State.receiveData_unheard (s := s.elapse dt) h,
    State.rejectFrame_of_no_cut (s := s.elapse dt) hcut]
  rfl

/-- A frame out of sequence, or without room in a pause, is refused (R96, R321). -/
theorem exec_frame_refused (hon : s.ringOn = true) (hm : s.mode = .run) (hup : (s.ring.port p).up = true)
    (hkind : (Header.parse b).kind = 0 ∨ 3 < (Header.parse b).kind) (h : (s.ring.port p).hears b)
    (haval : (Header.parse b).aval = false) (hnak : (Header.parse b).nak = false) (hcut : (s.ring.port p).cut = none)
    (hnot : ¬((Header.parse b).hseq = (s.ring.port p).rxSeq ∧
      (s.volt.pauseAt = none ∨ ((s.cross.rx p).map List.length).sum + b.length ≤ 16384))) (dt lost : Nat) :
    exec (.dataFrameReceived dt p b lost) s = .next ((s.elapse dt).setPort p (s.ring.port p).refusing).settle := by
  rw [exec_dataFrameReceived hon hm hup hkind, State.receiveData_heard (s := s.elapse dt) h]
  have hstop : ¬((Header.parse b).hseq = ((s.elapse dt).ring.port p).rxSeq ∧ ((s.elapse dt).volt.pauseAt = none ∨
      (((s.elapse dt).cross.rx p).map List.length).sum + b.length ≤ 16384)) := hnot
  rw [if_neg hstop, State.takeAck_plain haval hnak, State.rejectFrame_of_no_cut (s := s.elapse dt) hcut]
  rfl

/-- In a step-up pause an accepted frame waits behind its port (R96). -/
theorem exec_frame_waits (hon : s.ringOn = true) (hm : s.mode = .run) (hup : (s.ring.port p).up = true)
    (hkind : (Header.parse b).kind = 0 ∨ 3 < (Header.parse b).kind) (h : (s.ring.port p).hears b)
    (haval : (Header.parse b).aval = false) (hnak : (Header.parse b).nak = false)
    (hseq : (Header.parse b).hseq = (s.ring.port p).rxSeq) (hpause : s.volt.pauseAt ≠ none)
    (hroom : ((s.cross.rx p).map List.length).sum + b.length ≤ 16384) (dt lost : Nat) :
    exec (.dataFrameReceived dt p b lost) s = .next (State.settle { (s.elapse dt).setPort p (s.ring.port p).taking with
      cross := s.cross.setRx p (s.cross.rx p ++ [b]) }) := by
  rw [exec_dataFrameReceived hon hm hup hkind, State.receiveData_heard (s := s.elapse dt) h]
  have hgo : (Header.parse b).hseq = ((s.elapse dt).ring.port p).rxSeq ∧ ((s.elapse dt).volt.pauseAt = none ∨
      (((s.elapse dt).cross.rx p).map List.length).sum + b.length ≤ 16384) := ⟨hseq, .inr hroom⟩
  have hpaused : ¬(s.elapse dt).volt.pauseAt = none := hpause
  rw [if_pos hgo]
  dsimp only
  rw [if_neg hpaused, State.takeAck_plain haval hnak, State.acceptHop_eq]
  rfl

/-- What an accepted frame leaves of its port, whatever its header acknowledges and whatever its content is (R321, R322). -/
theorem exec_frame_accepted (hon : s.ringOn = true) (hm : s.mode = .run) (hup : (s.ring.port p).up = true)
    (hkind : (Header.parse b).kind = 0 ∨ 3 < (Header.parse b).kind) (h : (s.ring.port p).hears b)
    (hseq : (Header.parse b).hseq = (s.ring.port p).rxSeq)
    (hroom : s.volt.pauseAt = none ∨ ((s.cross.rx p).map List.length).sum + b.length ≤ 16384) (dt lost : Nat) :
    ∃ t, exec (.dataFrameReceived dt p b lost) s = .next t ∧ (t.ring.port p).rxSeq = ((s.ring.port p).rxSeq + 1) % 4096 ∧
      (t.ring.port p).rxAny = true ∧ (t.ring.port p).nakDone = false ∧ LinkFrame.ack ∈ (t.ring.port p).links := by
  have hexec := exec_dataFrameReceived (dt := dt) hon hm hup hkind lost
  rw [State.receiveData_heard (s := s.elapse dt) h] at hexec
  have hgo : (Header.parse b).hseq = ((s.elapse dt).ring.port p).rxSeq ∧ ((s.elapse dt).volt.pauseAt = none ∨
      (((s.elapse dt).cross.rx p).map List.length).sum + b.length ≤ 16384) := ⟨hseq, hroom⟩
  rw [if_pos hgo] at hexec
  obtain ⟨-, -, -, hrx, -, -⟩ := (s.elapse dt).takeAck_spec p (Header.parse b)
  dsimp only at hexec hrx
  rw [State.acceptHop_eq] at hexec
  generalize (s.elapse dt).takeAck p (Header.parse b) = v at *
  refine ⟨_, hexec, ?_⟩
  have hport : (v.setPort p (v.ring.port p).taking).ring.port p = (v.ring.port p).taking :=
    (v.port_setPort p p _).trans (if_pos rfl)
  have hrx' : (v.ring.port p).taking.rxSeq = ((s.ring.port p).rxSeq + 1) % 4096 := by
    rw [← State.elapse_ring s dt, ← hrx]
    rfl
  rw [State.settle_ring]
  split
  · obtain ⟨⟨hlink, -, -⟩, -, -, -⟩ := (v.setPort p (v.ring.port p).taking).takeContent_sameLink p b lost
    rw [hport] at hlink
    exact ⟨(congrArg LinkPort.rxSeq hlink :).trans hrx', (congrArg LinkPort.rxAny hlink :),
      (congrArg LinkPort.nakDone hlink :), (congrArg LinkPort.links hlink :) ▸ (v.ring.port p).ack_mem_taking⟩
  · have hcross (c : Crossing) : (State.ring { v.setPort p (v.ring.port p).taking with cross := c }).port p =
        (v.ring.port p).taking := hport
    rw [hcross]
    exact ⟨hrx', rfl, rfl, (v.ring.port p).ack_mem_taking⟩

end port

/-! ### A header that cuts through -/

theorem exec_frameHeader_waits {s : State} {p : Port} {b : List Byte} {dt : Nat} (hlen : b.length = 16)
    (h : (s.elapse dt).cutsThrough p b = false) : exec (.frameHeaderReceived dt p b) s = .next (s.elapse dt) :=
  (eventOf_idle _ _ _ _ s (decide_eq_true hlen) h : execFrameHeaderReceived dt p b s = _)

theorem exec_frameHeader_cuts {s : State} {p : Port} {b : List Byte} {dt : Nat} (hlen : b.length = 16)
    (h : (s.elapse dt).cutsThrough p b = true) :
    exec (.frameHeaderReceived dt p b) s = .next ((s.elapse dt).startCut p (Header.parse b)).settle :=
  (eventOf_next _ _ _ _ s (decide_eq_true hlen) h : execFrameHeaderReceived dt p b s = _)

end Sys2Proof.Machine
end

section
/-! Ring frames as they are sent and as they age (16_ring_link.md; R315, R321 to R323, R326 to R331), and the obligation about
ring frames. -/

namespace Sys2Proof.Machine

/-! ### The frame that is sent next -/

theorem mem_of_mem_queueHeads {l : List QFrame} {q : QFrame} (h : q ∈ queueHeads l) : q ∈ l := by
  induction l with
  | nil => exact h
  | cons a l ih =>
    obtain rfl | h := List.mem_cons.1 h
    · exact List.mem_cons_self
    · exact List.mem_cons_of_mem _ (ih (List.mem_filter.1 h).1)

theorem mem_of_nextInTurn {served : Nat} {l : List QFrame} {q : QFrame} (h : nextInTurn served l = some q) : q ∈ l := by
  suffices hfold : ∀ (l : List QFrame) (best : Option QFrame), l.foldl (fun best q => match best with
      | none => some q
      | some b => if roundRobin served q.index < roundRobin served b.index then some q else some b) best = some q →
      best = some q ∨ q ∈ l from (hfold l none h).resolve_left (Option.some_ne_none q).symm
  intro l
  induction l with
  | nil => exact fun best h => .inl h
  | cons a l ih =>
    intro best h
    obtain hbest | hmem := ih _ h
    · cases best with
      | none => exact .inr (Option.some.inj hbest ▸ List.mem_cons_self)
      | some c =>
        dsimp only at hbest
        split at hbest
        · exact .inr (Option.some.inj hbest ▸ List.mem_cons_self)
        · exact .inl hbest
    · exact .inr (List.mem_cons_of_mem _ hmem)

/-- The frame that a port sends next is one of the queues for that port (R329). -/
theorem State.mem_of_nextData {s : State} {p : Port} {q : QFrame} (h : s.nextData p = some q) : q ∈ s.ring.queue ∧ q.out = p := by
  obtain ⟨tier, -, h⟩ := List.exists_of_findSome?_eq_some h
  have h := mem_of_nextInTurn h
  unfold State.eligibleHeads at h
  obtain ⟨hmem, hfits⟩ := List.mem_filter.1 h
  simp only [Bool.and_eq_true, decide_eq_true_eq] at hfits
  exact ⟨mem_of_mem_queueHeads hmem, hfits.1.1⟩

/-- A port at a frame boundary with no link frame to send (R322, R329). -/
structure State.MaySend (s : State) (p : Port) (now : Nat) : Prop where
  on : s.ringOn = true
  run : s.mode = .run
  up : (s.ring.port p).up = true
  proposal : (s.ring.port p).proposal = none
  busy : (s.ring.port p).busyUntil ≤ now
  cut : (s.ring.port (otherPort p)).cut = none
  links : (s.ring.port p).links = []
  nak : (s.ring.port p).nakDue = false
  table : (s.ring.port p).tableDue = false

section send
variable {s : State} {p : Port} {dt : Nat}

theorem State.MaySend.choice_eq (h : s.MaySend p (s.clock + dt)) : (s.elapse dt).choice p = (s.elapse dt).dataChoice p := by
  have hnone : (s.ring.port p).linkChoice = none := by
    unfold LinkPort.linkChoice
    rw [h.links, h.nak, h.table]
    simp
  unfold State.choice
  dsimp only
  rw [State.elapse_ring, hnone]

theorem exec_portTransmit {x : Tx} {bad : Bool} (h : s.MaySend p (s.clock + dt)) (hchoice : (s.elapse dt).dataChoice p = some x) :
    exec (.portTransmit dt p bad) s = .next (State.settle (match x with
      | .link l => (s.elapse dt).sendLink p l
      | .again u => (s.elapse dt).sendAgain p u
      | .data q => match (s.elapse dt).cellsBad q.cells, bad with
        | some a, _ => ((s.elapse dt).dropQueued q).wordEvent 0x01 .rng a
        | none, true => ((s.elapse dt).dropQueued q).wordEvent 0x01 .rng q.cellAddr
        | none, false => (s.elapse dt).sendData p q)) := by
  have hpick := h.choice_eq.trans hchoice
  have hidle : (s.elapse dt).portIdle p = true := by
    rw [State.portIdle, State.elapse_ring, State.elapse_clock, h.cut, decide_eq_true h.busy]
    rfl
  have hexec := (event_next _ _ _ s (by rw [State.elapse_ringRuns, State.ringRuns_of h.on h.run, hidle, hpick]; rfl) :
    execPortTransmit dt p bad s = _)
  rw [hpick] at hexec
  cases x <;> exact hexec

/-- A queued frame is chosen when nothing is to be sent again (R323, R329). -/
theorem State.MaySend.dataChoice_queued {q : QFrame} (h : s.MaySend p (s.clock + dt)) (hresend : (s.ring.port p).resend = [])
    (hpause : s.volt.pauseAt = none) (hfew : (s.ring.port p).unacked.length < 512) (hnext : (s.elapse dt).nextData p = some q) :
    (s.elapse dt).dataChoice p = some (.data q) := by
  have hpaused : (s.elapse dt).paused = false := by simp [State.paused, hpause]
  have hstart : (s.ring.port p).mayStart = true := by simp [LinkPort.mayStart, h.up, h.proposal, hfew]
  unfold State.dataChoice
  dsimp only
  rw [State.elapse_ring, h.up, h.proposal, hresend, hpaused, hstart, hnext]
  rfl

/-- A frame to be sent again goes first (R323). -/
theorem State.MaySend.dataChoice_again {n : Nat} {rest : List Nat} {v : Sent} (h : s.MaySend p (s.clock + dt))
    (hresend : (s.ring.port p).resend = n :: rest)
    (hfind : (s.ring.port p).unacked.find? (fun v => decide (v.seq = n)) = some v) :
    (s.elapse dt).dataChoice p = some (.again v) := by
  unfold State.dataChoice
  dsimp only
  rw [State.elapse_ring, h.up, h.proposal, hresend]
  dsimp only
  rw [hfind]
  rfl

end send

/-! ### What sending leaves of a port -/

/-- The unacknowledged frames once a frame has been sent (R321). -/
def LinkPort.withSent (x : LinkPort) (u : Sent) : List Sent :=
  if x.unacked.any (fun v => decide (v.seq = u.seq)) then x.unacked.map (fun v => if v.seq = u.seq then u else v)
  else x.unacked ++ [u]

theorem State.sendFrame_port (s : State) (p : Port) (u : Sent) : ∃ (timer : Stopwatch) (sentAt : Nat),
    s.sendFrame p u = s.setPort p { s.ring.port p with
      timer := timer, unacked := (s.ring.port p).withSent { u with sentAt := sentAt }, wire := s.dataWire p u
      busyUntil := s.clock + s.lineTime (20 + (s.dataWire p u).length) } := ⟨_, _, rfl⟩

theorem LinkPort.withSent_new {x : LinkPort} {u : Sent} (h : ∀ v ∈ x.unacked, v.seq ≠ u.seq) : x.withSent u = x.unacked ++ [u] := by
  have hnone : x.unacked.any (fun v => decide (v.seq = u.seq)) = false := by simpa using h
  unfold LinkPort.withSent
  rw [hnone]
  rfl

theorem LinkPort.mem_withSent {x : LinkPort} (u : Sent) : u ∈ x.withSent u := by
  unfold LinkPort.withSent
  split
  next h =>
    obtain ⟨v, hv, hseq⟩ := List.any_eq_true.1 h
    exact List.mem_map.2 ⟨v, hv, if_pos (of_decide_eq_true hseq)⟩
  next => simp

/-- The port that a queued frame leaves through has taken its sequence and its credit (R321, R327). -/
def LinkPort.starting (x : LinkPort) (q : QFrame) : LinkPort :=
  { x with
    txSeq := (x.txSeq + 1) % 4096
    sent := x.sent.set q.frame.cls ((x.sent.getD q.frame.cls 0 + q.frame.cellCount) % 65536)
    served := x.served.set (trafficTier (trafficType q.frame.cls)) q.index
    links := x.links.erase .ack }

/-- A queued frame leaves (R321, R327). -/
theorem State.sendData_spec (s : State) (p : Port) (q : QFrame)
    (hnew : ∀ v ∈ (s.ring.port p).unacked, v.seq ≠ (s.ring.port p).txSeq) :
    let x := s.ring.port p
    let wire := s.dataWire p { seq := x.txSeq, frame := q.frame, source := q.source, cells := q.cells }
    let t := s.sendData p q
    ∃ v : Sent, t.ring.queue = s.ring.queue.erase q ∧ (t.ring.port p).txSeq = (x.txSeq + 1) % 4096 ∧
      (t.ring.port p).sent = x.sent.set q.frame.cls ((x.sent.getD q.frame.cls 0 + q.frame.cellCount) % 65536) ∧
      (t.ring.port p).unacked = x.unacked ++ [v] ∧ v.seq = x.txSeq ∧ v.frame = q.frame ∧ v.tries = 0 ∧ v.cells = q.cells ∧
      (t.ring.port p).wire = wire ∧ (t.ring.port p).busyUntil = s.clock + s.lineTime (20 + wire.length) := by
  intro x wire t
  have hsend : t = (State.setPort { s with ring := { s.ring with queue := s.ring.queue.erase q } } p (x.starting q)).sendFrame p
      { seq := x.txSeq, frame := q.frame, source := q.source, cells := q.cells } := rfl
  have hport : (State.setPort { s with ring := { s.ring with queue := s.ring.queue.erase q } } p (x.starting q)).ring.port p =
      x.starting q := (State.port_setPort _ p p _).trans (if_pos rfl)
  have hqueue : (State.setPort { s with ring := { s.ring with queue := s.ring.queue.erase q } } p (x.starting q)).ring.queue =
      s.ring.queue.erase q := by cases p <;> rfl
  have hwire : (State.setPort { s with ring := { s.ring with queue := s.ring.queue.erase q } } p (x.starting q)).dataWire p
      { seq := x.txSeq, frame := q.frame, source := q.source, cells := q.cells } = wire := by
    show State.dataWire _ p _ = s.dataWire p _
    unfold State.dataWire State.dataHeader
    dsimp only
    rw [hport]
    rfl
  have hclock : (State.setPort { s with ring := { s.ring with queue := s.ring.queue.erase q } } p (x.starting q)).clock = s.clock :=
    rfl
  have hline (n : Nat) : (State.setPort { s with ring := { s.ring with queue := s.ring.queue.erase q } } p
      (x.starting q)).lineTime n = s.lineTime n := rfl
  generalize State.setPort { s with ring := { s.ring with queue := s.ring.queue.erase q } } p (x.starting q) = u at *
  obtain ⟨timer, sentAt, heq⟩ := u.sendFrame_port p { seq := x.txSeq, frame := q.frame, source := q.source, cells := q.cells }
  rw [hsend, heq, State.port_setPort, if_pos rfl, hport, hwire, hclock, hline]
  exact ⟨{ seq := x.txSeq, frame := q.frame, source := q.source, cells := q.cells, sentAt := sentAt },
    (by cases p <;> rfl : _ = u.ring.queue).trans hqueue, rfl, rfl, LinkPort.withSent_new hnew, rfl, rfl, rfl, rfl, rfl, rfl⟩

/-- A frame that is sent again leaves its place and counts one retransmission more (R323). -/
theorem State.sendAgain_spec (s : State) (p : Port) (v : Sent) : ∃ w : Sent,
    ((s.sendAgain p v).ring.port p).resend = (s.ring.port p).resend.drop 1 ∧
    w ∈ ((s.sendAgain p v).ring.port p).unacked ∧ w.seq = v.seq ∧ w.tries = v.tries + 1 ∧ w.frame = v.frame ∧
    ((s.sendAgain p v).ring.port p).txSeq = (s.ring.port p).txSeq ∧ (s.sendAgain p v).ring.queue = s.ring.queue := by
  have hport := s.port_setPort p p { s.ring.port p with
    resend := (s.ring.port p).resend.drop 1, links := (s.ring.port p).links.erase .ack }
  rw [if_pos rfl] at hport
  have hqueue : (s.setPort p { s.ring.port p with
    resend := (s.ring.port p).resend.drop 1, links := (s.ring.port p).links.erase .ack }).ring.queue = s.ring.queue := by
    cases p <;> rfl
  have hagain : s.sendAgain p v = (s.setPort p { s.ring.port p with
    resend := (s.ring.port p).resend.drop 1, links := (s.ring.port p).links.erase .ack }).sendFrame p
      { v with tries := v.tries + 1 } := rfl
  generalize s.setPort p { s.ring.port p with
    resend := (s.ring.port p).resend.drop 1, links := (s.ring.port p).links.erase .ack } = u at *
  obtain ⟨timer, sentAt, heq⟩ := u.sendFrame_port p { v with tries := v.tries + 1 }
  rw [hagain, heq, State.port_setPort, if_pos rfl, hport]
  exact ⟨_, rfl, LinkPort.mem_withSent _, rfl, rfl, rfl, rfl, (by cases p <;> rfl : _ = u.ring.queue).trans hqueue⟩

/-! ### A queued frame that is discarded -/

/-- A queued frame that is discarded while no own frame waits (R327, R330). -/
theorem State.dropQueued_quiet {s : State} (q : QFrame) (hwait : s.ring.waiting = []) :
    (s.dropQueued q).carried s ∧ (s.dropQueued q).ring.queue = s.ring.queue.erase q ∧
    (s.dropQueued q).ring.discards = s.ring.discards + 1 := by
  unfold State.dropQueued
  cases q.source with
  | none =>
    unfold State.freeCells State.offerWaiting State.countDiscard State.carried
    dsimp only
    rw [hwait]
    exact ⟨rfl, rfl, rfl⟩
  | some p =>
    obtain ⟨hcarried, hqueue, -, hdiscards⟩ := (State.countDiscard { s with ring := { s.ring with
      queue := s.ring.queue.erase q } }).freeCells_some p q.frame.cls q.cells
    exact ⟨hcarried, hqueue, hdiscards⟩

/-- A memory event that no collector is to get leaves the ring as it is (R248, R359). -/
theorem State.memoryEvent_ring {s : State} (hrelay : s.relayTarget = none) (hdump : s.dumpHolds = false) (ev : Nat) (m : Master)
    (addr row seg erased source : Nat) : (s.memoryEvent ev m addr row seg erased source).ring = s.ring := by
  unfold State.memoryEvent
  dsimp only
  rw [hdump, if_neg Bool.false_ne_true, State.report_of_local hrelay rfl]
  rfl

/-- A queued frame that cannot be read is discarded, with a memory event (R269, R330). -/
theorem State.dropQueued_recorded {s : State} (q : QFrame) (hwait : s.ring.waiting = []) (hrelay : s.relayTarget = none)
    (hm : s.mode = .run) (a : Nat) (p : Port) :
    let t := ((s.dropQueued q).wordEvent 0x01 .rng a).settle
    t.ring.discards = s.ring.discards + 1 ∧ t.ring.queue = s.ring.queue.erase q ∧
    (t.ring.port p).txSeq = (s.ring.port p).txSeq ∧ s.recordedBoth t 0x0A (memoryPayload 1 .rng a 0xFFFF 0xFF 0 0) := by
  intro t
  obtain ⟨hcarried, hqueue, hdiscards⟩ := State.dropQueued_quiet q hwait
  obtain ⟨⟨hlink, -, -⟩, -, -, -⟩ := s.dropQueued_sameLink q p
  have hrelay' : (s.dropQueued q).relayTarget = none := by
    rw [← hrelay, hcarried]
    rfl
  have hmode : (s.dropQueued q).mode = .run := (congrArg State.mode hcarried :).trans hm
  have hring := State.memoryEvent_ring hrelay' (State.dumpHolds_run _ hmode) 0x01 .rng a 0xFFFF 0xFF 0 0
  have hboth := (s.dropQueued q).memoryEvent_recordedBoth 0x01 .rng a 0xFFFF 0xFF 0 0 (State.dumpHolds_run _ hmode)
  have htring : t.ring = (s.dropQueued q).ring := hring
  refine ⟨?_, ?_, ?_, State.recordedBoth_of hboth (congrArg State.flue hcarried :) (congrArg State.ash hcarried :)⟩
  · rw [htring, hdiscards]
  · rw [htring, hqueue]
  · rw [htring]
    exact (congrArg LinkPort.txSeq hlink :)

/-! ### Frames that age -/

/-- Own frames have been offered again (R326 to R328, R330): the queue has gained frames only, which are fresh, and so are the
own frames that wait. -/
structure State.Offered (t s : State) (fresh : Nat → Prop) : Prop where
  fields : t = { s with
    ecc := t.ecc
    freeCount := t.freeCount
    ring := { s.ring with
      portA := t.ring.portA, portB := t.ring.portB, queue := t.ring.queue, waiting := t.ring.waiting, free := t.ring.free
      discards := t.ring.discards } }
  queue : ∃ added, t.ring.queue = s.ring.queue ++ added ∧ ∀ q ∈ added, fresh q.at_
  waiting : (∀ w ∈ s.ring.waiting, fresh w.1) → ∀ w ∈ t.ring.waiting, fresh w.1
  discards : s.ring.discards ≤ t.ring.discards

theorem State.Offered.trans {s t u : State} {fresh : Nat → Prop} (h : u.Offered t fresh) (k : t.Offered s fresh) :
    u.Offered s fresh := by
  obtain ⟨hfields, ⟨l, hqueue, hl⟩, hwaiting, hdiscards⟩ := h
  obtain ⟨kfields, ⟨m, kqueue, hm⟩, kwaiting, kdiscards⟩ := k
  refine ⟨?_, ⟨m ++ l, by rw [hqueue, kqueue, List.append_assoc], fun q hq => ?_⟩, fun hw => hwaiting (kwaiting hw),
    kdiscards.trans hdiscards⟩
  · exact hfields.trans (congrArg (fun v : State => { v with
      ecc := u.ecc
      freeCount := u.freeCount
      ring := { v.ring with
        portA := u.ring.portA, portB := u.ring.portB, queue := u.ring.queue, waiting := u.ring.waiting, free := u.ring.free
        discards := u.ring.discards } }) kfields :)
  · exact (List.mem_append.1 hq).elim (hm q) (hl q)

theorem State.offerLocal_offered (s : State) {since : Nat} (f : YFrame) {fresh : Nat → Prop} (hfresh : fresh since) :
    (s.offerLocal since f).Offered s fresh := by
  unfold State.offerLocal
  split
  · exact ⟨rfl, ⟨[], by simp [State.countDiscard], by simp⟩, id, Nat.le_succ _⟩
  · split
    · refine ⟨rfl, ⟨[_], rfl, fun q hq => ?_⟩, id, le_rfl⟩
      rw [List.mem_singleton.1 hq]
      exact hfresh
    · split
      · exact ⟨rfl, ⟨[], by simp [State.countDiscard], by simp⟩, id, Nat.le_succ _⟩
      · refine ⟨rfl, ⟨[], by simp, by simp⟩, fun hw w hmem => ?_, le_rfl⟩
        obtain hmem | hmem := List.mem_append.1 hmem
        · exact hw w hmem
        · rw [List.mem_singleton.1 hmem]
          exact hfresh

theorem State.foldl_offerLocal_offered {fresh : Nat → Prop} {l : List (Nat × YFrame)} (hl : ∀ w ∈ l, fresh w.1) (s : State) :
    (l.foldl (fun (s : State) w => s.offerLocal w.1 w.2) s).Offered s fresh := by
  induction l generalizing s with
  | nil => exact ⟨rfl, ⟨[], by simp, by simp⟩, id, le_rfl⟩
  | cons w l ih =>
    exact (ih (fun v hv => hl v (List.mem_cons_of_mem _ hv)) _).trans
      (s.offerLocal_offered w.2 (hl w List.mem_cons_self))

/-- Cells that become free bring in fresh frames only, when those that wait are fresh (R326 to R328). -/
theorem State.freeCells_offered {s : State} {fresh : Nat → Prop} (hfresh : ∀ w ∈ s.ring.waiting, fresh w.1) (source : Option Port)
    (cls : Nat) (cells : List Nat) : (s.freeCells source cls cells).Offered s fresh := by
  have hsome : ∀ p, (s.freeCells (some p) cls cells).Offered s fresh := fun p => by
    obtain ⟨hcarried, hqueue, -, hdiscards⟩ := s.freeCells_some p cls cells
    refine ⟨?_, ⟨[], by rw [hqueue, List.append_nil], by simp⟩, fun hw => ?_, hdiscards.ge⟩
    · unfold State.carried at hcarried
      generalize s.freeCells (some p) cls cells = t at *
      rw [hcarried]
    · rw [show (s.freeCells (some p) cls cells).ring.waiting = s.ring.waiting from
        (congrArg (fun u : State => u.ring.waiting) hcarried :)]
      exact hw
  cases source with
  | some p => exact hsome p
  | none =>
    have hempty : State.Offered { s with ring := { s.ring with free := cells.foldl insertUp s.ring.free, waiting := [] } } s
        fresh := ⟨rfl, ⟨[], by simp, by simp⟩, fun _ => by simp, le_rfl⟩
    exact (State.foldl_offerLocal_offered hfresh _).trans hempty

theorem filter_erase_of_pos {α : Type} [DecidableEq α] {f : α → Bool} {a : α} (h : f a = true) (l : List α) :
    (l.erase a).filter f = (l.filter f).erase a := by
  induction l with
  | nil => rfl
  | cons b l ih =>
    by_cases hb : b = a
    · subst hb
      rw [List.erase_cons_head, List.filter_cons_of_pos h, List.erase_cons_head]
    · rw [List.erase_cons_tail (by simpa using hb)]
      by_cases hf : f b = true
      · rw [List.filter_cons_of_pos hf, List.filter_cons_of_pos hf, List.erase_cons_tail (by simpa using hb), ih]
      · rw [List.filter_cons_of_neg hf, List.filter_cons_of_neg hf, ih]

/-- A frame that was queued at this clock reading has waited less than 50 ms (R331). -/
def freshAt (now since : Nat) : Prop := now < since + 1228800

/-- A frame in the queues has waited 50 ms (R331). -/
def QFrame.aged (now : Nat) (q : QFrame) : Bool := decide (q.at_ + 1228800 ≤ now)

theorem QFrame.aged_iff {now : Nat} {q : QFrame} : q.aged now = true ↔ ¬freshAt now q.at_ := by
  unfold QFrame.aged freshAt
  rw [decide_eq_true_eq, not_lt]

/-- What the discards of aged frames leave (R331). -/
structure State.Aged (t s : State) (now : Nat) : Prop where
  gone : t.ring.queue.filter (QFrame.aged now) = []
  kept : ∀ v ∈ s.ring.queue, freshAt now v.at_ → v ∈ t.ring.queue
  mem : t.mem = s.mem
  learn : t.learn = s.learn
  flue : t.flue = s.flue

theorem State.dropQueued_offered {s : State} {now : Nat} (q : QFrame) (hwait : ∀ w ∈ s.ring.waiting, freshAt now w.1) :
    (s.dropQueued q).Offered (State.countDiscard { s with ring := { s.ring with queue := s.ring.queue.erase q } })
      (freshAt now) :=
  State.freeCells_offered (s := State.countDiscard { s with ring := { s.ring with queue := s.ring.queue.erase q } }) hwait _ _ _

theorem State.foldl_dropQueued_aged {now : Nat} (l : List QFrame) (s : State) (hl : s.ring.queue.filter (QFrame.aged now) = l)
    (hwait : ∀ w ∈ s.ring.waiting, freshAt now w.1) :
    (l.foldl (fun (s : State) q => s.dropQueued q) s).Aged s now ∧
    s.ring.discards + l.length ≤ (l.foldl (fun (s : State) q => s.dropQueued q) s).ring.discards := by
  induction l generalizing s with
  | nil => exact ⟨⟨hl, fun _ hv _ => hv, rfl, rfl, rfl⟩, le_rfl⟩
  | cons q l ih =>
    have hq : q.aged now = true := (List.mem_filter.1 (hl ▸ List.mem_cons_self : q ∈ s.ring.queue.filter (QFrame.aged now))).2
    obtain ⟨hfields, ⟨added, hqueue, hadded⟩, hwaiting, hdiscards⟩ := State.dropQueued_offered q hwait
    have hrest : (s.dropQueued q).ring.queue.filter (QFrame.aged now) = l := by
      have hnone : added.filter (QFrame.aged now) = [] :=
        List.filter_eq_nil_iff.2 fun v hv => fun h => QFrame.aged_iff.1 h (hadded v hv)
      rw [hqueue, List.filter_append, hnone, List.append_nil]
      exact (filter_erase_of_pos hq _).trans (by rw [hl, List.erase_cons_head])
    obtain ⟨⟨hgone, hkept, hmem, hlearn, hflue⟩, hcount⟩ := ih (s.dropQueued q) hrest (hwaiting hwait)
    rw [List.foldl_cons]
    refine ⟨⟨hgone, fun v hv hfresh => hkept v ?_ hfresh, hmem.trans (congrArg State.mem hfields :),
      hlearn.trans (congrArg State.learn hfields :), hflue.trans (congrArg State.flue hfields :)⟩, ?_⟩
    · rw [hqueue]
      refine List.mem_append_left _ ((List.mem_erase_of_ne ?_).2 hv)
      rintro rfl
      exact QFrame.aged_iff.1 hq hfresh
    · have hstep : s.ring.discards + 1 ≤ (s.dropQueued q).ring.discards := hdiscards
      rw [List.length_cons]
      omega

/-- Frames that have waited 50 ms are discarded and counted (R331). -/
theorem exec_queueAgeDiscard {s : State} {dt : Nat} {q : QFrame} (hon : s.ringOn = true) (hm : s.mode = .run)
    (hpause : s.volt.pauseAt = none) (hq : q ∈ s.ring.queue) (hold : q.at_ + 1228800 ≤ s.clock + dt) :
    ∃ t, exec (.queueAgeDiscard dt) s = .next t ∧ t.Aged s (s.clock + dt) ∧ s.ring.discards < t.ring.discards := by
  have hcore : (s.elapse dt).coreRuns = true := State.coreRuns_of hm hpause
  have hany : s.ring.queue.any (fun q => (s.elapse dt).overAge q.at_) = true :=
    List.any_eq_true.2 ⟨q, hq, decide_eq_true hold⟩
  have hon' : (s.elapse dt).ringOn = true := hon
  have hexec := (event_next _ _ _ s (by rw [hon', hcore, State.elapse_ring, hany]; rfl) : execQueueAgeDiscard dt s = _)
  obtain ⟨⟨hgone, hkept, hmem, hlearn, hflue⟩, hcount⟩ := State.foldl_dropQueued_aged (now := s.clock + dt) _
    { s.elapse dt with ring := { s.ring with
      waiting := s.ring.waiting.filter (fun w => !(s.elapse dt).overAge w.1)
      discards := s.ring.discards + (s.ring.waiting.filter (fun w => (s.elapse dt).overAge w.1)).length } } rfl
    (fun w hw => by
      have hfresh := (List.mem_filter.1 hw).2
      rw [Bool.not_eq_true', State.overAge, decide_eq_false_iff_not, not_le] at hfresh
      exact hfresh)
  have hsome : 0 < (s.ring.queue.filter (QFrame.aged (s.clock + dt))).length :=
    List.length_pos_of_mem (List.mem_filter.2 ⟨hq, decide_eq_true hold⟩)
  refine ⟨_, hexec, ⟨hgone, hkept, hmem, hlearn, hflue⟩, ?_⟩
  exact ((Nat.le_add_right _ _).trans_lt (Nat.lt_add_of_pos_right hsome)).trans_le hcount

/-! ### The obligation -/

theorem State.Aged.fresh {t s : State} {now : Nat} (h : t.Aged s now) : ∀ v ∈ t.ring.queue, now < v.at_ + 1228800 := fun v hv =>
  not_le.1 fun hold => List.filter_eq_nil_iff.1 h.gone v hv (decide_eq_true hold)

/-- Settles O58: the headers that cut through, the frames that a port receives, what it sends, and the queues that age. -/
theorem ringFrames : Obligations.RingFrames := by
  unfold Obligations.RingFrames
  intro s dt p hon hm now ts x o u
  refine ⟨fun b hlen => ⟨fun h => ⟨_, exec_frameHeader_waits hlen h, rfl⟩, fun h => ?cuts⟩,
    fun b lost hup hkind => ?received, fun hup hproposal hbusy hcut hlinks hnak htable => ?sent,
    fun q hq hpause hold => ?aged⟩
  case cuts =>
    intro hd
    obtain ⟨hpaused, hseq, houp, hbusy⟩ := State.cutsThrough_facts h
    obtain ⟨c, heq, hcseq, hlive, hdst, hsrc, hcls, hhops, hpassed⟩ := (s.elapse dt).startCut_eq p hd
    have hexec := exec_frameHeader_cuts hlen h
    rw [heq] at hexec
    refine ⟨_, c, hexec, hcseq, hlive, hdst, hsrc, hcls, hhops, hpassed, ?_, hseq, houp, hbusy, ?_⟩
    · simpa [State.paused] using hpaused
    · exact State.settle_agrees _
  case received =>
    intro hd heard plain refused taken room
    have htaken : taken = x.taking := rfl
    refine ⟨fun hnot hcut => ⟨_, exec_frame_unheard hon hm hup hkind hnot hcut dt lost, State.settle_agrees _⟩,
      fun h hplain hne => ?order, fun h hplain hseq hpause hfull => ?full, fun h hplain hseq hpause hroom => ?waits,
      fun h hseq hroom => exec_frame_accepted hon hm hup hkind h hseq hroom dt lost,
      fun h hseq hplain hpause hfcs hver hk hcls => ?content⟩
    case order =>
      obtain ⟨haval, hnakh, hcut⟩ := hplain
      exact ⟨_, exec_frame_refused hon hm hup hkind h haval hnakh hcut (fun hand => hne hand.1) dt lost, State.settle_agrees _⟩
    case full =>
      obtain ⟨haval, hnakh, hcut⟩ := hplain
      exact ⟨_, exec_frame_refused hon hm hup hkind h haval hnakh hcut (fun hand => hand.2.elim hpause hfull) dt lost,
        State.settle_agrees _⟩
    case waits =>
      obtain ⟨haval, hnakh, hcut⟩ := hplain
      exact ⟨_, exec_frame_waits hon hm hup hkind h haval hnakh hseq hpause hroom dt lost, State.settle_agrees _⟩
    case content =>
      intro f k pass
      obtain ⟨haval, hnakh, hcut⟩ := hplain
      have hacc : s.Accepts p b := ⟨hon, hm, hup, h, hseq, haval, hnakh, hcut, hpause, hfcs, hver, hk, hcls⟩
      refine ⟨fun hfull hdst hhops houp => ?unicast,
        fun hdst hsrc htag hhops houp => exec_frame_unverified hacc dt lost hdst hsrc htag hhops houp,
        fun hdst hsrc htype hcollector htag hgood => exec_frame_relayed hacc dt lost hdst hsrc htype hcollector htag hgood,
        fun hdst hsrc hturns htype htag => exec_frame_census hacc dt lost hdst hsrc hturns htag htype,
        fun hdst hsrc hturns htype htag hstamp => exec_frame_clash hacc dt lost hdst hsrc hturns htag htype hstamp,
        fun hdst hsrc hturns htype htag hwaits => exec_frame_held hacc dt lost hdst hsrc hturns htag htype hwaits,
        fun r hdst hsrc hturns htype htag hlength hscan hheld hk1 hslot hclash hseed hmclass hnewer hprofile hlost hrow hr hwf =>
          ?taught⟩
      case unicast =>
        intro q ring
        refine ⟨_, exec_frame_unicast hacc dt lost hfull hdst hhops houp, ?_, fun w hw => ?_⟩
        · cases p <;> exact State.settle_agrees _
        · have hecc : (s.arrived dt p hd).ecc = s.ecc.filter (fun e => !q.cells.any (fun c => inCell c e.1)) := by
            cases p <;> rfl
          have hnone : (!q.cells.any (fun c => inCell c w)) = true := by
            rw [Bool.not_eq_true', List.any_eq_false]
            exact fun c hc => ne_true_of_eq_false (hw c hc)
          refine (congrArg (fun l => errorsAt l w) hecc).trans ?_
          rw [errorsAt_filter s.ecc (fun a => !q.cells.any (fun c => inCell c a)), if_pos hnone]
      case taught =>
        have hmay : s.mayOriginate = true := by simp [State.mayOriginate, hon, hm, hclash]
        have hteach : s.Teaches f r := ⟨hlength, hk1, hslot, hmay, hseed, hmclass, hnewer, hprofile, hrow⟩
        exact exec_frame_taught hacc dt hdst hsrc hturns htag htype hscan hheld hteach hlost (by omega) hwf
  case sent =>
    have hmay : s.MaySend p (s.clock + dt) := ⟨hon, hm, hup, hproposal, hbusy, hcut, hlinks, hnak, htable⟩
    refine ⟨fun q hresend hpause hfew hnew hnext => ?data, fun n rest v bad hresend hfind => ?again⟩
    case again =>
      have hexec := exec_portTransmit (bad := bad) hmay (hmay.dataChoice_again hresend hfind)
      obtain ⟨w, hres, hmem, hseq, htries, hframe, htx, hqueue⟩ := (s.elapse dt).sendAgain_spec p v
      have hn : v.seq = n := of_decide_eq_true (List.find?_some hfind :)
      refine ⟨_, w, hexec, hres.trans ?_, hmem, hseq.trans hn, htries, hframe, htx, hqueue⟩
      exact congrArg (List.drop 1) hresend
    case data =>
      intro cls wire
      have hchoice := hmay.dataChoice_queued hresend hpause hfew hnext
      obtain ⟨hq, hout⟩ := State.mem_of_nextData hnext
      refine ⟨fun hgood => ?good, fun bad hbad hwait hrelay => ?bad⟩
      case good =>
        have hexec := exec_portTransmit (bad := false) hmay hchoice
        dsimp only at hexec
        rw [show (s.elapse dt).cellsBad q.cells = none from hgood] at hexec
        obtain ⟨v, hqueue, htx, hsent, hunacked, hseq, hframe, htries, hcells, hwire, hbusyUntil⟩ :=
          (s.elapse dt).sendData_spec p q hnew
        exact ⟨_, v, hexec, hq, hout, hqueue, htx, hsent, hunacked, hseq, hframe, htries, hcells, hwire, hbusyUntil⟩
      case bad =>
        have hexec := exec_portTransmit (bad := bad) hmay hchoice
        dsimp only at hexec
        have hrec (a : Nat) := State.dropQueued_recorded (s := s.elapse dt) q hwait hrelay hm a p
        cases ha : s.cellsBad q.cells with
        | some a =>
          rw [show (s.elapse dt).cellsBad q.cells = some a from ha] at hexec
          obtain ⟨hdiscards, hqueue, htx, hboth⟩ := hrec a
          exact ⟨_, hexec, hdiscards, hqueue, htx, hboth⟩
        | none =>
          obtain rfl : bad = true := hbad.resolve_right fun h => h ha
          rw [show (s.elapse dt).cellsBad q.cells = none from ha] at hexec
          obtain ⟨hdiscards, hqueue, htx, hboth⟩ := hrec q.cellAddr
          exact ⟨_, hexec, hdiscards, hqueue, htx, hboth⟩
  case aged =>
    obtain ⟨t, hexec, haged, hcount⟩ := exec_queueAgeDiscard hon hm hpause hq hold
    exact ⟨t, hexec, haged.fresh, haged.kept, hcount, haged.mem, haged.learn, haged.flue⟩

end Sys2Proof.Machine
end

section
/-! BIST (13_memories_and_smoulder.md; R62, R64, R270 to R273): the spares that a faulty column takes, the banks that are
retired, and the entry to FAULT. -/

namespace Sys2Proof.Machine

/-! ### Columns and spares -/

/-- No spare column repairs the fault (R270, R271). -/
def Repairs.unrepaired (r : Repairs) (f : ArrayFault) : Bool := match f.column with
  | none => true
  | some c => !(r.fused ++ r.added).contains (f.sub, c)

/-- The column of the fault takes the next spare of its sub-array (R271). -/
def Repairs.take (r : Repairs) (f : ArrayFault) (c : Nat) : Repairs := { r with added := r.added ++ [(f.sub, c)] }

/-- `q` is `r` with spares more: the fused ones stay, columns repaired stay so, and a sub-array whose spares are gone takes
no column more (R270, R271). -/
def Repairs.extends (q r : Repairs) : Prop :=
  q.fused = r.fused ∧ (∀ x, x ∈ r.fused ++ r.added → x ∈ q.fused ++ q.added) ∧
  (∀ x, 4 ≤ r.spent x.1 → x ∈ q.fused ++ q.added → x ∈ r.fused ++ r.added) ∧ ∀ a, r.spent a ≤ q.spent a

theorem Repairs.extends_refl (r : Repairs) : r.extends r := ⟨rfl, fun _ h => h, fun _ _ h => h, fun _ => le_rfl⟩

theorem Repairs.extends_trans {p q r : Repairs} (h : p.extends q) (k : q.extends r) : p.extends r := by
  obtain ⟨hfused, hmem, hfull, hspent⟩ := h
  obtain ⟨kfused, kmem, kfull, kspent⟩ := k
  exact ⟨hfused.trans kfused, fun x hx => hmem x (kmem x hx),
    fun x hx hp => kfull x hx (hfull x (hx.trans (kspent x.1)) hp), fun a => (kspent a).trans (hspent a)⟩

theorem Repairs.unrepaired_iff (r : Repairs) (f : ArrayFault) :
    r.unrepaired f = true ↔ ∀ c, f.column = some c → (f.sub, c) ∉ r.fused ++ r.added := by
  unfold Repairs.unrepaired
  split
  next h => simp [h]
  next c h => simp [h]

theorem Repairs.spent_take (r : Repairs) (f : ArrayFault) (c : Nat) (a : SubArray) :
    (r.take f c).spent a = r.spent a + if f.sub = a then 1 else 0 := by
  unfold Repairs.spent Repairs.take
  rw [← List.append_assoc, List.countP_append]
  by_cases h : f.sub = a <;> simp [h]

theorem Repairs.take_extends {r : Repairs} {f : ArrayFault} (c : Nat) (h : r.spent f.sub < 4) : (r.take f c).extends r := by
  refine ⟨rfl, fun x hx => ?_, fun x hx hin => ?_, fun a => ?_⟩
  · rw [Repairs.take, ← List.append_assoc]
    exact List.mem_append_left _ hx
  · rw [Repairs.take, ← List.append_assoc, List.mem_append, List.mem_singleton] at hin
    rcases hin with hin | rfl
    · exact hin
    · exact absurd hx (not_le.2 h)
  · rw [Repairs.spent_take]
    exact Nat.le_add_right _ _

/-- What a fault comes to: it stays, it is repaired already, or it takes a spare (R270, R271). -/
theorem takeFault_cases (x : Repairs × List ArrayFault) (f : ArrayFault) :
    (takeFault x f = (x.1, x.2 ++ [f]) ∧ x.1.unrepaired f = true ∧ (f.column ≠ none → 4 ≤ x.1.spent f.sub)) ∨
    (takeFault x f = x ∧ x.1.unrepaired f = false) ∨
    (∃ c, f.column = some c ∧ x.1.spent f.sub < 4 ∧ takeFault x f = (x.1.take f c, x.2)) := by
  unfold takeFault Repairs.unrepaired
  cases hc : f.column with
  | none => exact .inl ⟨rfl, rfl, fun h => absurd rfl h⟩
  | some c =>
    dsimp only
    split
    next h => exact .inr (.inl ⟨rfl, by rw [h]; rfl⟩)
    next h =>
      split
      next hs => exact .inr (.inr ⟨c, rfl, hs, rfl⟩)
      next hs => exact .inl ⟨rfl, by rw [Bool.eq_false_iff.2 h]; rfl, fun _ => not_lt.1 hs⟩

/-- A fault that a repair has mended stays mended, and one that finds no spare finds none later (R271). -/
theorem Repairs.extends_unrepaired {q r : Repairs} (h : q.extends r) {f : ArrayFault} :
    (r.unrepaired f = false → q.unrepaired f = false) ∧
    (r.unrepaired f = true → (f.column ≠ none → 4 ≤ r.spent f.sub) → q.unrepaired f = true) := by
  obtain ⟨-, hmem, hfull, -⟩ := h
  refine ⟨fun hr => ?_, fun hr hs => (q.unrepaired_iff f).2 fun c hc hin => ?_⟩
  · rw [← Bool.not_eq_true, Repairs.unrepaired_iff] at hr ⊢
    exact fun hq => hr fun c hc hin => hq c hc (hmem _ hin)
  · exact (r.unrepaired_iff f).1 hr c hc (hfull _ (hs (by rw [hc]; exact Option.some_ne_none c)) hin)

theorem foldl_takeFault_extends (l : List ArrayFault) (x : Repairs × List ArrayFault) : (l.foldl takeFault x).1.extends x.1 := by
  induction l generalizing x with
  | nil => exact Repairs.extends_refl _
  | cons f l ih =>
    refine Repairs.extends_trans (ih _) ?_
    obtain ⟨h, -⟩ | ⟨h, -⟩ | ⟨c, -, hs, h⟩ := takeFault_cases x f <;> rw [h]
    · exact Repairs.extends_refl _
    · exact Repairs.extends_refl _
    · exact Repairs.take_extends c hs

/-- The faults that stay are those that the repairs in the end do not mend, in the order of the test (R271). -/
theorem foldl_takeFault_left (l : List ArrayFault) (x : Repairs × List ArrayFault) :
    (l.foldl takeFault x).2 = x.2 ++ l.filter (l.foldl takeFault x).1.unrepaired := by
  induction l generalizing x with
  | nil => exact (List.append_nil _).symm
  | cons f l ih =>
    rw [List.foldl_cons, ih]
    obtain ⟨hfalse, htrue⟩ := Repairs.extends_unrepaired (foldl_takeFault_extends l (takeFault x f)) (f := f)
    obtain ⟨h, hu, hs⟩ | ⟨h, hu⟩ | ⟨c, hc, -, h⟩ := takeFault_cases x f
    · rw [List.filter_cons_of_pos (htrue (by rw [h]; exact hu) (by rw [h]; exact hs)), h, List.append_assoc]
      rfl
    · rw [List.filter_cons_of_neg (ne_true_of_eq_false (hfalse (by rw [h]; exact hu))), h]
    · have hin : (f.sub, c) ∈ (takeFault x f).1.fused ++ (takeFault x f).1.added := by
        rw [h]
        exact List.mem_append_right _ (List.mem_append_right _ (List.mem_singleton.2 rfl))
      have hu : (takeFault x f).1.unrepaired f = false := by
        rw [← Bool.not_eq_true, Repairs.unrepaired_iff]
        exact fun hno => hno c hc hin
      rw [List.filter_cons_of_neg (ne_true_of_eq_false (hfalse hu)), h]

/-- The spares that BIST adds go to faulty columns, no more than four of a sub-array unless more are fused (R270, R271). -/
theorem foldl_takeFault_added (l : List ArrayFault) (x : Repairs × List ArrayFault) :
    (∀ y ∈ (l.foldl takeFault x).1.added, y ∈ x.1.added ∨ ∃ f ∈ l, f.sub = y.1 ∧ f.column = some y.2) ∧
    (∀ a, (l.foldl takeFault x).1.spent a ≤ max 4 (x.1.spent a)) ∧
    ∀ f ∈ l, (l.foldl takeFault x).1.unrepaired f = true → f.column ≠ none → 4 ≤ (l.foldl takeFault x).1.spent f.sub := by
  induction l generalizing x with
  | nil => exact ⟨fun y hy => .inl hy, fun a => le_max_right _ _, nofun⟩
  | cons f l ih =>
    obtain ⟨hadded, hmax, hstays⟩ := ih (takeFault x f)
    have hext := foldl_takeFault_extends l (takeFault x f)
    obtain ⟨-, -, -, hmono⟩ := id hext
    obtain ⟨hfalse, -⟩ := Repairs.extends_unrepaired hext (f := f)
    have hlater : ∀ y : SubArray × Nat, (∃ g ∈ l, g.sub = y.1 ∧ g.column = some y.2) → ∃ g ∈ f :: l, g.sub = y.1 ∧ g.column = some y.2 :=
      fun y ⟨g, hg, hy⟩ => ⟨g, List.mem_cons_of_mem _ hg, hy⟩
    obtain ⟨h, -, hs⟩ | ⟨h, hu⟩ | ⟨c, hc, hs, h⟩ := takeFault_cases x f
    · rw [List.foldl_cons]
      refine ⟨fun y hy => (hadded y hy).imp (fun hy => by rwa [h] at hy) (hlater y), fun a => by simpa only [h] using hmax a,
        List.forall_mem_cons.2 ⟨fun _ hc => ?_, hstays⟩⟩
      exact (hs hc).trans (by simpa only [h] using hmono f.sub)
    · rw [List.foldl_cons]
      refine ⟨fun y hy => (hadded y hy).imp (fun hy => by rwa [h] at hy) (hlater y), fun a => by simpa only [h] using hmax a,
        List.forall_mem_cons.2 ⟨fun hno => ?_, hstays⟩⟩
      rw [hfalse (by rw [h]; exact hu)] at hno
      cases hno
    · rw [List.foldl_cons]
      refine ⟨fun y hy => ?_, fun a => (hmax a).trans ?_, List.forall_mem_cons.2 ⟨fun hno => ?_, hstays⟩⟩
      · rcases hadded y hy with hy | hy
        · rw [h, Repairs.take, List.mem_append, List.mem_singleton] at hy
          rcases hy with hy | rfl
          · exact .inl hy
          · exact .inr ⟨f, List.mem_cons_self, rfl, hc⟩
        · exact .inr (hlater y hy)
      · rw [h, Repairs.spent_take]
        split
        next ha => subst ha; omega
        · exact le_rfl
      · rw [hfalse ?_] at hno
        · cases hno
        · rw [← Bool.not_eq_true, Repairs.unrepaired_iff]
          refine fun hno => hno c hc ?_
          rw [h]
          exact List.mem_append_right _ (List.mem_append_right _ (List.mem_singleton.2 rfl))

/-! ### Banks -/

theorem insertUp_sorted {l : List Nat} (k : Nat) (h : l.Pairwise (· < ·)) : (insertUp l k).Pairwise (· < ·) := by
  unfold insertUp
  refine List.pairwise_append.2 ⟨h.filter _, List.pairwise_cons.2 ⟨fun x hx => ?_, h.filter _⟩, fun x hx y hy => ?_⟩
  · exact of_decide_eq_true (List.mem_filter.1 hx).2
  · have hxk := of_decide_eq_true (List.mem_filter.1 hx).2
    rcases List.mem_cons.1 hy with rfl | hy
    · exact hxk
    · exact hxk.trans (of_decide_eq_true (List.mem_filter.1 hy).2)

theorem foldl_insertUp_sorted (cells : List Nat) {l : List Nat} (h : l.Pairwise (· < ·)) :
    (cells.foldl insertUp l).Pairwise (· < ·) := by
  induction cells generalizing l with
  | nil => exact h
  | cons c cells ih => exact ih (insertUp_sorted c h)

theorem retiredBanks_sorted (left : List ArrayFault) : (retiredBanks left).Pairwise (· < ·) :=
  foldl_insertUp_sorted _ .nil

theorem mem_retiredBanks {left : List ArrayFault} {b : Nat} : b ∈ retiredBanks left ↔ b ∈ (left.filterMap faultBank).dedup := by
  rw [retiredBanks, mem_foldl_insertUp, List.mem_dedup]
  simp only [List.not_mem_nil, or_false]

theorem length_retiredBanks (left : List ArrayFault) : (retiredBanks left).length = ((left.filterMap faultBank).dedup).length :=
  ((List.perm_ext_iff_of_nodup ((retiredBanks_sorted left).imp Nat.ne_of_lt) (List.nodup_dedup _)).2
    fun _ => mem_retiredBanks).length_eq

/-- Which failure enters FAULT (R272). -/
theorem State.bistFailure_many (v : State) {left : List ArrayFault} (h : 8 < (retiredBanks left).length) :
    ∃ a, v.bistFailure left = some (1, a) := ⟨_, if_pos h⟩

theorem State.bistFailure_other (v : State) {left : List ArrayFault} (h : (retiredBanks left).length ≤ 8)
    (hother : left.filter (fun f => (faultBank f).isNone) ≠ []) : ∃ a, v.bistFailure left = some (2, a) := by
  unfold State.bistFailure
  rw [if_neg (not_lt.2 h)]
  split
  next a _ => exact ⟨a, rfl⟩
  next hnone =>
    rw [List.min?_eq_none_iff, otherFaults, List.map_eq_nil_iff] at hnone
    exact absurd hnone hother

theorem State.bistFailure_persist (v : State) {left : List ArrayFault} (h : (retiredBanks left).length ≤ 8)
    (hother : left.filter (fun f => (faultBank f).isNone) = []) :
    v.bistFailure left = v.persistFailure.map (fun a => (3, a)) := by
  unfold State.bistFailure otherFaults
  rw [if_neg (not_lt.2 h), hother]
  rfl

/-! ### Records outside RUN -/

/-- `t` is `v` with records more in the report queue and in the ash writer: no word of the MRAM is touched. -/
def State.recordsMore (t v : State) : Prop :=
  t = { v with flue := t.flue, ash := t.ash, ecc := t.ecc } ∧
  ∃ keep : Nat → Bool, (∀ x, mramBase ≤ x → keep x = true) ∧ t.ecc = v.ecc.filter (fun e => keep e.1)

theorem State.recordsMore_refl (v : State) : v.recordsMore v :=
  ⟨rfl, fun _ => true, fun _ _ => rfl, (List.filter_eq_self.2 fun _ _ => rfl).symm⟩

theorem State.recordsMore_trans {t u v : State} (h : t.recordsMore u) (k : u.recordsMore v) : t.recordsMore v := by
  obtain ⟨hfields, keep, hkeep, hecc⟩ := h
  obtain ⟨kfields, keep', hkeep', kecc⟩ := k
  refine ⟨?_, fun x => keep x && keep' x, fun x hx => ?_, ?_⟩
  · rw [hfields, kfields]
  · exact (congrArg₂ and (hkeep x hx) (hkeep' x hx) :)
  · rw [hecc, kecc, List.filter_filter]

theorem State.ashRecord_recordsMore (v : State) (type time : Nat) (payload : List Byte) :
    (v.ashRecord type time payload).recordsMore v :=
  ⟨rfl, fun _ => true, fun _ _ => rfl, (List.filter_eq_self.2 fun _ _ => rfl).symm⟩

theorem State.report_recordsMore {v : State} {type : Nat} (hm : v.mode ≠ .run) (ht : suppressed type = false) (time : Nat)
    (payload : List Byte) (tier : Nat) : (v.report type time payload tier).recordsMore v := by
  rw [State.report_of_local (State.relayTarget_of_not_run hm) ht]
  refine ⟨rfl, fun x => !((List.range 8).any (fun i => inRing v.flue.tail
    (((v.flue.enter v.ts type time payload tier).tail + 65536 - v.flue.tail) % 65536) (x + i - regionBase .reportQueue)) &&
      decide (regionBase .reportQueue ≤ x) && decide (x < regionBase .reportQueue + 65536)), fun x hx => ?_, rfl⟩
  have hout : ¬x < regionBase .reportQueue + 65536 := not_lt.2 (le_trans (by decide) hx)
  beta_reduce
  rw [decide_eq_false hout, Bool.and_false]
  rfl

/-- A memory event in BIST or LOAD: a record each way (R249, R292). -/
theorem State.memoryEvent_recordsMore {v : State} (hm : v.mode = .bist ∨ v.mode = .load) (ev : Nat) (m : Master)
    (addr row seg erased source : Nat) : (v.memoryEvent ev m addr row seg erased source).recordsMore v := by
  have hrun : v.mode ≠ .run := by rcases hm with h | h <;> rw [h] <;> decide
  have hdump : v.dumpHolds = false := by rcases hm with h | h <;> simp [State.dumpHolds, h]
  unfold State.memoryEvent
  dsimp only
  rw [hdump, if_neg Bool.false_ne_true]
  exact State.recordsMore_trans (State.ashRecord_recordsMore _ _ _ _) (State.report_recordsMore hrun rfl _ _ _)

theorem State.recordsMore_mode {t v : State} (h : t.recordsMore v) : t.mode = v.mode := by rw [h.1]

theorem State.retireBanks_recordsMore {v : State} (hm : v.mode = .bist) (left : List ArrayFault) :
    (v.retireBanks left).recordsMore { v with hearth := { v.hearth with retired := retiredBanks left } } := by
  unfold State.retireBanks
  dsimp only
  generalize hu : ({ v with hearth := { v.hearth with retired := retiredBanks left } } : State) = u
  have hmu : u.mode = .bist := by rw [← hu]; exact hm
  clear hu
  generalize retiredBanks left = l
  suffices h : ∀ (l : List Nat) (w : State), w.recordsMore u →
      (l.foldl (fun s b => s.memoryEvent 0x06 .bst (lowestIn left b) (64 * b) 0xFF 0 0) w).recordsMore u from
    h _ u (State.recordsMore_refl u)
  intro l
  induction l with
  | nil => exact fun w hw => hw
  | cons b l ih => exact fun w hw => ih _ (State.recordsMore_trans
      (State.memoryEvent_recordsMore (.inl ((State.recordsMore_mode hw).trans hmu)) _ _ _ _ _ _ _) hw)

/-! ### FAULT -/

/-- Entry to FAULT leaves the repairs and the retired banks as they are, and the last record of the ash names the cause and
the number of retired banks (R64, R272, R292). -/
theorem State.enterFault_spec {v : State} (hm : v.mode = .bist) {cause : Nat} (hcause : cause < 256) (addr : Nat) :
    (v.enterFault cause addr).mode = .fault ∧ (v.enterFault cause addr).repairs = v.repairs ∧
    (v.enterFault cause addr).hearth = v.hearth ∧
    (v.enterFault cause addr).out = { v.out with
      ready := false, alert := false, alarm := false, fault := true, health := some healthLow } ∧
    ∃ before r, (v.enterFault cause addr).ash.waiting = before ++ [r] ∧ r.type = 0x0D ∧ byteAt r.payload 0 = cause ∧
      byteAt r.payload 1 = min 255 v.hearth.retired.length := by
  have hrun : v.mode ≠ .run := by rw [hm]; decide
  unfold State.enterFault
  dsimp only
  generalize hu : v.report 0x0A v.ts (memoryPayload 0x0C .bst addr 0xFFFF cause (satTo 255 v.hearth.retired.length) 0) 1 = u
  obtain ⟨hfields, -⟩ : u.recordsMore v := by
    rw [← hu]
    exact State.report_recordsMore hrun rfl _ _ _
  clear hu
  generalize hr : ({ type := 0x0D, time := u.ts, payload := [BitVec.ofNat 8 cause,
    BitVec.ofNat 8 (satTo 255 v.hearth.retired.length)] ++ leBytes 4 addr } : AshRec) = r
  refine ⟨rfl, ?_, ?_, ?_, u.ash.waiting, r, by rw [← hr]; rfl, by rw [← hr], ?_, ?_⟩
  · exact (congrArg State.repairs hfields :)
  · exact (congrArg State.hearth hfields :)
  · exact (congrArg (fun w : State => { w.out with
      ready := false, alert := false, alarm := false, fault := true, health := some healthLow }) hfields :)
  · rw [← hr]
    exact Nat.mod_eq_of_lt hcause
  · rw [← hr]
    have hsat : satTo 255 v.hearth.retired.length = min 255 v.hearth.retired.length := by
      unfold satTo
      split <;> omega
    rw [hsat]
    exact Nat.mod_eq_of_lt (lt_of_le_of_lt (min_le_left _ _) (by omega : 255 < 256))

/-! ### The command -/

/-- What the March test leaves: the MRAM alone, with the errors that BIST found in it (R271, log 3). -/
def State.afterMarch (s : State) (us : List Upset) : State := State.upset { s with mem := mramOnly s.mem, ecc := mramErrors s.ecc }
  (us.filter (fun u => decide (mramBase ≤ u.addr)))

/-- The state in which BIST judges what it found: columns repaired and banks retired (R270 to R272). -/
def State.bistJudged (s : State) (found : BistFindings) : State :=
  State.retireBanks { s.afterMarch found.upsets with repairs := (s.repairFaults found.faults).1 } (s.repairFaults found.faults).2

section command
variable {s : State} {dt : Nat} {found : BistFindings}

theorem exec_bistComplete_next (hm : s.mode = .bist) (hform : bistForm found = true) :
    exec (.bistComplete dt found) s = .next
      (match (s.afterMarch found.upsets).bistFailure (s.repairFaults found.faults).2 with
        | some f => ((s.elapse dt).bistJudged found).enterFault f.1 f.2
        | none => ((s.elapse dt).bistJudged found).enterLoad).settle :=
  (eventOf_next _ _ _ _ s hform (decide_eq_true hm) : execBistComplete dt found s = _)

/-- What the judgement leaves of the state (R270 to R272). -/
theorem State.bistJudged_recordsMore (hm : s.mode = .bist) (found : BistFindings) : (s.bistJudged found).recordsMore
    { s.afterMarch found.upsets with
      repairs := (s.repairFaults found.faults).1
      hearth := { s.hearth with retired := retiredBanks (s.repairFaults found.faults).2 } } :=
  State.retireBanks_recordsMore (v := { s.afterMarch found.upsets with repairs := (s.repairFaults found.faults).1 }) hm _

/-- FAULT is entered with the first failure (R64, R272). -/
theorem exec_bistComplete_fault (hm : s.mode = .bist) (hform : bistForm found = true) {cause : Nat} (hcause : cause < 256)
    (hfail : ∃ a, (s.afterMarch found.upsets).bistFailure (s.repairFaults found.faults).2 = some (cause, a)) :
    ∃ t, exec (.bistComplete dt found) s = .next t ∧ t.mode = .fault ∧ t.repairs = (s.repairFaults found.faults).1 ∧
      t.hearth.retired = retiredBanks (s.repairFaults found.faults).2 ∧
      t.out = { s.out with ready := false, alert := false, alarm := false, fault := true, health := some 720,
                           led0 := t.out.led0, led1 := t.out.led1 } ∧
      ∃ before r, t.ash.waiting = before ++ [r] ∧ r.type = 0x0D ∧ byteAt r.payload 0 = cause ∧
        byteAt r.payload 1 = min 255 (retiredBanks (s.repairFaults found.faults).2).length := by
  obtain ⟨a, ha⟩ := hfail
  have hexec := exec_bistComplete_next (dt := dt) hm hform
  rw [ha] at hexec
  dsimp only at hexec
  obtain ⟨hfields, -⟩ := State.bistJudged_recordsMore (s := s.elapse dt) hm found
  generalize (s.elapse dt).bistJudged found = v at hexec hfields
  have hmv : v.mode = .bist := ((congrArg State.mode hfields :) : v.mode = s.mode).trans hm
  have hretired : v.hearth.retired = retiredBanks (s.repairFaults found.faults).2 :=
    (congrArg (fun w : State => w.hearth.retired) hfields :)
  have hout : v.out = s.out := (congrArg State.out hfields :)
  obtain ⟨hmode, hrepairs, hhearth, hpins, before, r, hash, htype, h0, h1⟩ := State.enterFault_spec hmv hcause a
  refine ⟨_, hexec, hmode, hrepairs.trans (congrArg State.repairs hfields :), ?_, ?_, before, r, hash, htype, h0, ?_⟩
  · exact (congrArg Hearth.retired hhearth : _).trans hretired
  · rw [hout] at hpins
    exact (congrArg (fun o : Outputs => { o with
      led0 := (v.enterFault cause a).settle.out.led0, led1 := (v.enterFault cause a).settle.out.led1 }) hpins :)
  · rw [h1, hretired]

end command

end Sys2Proof.Machine
end

section
/-! The vault restore (14_vault_and_ash.md; R273, R282, R284): what the vault says of a learned row, and what the restore
makes of it. -/

namespace Sys2Proof.Machine

/-! ### What the load of the MRAM leaves alone -/

/-- What no part of the load of the MRAM touches: the mode, the repairs, the retired banks, the outputs, the flash, the straps
and the counters of the journal. -/
def State.startup (s : State) : DevState × Repairs × List Nat × Outputs × List FlashCmd × Straps × Nat × Nat :=
  (s.mode, s.repairs, s.hearth.retired, s.out, s.flash, s.straps, s.vault.nextSeq, s.vault.nextSlot)

/-- `t` is `v` with work done in the SRAM alone, but for what the load leaves alone. -/
def State.loads (t v : State) : Prop :=
  t.startup = v.startup ∧ (Memory.wf v.mem → Memory.wf t.mem) ∧
  (∀ a, mramBase ≤ a → Memory.read t.mem a = Memory.read v.mem a) ∧
  ∃ keep : Nat → Bool, (∀ x, mramBase ≤ x → keep x = true) ∧ t.ecc = v.ecc.filter (fun e => keep e.1)

theorem State.loads_of_fields {t v : State} (h : t.startup = v.startup) (hmem : t.mem = v.mem) (hecc : t.ecc = v.ecc) :
    t.loads v :=
  ⟨h, fun hs => by rwa [hmem], fun a _ => by rw [hmem], fun _ => true, fun _ _ => rfl,
    by rw [hecc]; exact (List.filter_eq_self.2 fun _ _ => rfl).symm⟩

theorem State.loads_refl (v : State) : v.loads v := State.loads_of_fields rfl rfl rfl

theorem State.loads_trans {t u v : State} (h : t.loads u) (k : u.loads v) : t.loads v := by
  obtain ⟨hstart, hwf, hmem, keep, hkeep, hecc⟩ := h
  obtain ⟨kstart, kwf, kmem, keep', hkeep', kecc⟩ := k
  exact ⟨hstart.trans kstart, fun hs => hwf (kwf hs), fun a ha => (hmem a ha).trans (kmem a ha), fun x => keep x && keep' x,
    fun x hx => (congrArg₂ and (hkeep x hx) (hkeep' x hx) :), by rw [hecc, kecc, List.filter_filter]⟩

theorem State.loads_mode {t v : State} (h : t.loads v) : t.mode = v.mode := (congrArg Prod.fst h.1 :)

theorem State.loads_retired {t v : State} (h : t.loads v) : t.hearth.retired = v.hearth.retired :=
  (congrArg (fun x => x.2.2.1) h.1 :)

theorem State.poke_loads (v : State) {a : Nat} {bs : List Byte} (h : a + bs.length ≤ mramBase) : (v.poke a bs).loads v := by
  refine ⟨rfl, fun hs => v.poke_wf a bs hs, fun x hx => ?_,
    fun x => !(decide (a < x + 8) && decide (x < a + bs.length)), fun x hx => ?_, rfl⟩
  · rw [State.poke_mem, Memory.read_writeBytes, if_neg (by omega)]
  · beta_reduce
    rw [decide_eq_false (by omega : ¬x < a + bs.length), Bool.and_false]
    rfl

theorem State.wipe_loads (v : State) {a n : Nat} (h : a + n ≤ mramBase) : (v.wipe a n).loads v := by
  refine ⟨rfl, fun hs => v.wipe_wf a n hs, fun x hx => ?_,
    fun x => !(decide (a ≤ x) && decide (x < a + n)), fun x hx => ?_, rfl⟩
  · rw [State.wipe_mem, Memory.read_clear, if_neg (by omega)]
  · beta_reduce
    rw [decide_eq_false (by omega : ¬x < a + n), Bool.and_false]
    rfl

theorem State.setTag_loads (v : State) {r : Nat} (t : Tag) (hr : r < 16384) : (v.setTag r t).loads v :=
  v.poke_loads (by rw [t.bytes_length]; unfold tagAddr mramBase; omega)

theorem State.writeRow_loads (v : State) {r : Nat} (x : HV) (t : Tag) (hr : r < 16384) : (v.writeRow r x t).loads v :=
  State.loads_trans ((v.setRow r x).setTag_loads t hr)
    (v.poke_loads (by rw [hvBytes_length]; unfold rowAddr mramBase; omega))

theorem State.markDirty_loads (v : State) (r : Nat) (data tag : Bool) : (v.markDirty r data tag).loads v := by
  rw [State.markDirty_eq]
  exact State.loads_of_fields rfl rfl rfl

theorem State.recordsMore_loads {t v : State} (h : t.recordsMore v) : t.loads v := by
  obtain ⟨hfields, hkeep⟩ := h
  have hmem : t.mem = v.mem := (congrArg State.mem hfields :)
  exact ⟨(congrArg State.startup hfields :), fun hs => by rwa [hmem], fun a _ => by rw [hmem], hkeep⟩

/-! ### What the MRAM says of a row -/

section vault
variable {t v : State}

theorem State.loads_peek (h : t.loads v) (hs : Memory.wf v.mem) {a : Nat} (n : Nat) (ha : mramBase ≤ a) : t.peek a n = v.peek a n := by
  obtain ⟨-, hwf, hmem, -⟩ := h
  exact Memory.readBytes_congr (hwf hs) hs fun x hx _ => hmem x (ha.trans hx)

theorem State.loads_errorsAt (h : t.loads v) {w : Nat} (hw : mramBase ≤ w) : errorsAt t.ecc w = errorsAt v.ecc w := by
  obtain ⟨-, -, -, keep, hkeep, hecc⟩ := h
  rw [hecc, errorsAt_filter, if_pos (hkeep w hw)]

theorem State.loads_badIn (h : t.loads v) {a n : Nat} (ha : mramBase ≤ a) : t.badIn a n = v.badIn a n := by
  obtain ⟨-, -, -, keep, hkeep, hecc⟩ := h
  exact State.badIn_of_filter (keep := fun e => keep e.1) hecc fun e he _ => hkeep e.1 (ha.trans he)

theorem vaultAddr_ge (r : Nat) : mramBase ≤ vaultAddr r := Nat.le_add_right _ _

theorem vaultTagAddr_ge (r : Nat) : mramBase ≤ vaultTagAddr r := le_trans (by decide : mramBase ≤ 0x08800000) (Nat.le_add_right _ _)

theorem State.loads_vaultTag (h : t.loads v) (hs : Memory.wf v.mem) (r : Nat) : t.vaultTag r = v.vaultTag r := by
  rw [State.vaultTag, State.peekNat, State.loads_peek h hs 32 (vaultTagAddr_ge r)]
  rfl

theorem State.loads_vaultTagBad (h : t.loads v) (r : Nat) : t.vaultTagBad r = v.vaultTagBad r := by
  rw [State.vaultTagBad, State.loads_badIn h (vaultTagAddr_ge r)]
  rfl

theorem State.bad_vaultAddr (s : State) (r g : Nat) : s.bad (vaultAddr r + 8 * g) = decide (3 ≤ errorsAt s.ecc (vaultAddr r + 8 * g)) := by
  have hword : wordOf (vaultAddr r + 8 * g) = vaultAddr r + 8 * g := by
    unfold wordOf vaultAddr
    omega
  have hfatal : fatalErrors (vaultAddr r + 8 * g) = 3 := if_neg (not_lt.2 ((vaultAddr_ge r).trans (Nat.le_add_right _ _)))
  rw [State.bad, hword, hfatal]

theorem State.loads_lostSegments (h : t.loads v) (r : Nat) : t.lostSegments r = v.lostSegments r := by
  unfold State.lostSegments
  refine List.filter_congr fun g _ => ?_
  rw [State.bad_vaultAddr, State.bad_vaultAddr, State.loads_errorsAt h ((vaultAddr_ge r).trans (Nat.le_add_right _ _))]

theorem State.loads_restoredTag (h : t.loads v) (hs : Memory.wf v.mem) (r : Nat) : t.restoredTag r = v.restoredTag r := by
  rw [State.restoredTag, State.loads_lostSegments h, State.loads_vaultTag h hs]
  rfl

theorem State.partition_eq_class (s : State) {r : Nat} (hr : 8192 ≤ r) : s.partition r = if r < 15360 then 1 else 2 := by
  have := s.libraryRows_le
  rw [State.partition, if_neg (by omega), if_neg (by omega)]

theorem State.loads_vaultHolds (h : t.loads v) (hs : Memory.wf v.mem) {r : Nat} (hr : 8192 ≤ r) : t.vaultHolds r = v.vaultHolds r := by
  unfold State.vaultHolds
  dsimp only
  rw [State.loads_vaultTag h hs, State.loads_vaultTagBad h, t.partition_eq_class hr, v.partition_eq_class hr]

end vault

/-! ### A row that is spent -/

/-- `t` holds row `x` as `v` does, and its tag is still to be mirrored if it was. -/
def State.keepsRow (t v : State) (x : Nat) : Prop :=
  t.tag x = v.tag x ∧ t.row x = v.row x ∧ (tagFlagged v.vault.dirty x = true → tagFlagged t.vault.dirty x = true)

theorem State.keepsRow_refl (v : State) (x : Nat) : v.keepsRow v x := ⟨rfl, rfl, id⟩

theorem State.keepsRow_trans {t u v : State} {x : Nat} (h : t.keepsRow u x) (k : u.keepsRow v x) : t.keepsRow v x := by
  obtain ⟨htag, hrow, hdirty⟩ := h
  obtain ⟨ktag, krow, kdirty⟩ := k
  exact ⟨htag.trans ktag, hrow.trans krow, fun hx => hdirty (kdirty hx)⟩

theorem State.keepsRow_of_fields {t v : State} (hmem : t.mem = v.mem) (hdirty : t.vault.dirty = v.vault.dirty) (x : Nat) :
    t.keepsRow v x := ⟨State.tag_of_mem hmem x, State.row_of_mem hmem x, fun h => by rwa [hdirty]⟩

theorem tagFlagged_flagDirty_of_flagged {l : List Dirty} {row r : Nat} {data tag : Bool} (h : tagFlagged l r = true) :
    tagFlagged (flagDirty l row data tag) r = true := by
  obtain ⟨d, hd, hflag⟩ := List.any_eq_true.1 h
  unfold tagFlagged flagDirty
  split
  · exact h
  · split
    · refine List.any_eq_true.2 ⟨_, List.mem_map_of_mem hd, ?_⟩
      split
      · simp only [Bool.and_eq_true] at hflag ⊢
        exact ⟨hflag.1, by rw [hflag.2]; rfl⟩
      · exact hflag
    · exact List.any_eq_true.2 ⟨d, List.mem_append_left _ hd, hflag⟩

theorem tagFlagged_flagDirty {l : List Dirty} {row : Nat} {data : Bool} (h : 8192 ≤ row) :
    tagFlagged (flagDirty l row data true) row = true := by
  obtain ⟨d, hd, hrow, -, htag⟩ := flagDirty_any (l := l) (data := data) (tag := true) h
  exact List.any_eq_true.2 ⟨d, hd, by rw [hrow, htag rfl]; simp⟩

theorem State.markDirty_keepsRow (v : State) (r : Nat) (data tag : Bool) (x : Nat) : (v.markDirty r data tag).keepsRow v x := by
  rw [State.markDirty_eq]
  exact ⟨State.tag_of_mem rfl x, State.row_of_mem rfl x, tagFlagged_flagDirty_of_flagged⟩

theorem State.recordsMore_keepsRow {t v : State} (h : t.recordsMore v) (x : Nat) : t.keepsRow v x :=
  State.keepsRow_of_fields (congrArg State.mem h.1 :) (congrArg (fun w : State => w.vault.dirty) h.1 :) x

section spend
variable {v : State} {r : Nat}

/-- The steps that make a learned row spent (R268). -/
theorem State.spendRow_eq (hr : 8192 ≤ r) (m : Master) : ∃ ev a, v.spendRow r m =
    State.bumpLife (State.freeAccum ((((v.setTag r { v.tag r with spent := true }).markDirty r false true).memoryEvent ev m
      (rowAddr r) r 0xFF a 0)) r) r := by
  unfold State.spendRow
  dsimp only
  rw [if_neg]
  · exact ⟨_, _, rfl⟩
  · rw [State.partition_eq_class _ hr]
    split <;> decide

theorem State.spendRow_spec (hm : v.mode = .load) (hr : 8192 ≤ r) (hr' : r < 16384) (m : Master) :
    (v.spendRow r m).loads v ∧ (Memory.wf v.mem → (∀ x, x < 16384 → x ≠ r → (v.spendRow r m).keepsRow v x) ∧
    (v.spendRow r m).tag r = { v.tag r with spent := true } ∧ (v.spendRow r m).row r = v.row r ∧
    tagFlagged (v.spendRow r m).vault.dirty r = true) := by
  obtain ⟨ev, a, heq⟩ := State.spendRow_eq (v := v) hr m
  rw [heq]
  clear heq
  have hset := v.setTag_loads { v.tag r with spent := true } hr'
  have hself := v.tag_setTag r { v.tag r with spent := true }
  have hrow {x : Nat} (hs : Memory.wf v.mem) (hx : x < 16384) := v.row_setTag (r := r) { v.tag r with spent := true } hs hx
  have hother {x : Nat} (hs : Memory.wf v.mem) (hx : x ≠ r) := v.tag_setTag_of_ne { v.tag r with spent := true } hs hx
  have hdirtySet : (v.setTag r { v.tag r with spent := true }).vault.dirty = v.vault.dirty := rfl
  generalize v.setTag r { v.tag r with spent := true } = u at *
  have hmark := u.markDirty_loads r false true
  have hkeepMark (x : Nat) := u.markDirty_keepsRow r false true x
  have hflag : tagFlagged (u.markDirty r false true).vault.dirty r = true := by
    rw [State.markDirty_eq]
    exact tagFlagged_flagDirty hr
  generalize u.markDirty r false true = w at *
  have hmode : w.mode = .load := ((State.loads_mode hmark).trans (State.loads_mode hset)).trans hm
  have hevent := State.memoryEvent_recordsMore (.inr hmode) ev m (rowAddr r) r 0xFF a 0
  generalize w.memoryEvent ev m (rowAddr r) r 0xFF a 0 = z at *
  have hlast : ((z.freeAccum r).bumpLife r).loads z := State.loads_of_fields rfl rfl rfl
  have hkeep (x : Nat) : ((z.freeAccum r).bumpLife r).keepsRow u x := State.keepsRow_trans (State.keepsRow_of_fields rfl rfl x)
    (State.keepsRow_trans (State.recordsMore_keepsRow hevent x) (hkeepMark x))
  refine ⟨State.loads_trans hlast (State.loads_trans (State.recordsMore_loads hevent) (State.loads_trans hmark hset)),
    fun hs => ⟨fun x hx hne => State.keepsRow_trans (hkeep x) ⟨hother hs hne, hrow hs hx, fun h => by rwa [hdirtySet]⟩, ?_, ?_, ?_⟩⟩
  · exact (hkeep r).1.trans (hself hs)
  · exact (hkeep r).2.1.trans (hrow hs hr')
  · exact (State.recordsMore_keepsRow hevent r).2.2 hflag

end spend

/-! ### A row that is restored -/

/-- A tag that is spent once more than 32 segments are erased (R268). -/
def Tag.spentIfWorn (t : Tag) : Tag := if 32 < t.erasures then { t with spent := true } else t

/-- Row `r` of `t` is what the vault of `v` gives (R284). -/
def State.refilled (t v : State) (r : Nat) : Prop :=
  t.tag r = (v.restoredTag r).spentIfWorn ∧ t.row r = BitVec.ofNat 8192 (v.peekNat (vaultAddr r) 1024) ∧
  (v.lostSegments r ≠ [] → tagFlagged t.vault.dirty r = true)

section restore
variable {v : State} {r : Nat}

/-- A row filled from the vault (R284). -/
theorem State.fillRow_spec (hm : v.mode = .load) (hr : 8192 ≤ r) (hr' : r < 16384) :
    (v.fillRow r (v.lostSegments r) (v.restoredTag r)).loads v ∧ (Memory.wf v.mem →
    (∀ x, x < 16384 → x ≠ r → (v.fillRow r (v.lostSegments r) (v.restoredTag r)).keepsRow v x) ∧
    (v.fillRow r (v.lostSegments r) (v.restoredTag r)).refilled v r) := by
  unfold State.fillRow State.refilled Tag.spentIfWorn
  generalize BitVec.ofNat 8192 (v.peekNat (vaultAddr r) 1024) = data
  generalize v.lostSegments r = lost
  generalize v.restoredTag r = t
  dsimp only
  have hwrite := v.writeRow_loads data t hr'
  have htag := v.tag_writeRow r data t
  have hrow (hs : Memory.wf v.mem) := v.row_writeRow (k := r) data t hs hr'
  have hother (hs : Memory.wf v.mem) (x : Nat) (hx : x < 16384) (hne : x ≠ r) : (v.writeRow r data t).keepsRow v x :=
    ⟨v.tag_writeRow_of_ne data t hs hr' hne, v.row_writeRow_of_ne data t hs hx hne, id⟩
  generalize v.writeRow r data t = u at *
  have hmark : (if lost = [] then u else u.markDirty r false true).loads u := by
    split
    · exact State.loads_refl u
    · exact u.markDirty_loads r false true
  have hkeep (x : Nat) : (if lost = [] then u else u.markDirty r false true).keepsRow u x := by
    split
    · exact State.keepsRow_refl u x
    · exact u.markDirty_keepsRow r false true x
  have hflag : lost ≠ [] → tagFlagged (if lost = [] then u else u.markDirty r false true).vault.dirty r = true := by
    intro hne
    rw [if_neg hne, State.markDirty_eq]
    exact tagFlagged_flagDirty hr
  generalize (if lost = [] then u else u.markDirty r false true) = w at *
  have hload := State.loads_trans hmark hwrite
  have hmode : w.mode = .load := (State.loads_mode hload).trans hm
  have htagw (hs : Memory.wf v.mem) : w.tag r = t := (hkeep r).1.trans (htag hs)
  have hroww (hs : Memory.wf v.mem) : w.row r = data := (hkeep r).2.1.trans (hrow hs)
  by_cases hspent : 32 < t.erasures
  · obtain ⟨hspend, hrows⟩ := State.spendRow_spec hmode hr hr' .vlt
    rw [if_pos hspent, if_pos hspent]
    refine ⟨State.loads_trans hspend hload, fun hs => ?_⟩
    obtain ⟨hkept, hself, hrowSelf, hdirty⟩ := hrows (hload.2.1 hs)
    refine ⟨fun x hx hne => State.keepsRow_trans (hkept x hx hne) (State.keepsRow_trans (hkeep x) (hother hs x hx hne)), ?_,
      hrowSelf.trans (hroww hs), fun _ => hdirty⟩
    rw [hself, htagw hs]
  · rw [if_neg hspent, if_neg hspent]
    exact ⟨hload, fun hs => ⟨fun x hx hne => State.keepsRow_trans (hkeep x) (hother hs x hx hne), htagw hs, hroww hs, hflag⟩⟩

/-- One row of the restore: left as it is, or filled from the vault (R273, R284). -/
theorem State.restoreRow_spec (hm : v.mode = .load) (hr : 8192 ≤ r) (hr' : r < 16384) :
    (v.restoreRow r).loads v ∧ (Memory.wf v.mem → (∀ x, x < 16384 → x ≠ r → (v.restoreRow r).keepsRow v x) ∧
    (v.isRetired r = false → v.vaultHolds r = true → (v.restoreRow r).refilled v r) ∧
    (v.vaultHolds r = false → (v.restoreRow r).keepsRow v r)) := by
  unfold State.restoreRow
  split
  next hret =>
    exact ⟨State.loads_refl v, fun _ => ⟨fun x _ _ => State.keepsRow_refl v x,
      fun h => by rw [hret] at h; exact Bool.noConfusion h, fun _ => State.keepsRow_refl v r⟩⟩
  next hret =>
    split
    next hbad =>
      have hmark := v.markDirty_loads r false true
      have hevent := State.memoryEvent_recordsMore (.inr ((State.loads_mode hmark).trans hm)) 0x08 .vlt (vaultTagAddr r) r 0xFF 0 0
      have hkeep (x : Nat) := State.keepsRow_trans (State.recordsMore_keepsRow hevent x) (v.markDirty_keepsRow r false true x)
      refine ⟨State.loads_trans (State.recordsMore_loads hevent) hmark,
        fun _ => ⟨fun x _ _ => hkeep x, fun _ hholds => ?_, fun _ => hkeep r⟩⟩
      unfold State.vaultHolds at hholds
      rw [hbad] at hholds
      exact Bool.noConfusion hholds
    next =>
      split
      next hno =>
        refine ⟨State.loads_refl v,
          fun _ => ⟨fun x _ _ => State.keepsRow_refl v x, fun _ hyes => ?_, fun _ => State.keepsRow_refl v r⟩⟩
        rw [hyes] at hno
        exact Bool.noConfusion hno
      next hyes =>
        obtain ⟨hload, hrows⟩ := State.fillRow_spec hm hr hr'
        refine ⟨hload, fun hs => ⟨(hrows hs).1, fun _ _ => (hrows hs).2, fun hno => ?_⟩⟩
        rw [hno] at hyes
        exact absurd rfl hyes

end restore

/-! ### The rows of the vault, one after another -/

theorem State.refilled_of_keepsRow {t u v : State} {r : Nat} (h : u.refilled v r) (k : t.keepsRow u r) : t.refilled v r := by
  obtain ⟨htag, hrow, hdirty⟩ := h
  obtain ⟨ktag, krow, kdirty⟩ := k
  exact ⟨ktag.trans htag, krow.trans hrow, fun hne => kdirty (hdirty hne)⟩

theorem State.refilled_of_loads {t u v : State} {r : Nat} (h : t.refilled u r) (k : u.loads v) (hs : Memory.wf v.mem) :
    t.refilled v r := by
  obtain ⟨htag, hrow, hdirty⟩ := h
  rw [State.loads_restoredTag k hs] at htag
  rw [State.peekNat, State.loads_peek k hs 1024 (vaultAddr_ge r)] at hrow
  rw [State.loads_lostSegments k] at hdirty
  exact ⟨htag, hrow, hdirty⟩

theorem State.foldl_restoreRow_loads (rows : List Nat) {v : State} (hm : v.mode = .load)
    (hrows : ∀ r ∈ rows, 8192 ≤ r ∧ r < 16384) : (rows.foldl State.restoreRow v).loads v := by
  induction rows generalizing v with
  | nil => exact State.loads_refl v
  | cons x rows ih =>
    obtain ⟨⟨hx, hx'⟩, hrest⟩ := List.forall_mem_cons.1 hrows
    obtain ⟨hload, -⟩ := State.restoreRow_spec hm hx hx'
    exact State.loads_trans (ih ((State.loads_mode hload).trans hm) hrest) hload

theorem State.foldl_restoreRow (rows : List Nat) {v : State} (hs : Memory.wf v.mem) (hm : v.mode = .load)
    (hrows : ∀ r ∈ rows, 8192 ≤ r ∧ r < 16384) (hnodup : rows.Nodup) :
    (∀ r, r < 16384 → r ∉ rows ∨ 8192 ≤ r ∧ v.vaultHolds r = false → (rows.foldl State.restoreRow v).keepsRow v r) ∧
    ∀ r ∈ rows, v.isRetired r = false → v.vaultHolds r = true → (rows.foldl State.restoreRow v).refilled v r := by
  induction rows generalizing v with
  | nil => exact ⟨fun r _ _ => State.keepsRow_refl v r, nofun⟩
  | cons x rows ih =>
    obtain ⟨⟨hx, hx'⟩, hrest⟩ := List.forall_mem_cons.1 hrows
    obtain ⟨hnot, hnodup⟩ := List.nodup_cons.1 hnodup
    obtain ⟨hload, hfirst⟩ := State.restoreRow_spec hm hx hx'
    obtain ⟨hkept, hfilled, hleft⟩ := hfirst hs
    obtain ⟨hkeeps, hfills⟩ := ih (hload.2.1 hs) ((State.loads_mode hload).trans hm) hrest hnodup
    rw [List.foldl_cons]
    refine ⟨fun r hr hcase => ?_, List.forall_mem_cons.2 ⟨fun hret hholds => ?_,
      fun r hr hret hholds => ?_⟩⟩
    · refine State.keepsRow_trans (hkeeps r hr ?_) ?_
      · exact hcase.imp (fun h hin => h (List.mem_cons_of_mem _ hin))
          fun ⟨h, hno⟩ => ⟨h, (State.loads_vaultHolds hload hs h).trans hno⟩
      · by_cases hrx : r = x
        · subst hrx
          obtain h | ⟨-, hno⟩ := hcase
          · exact absurd List.mem_cons_self h
          · exact hleft hno
        · exact hkept r hr hrx
    · exact State.refilled_of_keepsRow (hfilled hret hholds) (hkeeps x hx' (.inl hnot))
    · obtain ⟨hr1, -⟩ := hrest r hr
      refine State.refilled_of_loads (hfills r hr ?_ ((State.loads_vaultHolds hload hs hr1).trans hholds)) hload hs
      rw [State.isRetired, State.loads_retired hload]
      exact hret

/-! ### Which rows the vault holds -/

theorem errorsAt_of_mem {l : List (Nat × Nat)} (hl : Errors.wf l) {e : Nat × Nat} (h : e ∈ l) : errorsAt l e.1 = e.2 := by
  induction l with
  | nil => cases h
  | cons x l ih =>
    obtain ⟨hsorted, hne⟩ := hl
    obtain ⟨hlt, hsorted⟩ := List.pairwise_cons.1 hsorted
    rw [errorsAt_cons]
    rcases List.mem_cons.1 h with rfl | h
    · exact if_pos rfl
    · rw [if_neg (hlt e h).ne]
      exact ih ⟨hsorted, fun y hy => hne y (List.mem_cons_of_mem _ hy)⟩ h

theorem exists_of_errorsAt {l : List (Nat × Nat)} {w : Nat} (h : 0 < errorsAt l w) : ∃ e ∈ l, e.1 = w ∧ e.2 = errorsAt l w := by
  induction l with
  | nil => cases h
  | cons x l ih =>
    rw [errorsAt_cons] at h ⊢
    split at h
    next hx => exact ⟨x, List.mem_cons_self, hx, (if_pos hx).symm⟩
    next hx =>
      obtain ⟨e, he, hw, hn⟩ := ih h
      exact ⟨e, List.mem_cons_of_mem _ he, hw, by rw [if_neg hx]; exact hn⟩

/-- No word of a stretch of the MRAM reads uncorrectable (R262). -/
theorem State.badIn_eq_none_iff {v : State} (he : Errors.wf v.ecc) {a n : Nat} (ha : mramBase ≤ a) :
    v.badIn a n = none ↔ ∀ w, a ≤ w → w < a + n → errorsAt v.ecc w < 3 := by
  have hfatal {x : Nat} (hx : a ≤ x) : fatalErrors x = 3 := if_neg (not_lt.2 (ha.trans hx))
  rw [State.badIn, Option.map_eq_none_iff, List.find?_eq_none]
  constructor
  · intro h w hw hw'
    by_contra hno
    obtain ⟨e, hmem, rfl, hn⟩ := exists_of_errorsAt (l := v.ecc) (w := w) (by omega)
    exact h e hmem (by rw [hfatal hw]; simp only [Bool.and_eq_true, decide_eq_true_eq]; omega)
  · intro h e hmem hyes
    simp only [Bool.and_eq_true, decide_eq_true_eq] at hyes
    obtain ⟨⟨hlo, hhi⟩, hn⟩ := hyes
    rw [hfatal hlo, ← errorsAt_of_mem he hmem] at hn
    exact absurd (h e.1 hlo hhi) (not_lt.2 hn)

theorem State.vaultHolds_iff {v : State} (he : Errors.wf v.ecc) (r : Nat) : v.vaultHolds r = true ↔
    (∀ w, vaultTagAddr r ≤ w → w < vaultTagAddr r + 32 → errorsAt v.ecc w < 3) ∧ (v.vaultTag r).valid = true ∧
      (v.vaultTag r).spent = false ∧ (v.vaultTag r).cls.toNat = v.partition r := by
  rw [← State.badIn_eq_none_iff he (vaultTagAddr_ge r)]
  simp only [State.vaultHolds, State.vaultTagBad, Bool.and_eq_true, Bool.not_eq_true', Option.isSome_eq_false_iff,
    Option.isNone_iff_eq_none, decide_eq_true_eq, and_assoc]

theorem Memory.readBytes_of_zero {m : List Host.Cell} {a n : Nat} (hm : Memory.wf m)
    (h : ∀ x, a ≤ x → x < a + n → Memory.read m x = 0#8) : leNat (Memory.readBytes m a n) = 0 := by
  have hzero : Memory.readBytes m a n = List.replicate n 0#8 := by
    rw [Memory.readBytes_eq _ _ _ hm, List.eq_replicate_iff]
    refine ⟨by simp, fun b hb => ?_⟩
    obtain ⟨i, hi, rfl⟩ := List.mem_map.1 hb
    exact h _ (Nat.le_add_right _ _) (Nat.add_lt_add_left (List.mem_range.1 hi) a)
  rw [hzero, leNat_replicate_zero]

theorem State.tag_of_zero {v : State} (hs : Memory.wf v.mem) {r : Nat}
    (h : ∀ x, tagAddr r ≤ x → x < tagAddr r + 32 → Memory.read v.mem x = 0#8) : v.tag r = {} := by
  rw [State.tag, State.peekNat, State.peek, Memory.readBytes_of_zero hs h]
  rfl

theorem State.vaultRows_eq (v : State) : v.vaultRows =
    ((v.ecc.filter (fun e => decide (0x08800000 ≤ e.1) && decide (e.1 < 0x08840000) && decide (3 ≤ e.2))).map
      (fun e => 8192 + (e.1 - 0x08800000) / 32)).foldl insertUp
    (squeeze ((v.mem.filter (fun c => decide (0x08800000 ≤ c.1) && decide (c.1 < 0x08840000))).map
      (fun c => 8192 + (c.1 - 0x08800000) / 32))) := by
  rw [List.foldl_map]
  rfl

theorem State.vaultRows_nodup {v : State} (hs : Memory.wf v.mem) : v.vaultRows.Nodup := by
  rw [State.vaultRows_eq]
  refine (foldl_insertUp_sorted _ (squeeze_sorted (List.pairwise_map.2 ?_))).imp Nat.ne_of_lt
  refine (hs.1.filter _).imp fun {c d} h => ?_
  omega

theorem State.vaultRows_learned {v : State} {r : Nat} (h : r ∈ v.vaultRows) : 8192 ≤ r ∧ r < 16384 := by
  rw [State.vaultRows_eq, mem_foldl_insertUp, mem_squeeze, List.mem_map, List.mem_map] at h
  rcases h with ⟨e, he, rfl⟩ | ⟨c, hc, rfl⟩
  · have := (List.mem_filter.1 he).2
    simp only [Bool.and_eq_true, decide_eq_true_eq] at this
    omega
  · have := (List.mem_filter.1 hc).2
    simp only [Bool.and_eq_true, decide_eq_true_eq] at this
    omega

/-- A row that the vault holds is among those that the restore looks at. -/
theorem State.mem_vaultRows {v : State} (hs : Memory.wf v.mem) {r : Nat} (hr : 8192 ≤ r) (hr' : r < 16384)
    (h : v.vaultHolds r = true) : r ∈ v.vaultRows := by
  by_contra hno
  have hzero : v.vaultTag r = {} := by
    rw [State.vaultTag, State.peekNat, State.peek, Memory.readBytes_of_zero hs]
    · rfl
    · refine fun x hx hx' => Memory.read_none _ _ fun c hc hcx => hno ?_
      subst hcx
      unfold vaultTagAddr at hx hx'
      rw [State.vaultRows_eq, mem_foldl_insertUp, mem_squeeze]
      refine .inr (List.mem_map.2 ⟨c, List.mem_filter.2 ⟨hc, ?_⟩, ?_⟩)
      · simp only [Bool.and_eq_true, decide_eq_true_eq]
        omega
      · omega
  unfold State.vaultHolds at h
  dsimp only at h
  rw [hzero] at h
  simp at h

/-! ### What a restored row reads -/

theorem Tag.foldl_markErased (lost : List Nat) (t : Tag) (hlost : ∀ g ∈ lost, g < 128) :
    (∃ e, lost.foldl (fun t g => t.markErased g true) t = { t with erased := e }) ∧
    ∀ k, k < 128 → (lost.foldl (fun t g => t.markErased g true) t).erased.getLsbD k = (t.erased.getLsbD k || lost.contains k) := by
  induction lost generalizing t with
  | nil => exact ⟨⟨t.erased, rfl⟩, fun k _ => (Bool.or_false _).symm⟩
  | cons g lost ih =>
    obtain ⟨hg, hrest⟩ := List.forall_mem_cons.1 hlost
    obtain ⟨hfields, hbits⟩ := ih (t.markErased g true) hrest
    refine ⟨hfields, fun k hk => (hbits k hk).trans ?_⟩
    have hmark : (t.markErased g true).erased.getLsbD k = if k = g then true else t.erased.getLsbD k :=
      t.isErased_markErased g true hk
    rw [hmark, List.contains_cons]
    by_cases hkg : k = g
    · rw [if_pos hkg, beq_iff_eq.2 hkg, Bool.true_or, Bool.or_true]
    · rw [if_neg hkg, beq_false_of_ne hkg, Bool.false_or]

theorem State.mem_lostSegments (v : State) (r g : Nat) :
    g ∈ v.lostSegments r ↔ g < 128 ∧ 3 ≤ errorsAt v.ecc (vaultAddr r + 8 * g) := by
  rw [State.lostSegments, List.mem_filter, List.mem_range, State.bad_vaultAddr, decide_eq_true_eq]

theorem State.restoredTag_bits (v : State) (r : Nat) {g : Nat} (hg : g < 128) : (v.restoredTag r).erased.getLsbD g =
    ((v.vaultTag r).erased.getLsbD g || decide (3 ≤ errorsAt v.ecc (vaultAddr r + 8 * g))) := by
  rw [State.restoredTag, (Tag.foldl_markErased _ _ fun g hg => ((v.mem_lostSegments r g).1 hg).1).2 g hg]
  refine congrArg _ (Bool.eq_iff_iff.2 ?_)
  rw [List.contains_iff_mem, State.mem_lostSegments, decide_eq_true_eq]
  exact ⟨And.right, fun hn => ⟨hg, hn⟩⟩

theorem State.restoredTag_rest (v : State) (r : Nat) : ∃ e, v.restoredTag r = { v.vaultTag r with erased := e } := by
  have hlost : ∀ g ∈ v.lostSegments r, g < 128 := fun g hg => ((v.mem_lostSegments r g).1 hg).1
  unfold State.restoredTag
  generalize v.lostSegments r = lost at *
  generalize v.vaultTag r = t
  exact (Tag.foldl_markErased lost t hlost).1

theorem Tag.erasures_spent (t : Tag) (b : Bool) : Tag.erasures { t with spent := b } = t.erasures := rfl

theorem Tag.spentIfWorn_spec {t : Tag} (h : t.spent = false) : (∃ b, t.spentIfWorn = { t with spent := b }) ∧
    t.spentIfWorn.spent = decide (32 < t.spentIfWorn.erasures) := by
  unfold Tag.spentIfWorn
  split
  next hmany => exact ⟨⟨true, rfl⟩, by rw [Tag.erasures_spent, decide_eq_true hmany]⟩
  next hfew => exact ⟨⟨t.spent, rfl⟩, by rw [h, decide_eq_false hfew]⟩

/-- What a tag that is filled again keeps of the vault's (R268, R284). -/
theorem Tag.spentIfWorn_fields {q t : Tag} (hq : ∃ e, q = { t with erased := e }) (h : t.spent = false) :
    { q.spentIfWorn with erased := 0, spent := false } = { t with erased := 0 } ∧ q.spentIfWorn.erased = q.erased ∧
    q.spentIfWorn.spent = decide (32 < q.spentIfWorn.erasures) := by
  obtain ⟨e, hfields⟩ := hq
  have hspent : q.spent = false := by rw [hfields]; exact h
  obtain ⟨⟨b, hworn⟩, hcount⟩ := Tag.spentIfWorn_spec hspent
  refine ⟨?_, by rw [hworn], hcount⟩
  rw [hworn, hfields, ← h]

end Sys2Proof.Machine
end

section
/-! The start of LOAD (14_vault_and_ash.md, 15_library_image.md; R62, R282, R284, R303) and the obligation about the end of
BIST. -/

namespace Sys2Proof.Machine

/-! ### Journal recovery -/

section journal
variable {t v : State}

theorem State.recordsMore_mem (h : t.recordsMore v) : t.mem = v.mem := by rw [h.1]

/-- The slots read the same after records, which touch no word of the MRAM (R285). -/
theorem State.recordsMore_slotValid (h : t.recordsMore v) (k : Nat) : t.slotValid k = v.slotValid k := by
  have hslot : mramBase ≤ slotAddr k := le_trans (by decide : mramBase ≤ persistBase) (Nat.le_add_right _ _)
  have hload := State.recordsMore_loads h
  have hbad : t.bad (slotAddr k + 1072) = v.bad (slotAddr k + 1072) := by
    unfold State.bad
    rw [State.loads_errorsAt hload (by unfold wordOf slotAddr persistBase mramBase; omega)]
  unfold State.slotValid
  dsimp only
  rw [State.peek_of_mem (State.recordsMore_mem h), State.loads_badIn hload hslot, State.loads_badIn hload hslot, hbad]

theorem State.recordsMore_journal (h : t.recordsMore v) : t.laterSlot = v.laterSlot ∧
    ∀ k, t.slotSeqOf k = v.slotSeqOf k ∧ t.slotEntry k = v.slotEntry k := by
  have hpeek (a n : Nat) := State.peek_of_mem (State.recordsMore_mem h) a n
  have hseq (k : Nat) : t.slotSeqOf k = v.slotSeqOf k := congrArg leNat (hpeek (slotAddr k) 4)
  refine ⟨?_, fun k => ⟨hseq k, ?_⟩⟩
  · unfold State.laterSlot
    rw [State.recordsMore_slotValid h, State.recordsMore_slotValid h, hseq, hseq]
  · unfold State.slotEntry
    dsimp only
    rw [hpeek]

theorem State.slotValid_of_laterSlot {k : Nat} (h : v.laterSlot = some k) : v.slotValid k = true := by
  unfold State.laterSlot at h
  split at h
  next h0 =>
    split at h
    next h1 => split at h <;> cases h <;> assumption
    next => cases h; exact h0
  next =>
    split at h
    next h1 => cases h; exact h1
    next => cases h

theorem State.slotEntry_kind {k : Nat} (h : v.slotValid k = true) : 1 ≤ (v.slotEntry k).kind ∧ (v.slotEntry k).kind ≤ 4 := by
  unfold State.slotValid at h
  simp only [Bool.and_eq_true, decide_eq_true_eq] at h
  exact ⟨h.1.1.1.1.1, h.1.1.1.1.2⟩

/-- An entry that is applied leaves all below the MRAM as it was (R281). -/
theorem State.read_applyEntry (hs : Memory.wf v.mem) {e : Entry} (hk : 1 ≤ e.kind ∧ e.kind ≤ 4) {a : Nat} (ha : a < mramBase) :
    Memory.read (v.applyEntry e).mem a = Memory.read v.mem a := by
  by_cases h4 : e.kind = 4
  · obtain ⟨-, -, -, hread⟩ := State.applyEntry_rekindle hs h4
    exact hread a (ha.trans_le (vaultTagAddr_ge 8192))
  · rw [State.applyEntry, if_neg h4]
    refine v.read_writeAll _ _ fun w hw => .inl ?_
    have hspawn : mramBase ≤ spawnAddr e.row := by unfold spawnAddr persistBase mramBase; omega
    have := vaultAddr_ge e.row
    have := vaultTagAddr_ge e.row
    have := Entry.vaultWrites_within (by omega) hw
    omega

/-- A whole row that is applied again stands in the vault (R281, R282). -/
theorem State.applyEntry_whole (hs : Memory.wf v.mem) {e : Entry} (hk : e.kind = 1) (h1 : 8192 ≤ e.row) (h2 : e.row < 16384) :
    (v.applyEntry e).vaultTag e.row = e.tag ∧ (v.applyEntry e).peek (vaultAddr e.row) 1024 = hvBytes e.data := by
  obtain ⟨_, _, _, _, _, _, _⟩ := vault_apart h1 h2 (show 0 < 2 by omega)
  have hdata := v.writeAll_wf (asWords 128 (hvBytes e.data) (vaultAddr e.row)) hs
  rw [State.applyEntry, if_neg (by omega)]
  simp only [State.vaultTag, State.peekNat, Entry.vaultWrites, if_pos hk, State.writeAll_append]
  constructor
  · rw [State.peek_of_spawn _ (State.writeAll_wf _ _ hdata) (.inr (by omega)),
      State.peek_writeAll_asWords _ hdata e.tag.bytes_length rfl, Tag.ofNat_bytes]
  · rw [State.peek_of_spawn _ (State.writeAll_wf _ _ hdata) (.inr (by omega)),
      State.peek_writeAll_of_apart _ hdata fun w hw => by have := asWords_within hw; omega,
      State.peek_writeAll_asWords _ hs (by simp) rfl]

/-- The live copies of both slots are taken over (R269). -/
def State.withSlots (v : State) : State := { v with vault := { v.vault with slots := [v.slotCopy 0, v.slotCopy 1] } }

theorem State.recoverJournal_none (h : v.laterSlot = none) : v.recoverJournal = { v.withSlots with
    vault := { v.withSlots.vault with nextSeq := 0, nextSlot := 0 } } := by
  unfold State.recoverJournal
  dsimp only
  rw [show State.laterSlot { v with vault := { v.vault with slots := [v.slotCopy 0, v.slotCopy 1] } } = none from h]
  rfl

/-- The later valid entry is applied again, with a memory event where that changes the vault (R282). -/
theorem State.recoverJournal_some (hm : v.mode = .load) {k : Nat} (h : v.laterSlot = some k) :
    v.recoverJournal.recordsMore { v.withSlots.applyEntry (v.slotEntry k) with
      vault := { (v.withSlots.applyEntry (v.slotEntry k)).vault with
        nextSeq := (v.slotSeqOf k + 1) % 2 ^ 32, nextSlot := 1 - k } } := by
  unfold State.recoverJournal
  dsimp only
  rw [show State.laterSlot { v with vault := { v.vault with slots := [v.slotCopy 0, v.slotCopy 1] } } = some k from h]
  dsimp only
  obtain ⟨m, l, happly⟩ := v.withSlots.applyEntry_kept (v.slotEntry k)
  have hmode : (v.withSlots.applyEntry (v.slotEntry k)).mode = .load := by rw [happly]; exact hm
  split
  · exact State.memoryEvent_recordsMore
      (v := { v.withSlots.applyEntry (v.slotEntry k) with
        vault := { (v.withSlots.applyEntry (v.slotEntry k)).vault with
          nextSeq := (v.slotSeqOf k + 1) % 2 ^ 32, nextSlot := 1 - k } }) (.inr hmode) _ _ _ _ _ _ _
  · exact State.recordsMore_refl _

/-- What journal recovery leaves alone. -/
theorem State.recoverJournal_kept (hm : v.mode = .load) : v.recoverJournal.mode = .load ∧
    v.recoverJournal.repairs = v.repairs ∧ v.recoverJournal.hearth = v.hearth ∧ v.recoverJournal.out = v.out ∧
    v.recoverJournal.flash = v.flash ∧ v.recoverJournal.straps = v.straps := by
  cases h : v.laterSlot with
  | none =>
    rw [State.recoverJournal_none h]
    exact ⟨hm, rfl, rfl, rfl, rfl, rfl⟩
  | some k =>
    obtain ⟨hfields, -⟩ := State.recoverJournal_some hm h
    obtain ⟨m, l, happly⟩ := v.withSlots.applyEntry_kept (v.slotEntry k)
    rw [happly] at hfields
    rw [hfields]
    exact ⟨hm, rfl, rfl, rfl, rfl, rfl⟩

/-- Journal recovery writes nothing below the MRAM (R281). -/
theorem State.read_recoverJournal (hm : v.mode = .load) (hs : Memory.wf v.mem) {a : Nat} (ha : a < mramBase) :
    Memory.read v.recoverJournal.mem a = Memory.read v.mem a := by
  cases h : v.laterSlot with
  | none =>
    rw [State.recoverJournal_none h]
    rfl
  | some k =>
    rw [State.recordsMore_mem (State.recoverJournal_some hm h)]
    exact State.read_applyEntry (v := v.withSlots) hs (State.slotEntry_kind (State.slotValid_of_laterSlot h)) ha

/-- What journal recovery makes of the counters of the journal and of the row of its entry (R282). -/
theorem State.recoverJournal_entry (hm : v.mode = .load) {k : Nat} (h : v.laterSlot = some k) :
    v.recoverJournal.vault.nextSeq = (v.slotSeqOf k + 1) % 2 ^ 32 ∧ v.recoverJournal.vault.nextSlot = 1 - k ∧
    (Memory.wf v.mem → (v.slotEntry k).kind = 1 → 8192 ≤ (v.slotEntry k).row → (v.slotEntry k).row < 16384 →
      v.recoverJournal.vaultTag (v.slotEntry k).row = (v.slotEntry k).tag ∧
      v.recoverJournal.peek (vaultAddr (v.slotEntry k).row) 1024 = hvBytes (v.slotEntry k).data) := by
  have hrec := State.recoverJournal_some hm h
  refine ⟨(congrArg (fun w : State => w.vault.nextSeq) hrec.1 :), (congrArg (fun w : State => w.vault.nextSlot) hrec.1 :),
    fun hs hk h1 h2 => ?_⟩
  have hpeek (a n : Nat) := State.peek_of_mem (State.recordsMore_mem hrec) a n
  obtain ⟨htag, hdata⟩ := State.applyEntry_whole (v := v.withSlots) hs hk h1 h2
  refine ⟨?_, (hpeek _ _).trans hdata⟩
  rw [State.vaultTag, State.peekNat, hpeek]
  exact htag

theorem State.recoverJournal_wf (hm : v.mode = .load) (hs : Memory.wf v.mem) : Memory.wf v.recoverJournal.mem := by
  cases h : v.laterSlot with
  | none =>
    rw [State.recoverJournal_none h]
    exact hs
  | some k =>
    rw [State.recordsMore_mem (State.recoverJournal_some hm h)]
    exact State.applyEntry_wf (s := v.withSlots) _ hs

end journal

/-! ### The library -/

theorem State.storeParams_loads (v : State) : v.storeParams.loads v :=
  v.poke_loads (by simp only [List.length_append, leBytes_length, List.length_cons, List.length_nil]; unfold paramAddr mramBase; omega)

theorem State.builtInPlan_loads (v : State) : v.builtInPlan.loads v := by
  unfold State.builtInPlan
  dsimp only
  have hwipe := v.wipe_loads (a := planAddr) (n := 0x10000) (by unfold planAddr mramBase; omega)
  generalize v.wipe planAddr 0x10000 = u at *
  exact State.loads_trans (State.storeParams_loads _)
    (State.loads_trans (State.loads_of_fields (t := { u with lib := { u.lib with planBuiltIn := true } }) rfl rfl rfl) hwipe)

theorem State.buildItems_loads (v : State) : v.buildItems.loads v := by
  unfold State.buildItems
  dsimp only
  have hpoke := v.poke_loads (a := encBase) (bs := itemMemory v.lib.seed)
    (by rw [itemMemory_length]; unfold encBase mramBase; omega)
  generalize v.poke encBase (itemMemory v.lib.seed) = u at *
  exact State.loads_trans
    (State.loads_of_fields (t := { u with lib := { u.lib with built := true, rebuilding := false } }) rfl rfl rfl) hpoke

theorem State.withoutImage_loads (v : State) : v.withoutImage.loads v := by
  unfold State.withoutImage
  dsimp only
  have hplan := v.builtInPlan_loads
  generalize v.builtInPlan = u at *
  generalize effectiveSeed builtInSeed = seed
  exact State.loads_trans (State.buildItems_loads _) (State.loads_trans (State.storeParams_loads _)
    (State.loads_trans (State.loads_of_fields rfl rfl rfl) hplan))

theorem State.startLibrary_of_declared {v : State} (h : v.libDeclared = true) : v.startLibrary = { v with
    lib := { stage := .header }
    flash := [{ code := 0xAB, wait := 100 }, { code := 0x03, addr := some 0, length := 256 }] } := if_pos h

theorem State.startLibrary_of_not_declared {v : State} (h : v.libDeclared = false) :
    v.startLibrary = State.withoutImage { v with lib := {} } := if_neg (ne_true_of_eq_false h)

theorem State.loads_flash {t v : State} (h : t.loads v) : t.flash = v.flash := (congrArg (fun x => x.2.2.2.2.1) h.1 :)

theorem State.loads_withFlash {t v : State} (h : t.loads v) : State.loads { t with flash := v.flash } v := by
  obtain ⟨hstart, hrest⟩ := id h
  refine ⟨?_, hrest⟩
  rw [← State.loads_flash h]
  exact hstart

/-- What the start of the library load leaves alone: all but the library, its parameters and the flash (R62, R303). -/
theorem State.startLibrary_loads (v : State) : State.loads { v.startLibrary with flash := v.flash } v := by
  cases h : v.libDeclared with
  | true =>
    rw [State.startLibrary_of_declared h]
    exact State.loads_of_fields rfl rfl rfl
  | false =>
    rw [State.startLibrary_of_not_declared h]
    exact State.loads_withFlash (v := v) (State.loads_trans (State.withoutImage_loads _) (State.loads_of_fields rfl rfl rfl))

theorem State.read_startLibrary (v : State) {a : Nat} (ha : a < 0x05000000) :
    Memory.read v.startLibrary.mem a = Memory.read v.mem a := by
  cases h : v.libDeclared with
  | true => rw [State.startLibrary_of_declared h]
  | false =>
    rw [State.startLibrary_of_not_declared h]
    exact State.read_withoutImage _ ha

theorem State.withoutImage_vault (v : State) : v.withoutImage.vault = v.vault := rfl

theorem State.startLibrary_vault (v : State) : v.startLibrary.vault = v.vault := by
  cases h : v.libDeclared with
  | true => rw [State.startLibrary_of_declared h]
  | false =>
    rw [State.startLibrary_of_not_declared h]
    exact State.withoutImage_vault _

/-- The library at the start of its load, and the flash (R192, R298, R303). -/
theorem State.startLibrary_library (v : State) : v.startLibrary.lib.accepted = false ∧
    v.startLibrary.lib.stage = (if v.libDeclared then .header else .over) ∧ v.startLibrary.lib.built = !v.libDeclared ∧
    (v.libDeclared = true →
      v.startLibrary.flash = [{ code := 0xAB, wait := 100 }, { code := 0x03, addr := some 0, length := 256 }]) ∧
    (v.libDeclared = false → v.startLibrary.flash = v.flash) := by
  cases h : v.libDeclared with
  | true =>
    rw [State.startLibrary_of_declared h]
    exact ⟨rfl, rfl, rfl, fun _ => rfl, nofun⟩
  | false =>
    rw [State.startLibrary_of_not_declared h, State.withoutImage_lib]
    exact ⟨rfl, rfl, rfl, nofun, fun _ => State.loads_flash (State.withoutImage_loads _)⟩

theorem State.startLibrary_keepsRow {v : State} (hs : Memory.wf v.mem) {r : Nat} (hr : r < 16384) : v.startLibrary.keepsRow v r := by
  have hwf : Memory.wf v.startLibrary.mem := v.startLibrary_loads.2.1 hs
  have hpeek {a n : Nat} (h : a + n ≤ 0x05000000) : v.startLibrary.peek a n = v.peek a n :=
    Memory.readBytes_congr hwf hs fun x _ hx => v.read_startLibrary (by omega)
  refine ⟨?_, ?_, fun h => by rwa [State.startLibrary_vault]⟩
  · rw [State.tag, State.peekNat, hpeek (by unfold tagAddr; omega)]
    rfl
  · rw [State.row, State.peekNat, hpeek (by unfold rowAddr; omega)]
    rfl

/-! ### LOAD -/

/-- The state in which the rows are restored: LOAD, with the journal recovered (R282). -/
def State.recovered (v : State) : State := State.recoverJournal { v with mode := .load }

theorem State.loadPersistent_loads (v : State) : v.loadPersistent.loads v := State.loads_of_fields rfl rfl rfl

theorem State.loadPersistent_keepsRow (v : State) (r : Nat) : v.loadPersistent.keepsRow v r := State.keepsRow_of_fields rfl rfl r

theorem State.recovered_mode (v : State) : v.recovered.mode = .load := (State.recoverJournal_kept (v := { v with mode := .load }) rfl).1

/-- The rows once the vault restore is done. -/
def State.restored (v : State) : State := (v.recovered.vaultRows.foldl State.restoreRow v.recovered).loadPersistent

theorem State.enterLoad_eq (v : State) : v.enterLoad = v.restored.startLibrary := rfl

theorem State.restored_loads (v : State) : v.restored.loads v.recovered :=
  State.loads_trans (State.loadPersistent_loads _)
    (State.foldl_restoreRow_loads _ v.recovered_mode fun _ hr => State.vaultRows_learned hr)

theorem State.enterLoad_loads (v : State) : State.loads { v.enterLoad with flash := v.recovered.flash } v.recovered := by
  have hrestored := v.restored_loads
  have hstart := v.restored.startLibrary_loads
  rw [State.loads_flash hrestored] at hstart
  exact State.loads_trans hstart hrestored

theorem State.loads_libDeclared {t v : State} (h : t.loads v) : t.libDeclared = v.libDeclared := by
  have hstraps : t.straps = v.straps := (congrArg (fun x => x.2.2.2.2.2.1) h.1 :)
  unfold State.libDeclared State.cfg
  rw [hstraps]

/-- The rows in LOAD: filled from the vault where it holds them, else as they were (R284). -/
theorem State.enterLoad_row {v : State} (hs : Memory.wf v.recovered.mem) {r : Nat} (hr : 8192 ≤ r) (hr' : r < 16384)
    (hret : v.recovered.isRetired r = false) :
    (v.recovered.vaultHolds r = true → v.enterLoad.refilled v.recovered r) ∧
    (v.recovered.vaultHolds r = false → v.enterLoad.keepsRow v.recovered r) := by
  obtain ⟨hkeeps, hfills⟩ := State.foldl_restoreRow v.recovered.vaultRows hs v.recovered_mode
    (fun _ hr => State.vaultRows_learned hr) (State.vaultRows_nodup hs)
  have hlast : v.enterLoad.keepsRow (v.recovered.vaultRows.foldl State.restoreRow v.recovered) r :=
    State.keepsRow_trans (State.startLibrary_keepsRow (v.restored_loads.2.1 hs) hr') (State.loadPersistent_keepsRow _ r)
  exact ⟨fun h => State.refilled_of_keepsRow (hfills r (State.mem_vaultRows hs hr hr' h) hret h) hlast,
    fun h => State.keepsRow_trans hlast (hkeeps r hr' (.inr ⟨hr, h⟩))⟩

/-- What the vault of `t` says of a row is what the row of `t` holds (R284). -/
theorem State.row_of_load {t u : State} (hload : t.loads u) (hs : Memory.wf u.mem) (he : Errors.wf u.ecc) {r p : Nat}
    (hpart : p = u.partition r) (hfill : u.vaultHolds r = true → t.refilled u r)
    (hkeep : u.vaultHolds r = false → t.keepsRow u r) (hzero : u.tag r = {}) :
    let lost (g : Nat) : Bool := decide (3 ≤ errorsAt t.ecc (vaultAddr r + 8 * g))
    let read (a n : Nat) : Prop := ∀ w, a ≤ w → w < a + n → errorsAt t.ecc w < 3
    let held := read (vaultTagAddr r) 32 ∧ (t.vaultTag r).valid = true ∧ (t.vaultTag r).spent = false ∧
      (t.vaultTag r).cls.toNat = p
    (held → { t.tag r with erased := 0, spent := false } = { t.vaultTag r with erased := 0 } ∧
      (∀ g, g < 128 → (t.tag r).erased.getLsbD g = ((t.vaultTag r).erased.getLsbD g || lost g)) ∧
      (t.tag r).spent = decide (32 < (t.tag r).erasures) ∧
      t.row r = BitVec.ofNat 8192 (t.peekNat (vaultAddr r) 1024) ∧
      ((∃ g, g < 128 ∧ lost g = true) → ∃ d ∈ t.vault.dirty, d.row = r ∧ d.tag = true)) ∧
    (¬held → (t.tag r).valid = false) := by
  intro lost read held
  have htag : t.vaultTag r = u.vaultTag r := State.loads_vaultTag hload hs r
  have herr (w : Nat) (hw : mramBase ≤ w) : errorsAt t.ecc w = errorsAt u.ecc w := State.loads_errorsAt hload hw
  have hheld : held ↔ u.vaultHolds r = true := by
    rw [State.vaultHolds_iff he, ← htag, ← hpart]
    refine and_congr_left fun _ => forall_congr' fun w => imp_congr_right fun hw => imp_congr_right fun _ => ?_
    rw [herr w ((vaultTagAddr_ge r).trans hw)]
  constructor
  · intro h
    obtain ⟨hrowTag, hrow, hdirty⟩ := hfill (hheld.1 h)
    obtain ⟨-, -, hspent, -⟩ := h
    rw [htag] at hspent
    obtain ⟨hfields, herased, hworn⟩ := Tag.spentIfWorn_fields (u.restoredTag_rest r) hspent
    refine ⟨?_, fun g hg => ?_, ?_, ?_, fun ⟨g, hg, hlost⟩ => ?_⟩
    · rw [hrowTag, htag, hfields]
    · rw [hrowTag, herased, State.restoredTag_bits u r hg, htag, ← herr _ ((vaultAddr_ge r).trans (Nat.le_add_right _ _))]
    · rw [hrowTag, hworn]
    · rw [hrow, State.peekNat, State.peekNat, State.loads_peek hload hs 1024 (vaultAddr_ge r)]
    · have hmem : g ∈ u.lostSegments r := by
        rw [State.mem_lostSegments, ← herr _ ((vaultAddr_ge r).trans (Nat.le_add_right _ _))]
        exact ⟨hg, of_decide_eq_true hlost⟩
      obtain ⟨d, hd, hflag⟩ := List.any_eq_true.1 (hdirty (List.ne_nil_of_mem hmem))
      rw [Bool.and_eq_true, decide_eq_true_eq] at hflag
      exact ⟨d, hd, hflag⟩
  · intro h
    obtain ⟨hsame, -⟩ := hkeep (Bool.eq_false_iff.2 (mt hheld.2 h))
    rw [hsame, hzero]

/-! ### The command -/

section command
variable {s : State} {dt : Nat} {found : BistFindings}

/-- LOAD is entered where BIST finds no failure (R62, R272). -/
theorem exec_bistComplete_load (hm : s.mode = .bist) (hform : bistForm found = true)
    (hgood : (s.afterMarch found.upsets).bistFailure (s.repairFaults found.faults).2 = none) :
    exec (.bistComplete dt found) s = .next ((s.elapse dt).bistJudged found).enterLoad.settle := by
  have hexec := exec_bistComplete_next (dt := dt) hm hform
  rwa [hgood] at hexec

/-- What BIST hands to LOAD: the MRAM as it was found (R271). -/
theorem State.judged_recordsMore (hm : s.mode = .bist) (dt : Nat) (found : BistFindings) :
    State.recordsMore { (s.elapse dt).bistJudged found with mode := .load } { (s.elapse dt).afterMarch found.upsets with
      mode := .load
      repairs := (s.repairFaults found.faults).1
      hearth := { s.hearth with retired := retiredBanks (s.repairFaults found.faults).2 } } := by
  obtain ⟨hfields, hkeep⟩ := State.bistJudged_recordsMore (s := s.elapse dt) hm found
  exact ⟨(congrArg (fun w : State => { w with mode := .load }) hfields :), hkeep⟩

theorem State.afterMarch_ok (hs : Memory.wf s.mem) (he : Errors.wf s.ecc) (us : List Upset) :
    storeOk (s.afterMarch us).mem (s.afterMarch us).ecc := by
  obtain ⟨hsorted, hne⟩ := hs
  obtain ⟨hsorted', hne'⟩ := he
  exact State.upset_ok { s with mem := mramOnly s.mem, ecc := mramErrors s.ecc } _
    ⟨⟨hsorted.filter _, fun c hc => hne c (List.mem_of_mem_filter hc)⟩,
      ⟨hsorted'.filter _, fun e he => hne' e (List.mem_of_mem_filter he)⟩⟩

theorem State.recordsMore_ok {t v : State} (h : t.recordsMore v) (hv : storeOk v.mem v.ecc) : storeOk t.mem t.ecc := by
  obtain ⟨hfields, keep, -, hecc⟩ := h
  obtain ⟨hmem, hsorted, hne⟩ := hv
  rw [hecc, (congrArg State.mem hfields :)]
  exact ⟨hmem, hsorted.filter _, fun e he => hne e (List.mem_of_mem_filter he)⟩

end command

/-! ### What LOAD starts from -/

section loaded
variable {s : State} (hm : s.mode = .bist) (dt : Nat) (found : BistFindings)
include hm

theorem State.loaded_kept : let u := ((s.elapse dt).bistJudged found).recovered
    u.repairs = (s.repairFaults found.faults).1 ∧ u.hearth.retired = retiredBanks (s.repairFaults found.faults).2 ∧
      u.out = s.out ∧ u.flash = s.flash ∧ u.libDeclared = s.libDeclared := by
  intro u
  obtain ⟨hfields, -⟩ := State.judged_recordsMore hm dt found
  obtain ⟨-, hrepairs, hhearth, hout, hflash, hstraps⟩ :=
    State.recoverJournal_kept (v := { (s.elapse dt).bistJudged found with mode := .load }) rfl
  have hstraps' : u.straps = s.straps := hstraps.trans (congrArg State.straps hfields :)
  refine ⟨hrepairs.trans (congrArg State.repairs hfields :), ?_, hout.trans (congrArg State.out hfields :),
    hflash.trans (congrArg State.flash hfields :), ?_⟩
  · exact (congrArg Hearth.retired hhearth :).trans (congrArg (fun w : State => w.hearth.retired) hfields :)
  · unfold State.libDeclared State.cfg
    rw [hstraps']

/-- The state in LOAD: outputs, repairs and retired banks, the library and the flash (R62, R64, R303). -/
theorem State.loaded_frame : let t := ((s.elapse dt).bistJudged found).enterLoad
    t.mode = .load ∧ t.out = s.out ∧ t.repairs = (s.repairFaults found.faults).1 ∧
    t.hearth.retired = retiredBanks (s.repairFaults found.faults).2 ∧
    t.lib.accepted = false ∧ t.lib.stage = (if s.libDeclared then .header else .over) ∧ t.lib.built = !s.libDeclared ∧
    (s.libDeclared = true →
      t.flash = [{ code := 0xAB, wait := 100 }, { code := 0x03, addr := some 0, length := 256 }]) ∧
    (s.libDeclared = false → t.flash = s.flash) := by
  intro t
  obtain ⟨hrepairs, hretired, hout, hflash, hlib⟩ := State.loaded_kept hm dt found
  have hload := State.enterLoad_loads ((s.elapse dt).bistJudged found)
  have hrestored := State.restored_loads ((s.elapse dt).bistJudged found)
  obtain ⟨hacc, hstage, hbuilt, hyes, hno⟩ := State.startLibrary_library ((s.elapse dt).bistJudged found).restored
  rw [State.loads_libDeclared hrestored, hlib] at hstage hbuilt hyes hno
  obtain ⟨hstart, -⟩ := hload
  exact ⟨(congrArg (fun x => x.1) hstart :).trans (State.recovered_mode _), (congrArg (fun x => x.2.2.2.1) hstart :).trans hout,
    (congrArg (fun x => x.2.1) hstart :).trans hrepairs, (congrArg (fun x => x.2.2.1) hstart :).trans hretired,
    hacc, hstage, hbuilt, hyes, fun h => (hno h).trans ((State.loads_flash hrestored).trans hflash)⟩

theorem State.loaded_journal :
    State.laterSlot { (s.elapse dt).bistJudged found with mode := .load } = (s.afterMarch found.upsets).laterSlot ∧
    ∀ k, State.slotSeqOf { (s.elapse dt).bistJudged found with mode := .load } k = (s.afterMarch found.upsets).slotSeqOf k ∧
      State.slotEntry { (s.elapse dt).bistJudged found with mode := .load } k = (s.afterMarch found.upsets).slotEntry k := by
  obtain ⟨hlater, hslots⟩ := State.recordsMore_journal (State.judged_recordsMore hm dt found)
  exact ⟨hlater, hslots⟩

theorem State.judged_mem : ((s.elapse dt).bistJudged found).mem = mramOnly s.mem :=
  (State.recordsMore_mem (State.bistJudged_recordsMore (s := s.elapse dt) hm found) :)

theorem State.judged_wf (hs : Memory.wf s.mem) : Memory.wf ((s.elapse dt).bistJudged found).mem := by
  obtain ⟨hsorted, hne⟩ := hs
  rw [State.judged_mem hm]
  exact ⟨hsorted.filter _, fun c hc => hne c (List.mem_of_mem_filter hc)⟩

/-- The counters of the journal in LOAD, and the row of the entry that was applied again (R282). -/
theorem State.loaded_slots : let t := ((s.elapse dt).bistJudged found).enterLoad
    let mram := s.afterMarch found.upsets
    (mram.laterSlot = none → t.vault.nextSeq = 0 ∧ t.vault.nextSlot = 0) ∧
    (∀ k, mram.laterSlot = some k →
      t.vault.nextSeq = (mram.slotSeqOf k + 1) % 2 ^ 32 ∧ t.vault.nextSlot = 1 - k ∧
      (Memory.wf s.mem → (mram.slotEntry k).kind = 1 → 8192 ≤ (mram.slotEntry k).row → (mram.slotEntry k).row < 16384 →
        t.vaultTag (mram.slotEntry k).row = (mram.slotEntry k).tag ∧
        t.peek (vaultAddr (mram.slotEntry k).row) 1024 = hvBytes (mram.slotEntry k).data)) := by
  intro t mram
  have hload := State.enterLoad_loads ((s.elapse dt).bistJudged found)
  have hseq : t.vault.nextSeq = ((s.elapse dt).bistJudged found).recovered.vault.nextSeq :=
    (congrArg (fun x => x.2.2.2.2.2.2.1) hload.1 :)
  have hslot : t.vault.nextSlot = ((s.elapse dt).bistJudged found).recovered.vault.nextSlot :=
    (congrArg (fun x => x.2.2.2.2.2.2.2) hload.1 :)
  obtain ⟨hlater, hslots⟩ := State.loaded_journal hm dt found
  refine ⟨fun h => ?_, fun k h => ?_⟩
  · have hnone := State.recoverJournal_none (hlater.trans h)
    rw [hseq, hslot]
    exact ⟨(congrArg (fun w : State => w.vault.nextSeq) hnone :), (congrArg (fun w : State => w.vault.nextSlot) hnone :)⟩
  · obtain ⟨hseqOf, hentry⟩ := hslots k
    obtain ⟨hnext, hother, hwhole⟩ := State.recoverJournal_entry
      (v := { (s.elapse dt).bistJudged found with mode := .load }) rfl (hlater.trans h)
    rw [hseqOf] at hnext
    rw [hentry] at hwhole
    refine ⟨hseq.trans hnext, hslot.trans hother, fun hs hk h1 h2 => ?_⟩
    have hwf := State.judged_wf hm dt found hs
    obtain ⟨htag, hdata⟩ := hwhole hwf hk h1 h2
    have hwfr := State.recoverJournal_wf (v := { (s.elapse dt).bistJudged found with mode := .load }) rfl hwf
    exact ⟨(State.loads_vaultTag hload hwfr _).trans htag, (State.loads_peek hload hwfr 1024 (vaultAddr_ge _)).trans hdata⟩

end loaded

section rows
variable {s : State} (hm : s.mode = .bist) (dt : Nat) (found : BistFindings)
include hm

theorem State.loaded_ok (hs : Memory.wf s.mem) (he : Errors.wf s.ecc) :
    storeOk ((s.elapse dt).bistJudged found).recovered.mem ((s.elapse dt).bistJudged found).recovered.ecc :=
  State.recoverJournal_ok _ (State.recordsMore_ok (State.judged_recordsMore hm dt found) (State.afterMarch_ok hs he _))

/-- Before the restore no row of the hearth is valid: the March test leaves the SRAM without contents (R271). -/
theorem State.loaded_blank (hs : Memory.wf s.mem) {r : Nat} (hr : r < 16384) :
    ((s.elapse dt).bistJudged found).recovered.tag r = {} := by
  have hwf := State.judged_wf hm dt found hs
  have hrec : Memory.wf ((s.elapse dt).bistJudged found).recovered.mem :=
    State.recoverJournal_wf (v := { (s.elapse dt).bistJudged found with mode := .load }) rfl hwf
  refine State.tag_of_zero hrec fun x _ hx => ?_
  have hlow : x < mramBase := lt_of_lt_of_le hx (by unfold tagAddr mramBase; omega)
  have hread := State.read_recoverJournal (v := { (s.elapse dt).bistJudged found with mode := .load }) rfl hwf hlow
  exact hread.trans ((congrArg (fun m => Memory.read m x) (State.judged_mem hm dt found)).trans
    ((read_mramOnly s.mem x).trans (if_neg (not_le.2 hlow))))

/-- The rows in LOAD are what the vault then says of them (R284). -/
theorem State.loaded_rows (hs : Memory.wf s.mem) (he : Errors.wf s.ecc) {r : Nat} (hr : 8192 ≤ r) (hr' : r < 16384)
    (hret : r / 64 ∉ ((s.elapse dt).bistJudged found).enterLoad.hearth.retired) :
    let t := ((s.elapse dt).bistJudged found).enterLoad
    let lost (g : Nat) : Bool := decide (3 ≤ errorsAt t.ecc (vaultAddr r + 8 * g))
    let read (a n : Nat) : Prop := ∀ w, a ≤ w → w < a + n → errorsAt t.ecc w < 3
    let held := read (vaultTagAddr r) 32 ∧ (t.vaultTag r).valid = true ∧ (t.vaultTag r).spent = false ∧
      (t.vaultTag r).cls.toNat = s.partition r
    (held → { t.tag r with erased := 0, spent := false } = { t.vaultTag r with erased := 0 } ∧
      (∀ g, g < 128 → (t.tag r).erased.getLsbD g = ((t.vaultTag r).erased.getLsbD g || lost g)) ∧
      (t.tag r).spent = decide (32 < (t.tag r).erasures) ∧
      t.row r = BitVec.ofNat 8192 (t.peekNat (vaultAddr r) 1024) ∧
      ((∃ g, g < 128 ∧ lost g = true) → ∃ d ∈ t.vault.dirty, d.row = r ∧ d.tag = true)) ∧
    (¬held → (t.tag r).valid = false) := by
  have hload := State.enterLoad_loads ((s.elapse dt).bistJudged found)
  obtain ⟨hwf, herr⟩ := State.loaded_ok hm dt found hs he
  have hretired : ((s.elapse dt).bistJudged found).recovered.isRetired r = false := by
    rw [State.isRetired, ← State.loads_retired hload, Bool.eq_false_iff, ne_eq, List.contains_iff_mem]
    exact hret
  obtain ⟨hfill, hkeep⟩ := State.enterLoad_row hwf hr hr' hretired
  exact State.row_of_load hload hwf herr ((s.partition_eq_class hr).trans (State.partition_eq_class _ hr).symm) hfill hkeep
    (State.loaded_blank hm dt found hs hr')

end rows

/-- Settles O29: the repairs of the March test, each cause of FAULT, and LOAD with the journal and the vault restored. -/
theorem bistEnds : Obligations.BistEnds := by
  unfold Obligations.BistEnds
  intro s dt found hm hform fixed spent stays banks others mram retires toFault
  have hleft : (s.repairFaults found.faults).2 = found.faults.filter stays := foldl_takeFault_left found.faults _
  have hlen : (retiredBanks (s.repairFaults found.faults).2).length = banks.length := by
    rw [length_retiredBanks, hleft]
  have hother : others = (s.repairFaults found.faults).2.filter (fun f => (faultBank f).isNone) := by
    rw [hleft, List.filter_filter]
    exact List.filter_congr fun f _ => Bool.and_comm _ _
  have hretires {t : State} (h1 : t.repairs = fixed)
      (h2 : t.hearth.retired = retiredBanks (s.repairFaults found.faults).2) : retires t := by
    refine ⟨h1, by rw [h2]; exact retiredBanks_sorted _, fun b => ?_⟩
    rw [h2, mem_retiredBanks, hleft]
  have hfault {cause : Nat} (hcause : cause < 256)
      (hfail : ∃ a, (s.afterMarch found.upsets).bistFailure (s.repairFaults found.faults).2 = some (cause, a)) :
      toFault cause := by
    obtain ⟨t, hexec, hmode, hrepairs, hretired, hout, before, r, hash, htype, h0, h1⟩ :=
      exec_bistComplete_fault (dt := dt) hm hform hcause hfail
    exact ⟨t, hexec, hmode, hretires hrepairs hretired, hout, before, r, hash, htype, h0, by rw [h1, hlen]⟩
  refine ⟨?repairs, fun h => hfault (by omega) (State.bistFailure_many _ (by rw [hlen]; exact h)),
    fun h hne => hfault (by omega) (State.bistFailure_other _ (by rw [hlen]; exact h) (hother ▸ hne)), ?persist, ?load⟩
  case repairs =>
    obtain ⟨hfused, -⟩ := foldl_takeFault_extends found.faults ({ fused := s.repairs.fused }, [])
    obtain ⟨hadded, hmax, hfull⟩ := foldl_takeFault_added found.faults ({ fused := s.repairs.fused }, [])
    refine ⟨hfused, fun x hx => (hadded x hx).resolve_left List.not_mem_nil, fun a => ?_, hfull⟩
    have hspent := hmax a
    rw [show Repairs.spent { fused := s.repairs.fused } a = fixed.fused.countP (fun x => decide (x.1 = a)) by
      rw [Repairs.spent, List.append_nil]; exact congrArg _ hfused.symm] at hspent
    exact hspent
  case persist =>
    intro h hnil hpersist
    obtain ⟨a, ha⟩ := Option.isSome_iff_exists.1 hpersist
    refine hfault (by omega) ⟨a, ?_⟩
    rw [State.bistFailure_persist _ (by rw [hlen]; exact h) (hother ▸ hnil),
      show (s.afterMarch found.upsets).persistFailure = some a from ha]
    rfl
  case load =>
    intro h hnil hpersist
    have hgood : (s.afterMarch found.upsets).bistFailure (s.repairFaults found.faults).2 = none := by
      rw [State.bistFailure_persist _ (by rw [hlen]; exact h) (hother ▸ hnil),
        show (s.afterMarch found.upsets).persistFailure = none from hpersist]
      rfl
    obtain ⟨hmode, hout, hrepairs, hretired, hacc, hstage, hbuilt, hyes, hno⟩ := State.loaded_frame hm dt found
    obtain ⟨hnone, hsome⟩ := State.loaded_slots hm dt found
    exact ⟨_, exec_bistComplete_load hm hform hgood, hmode, (congrArg Outputs.ready hout :), hretires hrepairs hretired,
      hacc, hstage, hbuilt, hyes, hno, hnone, hsome, fun hs he r hr hr' hret => State.loaded_rows hm dt found hs he hr hr' hret⟩

end Sys2Proof.Machine
end
